-- ==== Sys2Proof/Syntax/Types.lean ====
section
/-!
DEFINITION. The operands of the commands.
-/

namespace Sys2Proof

/-- Who reads or writes a register: a host port, a sequencer's microcode, the service chain or the boot
engine; the host interface and the stream engine
own channels of the data mover (R327, R397, R441, R455, R515). -/
inductive Agent where
  | port (p : Nat)
  | seq (q : Nat)
  | chain
  | boot
  | hif (p : Nat)
  | stm
  deriving DecidableEq, Repr

/-- One receive lane of a frame: its physical number, whether the RS decoder could correct its codeword,
how many symbols it corrected, and the 514 message symbols it leaves (R37, R39). -/
structure RxLane where
  lane : Nat
  ok : Bool
  corr : Nat
  syms : List Nat
  deriving DecidableEq, Repr

/-- A receive frame: the codewords of the active lanes, in ascending lane order (R37). -/
structure RxFrame where
  lanes : List RxLane
  deriving DecidableEq, Repr

/-- A SAM position that a head's window search tried: offset from the prediction in servo bit periods,
mismatched bits, and the sample index of the SAM's end in 1/256 sample (R181). -/
structure SamPos where
  ofs : Int
  errs : Nat
  samEnd : Nat
  deriving DecidableEq, Repr

/-- What one head's servo window holds, as the demodulator's fixed filters find it: the SAM positions tried,
the complex fundamentals of the preamble and the two bursts, and the decided bits of the Track, Wedge ID and
RRO fields (R177, R181). -/
structure Demod where
  sams : List SamPos
  pre : Int × Int
  n1 : Int × Int
  n2 : Int × Int
  gray : Nat
  wid : Nat
  rro : Nat
  deriving DecidableEq, Repr

/-- What the SECDED check finds in a word of a cache line or Pantry way (R306). -/
inductive Ecc where
  | good
  | single
  | double
  deriving DecidableEq, Repr

/-- A buffer access of the STM or of a sequencer: 4 to 64 bytes inside one line; a write carries its
bytes (R292). `ecc` is the check's finding on a hit. -/
structure CacheReq where
  who : Agent
  addr : Nat
  len : Nat
  data : Option (List Byte)
  once : Bool
  ecc : Ecc
  deriving DecidableEq, Repr

/-- An access to the Pantry window at an offset: 4, 8 or 64 bytes; a write carries its bytes (R304). -/
structure PantryAcc where
  who : Agent
  offset : Nat
  len : Nat
  data : Option (List Byte)
  ecc : Ecc
  deriving DecidableEq, Repr

/-- What BUF finds when it reads a block of a channel: burst repeats by EDC, and the check code's
finding; `hard` says that the block's second read shows the same wrong symbol (R314, R315). -/
inductive BlockRead where
  | good
  | corrected (hard : Bool)
  | lost
  deriving DecidableEq, Repr

/-- The findings on one block: EDC repeats (4: the third repeat failed too) and the check code's result. -/
structure BlockOutcome where
  edc : Nat
  res : BlockRead
  deriving DecidableEq, Repr

/-- An access of a requester to one buffer block: a write carries its bytes. The findings are those of the
first copy and, in a duplex segment, of the second (R310, R320). -/
structure BufAcc where
  addr : Nat
  len : Nat
  data : Option (List Byte)
  first : BlockOutcome
  second : BlockOutcome
  deriving DecidableEq, Repr
/-- How a chunk ends: the data that came from host memory, and whether the host access failed (R331, R335). -/
structure ChunkIn where
  data : List Byte
  hostError : Bool
  deriving DecidableEq, Repr

/-- Where a cipher request reads its text: bytes handed over by a decoder or frame buffer, or buffer memory. -/
inductive CphSrc where
  | bytes (bs : List Byte)
  | buffer (addr : Nat)
  deriving DecidableEq, Repr

/-- Where a cipher request writes: buffer memory, or the encoder work of its TAG, or a peer frame. -/
inductive CphDst where
  | buffer (addr : Nat)
  | encoder
  | frame
  deriving DecidableEq, Repr

/-- A cipher request (R348): mode, direction, priority, slot, generation, length, associated data, tweak
(NSID and LBA) or IV, source, destination and TAG. -/
structure CipherReq where
  gcm : Bool
  decrypt : Bool
  peer : Bool
  slot : Nat
  gen : Nat
  len : Nat
  aad : List Byte
  nsid : Nat
  lba : Nat
  iv : List Byte
  src : CphSrc
  dst : CphDst
  tag : Nat
  deriving DecidableEq, Repr

/-- A service-chain frame (R451): destination, source, type, flags, tag, payload, and whether its CRC holds. -/
structure ChainFrame where
  dst : Nat
  src : Nat
  type : Nat
  flags : Nat
  tag : Nat
  payload : List Byte
  crcOk : Bool
  deriving DecidableEq, Repr

/-- A peer frame (R457): EtherType, the 32-byte peer header, the payload as sealed, and the GCM tag. -/
structure PeerFrame where
  dstMac : Nat
  srcMac : Nat
  etype : Nat
  header : List Byte
  payload : List Byte
  tag : List Byte
  deriving DecidableEq, Repr

/-- A PTP message as a port takes it (R469): type (0 Sync, 1 Delay_Req, 8 Follow_Up, 9 Delay_Resp,
0xB Announce), domain, sequence number, the sender's identity, the timestamp it carries in ns, the port's own
timestamp of it in ns, and of an Announce the grandmaster's priority1, class, accuracy, variance, priority2
and identity and the steps removed. -/
structure PtpMsg where
  type : Nat
  domain : Nat
  seqId : Nat
  sender : Nat
  stamp : Int
  taken : Int
  gm : List Nat
  deriving DecidableEq, Repr

/-- Where a cache maintenance operation comes from: a write of CCH_OP, or a CMO word of a sequencer (R298). -/
inductive CmoSrc where
  | reg (v : Word)
  | seq (q : Nat)
  deriving DecidableEq, Repr

end Sys2Proof
end

