-- ==== Sys2Proof/Syntax.lean ====
section
/-!
DEFINITION. The commands of the block: one constructor for each row of the table of operations and events.
The operands are what the sender supplies: the instance concerned, a written value, a received frame.
-/

namespace Sys2Proof

/-- The commands. Each docstring names the row of the table and the rule that governs it. -/
inductive Instr where
  /-- REGISTER_WRITE (R8). -/
  | registerWrite (ag : Agent) (addr : Nat) (v : Word)
  /-- READ_TO_CLEAR (R8). -/
  | readToClear (ag : Agent) (addr : Nat) (events : Nat)
  /-- LOWER_HALF_READ (R10). -/
  | lowerHalfRead (ag : Agent) (addr : Nat)
  /-- HLK_TRAIN (R59). -/
  | hlkTrain (n : Nat) (v : Word)
  /-- BRING_UP_PHASE_END (R59). -/
  | bringUpPhaseEnd (n : Nat)
  /-- BRING_UP_TIMEOUT (R59). -/
  | bringUpTimeout (n : Nat)
  /-- RECEIVE_FRAME (R39). -/
  | receiveFrame (n : Nat) (f : RxFrame)
  /-- SAMPLE (R42). -/
  | sample (n : Nat)
  /-- SPINDLE_RPT (R46). -/
  | spindleRpt (n : Nat)
  /-- STATUS (R47). -/
  | status (n : Nat)
  /-- ACK_WAIT_EXPIRY (R56). -/
  | ackWaitExpiry (n : Nat) (cls : Nat) (cseq : Nat)
  /-- LANE_RETRAIN_GO (R60). -/
  | laneRetrainGo (n : Nat) (v : Word)
  /-- LANE_RETRAIN_END (R60). -/
  | laneRetrainEnd (n : Nat)
  /-- LANE_RETRAIN_TIMEOUT (R60). -/
  | laneRetrainTimeout (n : Nat)
  /-- FORCE_SAFE (R62). -/
  | forceSafe (n : Nat) (v : Word)
  /-- SIGNAL_LOSS (R65). -/
  | signalLoss (n : Nat)
  /-- SIGNAL_DETECT (R65). -/
  | signalDetect (n : Nat)
  /-- GATE (R69). -/
  | gate (q : Nat)
  /-- GATE_OPEN (R80). -/
  | gateOpen (h : Nat)
  /-- GATE_PHASE_CHANGE (R82). -/
  | gatePhaseChange (h : Nat)
  /-- RAW_CAPTURE_PARTIAL (R115). -/
  | rawCapturePartial (h : Nat)
  /-- GATE_END (R71). -/
  | gateEnd (h : Nat) (replay : Bool)
  /-- REPLAY (R94). -/
  | replay (q : Nat)
  /-- RCH_LOAD (R96). -/
  | rchLoad (h : Nat) (v : Word)
  /-- BLOAD (R398). -/
  | bload (q : Nat)
  /-- PIPELINE_DISABLE (R100). -/
  | pipelineDisable (h : Nat) (v : Word)
  /-- CWREQ (R120). -/
  | cwreq (q : Nat)
  /-- CWCAN (R398). -/
  | cwcan (q : Nat)
  /-- ENCODE (R109). -/
  | encode (q : Nat)
  /-- ENCODER_START (R109). -/
  | encoderStart (e : Nat)
  /-- ENCODE_DONE (R109). -/
  | encodeDone (e : Nat)
  /-- DECODER_DISPATCH (R122). -/
  | decoderDispatch (d : Nat)
  /-- CODEWORD_TAKEN (R125). -/
  | codewordTaken (d : Nat)
  /-- DECODE_ITERATION_END (R124). -/
  | decodeIterationEnd (d : Nat)
  /-- STORE_PLACE_RESERVED (R351). -/
  | storePlaceReserved (d : Nat)
  /-- DECODER_FENCE_WRITE (R131). -/
  | decoderFenceWrite (j : Nat) (v : Word)
  /-- DECODER_FAULT (R131). -/
  | decoderFault (d : Nat)
  /-- WRSEND (R134). -/
  | wrsend (q : Nat)
  /-- HLCMD_ADC_RATE (R51). -/
  | hlcmdAdcRate (q : Nat)
  /-- HLCMD_SOURCE (R142). -/
  | hlcmdSource (q : Nat)
  /-- HLCMD_WRITE_OPEN (R139). -/
  | hlcmdWriteOpen (q : Nat)
  /-- HLCMD_WRITE_ABORT (R51). -/
  | hlcmdWriteAbort (q : Nat)
  /-- HLCMD_COMP_REG (R136). -/
  | hlcmdCompReg (q : Nat)
  /-- CREDIT (R398). -/
  | credit (q : Nat)
  /-- REPORT_VERIFIED (R158). -/
  | reportVerified (q : Nat)
  /-- REPORT_VFAIL (R152). -/
  | reportVfail (q : Nat)
  /-- REPORT_INTERRUPTED (R147). -/
  | reportInterrupted (q : Nat)
  /-- REPORT_UNDECIDED (R145). -/
  | reportUndecided (q : Nat)
  /-- REPORT_REREAD (R402). -/
  | reportReread (q : Nat)
  /-- REPORT_MIRROR (R170). -/
  | reportMirror (q : Nat)
  /-- REPORT_UNRECOVERED (R171). -/
  | reportUnrecovered (q : Nat)
  /-- REPORT_MISSED (R402). -/
  | reportMissed (q : Nat)
  /-- WRITE_FENCE_CLEAR (R148). -/
  | writeFenceClear (v : Word)
  /-- FLUSH_COMPLETION (R548). -/
  | flushCompletion (p : Nat) (slot : Nat)
  /-- PIN (R164). -/
  | pin (q : Nat)
  /-- OFFSET (R168). -/
  | offset (q : Nat)
  /-- SERVO_WINDOW_CLOSE (R183). -/
  | servoWindowClose (a : Nat) (j : Nat)
  /-- HEAD_DEMODULATION_END (R181). -/
  | headDemodulationEnd (a : Nat) (j : Nat) (dem : Demod)
  /-- WEDGE_COMPLETE (R184). -/
  | wedgeComplete (a : Nat)
  /-- SEEK (R196). -/
  | seek (q : Nat)
  /-- SEEK_TIMEOUT (R199). -/
  | seekTimeout (a : Nat)
  /-- FOLLOWING_ERROR_TIMEOUT (R202). -/
  | followingErrorTimeout (a : Nat)
  /-- SERVO_LOST (R203). -/
  | servoLost (a : Nat)
  /-- SERVO_LOAD (R205). -/
  | servoLoad (a : Nat) (v : Word)
  /-- PROFILE_STEP_END (R205). -/
  | profileStepEnd (a : Nat)
  /-- ACQUISITION_TIMEOUT (R205). -/
  | acquisitionTimeout (a : Nat)
  /-- SERVO_UNLOAD (R206). -/
  | servoUnload (a : Nat) (v : Word)
  /-- SERVO_SET_LOAD (R210). -/
  | servoSetLoad (a : Nat) (v : Word)
  /-- SERVO_SET_LOAD_END (R210). -/
  | servoSetLoadEnd (a : Nat)
  /-- SERVO_SET_SWITCH (R210). -/
  | servoSetSwitch (a : Nat)
  /-- INJECTION_GO (R217). -/
  | injectionGo (a : Nat) (v : Word)
  /-- INJECTION_STOP (R218). -/
  | injectionStop (a : Nat) (v : Word)
  /-- INJECTION_STEP_END (R220). -/
  | injectionStepEnd (a : Nat)
  /-- CAPTURE_ARM (R221). -/
  | captureArm (a : Nat) (v : Word)
  /-- CAPTURE_END (R221). -/
  | captureEnd (a : Nat)
  /-- SPINDLE_START (R237). -/
  | spindleStart (n : Nat) (v : Word)
  /-- LISTEN_WINDOW_END (R238). -/
  | listenWindowEnd (n : Nat)
  /-- BRAKE_INTERVAL_END (R239). -/
  | brakeIntervalEnd (n : Nat)
  /-- STILL_END (R237). -/
  | stillEnd (n : Nat)
  /-- ALIGN_END (R237). -/
  | alignEnd (n : Nat)
  /-- BLIND_RAMP_STEP (R240). -/
  | blindRampStep (n : Nat)
  /-- EDGE_WINDOW_CLOSE (R233). -/
  | edgeWindowClose (n : Nat)
  /-- UNLOAD_WAIT_EXPIRY (R253). -/
  | unloadWaitExpiry (n : Nat)
  /-- SPINDLE_STOP (R253). -/
  | spindleStop (n : Nat) (v : Word)
  /-- SPINDLE_ENABLE (R245). -/
  | spindleEnable (n : Nat) (v : Word)
  /-- SPN_TARGET (R251). -/
  | spnTarget (n : Nat) (v : Word)
  /-- RESYNC (R245). -/
  | resync (n : Nat) (v : Word)
  /-- TIME_BASE_TICK (R245). -/
  | timeBaseTick
  /-- EPOCH_BOUNDARY (R31). -/
  | epochBoundary
  /-- MAP_COMMIT_GO (R260). -/
  | mapCommitGo (v : Word)
  /-- STREAM_OPEN (R280). -/
  | streamOpen (p : Nat) (slot : Nat)
  /-- STREAM_READ (R280). -/
  | streamRead (p : Nat) (slot : Nat)
  /-- STREAM_WRITE (R280). -/
  | streamWrite (p : Nat) (slot : Nat)
  /-- STREAM_CLOSE (R280). -/
  | streamClose (p : Nat) (slot : Nat)
  /-- STREAM_QUERY (R280). -/
  | streamQuery (p : Nat) (slot : Nat)
  /-- STREAM_HINT (R280). -/
  | streamHint (p : Nat) (slot : Nat)
  /-- STREAM_REBIND (R280). -/
  | streamRebind (p : Nat) (slot : Nat)
  /-- CONTEXT_READ (R285). -/
  | contextRead (v : Word)
  /-- CONTEXT_UPDATE (R285). -/
  | contextUpdate (v : Word)
  /-- PIECE_ADMISSION (R268). -/
  | pieceAdmission (cls : Nat)
  /-- READ_AHEAD_ADMISSION (R269). -/
  | readAheadAdmission (stream : Nat)
  /-- SCHEDULER_EVALUATION (R275). -/
  | schedulerEvaluation (a : Nat)
  /-- GRANT (R25). -/
  | grant (tag : Nat)
  /-- CACHE_REQUEST (R294). -/
  | cacheRequest (r : CacheReq)
  /-- CACHE_FILL_RETURN (R301). -/
  | cacheFillReturn (bank : Nat)
  /-- INVAL (R298). -/
  | inval (src : CmoSrc)
  /-- CLEAN (R298). -/
  | clean (src : CmoSrc)
  /-- CACHE_FLUSH (R298). -/
  | cacheFlush (src : CmoSrc)
  /-- LOCK (R297). -/
  | lock (src : CmoSrc)
  /-- UNLOCK (R297). -/
  | unlock (src : CmoSrc)
  /-- LOOKUP (R298). -/
  | lookup (src : CmoSrc)
  /-- CACHE_OP_COMPLETE (R302). -/
  | cacheOpComplete
  /-- PANTRY_WAYS_CHANGE (R305). -/
  | pantryWaysChange (v : Word)
  /-- PANTRY_ACCESS (R304). -/
  | pantryAccess (acc : PantryAcc)
  /-- BUFFER_ACCESS (R313). -/
  | bufferAccess (acc : BufAcc)
  /-- REMAP_COPY_END (R317). -/
  | remapCopyEnd (c : Nat)
  /-- SCRUB_INTERVAL (R322). -/
  | scrubInterval (c : Nat) (out : BlockOutcome)
  /-- CHANNEL_RETRAIN (R324). -/
  | channelRetrain (c : Nat) (v : Word)
  /-- RETRAIN_STEP_END (R324). -/
  | retrainStepEnd (c : Nat) (ok : Bool)
  /-- RESILVER_END (R326). -/
  | resilverEnd (c : Nat)
  /-- SEGMENT_WRITE (R310). -/
  | segmentWrite (k : Nat) (v : Word)
  /-- BUFFER_SELF_TEST_END (R323). -/
  | bufferSelfTestEnd (failed : Nat)
  /-- PI_WRITE (R328). -/
  | piWrite (ag : Agent) (ch : Nat) (v : Word)
  /-- DESCRIPTOR_START (R331). -/
  | descriptorStart (ch : Nat)
  /-- CHUNK_END (R331). -/
  | chunkEnd (ch : Nat) (c : ChunkIn)
  /-- DESCRIPTOR_COMPLETE (R332). -/
  | descriptorComplete (ch : Nat)
  /-- CHANNEL_RESUME (R335). -/
  | channelResume (ch : Nat) (v : Word)
  /-- CHANNEL_SKIP (R335). -/
  | channelSkip (ch : Nat) (v : Word)
  /-- CHANNEL_DISABLE (R336). -/
  | channelDisable (ch : Nat) (v : Word)
  /-- CREDIT_PULSE (R334). -/
  | creditPulse
  /-- ARRIVED_PULSE (R334). -/
  | arrivedPulse
  /-- HIF_PULSE (R334). -/
  | hifPulse
  /-- SEQ_PULSE (R334). -/
  | seqPulse
  /-- MSIX_PULSE (R334). -/
  | msixPulse
  /-- KEY_LOAD (R344). -/
  | keyLoad (v : Word)
  /-- KEY_DROP (R345). -/
  | keyDrop (v : Word)
  /-- KEY_WIPE (R345). -/
  | keyWipe (v : Word)
  /-- KEY_QUERY (R344). -/
  | keyQuery (v : Word)
  /-- SLOT_BADOP (R356). -/
  | slotBadop (v : Word)
  /-- WIPE_ALL (R347). -/
  | wipeAll (v : Word)
  /-- CIPHER_REQUEST (R351). -/
  | cipherRequest (r : CipherReq)
  /-- ENGINE_TAKE (R546). -/
  | engineTake (e : Nat)
  /-- CIPHER_RESULT (R353). -/
  | cipherResult (e : Nat)
  /-- ENGINE_PARITY_FAULT (R354). -/
  | engineParityFault (e : Nat)
  /-- ENGINE_FENCE_WRITE (R355). -/
  | engineFenceWrite (j : Nat) (v : Word)
  /-- PERST_ASSERT (R360). -/
  | perstAssert (p : Nat)
  /-- PERST_DEASSERT (R358). -/
  | perstDeassert (p : Nat)
  /-- HOT_RESET (R360). -/
  | hotReset (p : Nat) (l : Nat)
  /-- FUNCTION_LEVEL_RESET (R360). -/
  | functionLevelReset (p : Nat) (l : Nat)
  /-- CONTROLLER_RESET (R361). -/
  | controllerReset (p : Nat) (l : Nat)
  /-- SHUTDOWN (R362). -/
  | shutdown (p : Nat) (l : Nat) (shn : Nat)
  /-- SHUTDOWN_COMPLETE (R362). -/
  | shutdownComplete (p : Nat) (l : Nat)
  /-- DOORBELL_WRITE (R368). -/
  | doorbellWrite (p : Nat) (l : Nat) (qid : Nat) (tail : Nat)
  /-- COMMAND_FETCH (R368). -/
  | commandFetch (p : Nat) (l : Nat) (qid : Nat) (sqe : List Word) (prps : List Nat)
  /-- READ (R19). -/
  | read (p : Nat) (slot : Nat)
  /-- WRITE (R20). -/
  | write (p : Nat) (slot : Nat)
  /-- FLUSH (R22). -/
  | flush (p : Nat) (slot : Nat)
  /-- WRITE_ZEROES (R370). -/
  | writeZeroes (p : Nat) (slot : Nat)
  /-- VERIFY (R370). -/
  | verify (p : Nat) (slot : Nat)
  /-- ZONE_MANAGEMENT_SEND (R373). -/
  | zoneManagementSend (p : Nat) (slot : Nat)
  /-- ZONE_MANAGEMENT_RECEIVE (R373). -/
  | zoneManagementReceive (p : Nat) (slot : Nat)
  /-- ZONE_APPEND (R373). -/
  | zoneAppend (p : Nat) (slot : Nat)
  /-- INVALID_OPCODE (R370). -/
  | invalidOpcode (p : Nat) (slot : Nat)
  /-- ABORT (R371). -/
  | abort (p : Nat) (slot : Nat)
  /-- SET_VOLATILE_WRITE_CACHE (R372). -/
  | setVolatileWriteCache (p : Nat) (slot : Nat)
  /-- SET_POWER_STATE (R375). -/
  | setPowerState (p : Nat) (slot : Nat)
  /-- APST_TRANSITION (R375). -/
  | apstTransition (p : Nat) (l : Nat)
  /-- SET_IDLE_POLICY (R378). -/
  | setIdlePolicy (p : Nat) (slot : Nat)
  /-- GET_IDLE_POLICY (R378). -/
  | getIdlePolicy (p : Nat) (slot : Nat)
  /-- GET_LOG_PAGE (R381). -/
  | getLogPage (p : Nat) (slot : Nat)
  /-- IDENTIFY_CONTROLLER (R365). -/
  | identifyController (p : Nat) (slot : Nat)
  /-- IDENTIFY_NAMESPACE (R366). -/
  | identifyNamespace (p : Nat) (slot : Nat)
  /-- NUMBER_OF_QUEUES (R367). -/
  | numberOfQueues (p : Nat) (slot : Nat)
  /-- FIRMWARE_DOWNLOAD (R365). -/
  | firmwareDownload (p : Nat) (slot : Nat) (data : List Byte)
  /-- FIRMWARE_COMMIT (R440). -/
  | firmwareCommit (p : Nat) (slot : Nat)
  /-- IDLE_TIMER_EXPIRY (R376). -/
  | idleTimerExpiry (n : Nat)
  /-- FAULT_MESSAGE (R386). -/
  | faultMessage (src : Nat)
  /-- TRAP (R395). -/
  | trap (q : Nat)
  /-- NOP (R395). -/
  | nop (q : Nat)
  /-- CALL (R395). -/
  | call (q : Nat)
  /-- RET (R395). -/
  | ret (q : Nat)
  /-- JIND (R395). -/
  | jind (q : Nat)
  /-- WAIT (R395). -/
  | wait (q : Nat)
  /-- SLEEP (R405). -/
  | sleep (q : Nat)
  /-- SEQ_WAKE (R405). -/
  | seqWake (q : Nat)
  /-- HALT (R395). -/
  | halt (q : Nat)
  /-- EVRET (R404). -/
  | evret (q : Nat)
  /-- MFS (R390). -/
  | mfs (q : Nat)
  /-- MTS (R390). -/
  | mts (q : Nat)
  /-- MTSI (R390). -/
  | mtsi (q : Nat)
  /-- SIGNAL (R395). -/
  | signal (q : Nat)
  /-- SEND (R395). -/
  | send (q : Nat)
  /-- ADD (R395). -/
  | add (q : Nat)
  /-- SUB (R395). -/
  | sub (q : Nat)
  /-- AND (R395). -/
  | and (q : Nat)
  /-- OR (R395). -/
  | or (q : Nat)
  /-- XOR (R395). -/
  | xor (q : Nat)
  /-- SHL (R395). -/
  | shl (q : Nat)
  /-- SHR (R395). -/
  | shr (q : Nat)
  /-- SAR (R395). -/
  | sar (q : Nat)
  /-- MUL (R395). -/
  | mul (q : Nat)
  /-- MULHU (R395). -/
  | mulhu (q : Nat)
  /-- ADC (R395). -/
  | adc (q : Nat)
  /-- SBB (R395). -/
  | sbb (q : Nat)
  /-- CMP (R395). -/
  | cmp (q : Nat)
  /-- TST (R395). -/
  | tst (q : Nat)
  /-- BFX (R395). -/
  | bfx (q : Nat)
  /-- BFI (R395). -/
  | bfi (q : Nat)
  /-- MOVI (R395). -/
  | movi (q : Nat)
  /-- LD (R396). -/
  | ld (q : Nat)
  /-- ST (R396). -/
  | st (q : Nat)
  /-- LOAD_DATA_ARRIVAL (R396). -/
  | loadDataArrival (q : Nat)
  /-- RDR (R397). -/
  | rdr (q : Nat)
  /-- WRR (R397). -/
  | wrr (q : Nat)
  /-- PIW (R395). -/
  | piw (q : Nat)
  /-- POP (R395). -/
  | pop (q : Nat)
  /-- REPORT (R402). -/
  | report (q : Nat)
  /-- SEQUENCER_RECORD (R400). -/
  | sequencerRecord (q : Nat)
  /-- EVENT_DISPATCH (R404). -/
  | eventDispatch (q : Nat)
  /-- WATCHDOG_EXPIRY (R408). -/
  | watchdogExpiry (q : Nat)
  /-- SEQ_TIMER_EXPIRY (R390). -/
  | seqTimerExpiry (q : Nat) (t : Nat)
  /-- SEQ_RUN (R415). -/
  | seqRun (q : Nat) (v : Word)
  /-- SEQ_RELOAD (R414). -/
  | seqReload (q : Nat) (v : Word)
  /-- SEQ_FORCE (R414). -/
  | seqForce (q : Nat) (v : Word)
  /-- SEQ_SOFT (R403). -/
  | seqSoft (q : Nat) (v : Word)
  /-- SEQ_MBOX (R403). -/
  | seqMbox (q : Nat) (v : Word)
  /-- EVC_PEND_WRITE (R406). -/
  | evcPendWrite (q : Nat) (half : Nat) (v : Word)
  /-- EVC_PEND_READ (R406). -/
  | evcPendRead (q : Nat) (half : Nat)
  /-- IMAGE_CHECK (R411). -/
  | imageCheck (v : Word)
  /-- IMAGE_LOAD (R411). -/
  | imageLoad (v : Word)
  /-- REF_SELECT (R417). -/
  | refSelect (v : Word)
  /-- REF_SOURCE_FAIL (R420). -/
  | refSourceFail (src : Nat)
  /-- FORCED_SWITCH (R421). -/
  | forcedSwitch (dom : Nat)
  /-- REF_SOURCE_GOOD (R419). -/
  | refSourceGood (src : Nat)
  /-- HOLDOVER_TIMEOUT (R422). -/
  | holdoverTimeout
  /-- PLL_LOCK (R418). -/
  | pllLock (i : Nat)
  /-- PLL_LOCK_LOST (R424). -/
  | pllLockLost (i : Nat)
  /-- CHAIN_CLOCK_LOSS (R425). -/
  | chainClockLoss
  /-- CLOCK_GATE (R429). -/
  | clockGate (v : Word)
  /-- GATE_IDLE_TIMEOUT (R429). -/
  | gateIdleTimeout
  /-- CLOCK_UNGATE (R430). -/
  | clockUngate (v : Word)
  /-- PORCH_POWER_ON (R431). -/
  | porchPowerOn
  /-- DEVICE_RESET (R432). -/
  | deviceReset (cause : Nat)
  /-- SRAM_WIPE_END (R432). -/
  | sramWipeEnd
  /-- WIPE_END (R432). -/
  | wipeEnd
  /-- BOOT_END (R441). -/
  | bootEnd
  /-- MAIN_RAIL_FAIL (R528). -/
  | mainRailFail
  /-- SERVICE_REQUEST (R438). -/
  | serviceRequest (v : Word)
  /-- TEMPERATURE_SAMPLE (R530). -/
  | temperatureSample (readings : List Nat)
  /-- PROVISION (R443). -/
  | provision (v : Word)
  /-- TOKEN_OPEN_OBS (R446). -/
  | tokenOpenObs
  /-- TOKEN_OPEN_TAP (R446). -/
  | tokenOpenTap
  /-- TOKEN_OPEN_BOTH (R446). -/
  | tokenOpenBoth
  /-- TOKEN_DEPLOY (R443). -/
  | tokenDeploy
  /-- TOKEN_RETURN (R443). -/
  | tokenReturn
  /-- TOKEN_RETIRE (R443). -/
  | tokenRetire
  /-- TOKEN_CLEAR_ATTIC (R497). -/
  | tokenClearAttic
  /-- AUTH_CLOSE (R446). -/
  | authClose (v : Word)
  /-- FUSE_BURN_END (R444). -/
  | fuseBurnEnd
  /-- CHAIN_ENUM (R454). -/
  | chainEnum (f : ChainFrame)
  /-- CHAIN_STATUS (R453). -/
  | chainStatus (f : ChainFrame)
  /-- CHAIN_READ (R455). -/
  | chainRead (f : ChainFrame)
  /-- CHAIN_WRITE (R455). -/
  | chainWrite (f : ChainFrame)
  /-- CHAIN_RESET (R453). -/
  | chainReset (f : ChainFrame)
  /-- CHAIN_TRIP (R533). -/
  | chainTrip
  /-- TRIP_RETRY (R533). -/
  | tripRetry
  /-- HELLO (R464). -/
  | hello (p : Nat) (f : PeerFrame)
  /-- HELLO_INTERVAL (R464). -/
  | helloInterval (p : Nat)
  /-- MWRITE (R460). -/
  | mwrite (p : Nat) (f : PeerFrame)
  /-- MWACK (R460). -/
  | mwack (p : Nat) (f : PeerFrame)
  /-- MWQUERY (R460). -/
  | mwquery (p : Nat) (f : PeerFrame)
  /-- PREAD (R461). -/
  | pread (p : Nat) (f : PeerFrame)
  /-- PRDATA (R461). -/
  | prdata (p : Nat) (f : PeerFrame)
  /-- RBREQ (R467). -/
  | rbreq (p : Nat) (f : PeerFrame)
  /-- RBEND (R467). -/
  | rbend (p : Nat) (f : PeerFrame)
  /-- PEER_RETRANSMIT_TIMEOUT (R459). -/
  | peerRetransmitTimeout (i : Nat) (pseq : Nat)
  /-- DURABILITY_TIMEOUT (R460). -/
  | durabilityTimeout (i : Nat) (pseq : Nat)
  /-- PEER_LOST (R466). -/
  | peerLost (i : Nat)
  /-- PEER_JOIN (R465). -/
  | peerJoin (i : Nat) (v : Word)
  /-- PEER_LEAVE (R465). -/
  | peerLeave (i : Nat) (v : Word)
  /-- LEAVE_END (R465). -/
  | leaveEnd (i : Nat)
  /-- PTP_ANNOUNCE (R469). -/
  | ptpAnnounce (p : Nat) (m : PtpMsg)
  /-- PTP_SYNC (R469). -/
  | ptpSync (p : Nat) (m : PtpMsg)
  /-- PTP_FOLLOW_UP (R470). -/
  | ptpFollowUp (p : Nat) (m : PtpMsg)
  /-- PTP_DELAY_REQ (R469). -/
  | ptpDelayReq (p : Nat) (m : PtpMsg)
  /-- PTP_DELAY_RESP (R469). -/
  | ptpDelayResp (p : Nat) (m : PtpMsg)
  /-- SYNC_TIMEOUT (R470). -/
  | syncTimeout (p : Nat)
  /-- FAULT_CLEAR (R481). -/
  | faultClear (src : Nat) (v : Word)
  /-- FENCE_WRITE (R485). -/
  | fenceWrite (src : Nat) (v : Word)
  /-- INJECT_RECORD (R482). -/
  | injectRecord (ag : Agent) (src : Nat) (v : Word)
  /-- INJECT_REACT (R482). -/
  | injectReact (ag : Agent) (src : Nat) (v : Word)
  /-- INJECT_RAISE (R482). -/
  | injectRaise (ag : Agent) (src : Nat) (v : Word)
  /-- ATTIC_RECORD_STORE (R494). -/
  | atticRecordStore
  /-- ATTIC_NOTE (R493). -/
  | atticNote (v : Word)
  /-- CLAIM (R514). -/
  | claim (ag : Agent) (k : Nat) (v : Word)
  /-- CLAIM_RELEASE (R514). -/
  | claimRelease (ag : Agent) (k : Nat) (v : Word)
  /-- OBS_SELECT (R538). -/
  | obsSelect (k : Nat) (v : Word)
  /-- TRANSMIT_FRAME_START (R499). -/
  | transmitFrameStart (n : Nat)
  /-- HOST_LINK_UP (R357). -/
  | hostLinkUp (p : Nat) (l : Nat) (gen : Nat) (width : Nat) (flit : Bool)
  /-- PEER_PORT_UP (R456). -/
  | peerPortUp (p : Nat)
  /-- COMPLETION_TIMEOUT (R335). -/
  | completionTimeout (ch : Nat)
  /-- TOKEN_REFUSED (R446). -/
  | tokenRefused
  /-- TEST_RESET (R431). -/
  | testReset
  /-- TAP_INSTRUCTION (R537). -/
  | tapInstruction (ir : Nat)
  /-- CHAIN_CLOCK_RETURN (R425). -/
  | chainClockReturn
  /-- SERVO_ENGINE_DISABLE (R212). -/
  | servoEngineDisable (a : Nat) (v : Word)
  /-- SYNC_INTERVAL (R469). -/
  | syncInterval (p : Nat)
  /-- REFRESH (R309). -/
  | refresh (c : Nat)
  /-- CREATE_IO_QUEUE (R367). -/
  | createIoQueue (p : Nat) (slot : Nat)
  /-- DELETE_IO_QUEUE (R367). -/
  | deleteIoQueue (p : Nat) (slot : Nat)
  /-- ASYNCHRONOUS_EVENT_REQUEST (R364). -/
  | asynchronousEventRequest (p : Nat) (slot : Nat)
  deriving DecidableEq, Repr

end Sys2Proof
end

