-- ==== Sys2Proof/WellFormed.lean ====
section
/-!
DEFINITION. When a command is well formed: every operand names an instance that some variant has, and every
field fits the width that the spec gives it. An absent instance of the variant is no matter of form (R2, R3).
-/

namespace Sys2Proof

/-- The agent exists: two host ports, forty sequencers. -/
def agentOk : Agent → Bool
  | .port p => decide (p < 2)
  | .seq q => decide (q < 40)
  | .hif p => decide (p < 2)
  | .chain | .boot | .stm => true

/-- The sequencer of a CMO word exists. -/
def cmoOk : CmoSrc → Bool
  | .reg _ => true
  | .seq q => decide (q < 40)

/-- The operands of a command lie in their ranges. -/
def Instr.wf : Instr → Bool
  | .registerWrite ag addr _ => agentOk ag && decide (addr < 2 ^ 26)
  | .readToClear ag addr events => agentOk ag && decide (addr < 2 ^ 26) && decide (events < 2 ^ 32)
  | .lowerHalfRead ag addr => agentOk ag && decide (addr < 2 ^ 26)
  | .hlkTrain n _ => decide (n < 16)
  | .bringUpPhaseEnd n => decide (n < 16)
  | .bringUpTimeout n => decide (n < 16)
  | .receiveFrame n f => decide (n < 16) && decide (f.lanes.length ≤ 8)
  | .sample n => decide (n < 16)
  | .spindleRpt n => decide (n < 16)
  | .status n => decide (n < 16)
  | .ackWaitExpiry n cls cseq => decide (n < 16) && decide (cls < 5) && decide (cseq < 2 ^ 16)
  | .laneRetrainGo n _ => decide (n < 16)
  | .laneRetrainEnd n => decide (n < 16)
  | .laneRetrainTimeout n => decide (n < 16)
  | .forceSafe n _ => decide (n < 16)
  | .signalLoss n => decide (n < 16)
  | .signalDetect n => decide (n < 16)
  | .gate q => decide (q < 40)
  | .gateOpen h => decide (h < 320)
  | .gatePhaseChange h => decide (h < 320)
  | .rawCapturePartial h => decide (h < 320)
  | .gateEnd h _ => decide (h < 320)
  | .replay q => decide (q < 40)
  | .rchLoad h _ => decide (h < 320)
  | .bload q => decide (q < 40)
  | .pipelineDisable h _ => decide (h < 320)
  | .cwreq q => decide (q < 40)
  | .cwcan q => decide (q < 40)
  | .encode q => decide (q < 40)
  | .encoderStart e => decide (e < 16)
  | .encodeDone e => decide (e < 16)
  | .decoderDispatch d => decide (d < 64)
  | .codewordTaken d => decide (d < 64)
  | .decodeIterationEnd d => decide (d < 64)
  | .storePlaceReserved d => decide (d < 64)
  | .decoderFenceWrite j _ => decide (j < 2)
  | .decoderFault d => decide (d < 64)
  | .wrsend q => decide (q < 40)
  | .hlcmdAdcRate q => decide (q < 40)
  | .hlcmdSource q => decide (q < 40)
  | .hlcmdWriteOpen q => decide (q < 40)
  | .hlcmdWriteAbort q => decide (q < 40)
  | .hlcmdCompReg q => decide (q < 40)
  | .credit q => decide (q < 40)
  | .reportVerified q => decide (q < 40)
  | .reportVfail q => decide (q < 40)
  | .reportInterrupted q => decide (q < 40)
  | .reportUndecided q => decide (q < 40)
  | .reportReread q => decide (q < 40)
  | .reportMirror q => decide (q < 40)
  | .reportUnrecovered q => decide (q < 40)
  | .reportMissed q => decide (q < 40)
  | .writeFenceClear _ => true
  | .flushCompletion p slot => decide (p < 2) && decide (slot < 4096)
  | .pin q => decide (q < 40)
  | .offset q => decide (q < 40)
  | .servoWindowClose a j => decide (a < 32) && decide (j < 10)
  | .headDemodulationEnd a j dem => decide (a < 32) && decide (j < 10) && decide (dem.gray < 2 ^ 24) && decide (dem.wid < 2 ^ 12) && decide (dem.rro < 2 ^ 16)
  | .wedgeComplete a => decide (a < 32)
  | .seek q => decide (q < 40)
  | .seekTimeout a => decide (a < 32)
  | .followingErrorTimeout a => decide (a < 32)
  | .servoLost a => decide (a < 32)
  | .servoLoad a _ => decide (a < 32)
  | .profileStepEnd a => decide (a < 32)
  | .acquisitionTimeout a => decide (a < 32)
  | .servoUnload a _ => decide (a < 32)
  | .servoSetLoad a _ => decide (a < 32)
  | .servoSetLoadEnd a => decide (a < 32)
  | .servoSetSwitch a => decide (a < 32)
  | .injectionGo a _ => decide (a < 32)
  | .injectionStop a _ => decide (a < 32)
  | .injectionStepEnd a => decide (a < 32)
  | .captureArm a _ => decide (a < 32)
  | .captureEnd a => decide (a < 32)
  | .spindleStart n _ => decide (n < 16)
  | .listenWindowEnd n => decide (n < 16)
  | .brakeIntervalEnd n => decide (n < 16)
  | .stillEnd n => decide (n < 16)
  | .alignEnd n => decide (n < 16)
  | .blindRampStep n => decide (n < 16)
  | .edgeWindowClose n => decide (n < 16)
  | .unloadWaitExpiry n => decide (n < 16)
  | .spindleStop n _ => decide (n < 16)
  | .spindleEnable n _ => decide (n < 16)
  | .spnTarget n _ => decide (n < 16)
  | .resync n _ => decide (n < 16)
  | .timeBaseTick => true
  | .epochBoundary => true
  | .mapCommitGo _ => true
  | .streamOpen p slot => decide (p < 2) && decide (slot < 4096)
  | .streamRead p slot => decide (p < 2) && decide (slot < 4096)
  | .streamWrite p slot => decide (p < 2) && decide (slot < 4096)
  | .streamClose p slot => decide (p < 2) && decide (slot < 4096)
  | .streamQuery p slot => decide (p < 2) && decide (slot < 4096)
  | .streamHint p slot => decide (p < 2) && decide (slot < 4096)
  | .streamRebind p slot => decide (p < 2) && decide (slot < 4096)
  | .contextRead _ => true
  | .contextUpdate _ => true
  | .pieceAdmission cls => decide (cls < 8)
  | .readAheadAdmission stream => decide (stream < 2 ^ 20)
  | .schedulerEvaluation a => decide (a < 32)
  | .grant tag => decide (tag < 2 ^ 32)
  | .cacheRequest r => agentOk r.who && decide (r.addr < 2 ^ 40) && decide (0 < r.len) && decide (r.addr % 64 + r.len ≤ 64)
  | .cacheFillReturn bank => decide (bank < 16)
  | .inval src => cmoOk src
  | .clean src => cmoOk src
  | .cacheFlush src => cmoOk src
  | .lock src => cmoOk src
  | .unlock src => cmoOk src
  | .lookup src => cmoOk src
  | .cacheOpComplete => true
  | .pantryWaysChange _ => true
  | .pantryAccess acc => agentOk acc.who && (acc.len == 4 || acc.len == 8 || acc.len == 64)
  | .bufferAccess acc => decide (acc.addr < 2 ^ 40) && decide (0 < acc.len) && decide (acc.addr % 64 + acc.len ≤ 64)
  | .remapCopyEnd c => decide (c < 8)
  | .scrubInterval c _ => decide (c < 8)
  | .channelRetrain c _ => decide (c < 8)
  | .retrainStepEnd c _ => decide (c < 8)
  | .resilverEnd c => decide (c < 8)
  | .segmentWrite k _ => decide (k < 128)
  | .bufferSelfTestEnd failed => decide (failed < 256)
  | .piWrite ag ch _ => agentOk ag && decide (ch < 64)
  | .descriptorStart ch => decide (ch < 64)
  | .chunkEnd ch _ => decide (ch < 64)
  | .descriptorComplete ch => decide (ch < 64)
  | .channelResume ch _ => decide (ch < 64)
  | .channelSkip ch _ => decide (ch < 64)
  | .channelDisable ch _ => decide (ch < 64)
  | .creditPulse => true
  | .arrivedPulse => true
  | .hifPulse => true
  | .seqPulse => true
  | .msixPulse => true
  | .keyLoad _ => true
  | .keyDrop _ => true
  | .keyWipe _ => true
  | .keyQuery _ => true
  | .slotBadop _ => true
  | .wipeAll _ => true
  | .cipherRequest r => decide (r.slot < 8192) && decide (r.gen < 256) && decide (r.len < 2 ^ 16)
  | .engineTake e => decide (e < 256)
  | .cipherResult e => decide (e < 256)
  | .engineParityFault e => decide (e < 256)
  | .engineFenceWrite j _ => decide (j < 8)
  | .perstAssert p => decide (p < 2)
  | .perstDeassert p => decide (p < 2)
  | .hotReset p l => decide (p < 2) && decide (l < 2)
  | .functionLevelReset p l => decide (p < 2) && decide (l < 2)
  | .controllerReset p l => decide (p < 2) && decide (l < 2)
  | .shutdown p l shn => decide (p < 2) && decide (l < 2) && decide (shn < 4)
  | .shutdownComplete p l => decide (p < 2) && decide (l < 2)
  | .doorbellWrite p l qid tail => decide (p < 2) && decide (l < 2) && decide (qid < 256) && decide (tail < 2 ^ 16)
  | .commandFetch p l qid sqe _ => decide (p < 2) && decide (l < 2) && decide (qid < 256) && decide (sqe.length = 16)
  | .read p slot => decide (p < 2) && decide (slot < 4096)
  | .write p slot => decide (p < 2) && decide (slot < 4096)
  | .flush p slot => decide (p < 2) && decide (slot < 4096)
  | .writeZeroes p slot => decide (p < 2) && decide (slot < 4096)
  | .verify p slot => decide (p < 2) && decide (slot < 4096)
  | .zoneManagementSend p slot => decide (p < 2) && decide (slot < 4096)
  | .zoneManagementReceive p slot => decide (p < 2) && decide (slot < 4096)
  | .zoneAppend p slot => decide (p < 2) && decide (slot < 4096)
  | .invalidOpcode p slot => decide (p < 2) && decide (slot < 4096)
  | .abort p slot => decide (p < 2) && decide (slot < 4096)
  | .setVolatileWriteCache p slot => decide (p < 2) && decide (slot < 4096)
  | .setPowerState p slot => decide (p < 2) && decide (slot < 4096)
  | .apstTransition p l => decide (p < 2) && decide (l < 2)
  | .setIdlePolicy p slot => decide (p < 2) && decide (slot < 4096)
  | .getIdlePolicy p slot => decide (p < 2) && decide (slot < 4096)
  | .getLogPage p slot => decide (p < 2) && decide (slot < 4096)
  | .identifyController p slot => decide (p < 2) && decide (slot < 4096)
  | .identifyNamespace p slot => decide (p < 2) && decide (slot < 4096)
  | .numberOfQueues p slot => decide (p < 2) && decide (slot < 4096)
  | .firmwareDownload p slot _ => decide (p < 2) && decide (slot < 4096)
  | .firmwareCommit p slot => decide (p < 2) && decide (slot < 4096)
  | .idleTimerExpiry n => decide (n < 16)
  | .faultMessage src => decide (src < 129)
  | .trap q => decide (q < 40)
  | .nop q => decide (q < 40)
  | .call q => decide (q < 40)
  | .ret q => decide (q < 40)
  | .jind q => decide (q < 40)
  | .wait q => decide (q < 40)
  | .sleep q => decide (q < 40)
  | .seqWake q => decide (q < 40)
  | .halt q => decide (q < 40)
  | .evret q => decide (q < 40)
  | .mfs q => decide (q < 40)
  | .mts q => decide (q < 40)
  | .mtsi q => decide (q < 40)
  | .signal q => decide (q < 40)
  | .send q => decide (q < 40)
  | .add q => decide (q < 40)
  | .sub q => decide (q < 40)
  | .and q => decide (q < 40)
  | .or q => decide (q < 40)
  | .xor q => decide (q < 40)
  | .shl q => decide (q < 40)
  | .shr q => decide (q < 40)
  | .sar q => decide (q < 40)
  | .mul q => decide (q < 40)
  | .mulhu q => decide (q < 40)
  | .adc q => decide (q < 40)
  | .sbb q => decide (q < 40)
  | .cmp q => decide (q < 40)
  | .tst q => decide (q < 40)
  | .bfx q => decide (q < 40)
  | .bfi q => decide (q < 40)
  | .movi q => decide (q < 40)
  | .ld q => decide (q < 40)
  | .st q => decide (q < 40)
  | .loadDataArrival q => decide (q < 40)
  | .rdr q => decide (q < 40)
  | .wrr q => decide (q < 40)
  | .piw q => decide (q < 40)
  | .pop q => decide (q < 40)
  | .report q => decide (q < 40)
  | .sequencerRecord q => decide (q < 40)
  | .eventDispatch q => decide (q < 40)
  | .watchdogExpiry q => decide (q < 40)
  | .seqTimerExpiry q t => decide (q < 40) && decide (t < 2)
  | .seqRun q _ => decide (q < 40)
  | .seqReload q _ => decide (q < 40)
  | .seqForce q _ => decide (q < 40)
  | .seqSoft q _ => decide (q < 40)
  | .seqMbox q _ => decide (q < 40)
  | .evcPendWrite q half _ => decide (q < 40) && decide (half < 2)
  | .evcPendRead q half => decide (q < 40) && decide (half < 2)
  | .imageCheck _ => true
  | .imageLoad _ => true
  | .refSelect _ => true
  | .refSourceFail src => decide (src < 3)
  | .forcedSwitch dom => decide (dom < 2)
  | .refSourceGood src => decide (src < 3)
  | .holdoverTimeout => true
  | .pllLock i => decide (i < 7)
  | .pllLockLost i => decide (i < 7)
  | .chainClockLoss => true
  | .clockGate _ => true
  | .gateIdleTimeout => true
  | .clockUngate _ => true
  | .porchPowerOn => true
  | .deviceReset cause => decide (cause < 4)
  | .sramWipeEnd => true
  | .wipeEnd => true
  | .bootEnd => true
  | .mainRailFail => true
  | .serviceRequest _ => true
  | .temperatureSample readings => decide (readings.length = 16)
  | .provision _ => true
  | .tokenOpenObs => true
  | .tokenOpenTap => true
  | .tokenOpenBoth => true
  | .tokenDeploy => true
  | .tokenReturn => true
  | .tokenRetire => true
  | .tokenClearAttic => true
  | .authClose _ => true
  | .fuseBurnEnd => true
  | .chainEnum f => decide (f.dst < 2 ^ 16) && decide (f.src < 2 ^ 16) && decide (f.payload.length ≤ 261)
  | .chainStatus f => decide (f.dst < 2 ^ 16) && decide (f.src < 2 ^ 16) && decide (f.payload.length ≤ 261)
  | .chainRead f => decide (f.dst < 2 ^ 16) && decide (f.src < 2 ^ 16) && decide (f.payload.length ≤ 261)
  | .chainWrite f => decide (f.dst < 2 ^ 16) && decide (f.src < 2 ^ 16) && decide (f.payload.length ≤ 261)
  | .chainReset f => decide (f.dst < 2 ^ 16) && decide (f.src < 2 ^ 16) && decide (f.payload.length ≤ 261)
  | .chainTrip => true
  | .tripRetry => true
  | .hello p _ => decide (p < 2)
  | .helloInterval p => decide (p < 2)
  | .mwrite p _ => decide (p < 2)
  | .mwack p _ => decide (p < 2)
  | .mwquery p _ => decide (p < 2)
  | .pread p _ => decide (p < 2)
  | .prdata p _ => decide (p < 2)
  | .rbreq p _ => decide (p < 2)
  | .rbend p _ => decide (p < 2)
  | .peerRetransmitTimeout i pseq => decide (i < 64) && decide (pseq < 2 ^ 32)
  | .durabilityTimeout i pseq => decide (i < 64) && decide (pseq < 2 ^ 32)
  | .peerLost i => decide (i < 64)
  | .peerJoin i _ => decide (i < 64)
  | .peerLeave i _ => decide (i < 64)
  | .leaveEnd i => decide (i < 64)
  | .ptpAnnounce p _ => decide (p < 2)
  | .ptpSync p _ => decide (p < 2)
  | .ptpFollowUp p _ => decide (p < 2)
  | .ptpDelayReq p _ => decide (p < 2)
  | .ptpDelayResp p _ => decide (p < 2)
  | .syncTimeout p => decide (p < 2)
  | .faultClear src _ => decide (src < 129)
  | .fenceWrite src _ => decide (src < 129)
  | .injectRecord ag src _ => agentOk ag && decide (src < 129)
  | .injectReact ag src _ => agentOk ag && decide (src < 129)
  | .injectRaise ag src _ => agentOk ag && decide (src < 129)
  | .atticRecordStore => true
  | .atticNote _ => true
  | .claim ag k _ => agentOk ag && decide (k < 4)
  | .claimRelease ag k _ => agentOk ag && decide (k < 4)
  | .obsSelect k _ => decide (k < 8)
  | .transmitFrameStart n => decide (n < 16)
  | .hostLinkUp p l gen width _ => decide (p < 2) && decide (l < 2) && decide (gen < 8) && decide (width ≤ 16)
  | .peerPortUp p => decide (p < 2)
  | .completionTimeout ch => decide (ch < 64)
  | .tokenRefused => true
  | .testReset => true
  | .tapInstruction ir => decide (ir < 16)
  | .chainClockReturn => true
  | .servoEngineDisable a _ => decide (a < 32)
  | .syncInterval p => decide (p < 2)
  | .refresh c => decide (c < 8)
  | .createIoQueue p slot => decide (p < 2) && decide (slot < 4096)
  | .deleteIoQueue p slot => decide (p < 2) && decide (slot < 4096)
  | .asynchronousEventRequest p slot => decide (p < 2) && decide (slot < 4096)

end Sys2Proof
end

