-- ==== Sys2Proof/Config.lean ====
section
/-!
DEFINITION. What the spec leaves open: constants without a body, so that no proof can see their values.
-/

namespace Sys2Proof.Config

/-- The source of fresh free values: the step applies it to the counter `State.freeCtr` (log entry 2). -/
opaque freeNat : Nat → Nat

/-- SHA-384 of a byte string, a published standard that the spec does not restate (R410, R440, R445). -/
opaque sha384 : List Byte → List Byte

/-- ECDSA P-384 verification: key, digest, signature (R410, R440, R445; FIPS 186-5). -/
opaque ecdsaP384 : List Byte → List Byte → List Byte → Bool

/-- The fused hash of the Streltan key (R411, R442): fixed in every part, not printed in the spec. -/
opaque streltanHash : List Byte

/-- AES-256 of one 16-byte block under a 32-byte key, and its inverse (R339; FIPS 197). -/
opaque aes256 : List Byte → List Byte → List Byte
opaque aes256Inv : List Byte → List Byte → List Byte

/-- Where a rule gives a value a step (a register format) and no rounding: whether the value, which lies
between two steps, goes up. The first argument numbers the place, the second is the value in steps. -/
opaque roundUp : Nat → Rat → Bool

/-- Coefficient of the interpolator: phase of 64, tap of 8 (R78: fixed, not printed). -/
opaque interp : Nat → Nat → Rat

/-- The table value of the natural logarithm of a weight W in Q4.4 (R87: fixed, not printed). -/
opaque lnTable : Nat → Rat

/-- The argument of a complex number (real part, imaginary part) in quarter turns (R83: no accuracy stated). -/
opaque argQuarter : Rat → Rat → Rat

/-- D_ff with no bus voltage reported yet, by KE and speed: the quotient of R247 does not exist at VBUS 0. -/
opaque dutyNoBus : Nat → Rat → Rat

/-- The relative speed error with a reference speed of zero, where the quotient of R247 does not exist. -/
opaque errNoRef : Rat → Rat

/-- The running mean of R246 after one more value: the old mean and the value (its weight is not stated). -/
opaque meanStep : Rat → Rat → Rat

/-- PFB_CAPS as a HELLO carries it: its content is not stated (R458). -/
opaque peerCaps : Nat

/-- The clockIdentity that the serial number gives (R469: the mapping is not stated). -/
opaque clockIdentity : List Byte → Nat

/-- The fused PCI identities: Vendor ID, Subsystem Vendor ID (R357, R365). -/
opaque fusedVid : Nat
opaque fusedSsvid : Nat

end Sys2Proof.Config
end

