-- ==== Sys2Proof/Machine/Registers.lean ====
section
/-!
DEFINITION. The registers of BAR2 (R6, R540): where each lies, its fields, its access masks (R8) and its
value at reset, written from the register tables of the spec, block by block. A register is one home for
what it reports: status fields that hardware updates are written in place.
-/

namespace Sys2Proof.Machine

/-- Where a register lies: instance `i`, entry `j` is at `base + i * stride + off + j * step` (R6). -/
structure Reg where
  base : Nat
  stride : Nat
  off : Nat
  step : Nat
  deriving DecidableEq, Repr

/-- The BAR2 address of entry `j` of instance `i` (R6). -/
def Reg.addr (r : Reg) (i j : Nat) : Nat := r.base + i * r.stride + r.off + j * r.step

/-- A bit field of a register, highest bit first (R7). -/
structure Fld where
  reg : Reg
  hi : Nat
  lo : Nat
  deriving DecidableEq, Repr

/-- One row of a register table: offset, entries, and the masks of R8. Bits in no mask are read-only. -/
structure RegDef where
  off : Nat
  count : Nat
  step : Nat
  reset : Nat
  rw : Nat
  w1c : Nat
  w1s : Nat
  wo : Nat
  rc : Nat
  deriving DecidableEq, Repr

/-- One block of the address map (R540), with its instance counts on the two variants (R2). -/
structure BlockDef where
  base : Nat
  stride : Nat
  n16 : Nat
  n08 : Nat
  regs : List RegDef
  deriving DecidableEq, Repr

namespace Reg

/-! GLB (R447) -/
def GLB_ID : Reg := ⟨0x00000000, 0, 0x000, 0⟩
def GLB_ID_MAJOR : Fld := ⟨GLB_ID, 31, 24⟩
def GLB_ID_MINOR : Fld := ⟨GLB_ID, 23, 16⟩
def GLB_ID_VARIANT : Fld := ⟨GLB_ID, 15, 0⟩
def GLB_MODE : Reg := ⟨0x00000000, 0, 0x004, 0⟩
def GLB_MODE_SVC_REQ : Fld := ⟨GLB_MODE, 31, 31⟩
def GLB_MODE_REFUSE : Fld := ⟨GLB_MODE, 27, 24⟩
def GLB_MODE_WIPING : Fld := ⟨GLB_MODE, 3, 3⟩
def GLB_MODE_MODE : Fld := ⟨GLB_MODE, 2, 0⟩
def GLB_RST : Reg := ⟨0x00000000, 0, 0x008, 0⟩
def GLB_RST_KEY : Fld := ⟨GLB_RST, 31, 16⟩
def GLB_RST_BUSY : Fld := ⟨GLB_RST, 1, 1⟩
def GLB_RST_DEVICE : Fld := ⟨GLB_RST, 0, 0⟩
def GLB_BOOT : Reg := ⟨0x00000000, 0, 0x00C, 0⟩
def GLB_BOOT_SLOT : Fld := ⟨GLB_BOOT, 8, 8⟩
def GLB_BOOT_RESULT : Fld := ⟨GLB_BOOT, 3, 0⟩
def GLB_BOOTVER : Reg := ⟨0x00000000, 0, 0x010, 0⟩
def GLB_FSUM : Reg := ⟨0x00000000, 0, 0x020, 4⟩
def GLB_CLAIM : Reg := ⟨0x00000000, 0, 0x040, 4⟩
def GLB_CLAIM_GO : Fld := ⟨GLB_CLAIM, 31, 31⟩
def GLB_CLAIM_RESULT : Fld := ⟨GLB_CLAIM, 30, 28⟩
def GLB_CLAIM_OP : Fld := ⟨GLB_CLAIM, 27, 27⟩
def GLB_CLAIM_FORCE : Fld := ⟨GLB_CLAIM, 26, 26⟩
def GLB_CLAIM_TYPE : Fld := ⟨GLB_CLAIM, 23, 20⟩
def GLB_CLAIM_INDEX : Fld := ⟨GLB_CLAIM, 8, 0⟩
def GLB_CLAIMT : Reg := ⟨0x00000000, 0, 0x080, 4⟩
def GLB_CLAIMT_VALID : Fld := ⟨GLB_CLAIMT, 31, 31⟩
def GLB_CLAIMT_AGENT : Fld := ⟨GLB_CLAIMT, 30, 29⟩
def GLB_CLAIMT_TYPE : Fld := ⟨GLB_CLAIMT, 23, 20⟩
def GLB_CLAIMT_INDEX : Fld := ⟨GLB_CLAIMT, 8, 0⟩
def GLB_TEMP : Reg := ⟨0x00000000, 0, 0x100, 0⟩
def GLB_TEMP_PEAK : Fld := ⟨GLB_TEMP, 24, 16⟩
def GLB_TEMP_COMP : Fld := ⟨GLB_TEMP, 8, 0⟩
/-! CLK (R448) -/
def CLK_REF_CTRL : Reg := ⟨0x00010000, 0, 0x000, 0⟩
def CLK_REF_CTRL_SEL : Fld := ⟨CLK_REF_CTRL, 5, 4⟩
def CLK_REF_CTRL_AUTOSW : Fld := ⟨CLK_REF_CTRL, 0, 0⟩
def CLK_REF_STAT : Reg := ⟨0x00010000, 0, 0x004, 0⟩
def CLK_REF_STAT_SAFE : Fld := ⟨CLK_REF_STAT, 15, 15⟩
def CLK_REF_STAT_HOLD : Fld := ⟨CLK_REF_STAT, 14, 14⟩
def CLK_REF_STAT_FORCED : Fld := ⟨CLK_REF_STAT, 13, 13⟩
def CLK_REF_STAT_SEL_REFUSED : Fld := ⟨CLK_REF_STAT, 12, 12⟩
def CLK_REF_STAT_GOOD : Fld := ⟨CLK_REF_STAT, 10, 8⟩
def CLK_REF_STAT_ACTIVE : Fld := ⟨CLK_REF_STAT, 5, 4⟩
def CLK_PLL_STAT : Reg := ⟨0x00010000, 0, 0x008, 0⟩
def CLK_PLL_STAT_LOCKED : Fld := ⟨CLK_PLL_STAT, 6, 0⟩
def CLK_HOLD_MS : Reg := ⟨0x00010000, 0, 0x00C, 0⟩
def CLK_HOLD_MS_MS : Fld := ⟨CLK_HOLD_MS, 15, 0⟩
def CLK_HK_STAT : Reg := ⟨0x00010000, 0, 0x010, 0⟩
def CLK_HK_STAT_SRC : Fld := ⟨CLK_HK_STAT, 1, 1⟩
def CLK_HK_STAT_FORCED : Fld := ⟨CLK_HK_STAT, 0, 0⟩
def CLK_GATE : Reg := ⟨0x00010000, 0, 0x020, 0⟩
def CLK_GATE_GO : Fld := ⟨CLK_GATE, 31, 31⟩
def CLK_GATE_RESULT : Fld := ⟨CLK_GATE, 30, 28⟩
def CLK_GATE_OP : Fld := ⟨CLK_GATE, 24, 24⟩
def CLK_GATE_TYPE : Fld := ⟨CLK_GATE, 18, 16⟩
def CLK_GATE_INDEX : Fld := ⟨CLK_GATE, 5, 0⟩
/-! PRC (R473) -/
def PRC_STAT : Reg := ⟨0x00020000, 0, 0x000, 0⟩
def PRC_STAT_ADDR : Fld := ⟨PRC_STAT, 31, 16⟩
def PRC_STAT_ADDR_VALID : Fld := ⟨PRC_STAT, 15, 15⟩
def PRC_STAT_RAILS : Fld := ⟨PRC_STAT, 10, 10⟩
def PRC_STAT_HK_SRC : Fld := ⟨PRC_STAT, 9, 9⟩
def PRC_STAT_LC : Fld := ⟨PRC_STAT, 7, 4⟩
def PRC_STAT_MODE : Fld := ⟨PRC_STAT, 2, 0⟩
def PRC_CHAIN : Reg := ⟨0x00020000, 0, 0x004, 0⟩
def PRC_CHAIN_WREN : Fld := ⟨PRC_CHAIN, 0, 0⟩
def PRC_CNT_RX : Reg := ⟨0x00020000, 0, 0x010, 0⟩
def PRC_CNT_CRC : Reg := ⟨0x00020000, 0, 0x014, 0⟩
def PRC_CNT_REF : Reg := ⟨0x00020000, 0, 0x018, 0⟩
def PRC_CNT_TRIP : Reg := ⟨0x00020000, 0, 0x01C, 0⟩
/-! ATC (R498) -/
def ATC_CTRL : Reg := ⟨0x00030000, 0, 0x000, 0⟩
def ATC_CTRL_CORR_EN : Fld := ⟨ATC_CTRL, 0, 0⟩
def ATC_TRIG_EN : Reg := ⟨0x00030000, 0, 0x004, 0⟩
def ATC_TRIG_EN_EN : Fld := ⟨ATC_TRIG_EN, 31, 2⟩
def ATC_TRIG_EN_FIXED : Fld := ⟨ATC_TRIG_EN, 1, 0⟩
def ATC_WSEQ : Reg := ⟨0x00030000, 0, 0x008, 0⟩
def ATC_OSEQ : Reg := ⟨0x00030000, 0, 0x00C, 0⟩
def ATC_NOTE : Reg := ⟨0x00030000, 0, 0x010, 0⟩
def ATC_CNT_DROP : Reg := ⟨0x00030000, 0, 0x020, 0⟩
def ATC_CNT_REP : Reg := ⟨0x00030000, 0, 0x024, 0⟩
/-! HLK (R66) -/
def HLK_CTRL : Reg := ⟨0x00100000, 0x1000, 0x000, 0⟩
def HLK_CTRL_TXEQ : Fld := ⟨HLK_CTRL, 15, 12⟩
def HLK_CTRL_FORCE_SAFE : Fld := ⟨HLK_CTRL, 2, 2⟩
def HLK_CTRL_TRAIN : Fld := ⟨HLK_CTRL, 1, 1⟩
def HLK_CTRL_EN : Fld := ⟨HLK_CTRL, 0, 0⟩
def HLK_STAT : Reg := ⟨0x00100000, 0x1000, 0x004, 0⟩
def HLK_STAT_RX_LANES : Fld := ⟨HLK_STAT, 23, 16⟩
def HLK_STAT_TX_LANES : Fld := ⟨HLK_STAT, 15, 8⟩
def HLK_STAT_PRESENT : Fld := ⟨HLK_STAT, 7, 7⟩
def HLK_STAT_PARKED : Fld := ⟨HLK_STAT, 6, 6⟩
def HLK_STAT_SAFE : Fld := ⟨HLK_STAT, 5, 5⟩
def HLK_STAT_LINK_STATE : Fld := ⟨HLK_STAT, 3, 0⟩
def HLK_LANE : Reg := ⟨0x00100000, 0x1000, 0x008, 0⟩
def HLK_LANE_RESULT : Fld := ⟨HLK_LANE, 15, 8⟩
def HLK_LANE_GO : Fld := ⟨HLK_LANE, 4, 4⟩
def HLK_LANE_DIR : Fld := ⟨HLK_LANE, 3, 3⟩
def HLK_LANE_LANE : Fld := ⟨HLK_LANE, 2, 0⟩
def HLK_RETRAIN_TH : Reg := ⟨0x00100000, 0x1000, 0x00C, 0⟩
def HLK_CNT_BAD : Reg := ⟨0x00100000, 0x1000, 0x010, 0⟩
def HLK_CNT_GAP : Reg := ⟨0x00100000, 0x1000, 0x014, 0⟩
def HLK_CNT_RETRY : Reg := ⟨0x00100000, 0x1000, 0x018, 0⟩
def HLK_CNT_BLK : Reg := ⟨0x00100000, 0x1000, 0x01C, 0⟩
def HLK_LSTAT : Reg := ⟨0x00100000, 0x1000, 0x100, 0x20⟩
def HLK_LSTAT_CORR : Fld := ⟨HLK_LSTAT, 31, 16⟩
def HLK_LSTAT_UNC : Fld := ⟨HLK_LSTAT, 15, 8⟩
/-! RCH (R100) -/
def RCH_CTRL : Reg := ⟨0x00200000, 0x400, 0x000, 0⟩
def RCH_CTRL_ADAPT_ASYM : Fld := ⟨RCH_CTRL, 4, 4⟩
def RCH_CTRL_ADAPT_OFS : Fld := ⟨RCH_CTRL, 3, 3⟩
def RCH_CTRL_ADAPT_GAIN : Fld := ⟨RCH_CTRL, 2, 2⟩
def RCH_CTRL_ADAPT_FIR : Fld := ⟨RCH_CTRL, 1, 1⟩
def RCH_CTRL_EN : Fld := ⟨RCH_CTRL, 0, 0⟩
def RCH_STAT : Reg := ⟨0x00200000, 0x400, 0x004, 0⟩
def RCH_STAT_LAST_STATUS : Fld := ⟨RCH_STAT, 23, 16⟩
def RCH_STAT_QUEUED : Fld := ⟨RCH_STAT, 10, 8⟩
def RCH_STAT_BANK1_VALID : Fld := ⟨RCH_STAT, 5, 5⟩
def RCH_STAT_BANK0_VALID : Fld := ⟨RCH_STAT, 4, 4⟩
def RCH_STAT_REPLAY : Fld := ⟨RCH_STAT, 1, 1⟩
def RCH_STAT_LIVE : Fld := ⟨RCH_STAT, 0, 0⟩
def RCH_LOAD : Reg := ⟨0x00200000, 0x400, 0x008, 0⟩
def RCH_LOAD_GO : Fld := ⟨RCH_LOAD, 31, 31⟩
def RCH_LOAD_RESULT : Fld := ⟨RCH_LOAD, 30, 28⟩
def RCH_LOAD_BANK : Fld := ⟨RCH_LOAD, 17, 17⟩
def RCH_LOAD_READER : Fld := ⟨RCH_LOAD, 16, 16⟩
def RCH_LOAD_BAND : Fld := ⟨RCH_LOAD, 15, 15⟩
def RCH_LOAD_ZONE : Fld := ⟨RCH_LOAD, 7, 0⟩
def RCH_TRG_ACQ : Reg := ⟨0x00200000, 0x400, 0x010, 0⟩
def RCH_TRG_ACQ_KP_M : Fld := ⟨RCH_TRG_ACQ, 15, 12⟩
def RCH_TRG_ACQ_KP_E : Fld := ⟨RCH_TRG_ACQ, 11, 8⟩
def RCH_TRG_ACQ_KI_M : Fld := ⟨RCH_TRG_ACQ, 7, 4⟩
def RCH_TRG_ACQ_KI_E : Fld := ⟨RCH_TRG_ACQ, 3, 0⟩
def RCH_TRG_SET : Reg := ⟨0x00200000, 0x400, 0x014, 0⟩
def RCH_TRG_SET_KP_M : Fld := ⟨RCH_TRG_SET, 15, 12⟩
def RCH_TRG_SET_KP_E : Fld := ⟨RCH_TRG_SET, 11, 8⟩
def RCH_TRG_SET_KI_M : Fld := ⟨RCH_TRG_SET, 7, 4⟩
def RCH_TRG_SET_KI_E : Fld := ⟨RCH_TRG_SET, 3, 0⟩
def RCH_TRG_TRK : Reg := ⟨0x00200000, 0x400, 0x018, 0⟩
def RCH_TRG_TRK_KP_M : Fld := ⟨RCH_TRG_TRK, 15, 12⟩
def RCH_TRG_TRK_KP_E : Fld := ⟨RCH_TRG_TRK, 11, 8⟩
def RCH_TRG_TRK_KI_M : Fld := ⟨RCH_TRG_TRK, 7, 4⟩
def RCH_TRG_TRK_KI_E : Fld := ⟨RCH_TRG_TRK, 3, 0⟩
def RCH_PHASE : Reg := ⟨0x00200000, 0x400, 0x01C, 0⟩
def RCH_PHASE_ACQ_LEN : Fld := ⟨RCH_PHASE, 15, 8⟩
def RCH_PHASE_ZPS_LEN : Fld := ⟨RCH_PHASE, 7, 0⟩
def RCH_LOOPG : Reg := ⟨0x00200000, 0x400, 0x020, 0⟩
def RCH_LOOPG_KG_E : Fld := ⟨RCH_LOOPG, 23, 20⟩
def RCH_LOOPG_KO_E : Fld := ⟨RCH_LOOPG, 19, 16⟩
def RCH_LOOPG_KA_E : Fld := ⟨RCH_LOOPG, 15, 12⟩
def RCH_LOOPG_MU_E : Fld := ⟨RCH_LOOPG, 11, 8⟩
def RCH_RHO : Reg := ⟨0x00200000, 0x400, 0x040, 0⟩
def RCH_RHO_RHO : Fld := ⟨RCH_RHO, 27, 0⟩
def RCH_FREQ : Reg := ⟨0x00200000, 0x400, 0x044, 0⟩
def RCH_FREQ_F : Fld := ⟨RCH_FREQ, 23, 0⟩
def RCH_GOA : Reg := ⟨0x00200000, 0x400, 0x048, 0⟩
def RCH_GOA_G : Fld := ⟨RCH_GOA, 31, 20⟩
def RCH_GOA_O : Fld := ⟨RCH_GOA, 19, 8⟩
def RCH_ASY : Reg := ⟨0x00200000, 0x400, 0x04C, 0⟩
def RCH_ASY_ALPHA : Fld := ⟨RCH_ASY, 31, 20⟩
def RCH_FIR_END : Reg := ⟨0x00200000, 0x400, 0x060, 4⟩
def RCH_CAND : Reg := ⟨0x00200000, 0x400, 0x0C0, 4⟩
def RCH_CAND_OFFSET : Fld := ⟨RCH_CAND, 31, 24⟩
def RCH_CAND_M : Fld := ⟨RCH_CAND, 15, 0⟩
def RCH_CNT_CLIP : Reg := ⟨0x00200000, 0x400, 0x100, 0⟩
def RCH_CNT_NOSYNC : Reg := ⟨0x00200000, 0x400, 0x104, 0⟩
def RCH_CNT_GAP : Reg := ⟨0x00200000, 0x400, 0x108, 0⟩
def RCH_CNT_LIM : Reg := ⟨0x00200000, 0x400, 0x10C, 0⟩
/-! RCHB (R100) -/
def RCHB_TBL_BASE_LO : Reg := ⟨0x002F0000, 0, 0x000, 0⟩
def RCHB_TBL_BASE_LO_ADDR : Fld := ⟨RCHB_TBL_BASE_LO, 31, 7⟩
def RCHB_TBL_BASE_HI : Reg := ⟨0x002F0000, 0, 0x004, 0⟩
def RCHB_TBL_BASE_HI_ADDR : Fld := ⟨RCHB_TBL_BASE_HI, 7, 0⟩
def RCHB_SYNC_LO : Reg := ⟨0x002F0000, 0, 0x008, 0⟩
def RCHB_SYNC_HI : Reg := ⟨0x002F0000, 0, 0x00C, 0⟩
def RCHB_SYNC_HI_MARK : Fld := ⟨RCHB_SYNC_HI, 15, 0⟩
/-! DEC (R133) -/
def DEC_CTRL : Reg := ⟨0x00300000, 0, 0x000, 0⟩
def DEC_CTRL_STD_ITER : Fld := ⟨DEC_CTRL, 21, 16⟩
def DEC_CTRL_STALL_ITER : Fld := ⟨DEC_CTRL, 13, 8⟩
def DEC_CTRL_OFS : Fld := ⟨DEC_CTRL, 7, 4⟩
def DEC_CTRL_EN : Fld := ⟨DEC_CTRL, 0, 0⟩
def DEC_STAT : Reg := ⟨0x00300000, 0, 0x004, 0⟩
def DEC_STAT_QUEUE : Fld := ⟨DEC_STAT, 26, 16⟩
def DEC_STAT_EXT : Fld := ⟨DEC_STAT, 13, 7⟩
def DEC_STAT_BUSY : Fld := ⟨DEC_STAT, 6, 0⟩
def DEC_CAP : Reg := ⟨0x00300000, 0, 0x008, 0⟩
def DEC_CAP_DCRED : Fld := ⟨DEC_CAP, 31, 21⟩
def DEC_CAP_LCRED : Fld := ⟨DEC_CAP, 20, 11⟩
def DEC_CAP_NDEC : Fld := ⟨DEC_CAP, 6, 0⟩
def DEC_EXT_CAP : Reg := ⟨0x00300000, 0, 0x00C, 0⟩
def DEC_EXT_CAP_CAP : Fld := ⟨DEC_EXT_CAP, 6, 0⟩
def DEC_DFENCE : Reg := ⟨0x00300000, 0, 0x010, 4⟩
def DEC_DFAULT : Reg := ⟨0x00300000, 0, 0x018, 4⟩
def DEC_CNT_CW : Reg := ⟨0x00300000, 0, 0x040, 0⟩
def DEC_CNT_ITER : Reg := ⟨0x00300000, 0, 0x044, 0⟩
def DEC_CNT_NOCONV : Reg := ⟨0x00300000, 0, 0x048, 0⟩
def DEC_CNT_CRC : Reg := ⟨0x00300000, 0, 0x04C, 0⟩
def DEC_CNT_TAG : Reg := ⟨0x00300000, 0, 0x050, 0⟩
def DEC_CNT_PARK : Reg := ⟨0x00300000, 0, 0x054, 0⟩
def DEC_CNT_REISSUE : Reg := ⟨0x00300000, 0, 0x058, 0⟩
def DEC_WR_TBL_BASE_LO : Reg := ⟨0x00300000, 0, 0x080, 0⟩
def DEC_WR_TBL_BASE_LO_ADDR_LO : Fld := ⟨DEC_WR_TBL_BASE_LO, 31, 4⟩
def DEC_WR_TBL_BASE_HI : Reg := ⟨0x00300000, 0, 0x084, 0⟩
def DEC_WR_TBL_BASE_HI_ADDR_HI : Fld := ⟨DEC_WR_TBL_BASE_HI, 7, 0⟩
def DEC_CNT_ENC : Reg := ⟨0x00300000, 0, 0x088, 0⟩
def DEC_CNT_VFAIL : Reg := ⟨0x00300000, 0, 0x08C, 0⟩
def DEC_CNT_VLATE : Reg := ⟨0x00300000, 0, 0x090, 0⟩
def DEC_CNT_RFWD : Reg := ⟨0x00300000, 0, 0x094, 0⟩
/-! SRV (R212) -/
def SRV_CTRL : Reg := ⟨0x00400000, 0x1000, 0x000, 0⟩
def SRV_CTRL_UNLOAD : Fld := ⟨SRV_CTRL, 2, 2⟩
def SRV_CTRL_LOAD : Fld := ⟨SRV_CTRL, 1, 1⟩
def SRV_CTRL_EN : Fld := ⟨SRV_CTRL, 0, 0⟩
def SRV_STAT : Reg := ⟨0x00400000, 0x1000, 0x004, 0⟩
def SRV_STAT_INH : Fld := ⟨SRV_STAT, 27, 18⟩
def SRV_STAT_VALID : Fld := ⟨SRV_STAT, 17, 8⟩
def SRV_STAT_BANK : Fld := ⟨SRV_STAT, 7, 7⟩
def SRV_STAT_BAND : Fld := ⟨SRV_STAT, 6, 4⟩
def SRV_STAT_STATE : Fld := ⟨SRV_STAT, 3, 0⟩
def SRV_APPLY : Reg := ⟨0x00400000, 0x1000, 0x008, 0⟩
def SRV_APPLY_DELAY : Fld := ⟨SRV_APPLY, 12, 0⟩
def SRV_FIELD : Reg := ⟨0x00400000, 0x1000, 0x00C, 0⟩
def SRV_FIELD_WEDGE_SBP : Fld := ⟨SRV_FIELD, 31, 16⟩
def SRV_FIELD_WEDGES : Fld := ⟨SRV_FIELD, 15, 6⟩
def SRV_SAM : Reg := ⟨0x00400000, 0x1000, 0x010, 0⟩
def SRV_SAM_SKEW_MAX : Fld := ⟨SRV_SAM, 31, 24⟩
def SRV_SAM_SAM_ERR : Fld := ⟨SRV_SAM, 19, 16⟩
def SRV_SAM_PATTERN : Fld := ⟨SRV_SAM, 15, 0⟩
def SRV_THR1 : Reg := ⟨0x00400000, 0x1000, 0x014, 0⟩
def SRV_THR1_WI_TH : Fld := ⟨SRV_THR1, 31, 20⟩
def SRV_THR1_WR_TH : Fld := ⟨SRV_THR1, 19, 8⟩
def SRV_THR1_WR_N : Fld := ⟨SRV_THR1, 7, 4⟩
def SRV_THR1_RD_N : Fld := ⟨SRV_THR1, 3, 0⟩
def SRV_THR2 : Reg := ⟨0x00400000, 0x1000, 0x018, 0⟩
def SRV_THR2_RD_TH : Fld := ⟨SRV_THR2, 31, 20⟩
def SRV_THR2_FE_LIM : Fld := ⟨SRV_THR2, 19, 8⟩
def SRV_THR2_MISS_MAX : Fld := ⟨SRV_THR2, 7, 0⟩
def SRV_FE : Reg := ⟨0x00400000, 0x1000, 0x01C, 0⟩
def SRV_FE_FE_TIME : Fld := ⟨SRV_FE, 31, 16⟩
def SRV_FE_SEEK_MAX : Fld := ⟨SRV_FE, 15, 0⟩
def SRV_BAND0 : Reg := ⟨0x00400000, 0x1000, 0x020, 0⟩
def SRV_BAND0_E0 : Fld := ⟨SRV_BAND0, 31, 16⟩
def SRV_BAND0_E1 : Fld := ⟨SRV_BAND0, 15, 0⟩
def SRV_BAND1 : Reg := ⟨0x00400000, 0x1000, 0x024, 0⟩
def SRV_BAND1_E2 : Fld := ⟨SRV_BAND1, 31, 16⟩
def SRV_BAND1_E3 : Fld := ⟨SRV_BAND1, 15, 0⟩
def SRV_BAND2 : Reg := ⟨0x00400000, 0x1000, 0x028, 0⟩
def SRV_BAND2_E4 : Fld := ⟨SRV_BAND2, 31, 16⟩
def SRV_BAND2_E5 : Fld := ⟨SRV_BAND2, 15, 0⟩
def SRV_BAND3 : Reg := ⟨0x00400000, 0x1000, 0x02C, 0⟩
def SRV_BAND3_E6 : Fld := ⟨SRV_BAND3, 31, 16⟩
def SRV_BAND3_HYST : Fld := ⟨SRV_BAND3, 7, 0⟩
def SRV_LOAD : Reg := ⟨0x00400000, 0x1000, 0x030, 0⟩
def SRV_LOAD_GO : Fld := ⟨SRV_LOAD, 31, 31⟩
def SRV_LOAD_RESULT : Fld := ⟨SRV_LOAD, 30, 28⟩
def SRV_LOAD_BAND : Fld := ⟨SRV_LOAD, 19, 17⟩
def SRV_LOAD_MODE : Fld := ⟨SRV_LOAD, 16, 16⟩
def SRV_LOAD_VCM : Fld := ⟨SRV_LOAD, 11, 11⟩
def SRV_LOAD_SEEK : Fld := ⟨SRV_LOAD, 10, 10⟩
def SRV_LOAD_HEADS : Fld := ⟨SRV_LOAD, 9, 0⟩
def SRV_SET_BASE_LO : Reg := ⟨0x00400000, 0x1000, 0x034, 0⟩
def SRV_SET_BASE_LO_ADDR : Fld := ⟨SRV_SET_BASE_LO, 31, 12⟩
def SRV_SET_BASE_HI : Reg := ⟨0x00400000, 0x1000, 0x038, 0⟩
def SRV_SET_BASE_HI_ADDR : Fld := ⟨SRV_SET_BASE_HI, 7, 0⟩
def SRV_LOAD_ADDR_LO : Reg := ⟨0x00400000, 0x1000, 0x03C, 0⟩
def SRV_LOAD_ADDR_LO_ADDR : Fld := ⟨SRV_LOAD_ADDR_LO, 31, 12⟩
def SRV_LOAD_ADDR_HI : Reg := ⟨0x00400000, 0x1000, 0x040, 0⟩
def SRV_LOAD_ADDR_HI_ADDR : Fld := ⟨SRV_LOAD_ADDR_HI, 7, 0⟩
def SRV_PARK_CYL : Reg := ⟨0x00400000, 0x1000, 0x044, 0⟩
def SRV_PARK_CYL_CYL : Fld := ⟨SRV_PARK_CYL, 23, 0⟩
def SRV_CNT_HMISS : Reg := ⟨0x00400000, 0x1000, 0x050, 0⟩
def SRV_CNT_CMISS : Reg := ⟨0x00400000, 0x1000, 0x054, 0⟩
def SRV_CNT_INH : Reg := ⟨0x00400000, 0x1000, 0x058, 0⟩
def SRV_CNT_SAT : Reg := ⟨0x00400000, 0x1000, 0x05C, 0⟩
def SRV_CNT_GRAY : Reg := ⟨0x00400000, 0x1000, 0x060, 0⟩
def SRV_CNT_SEEKF : Reg := ⟨0x00400000, 0x1000, 0x064, 0⟩
def SRV_LPROF : Reg := ⟨0x00400000, 0x1000, 0x080, 4⟩
def SRV_LPROF_VCM : Fld := ⟨SRV_LPROF, 31, 16⟩
def SRV_LPROF_US : Fld := ⟨SRV_LPROF, 15, 0⟩
def SRV_UPROF : Reg := ⟨0x00400000, 0x1000, 0x090, 4⟩
def SRV_UPROF_VCM : Fld := ⟨SRV_UPROF, 31, 16⟩
def SRV_UPROF_US : Fld := ⟨SRV_UPROF, 15, 0⟩
def SRV_HPES : Reg := ⟨0x00400000, 0x1000, 0x100, 0x20⟩
def SRV_HPES_E : Fld := ⟨SRV_HPES, 31, 16⟩
def SRV_HPES_EPS : Fld := ⟨SRV_HPES, 15, 0⟩
def SRV_HMA : Reg := ⟨0x00400000, 0x1000, 0x104, 0x20⟩
def SRV_HMA_MA : Fld := ⟨SRV_HMA, 15, 0⟩
def SRV_HBIAS : Reg := ⟨0x00400000, 0x1000, 0x108, 0x20⟩
def SRV_HBIAS_B : Fld := ⟨SRV_HBIAS, 15, 0⟩
def SRV_HSKEW : Reg := ⟨0x00400000, 0x1000, 0x10C, 0x20⟩
def SRV_HSKEW_S : Fld := ⟨SRV_HSKEW, 23, 0⟩
def SRV_HFLAG : Reg := ⟨0x00400000, 0x1000, 0x110, 0x20⟩
def SRV_HFLAG_OFS : Fld := ⟨SRV_HFLAG, 15, 8⟩
def SRV_HFLAG_VALID : Fld := ⟨SRV_HFLAG, 7, 7⟩
def SRV_HFLAG_SAT : Fld := ⟨SRV_HFLAG, 6, 6⟩
def SRV_HFLAG_REACH_LOST : Fld := ⟨SRV_HFLAG, 5, 5⟩
def SRV_HFLAG_READ_READY : Fld := ⟨SRV_HFLAG, 4, 4⟩
def SRV_HFLAG_WRITE_READY : Fld := ⟨SRV_HFLAG, 3, 3⟩
def SRV_HFLAG_INH : Fld := ⟨SRV_HFLAG, 2, 2⟩
def SRV_HFLAG_FF : Fld := ⟨SRV_HFLAG, 1, 1⟩
def SRV_INJ_CTRL : Reg := ⟨0x00400000, 0x1000, 0x400, 0⟩
def SRV_INJ_CTRL_GO : Fld := ⟨SRV_INJ_CTRL, 31, 31⟩
def SRV_INJ_CTRL_RESULT : Fld := ⟨SRV_INJ_CTRL, 30, 28⟩
def SRV_INJ_CTRL_STOP : Fld := ⟨SRV_INJ_CTRL, 27, 27⟩
def SRV_INJ_CTRL_POINT : Fld := ⟨SRV_INJ_CTRL, 23, 20⟩
def SRV_INJ_CTRL_HEAD : Fld := ⟨SRV_INJ_CTRL, 19, 16⟩
def SRV_INJ_CTRL_SIGNAL : Fld := ⟨SRV_INJ_CTRL, 15, 14⟩
def SRV_INJ_AMP : Reg := ⟨0x00400000, 0x1000, 0x404, 0⟩
def SRV_INJ_AMP_GUARD : Fld := ⟨SRV_INJ_AMP, 31, 16⟩
def SRV_INJ_AMP_AMP : Fld := ⟨SRV_INJ_AMP, 15, 0⟩
def SRV_INJ_FREQ : Reg := ⟨0x00400000, 0x1000, 0x408, 0⟩
def SRV_INJ_FREQ_INC_END : Fld := ⟨SRV_INJ_FREQ, 31, 16⟩
def SRV_INJ_FREQ_INC_START : Fld := ⟨SRV_INJ_FREQ, 15, 0⟩
def SRV_INJ_STEP : Reg := ⟨0x00400000, 0x1000, 0x40C, 0⟩
def SRV_INJ_STEP_INC_STEP : Fld := ⟨SRV_INJ_STEP, 31, 16⟩
def SRV_INJ_STEP_SETTLE : Fld := ⟨SRV_INJ_STEP, 15, 8⟩
def SRV_INJ_STEP_HOLD : Fld := ⟨SRV_INJ_STEP, 7, 0⟩
def SRV_INJ_DWELL : Reg := ⟨0x00400000, 0x1000, 0x410, 0⟩
def SRV_INJ_DWELL_DWELL : Fld := ⟨SRV_INJ_DWELL, 15, 0⟩
def SRV_INJ_STAT : Reg := ⟨0x00400000, 0x1000, 0x414, 0⟩
def SRV_INJ_STAT_STEP : Fld := ⟨SRV_INJ_STAT, 31, 16⟩
def SRV_INJ_STAT_WEDGES : Fld := ⟨SRV_INJ_STAT, 15, 0⟩
def SRV_CAP_CTRL : Reg := ⟨0x00400000, 0x1000, 0x420, 0⟩
def SRV_CAP_CTRL_ARM : Fld := ⟨SRV_CAP_CTRL, 31, 31⟩
def SRV_CAP_CTRL_STATE : Fld := ⟨SRV_CAP_CTRL, 30, 28⟩
def SRV_CAP_CTRL_TRIG : Fld := ⟨SRV_CAP_CTRL, 27, 26⟩
def SRV_CAP_CTRL_WNUM : Fld := ⟨SRV_CAP_CTRL, 25, 16⟩
def SRV_CAP_CTRL_LEN : Fld := ⟨SRV_CAP_CTRL, 15, 0⟩
def SRV_CAP_SEL : Reg := ⟨0x00400000, 0x1000, 0x424, 0⟩
def SRV_CAP_SEL_CH3 : Fld := ⟨SRV_CAP_SEL, 31, 24⟩
def SRV_CAP_SEL_CH2 : Fld := ⟨SRV_CAP_SEL, 23, 16⟩
def SRV_CAP_SEL_CH1 : Fld := ⟨SRV_CAP_SEL, 15, 8⟩
def SRV_CAP_SEL_CH0 : Fld := ⟨SRV_CAP_SEL, 7, 0⟩
def SRV_CAP_ADDR_LO : Reg := ⟨0x00400000, 0x1000, 0x428, 0⟩
def SRV_CAP_ADDR_LO_ADDR : Fld := ⟨SRV_CAP_ADDR_LO, 31, 3⟩
def SRV_CAP_ADDR_HI : Reg := ⟨0x00400000, 0x1000, 0x42C, 0⟩
def SRV_CAP_ADDR_HI_ADDR : Fld := ⟨SRV_CAP_ADDR_HI, 7, 0⟩
def SRV_CORR_ADDR_LO : Reg := ⟨0x00400000, 0x1000, 0x430, 0⟩
def SRV_CORR_ADDR_LO_ADDR : Fld := ⟨SRV_CORR_ADDR_LO, 31, 6⟩
def SRV_CORR_ADDR_HI : Reg := ⟨0x00400000, 0x1000, 0x434, 0⟩
def SRV_CORR_ADDR_HI_ADDR : Fld := ⟨SRV_CORR_ADDR_HI, 7, 0⟩
def SRV_CAP_W0 : Reg := ⟨0x00400000, 0x1000, 0x438, 0⟩
def SRV_CAP_W0_RECS : Fld := ⟨SRV_CAP_W0, 31, 16⟩
def SRV_CAP_W0_WNUM : Fld := ⟨SRV_CAP_W0, 9, 0⟩
def SRV_CAP_TB : Reg := ⟨0x00400000, 0x1000, 0x43C, 0⟩
/-! SPN (R256) -/
def SPN_CTRL : Reg := ⟨0x00500000, 0x800, 0x000, 0⟩
def SPN_CTRL_RESYNC : Fld := ⟨SPN_CTRL, 5, 5⟩
def SPN_CTRL_PHLOCK : Fld := ⟨SPN_CTRL, 4, 4⟩
def SPN_CTRL_BRAKE : Fld := ⟨SPN_CTRL, 3, 3⟩
def SPN_CTRL_STOP : Fld := ⟨SPN_CTRL, 2, 2⟩
def SPN_CTRL_START : Fld := ⟨SPN_CTRL, 1, 1⟩
def SPN_CTRL_EN : Fld := ⟨SPN_CTRL, 0, 0⟩
def SPN_STAT : Reg := ⟨0x00500000, 0x800, 0x004, 0⟩
def SPN_STAT_SRC : Fld := ⟨SPN_STAT, 15, 15⟩
def SPN_STAT_CLAMP : Fld := ⟨SPN_STAT, 14, 14⟩
def SPN_STAT_PROT : Fld := ⟨SPN_STAT, 13, 13⟩
def SPN_STAT_RAMP : Fld := ⟨SPN_STAT, 12, 12⟩
def SPN_STAT_AT_LATE : Fld := ⟨SPN_STAT, 11, 11⟩
def SPN_STAT_PHASE : Fld := ⟨SPN_STAT, 10, 8⟩
def SPN_STAT_LOCK : Fld := ⟨SPN_STAT, 5, 4⟩
def SPN_STAT_HDA_STATE : Fld := ⟨SPN_STAT, 3, 0⟩
def SPN_TARGET : Reg := ⟨0x00500000, 0x800, 0x008, 0⟩
def SPN_TARGET_EPOCH : Fld := ⟨SPN_TARGET, 31, 16⟩
def SPN_TARGET_AT : Fld := ⟨SPN_TARGET, 15, 15⟩
def SPN_TARGET_K : Fld := ⟨SPN_TARGET, 6, 0⟩
def SPN_PHASE : Reg := ⟨0x00500000, 0x800, 0x00C, 0⟩
def SPN_PHASE_OFFSET : Fld := ⟨SPN_PHASE, 31, 16⟩
def SPN_PHASE_KPH_E : Fld := ⟨SPN_PHASE, 15, 12⟩
def SPN_PHASE_LOCK_WIN : Fld := ⟨SPN_PHASE, 11, 0⟩
def SPN_RAMP_LD : Reg := ⟨0x00500000, 0x800, 0x010, 0⟩
def SPN_RAMP_LD_INC : Fld := ⟨SPN_RAMP_LD, 23, 0⟩
def SPN_RAMP_UL : Reg := ⟨0x00500000, 0x800, 0x014, 0⟩
def SPN_RAMP_UL_INC : Fld := ⟨SPN_RAMP_UL, 23, 0⟩
def SPN_PWM : Reg := ⟨0x00500000, 0x800, 0x018, 0⟩
def SPN_PWM_PERIOD : Fld := ⟨SPN_PWM, 31, 16⟩
def SPN_PWM_MIN_ON : Fld := ⟨SPN_PWM, 15, 0⟩
def SPN_MOTOR : Reg := ⟨0x00500000, 0x800, 0x01C, 0⟩
def SPN_MOTOR_PP : Fld := ⟨SPN_MOTOR, 31, 28⟩
def SPN_MOTOR_KE : Fld := ⟨SPN_MOTOR, 15, 0⟩
def SPN_COMM : Reg := ⟨0x00500000, 0x800, 0x020, 0⟩
def SPN_COMM_ADV : Fld := ⟨SPN_COMM, 31, 24⟩
def SPN_COMM_BLANK_PCT : Fld := ⟨SPN_COMM, 23, 16⟩
def SPN_COMM_BLANK_MIN : Fld := ⟨SPN_COMM, 15, 0⟩
def SPN_OBS : Reg := ⟨0x00500000, 0x800, 0x024, 0⟩
def SPN_OBS_WIN : Fld := ⟨SPN_OBS, 31, 24⟩
def SPN_OBS_MISS_N : Fld := ⟨SPN_OBS, 23, 16⟩
def SPN_OBS_DEV : Fld := ⟨SPN_OBS, 15, 8⟩
def SPN_OBS_XCHK : Fld := ⟨SPN_OBS, 7, 0⟩
def SPN_START : Reg := ⟨0x00500000, 0x800, 0x028, 0⟩
def SPN_START_ALIGN_MS : Fld := ⟨SPN_START, 31, 16⟩
def SPN_START_ALIGN_DUTY : Fld := ⟨SPN_START, 15, 0⟩
def SPN_START2 : Reg := ⟨0x00500000, 0x800, 0x02C, 0⟩
def SPN_START2_HANDOVER : Fld := ⟨SPN_START2, 31, 16⟩
def SPN_START2_HANDOVER_N : Fld := ⟨SPN_START2, 15, 8⟩
def SPN_START2_START_TRIES : Fld := ⟨SPN_START2, 7, 4⟩
def SPN_START2_ALIGN_STEP : Fld := ⟨SPN_START2, 3, 0⟩
def SPN_BLIND : Reg := ⟨0x00500000, 0x800, 0x030, 0⟩
def SPN_BLIND_BLIND_ACC : Fld := ⟨SPN_BLIND, 31, 16⟩
def SPN_BLIND_BLIND_DUTY : Fld := ⟨SPN_BLIND, 15, 0⟩
def SPN_CATCH : Reg := ⟨0x00500000, 0x800, 0x034, 0⟩
def SPN_CATCH_COAST_MS : Fld := ⟨SPN_CATCH, 31, 16⟩
def SPN_CATCH_STILL_MS : Fld := ⟨SPN_CATCH, 15, 0⟩
def SPN_ILIM : Reg := ⟨0x00500000, 0x800, 0x038, 0⟩
def SPN_ILIM_ILIM : Fld := ⟨SPN_ILIM, 11, 0⟩
def SPN_DUTY : Reg := ⟨0x00500000, 0x800, 0x03C, 0⟩
def SPN_DUTY_DMAX : Fld := ⟨SPN_DUTY, 31, 16⟩
def SPN_DUTY_DMIN : Fld := ⟨SPN_DUTY, 15, 0⟩
def SPN_PULL : Reg := ⟨0x00500000, 0x800, 0x040, 0⟩
def SPN_PULL_TRK_N : Fld := ⟨SPN_PULL, 15, 8⟩
def SPN_PULL_PULL_MAX : Fld := ⟨SPN_PULL, 7, 0⟩
def SPN_BRAKE : Reg := ⟨0x00500000, 0x800, 0x044, 0⟩
def SPN_BRAKE_REGEN_MIN : Fld := ⟨SPN_BRAKE, 31, 16⟩
def SPN_BRAKE_UNLOAD_WAIT : Fld := ⟨SPN_BRAKE, 15, 0⟩
def SPN_BUS : Reg := ⟨0x00500000, 0x800, 0x048, 0⟩
def SPN_BUS_GROUP : Fld := ⟨SPN_BUS, 2, 0⟩
def SPN_HI_KS : Reg := ⟨0x00500000, 0x800, 0x050, 0⟩
def SPN_HI_KS_V : Fld := ⟨SPN_HI_KS, 23, 0⟩
def SPN_HI_Z : Reg := ⟨0x00500000, 0x800, 0x054, 4⟩
def SPN_HI_Z_V : Fld := ⟨SPN_HI_Z, 23, 0⟩
def SPN_HI_P : Reg := ⟨0x00500000, 0x800, 0x05C, 4⟩
def SPN_HI_P_V : Fld := ⟨SPN_HI_P, 23, 0⟩
def SPN_LO_KS : Reg := ⟨0x00500000, 0x800, 0x070, 0⟩
def SPN_LO_KS_V : Fld := ⟨SPN_LO_KS, 23, 0⟩
def SPN_LO_Z : Reg := ⟨0x00500000, 0x800, 0x074, 4⟩
def SPN_LO_Z_V : Fld := ⟨SPN_LO_Z, 23, 0⟩
def SPN_LO_P : Reg := ⟨0x00500000, 0x800, 0x07C, 4⟩
def SPN_LO_P_V : Fld := ⟨SPN_LO_P, 23, 0⟩
def SPN_SPEED : Reg := ⟨0x00500000, 0x800, 0x0A0, 0⟩
def SPN_RPM : Reg := ⟨0x00500000, 0x800, 0x0A4, 0⟩
def SPN_RPM_RPM : Fld := ⟨SPN_RPM, 15, 0⟩
def SPN_PHERR : Reg := ⟨0x00500000, 0x800, 0x0A8, 0⟩
def SPN_PHERR_PHI : Fld := ⟨SPN_PHERR, 15, 0⟩
def SPN_DUTYNOW : Reg := ⟨0x00500000, 0x800, 0x0AC, 0⟩
def SPN_DUTYNOW_D : Fld := ⟨SPN_DUTYNOW, 15, 0⟩
def SPN_VBUS : Reg := ⟨0x00500000, 0x800, 0x0B0, 0⟩
def SPN_VBUS_MV : Fld := ⟨SPN_VBUS, 15, 0⟩
def SPN_IPK : Reg := ⟨0x00500000, 0x800, 0x0B4, 0⟩
def SPN_IPK_PK : Fld := ⟨SPN_IPK, 11, 0⟩
def SPN_ACTOFS : Reg := ⟨0x00500000, 0x800, 0x0B8, 0⟩
def SPN_ACTOFS_OFS : Fld := ⟨SPN_ACTOFS, 15, 0⟩
def SPN_CNT_MISS : Reg := ⟨0x00500000, 0x800, 0x0C0, 0⟩
def SPN_CNT_START : Reg := ⟨0x00500000, 0x800, 0x0C4, 0⟩
def SPN_CNT_LOS : Reg := ⟨0x00500000, 0x800, 0x0C8, 0⟩
def SPN_CNT_ILIM : Reg := ⟨0x00500000, 0x800, 0x0CC, 0⟩
def SPN_CNT_PROT : Reg := ⟨0x00500000, 0x800, 0x0D0, 0⟩
/-! SPNB (R256) -/
def SPNB_OV1 : Reg := ⟨0x00508000, 0, 0x000, 0⟩
def SPNB_OV1_MV : Fld := ⟨SPNB_OV1, 15, 0⟩
def SPNB_OV2 : Reg := ⟨0x00508000, 0, 0x004, 0⟩
def SPNB_OV2_MV : Fld := ⟨SPNB_OV2, 15, 0⟩
def SPNB_OV_REL : Reg := ⟨0x00508000, 0, 0x008, 0⟩
def SPNB_OV_REL_MV : Fld := ⟨SPNB_OV_REL, 15, 0⟩
def SPNB_UV : Reg := ⟨0x00508000, 0, 0x00C, 0⟩
def SPNB_UV_MV : Fld := ⟨SPNB_UV, 15, 0⟩
def SPNB_CHOP_ON : Reg := ⟨0x00508000, 0, 0x010, 0⟩
def SPNB_CHOP_ON_MV : Fld := ⟨SPNB_CHOP_ON, 15, 0⟩
def SPNB_CHOP_OFF : Reg := ⟨0x00508000, 0, 0x014, 0⟩
def SPNB_CHOP_OFF_MV : Fld := ⟨SPNB_CHOP_OFF, 15, 0⟩
/-! STM (R289) -/
def STM_CTRL : Reg := ⟨0x00600000, 0, 0x000, 0⟩
def STM_CTRL_ADMIT : Fld := ⟨STM_CTRL, 1, 1⟩
def STM_CTRL_EN : Fld := ⟨STM_CTRL, 0, 0⟩
def STM_STAT : Reg := ⟨0x00600000, 0, 0x004, 0⟩
def STM_STAT_OPEN : Fld := ⟨STM_STAT, 20, 0⟩
def STM_CTX_BASE_LO : Reg := ⟨0x00600000, 0, 0x008, 0⟩
def STM_CTX_BASE_LO_ADDR : Fld := ⟨STM_CTX_BASE_LO, 31, 26⟩
def STM_CTX_BASE_HI : Reg := ⟨0x00600000, 0, 0x00C, 0⟩
def STM_CTX_BASE_HI_ADDR : Fld := ⟨STM_CTX_BASE_HI, 7, 0⟩
def STM_NS_BASE_LO : Reg := ⟨0x00600000, 0, 0x010, 0⟩
def STM_NS_BASE_LO_ADDR : Fld := ⟨STM_NS_BASE_LO, 31, 6⟩
def STM_NS_BASE_HI : Reg := ⟨0x00600000, 0, 0x014, 0⟩
def STM_NS_BASE_HI_ADDR : Fld := ⟨STM_NS_BASE_HI, 7, 0⟩
def STM_ZONE_BASE_LO : Reg := ⟨0x00600000, 0, 0x018, 0⟩
def STM_ZONE_BASE_LO_ADDR : Fld := ⟨STM_ZONE_BASE_LO, 31, 6⟩
def STM_ZONE_BASE_HI : Reg := ⟨0x00600000, 0, 0x01C, 0⟩
def STM_ZONE_BASE_HI_ADDR : Fld := ⟨STM_ZONE_BASE_HI, 7, 0⟩
def STM_SEEK_BASE_LO : Reg := ⟨0x00600000, 0, 0x020, 0⟩
def STM_SEEK_BASE_LO_ADDR : Fld := ⟨STM_SEEK_BASE_LO, 31, 6⟩
def STM_SEEK_BASE_HI : Reg := ⟨0x00600000, 0, 0x024, 0⟩
def STM_SEEK_BASE_HI_ADDR : Fld := ⟨STM_SEEK_BASE_HI, 7, 0⟩
def STM_STATS_BASE_LO : Reg := ⟨0x00600000, 0, 0x028, 0⟩
def STM_STATS_BASE_LO_ADDR : Fld := ⟨STM_STATS_BASE_LO, 31, 5⟩
def STM_STATS_BASE_HI : Reg := ⟨0x00600000, 0, 0x02C, 0⟩
def STM_STATS_BASE_HI_ADDR : Fld := ⟨STM_STATS_BASE_HI, 7, 0⟩
def STM_MAP_CMD : Reg := ⟨0x00600000, 0, 0x030, 0⟩
def STM_MAP_CMD_GO : Fld := ⟨STM_MAP_CMD, 31, 31⟩
def STM_MAP_CMD_RESULT : Fld := ⟨STM_MAP_CMD, 30, 28⟩
def STM_MAP_CMD_KIND : Fld := ⟨STM_MAP_CMD, 27, 27⟩
def STM_MAP_CMD_INDEX : Fld := ⟨STM_MAP_CMD, 12, 0⟩
def STM_SCHED : Reg := ⟨0x00600000, 0, 0x034, 0⟩
def STM_SCHED_HORIZON : Fld := ⟨STM_SCHED, 31, 16⟩
def STM_SCHED_W_DL : Fld := ⟨STM_SCHED, 15, 8⟩
def STM_EPOCH : Reg := ⟨0x00600000, 0, 0x038, 0⟩
def STM_CTX_CMD : Reg := ⟨0x00600000, 0, 0x03C, 0⟩
def STM_CTX_CMD_GO : Fld := ⟨STM_CTX_CMD, 31, 31⟩
def STM_CTX_CMD_RESULT : Fld := ⟨STM_CTX_CMD, 30, 28⟩
def STM_CTX_CMD_OP : Fld := ⟨STM_CTX_CMD, 27, 27⟩
def STM_CTX_CMD_INDEX : Fld := ⟨STM_CTX_CMD, 19, 0⟩
def STM_CTX_MBX : Reg := ⟨0x00600000, 0, 0x040, 4⟩
def STM_CTX_MASK : Reg := ⟨0x00600000, 0, 0x080, 0⟩
def STM_CTX_MASK_MASK : Fld := ⟨STM_CTX_MASK, 15, 0⟩
def STM_CNT_ADMIT : Reg := ⟨0x00600000, 0, 0x090, 0⟩
def STM_CNT_GRANT : Reg := ⟨0x00600000, 0, 0x094, 0⟩
def STM_CNT_LATE : Reg := ⟨0x00600000, 0, 0x098, 0⟩
def STM_CNT_WAIT : Reg := ⟨0x00600000, 0, 0x09C, 0⟩
def STM_CNT_TWIN : Reg := ⟨0x00600000, 0, 0x0A0, 0⟩
def STM_RBLD : Reg := ⟨0x00600000, 0, 0x0B0, 0⟩
def STM_RBLD_HDA : Fld := ⟨STM_RBLD, 15, 0⟩
def STM_WFENCE : Reg := ⟨0x00600000, 0, 0x0B4, 0⟩
def STM_CLS_POOL : Reg := ⟨0x00600000, 0, 0x100, 0x20⟩
def STM_CLS_POOL_SLOTS : Fld := ⟨STM_CLS_POOL, 23, 0⟩
def STM_CLS_RING : Reg := ⟨0x00600000, 0, 0x104, 0x20⟩
def STM_CLS_RING_LOG2 : Fld := ⟨STM_CLS_RING, 31, 28⟩
def STM_CLS_RING_COUNT : Fld := ⟨STM_CLS_RING, 19, 0⟩
def STM_CLS_RDL : Reg := ⟨0x00600000, 0, 0x108, 0x20⟩
def STM_CLS_WDL : Reg := ⟨0x00600000, 0, 0x10C, 0x20⟩
def STM_CLS_POOL_BASE_LO : Reg := ⟨0x00600000, 0, 0x110, 0x20⟩
def STM_CLS_POOL_BASE_LO_ADDR : Fld := ⟨STM_CLS_POOL_BASE_LO, 31, 12⟩
def STM_CLS_POOL_BASE_HI : Reg := ⟨0x00600000, 0, 0x114, 0x20⟩
def STM_CLS_POOL_BASE_HI_ADDR : Fld := ⟨STM_CLS_POOL_BASE_HI, 7, 0⟩
def STM_CLS_RING_BASE_LO : Reg := ⟨0x00600000, 0, 0x118, 0x20⟩
def STM_CLS_RING_BASE_LO_ADDR : Fld := ⟨STM_CLS_RING_BASE_LO, 31, 6⟩
def STM_CLS_RING_BASE_HI : Reg := ⟨0x00600000, 0, 0x11C, 0x20⟩
def STM_CLS_RING_BASE_HI_ADDR : Fld := ⟨STM_CLS_RING_BASE_HI, 7, 0⟩
def STM_CLS_FREE : Reg := ⟨0x00600000, 0, 0x200, 4⟩
def STM_CLS_FREE_FREE : Fld := ⟨STM_CLS_FREE, 23, 0⟩
/-! CCH (R308) -/
def CCH_CTRL : Reg := ⟨0x00700000, 0, 0x000, 0⟩
def CCH_CTRL_PANTRY_WAYS : Fld := ⟨CCH_CTRL, 7, 4⟩
def CCH_CTRL_EN : Fld := ⟨CCH_CTRL, 0, 0⟩
def CCH_STAT : Reg := ⟨0x00700000, 0, 0x004, 0⟩
def CCH_STAT_PW_REFUSED : Fld := ⟨CCH_STAT, 16, 16⟩
def CCH_STAT_MISS_BUSY : Fld := ⟨CCH_STAT, 15, 0⟩
def CCH_RGN_BASE_LO : Reg := ⟨0x00700000, 0, 0x010, 0x10⟩
def CCH_RGN_BASE_LO_ADDR : Fld := ⟨CCH_RGN_BASE_LO, 31, 12⟩
def CCH_RGN_BASE_LO_EN : Fld := ⟨CCH_RGN_BASE_LO, 0, 0⟩
def CCH_RGN_BASE_HI : Reg := ⟨0x00700000, 0, 0x014, 0x10⟩
def CCH_RGN_BASE_HI_ADDR : Fld := ⟨CCH_RGN_BASE_HI, 7, 0⟩
def CCH_RGN_SIZE : Reg := ⟨0x00700000, 0, 0x018, 0x10⟩
def CCH_RGN_SIZE_SIZE : Fld := ⟨CCH_RGN_SIZE, 27, 0⟩
def CCH_OP : Reg := ⟨0x00700000, 0, 0x050, 0⟩
def CCH_OP_GO : Fld := ⟨CCH_OP, 31, 31⟩
def CCH_OP_RESULT : Fld := ⟨CCH_OP, 30, 28⟩
def CCH_OP_INCL_LOCKED : Fld := ⟨CCH_OP, 5, 5⟩
def CCH_OP_RANGE : Fld := ⟨CCH_OP, 4, 4⟩
def CCH_OP_OP : Fld := ⟨CCH_OP, 3, 0⟩
def CCH_OP_ADDR_LO : Reg := ⟨0x00700000, 0, 0x054, 0⟩
def CCH_OP_ADDR_HI : Reg := ⟨0x00700000, 0, 0x058, 0⟩
def CCH_OP_ADDR_HI_ADDR : Fld := ⟨CCH_OP_ADDR_HI, 7, 0⟩
def CCH_OP_LEN_LO : Reg := ⟨0x00700000, 0, 0x05C, 0⟩
def CCH_OP_LEN_HI : Reg := ⟨0x00700000, 0, 0x060, 0⟩
def CCH_OP_LEN_HI_LEN : Fld := ⟨CCH_OP_LEN_HI, 7, 0⟩
def CCH_OP_RES0 : Reg := ⟨0x00700000, 0, 0x064, 0⟩
def CCH_OP_RES0_INVAL : Fld := ⟨CCH_OP_RES0, 31, 16⟩
def CCH_OP_RES0_STALE : Fld := ⟨CCH_OP_RES0, 15, 0⟩
def CCH_OP_RES1 : Reg := ⟨0x00700000, 0, 0x068, 0⟩
def CCH_WAY_DIS : Reg := ⟨0x00700000, 0, 0x070, 4⟩
def CCH_ECC : Reg := ⟨0x00700000, 0, 0x090, 0⟩
def CCH_ECC_WAY_TH : Fld := ⟨CCH_ECC, 15, 0⟩
def CCH_CNT_HIT : Reg := ⟨0x00700000, 0, 0x0A0, 0⟩
def CCH_CNT_MISS : Reg := ⟨0x00700000, 0, 0x0A4, 0⟩
def CCH_CNT_WB : Reg := ⟨0x00700000, 0, 0x0A8, 0⟩
def CCH_CNT_CORR : Reg := ⟨0x00700000, 0, 0x0AC, 0⟩
def CCH_CNT_DIS : Reg := ⟨0x00700000, 0, 0x0B0, 0⟩
def CCH_CNT_LOCKLOST : Reg := ⟨0x00700000, 0, 0x0B4, 0⟩
/-! DMV (R337) -/
def DMV_CTRL : Reg := ⟨0x00800000, 0, 0x000, 0⟩
def DMV_CTRL_EN : Fld := ⟨DMV_CTRL, 0, 0⟩
def DMV_STAT : Reg := ⟨0x00800000, 0, 0x004, 0⟩
def DMV_STAT_RBUSY : Fld := ⟨DMV_STAT, 20, 16⟩
def DMV_STAT_WBUSY : Fld := ⟨DMV_STAT, 12, 8⟩
def DMV_STAT_STAGING : Fld := ⟨DMV_STAT, 6, 0⟩
def DMV_RGN_BASE_LO : Reg := ⟨0x00800000, 0, 0x400, 0x10⟩
def DMV_RGN_BASE_LO_ADDR : Fld := ⟨DMV_RGN_BASE_LO, 31, 6⟩
def DMV_RGN_BASE_HI : Reg := ⟨0x00800000, 0, 0x404, 0x10⟩
def DMV_RGN_BASE_HI_ADDR : Fld := ⟨DMV_RGN_BASE_HI, 7, 0⟩
def DMV_RGN_SIZE_LO : Reg := ⟨0x00800000, 0, 0x408, 0x10⟩
def DMV_RGN_SIZE_HI : Reg := ⟨0x00800000, 0, 0x40C, 0x10⟩
def DMV_RGN_SIZE_HI_SIZE : Fld := ⟨DMV_RGN_SIZE_HI, 7, 0⟩
def DMV_CH_CFG : Reg := ⟨0x00800000, 0, 0x1000, 0x40⟩
def DMV_CH_CFG_EN : Fld := ⟨DMV_CH_CFG, 31, 31⟩
def DMV_CH_CFG_OWNER : Fld := ⟨DMV_CH_CFG, 30, 28⟩
def DMV_CH_CFG_RSIZE : Fld := ⟨DMV_CH_CFG, 27, 24⟩
def DMV_CH_CFG_SPACE : Fld := ⟨DMV_CH_CFG, 23, 23⟩
def DMV_CH_RING_LO : Reg := ⟨0x00800000, 0, 0x1004, 0x40⟩
def DMV_CH_RING_LO_ADDR : Fld := ⟨DMV_CH_RING_LO, 31, 5⟩
def DMV_CH_RING_HI : Reg := ⟨0x00800000, 0, 0x1008, 0x40⟩
def DMV_CH_RING_HI_ADDR : Fld := ⟨DMV_CH_RING_HI, 7, 0⟩
def DMV_CH_PI : Reg := ⟨0x00800000, 0, 0x100C, 0x40⟩
def DMV_CH_PI_PI : Fld := ⟨DMV_CH_PI, 15, 0⟩
def DMV_CH_CI : Reg := ⟨0x00800000, 0, 0x1010, 0x40⟩
def DMV_CH_CI_CI : Fld := ⟨DMV_CH_CI, 15, 0⟩
def DMV_CH_STAT : Reg := ⟨0x00800000, 0, 0x1014, 0x40⟩
def DMV_CH_STAT_STATUS : Fld := ⟨DMV_CH_STAT, 31, 24⟩
def DMV_CH_STAT_STOPPED : Fld := ⟨DMV_CH_STAT, 23, 23⟩
def DMV_CH_STAT_INDEX : Fld := ⟨DMV_CH_STAT, 15, 0⟩
def DMV_CH_MOVED : Reg := ⟨0x00800000, 0, 0x1018, 0x40⟩
def DMV_CH_RGN_LO : Reg := ⟨0x00800000, 0, 0x101C, 0x40⟩
def DMV_CH_RGN_HI : Reg := ⟨0x00800000, 0, 0x1020, 0x40⟩
def DMV_CH_CTRL : Reg := ⟨0x00800000, 0, 0x1024, 0x40⟩
def DMV_CH_CTRL_SKIP : Fld := ⟨DMV_CH_CTRL, 1, 1⟩
def DMV_CH_CTRL_RESUME : Fld := ⟨DMV_CH_CTRL, 0, 0⟩
/-! BUF (R338) -/
def BUF_CTRL : Reg := ⟨0x00900000, 0, 0x000, 0⟩
def BUF_CTRL_CHANNELS : Fld := ⟨BUF_CTRL, 15, 8⟩
def BUF_CTRL_REMAP : Fld := ⟨BUF_CTRL, 3, 3⟩
def BUF_CTRL_SCRUB_EN : Fld := ⟨BUF_CTRL, 2, 2⟩
def BUF_CTRL_COMPAT : Fld := ⟨BUF_CTRL, 1, 1⟩
def BUF_CTRL_EN : Fld := ⟨BUF_CTRL, 0, 0⟩
def BUF_CAP : Reg := ⟨0x00900000, 0, 0x004, 0⟩
def BUF_CAP_DENSITY : Fld := ⟨BUF_CAP, 15, 8⟩
def BUF_CAP_UNITS : Fld := ⟨BUF_CAP, 7, 0⟩
def BUF_STAT : Reg := ⟨0x00900000, 0, 0x008, 0⟩
def BUF_STAT_SEG_REFUSED : Fld := ⟨BUF_STAT, 0, 0⟩
def BUF_LB : Reg := ⟨0x00900000, 0, 0x010, 0⟩
def BUF_LB_TH : Fld := ⟨BUF_LB, 31, 16⟩
def BUF_LB_LEAK : Fld := ⟨BUF_LB, 15, 0⟩
def BUF_SCRUB : Reg := ⟨0x00900000, 0, 0x014, 0⟩
def BUF_SCRUB_INTERVAL : Fld := ⟨BUF_SCRUB, 15, 0⟩
def BUF_RLOG_WP : Reg := ⟨0x00900000, 0, 0x018, 0⟩
def BUF_RLOG_WP_WP : Fld := ⟨BUF_RLOG_WP, 4, 0⟩
def BUF_CNT_RLOST : Reg := ⟨0x00900000, 0, 0x020, 0⟩
def BUF_SEG : Reg := ⟨0x00900000, 0, 0x100, 4⟩
def BUF_SEG_VALID : Fld := ⟨BUF_SEG, 31, 31⟩
def BUF_SEG_DUPLEX : Fld := ⟨BUF_SEG, 30, 30⟩
def BUF_SEG_DOFS : Fld := ⟨BUF_SEG, 6, 0⟩
def BUF_RLOG0 : Reg := ⟨0x00900000, 0, 0x400, 0x10⟩
def BUF_RLOG0_VALID : Fld := ⟨BUF_RLOG0, 31, 31⟩
def BUF_RLOG0_CH : Fld := ⟨BUF_RLOG0, 30, 28⟩
def BUF_RLOG0_GROUP : Fld := ⟨BUF_RLOG0, 21, 0⟩
def BUF_RLOG1 : Reg := ⟨0x00900000, 0, 0x404, 0x10⟩
def BUF_RLOG1_PRESENT : Fld := ⟨BUF_RLOG1, 31, 31⟩
def BUF_RLOG1_PAGE : Fld := ⟨BUF_RLOG1, 27, 0⟩
def BUF_RLOG2 : Reg := ⟨0x00900000, 0, 0x408, 0x10⟩
def BUF_RLOG2_PRESENT : Fld := ⟨BUF_RLOG2, 31, 31⟩
def BUF_RLOG2_PAGE : Fld := ⟨BUF_RLOG2, 27, 0⟩
def BUF_RLOG3 : Reg := ⟨0x00900000, 0, 0x40C, 0x10⟩
/-! BUFC (R338) -/
def BUFC_STAT : Reg := ⟨0x00910000, 0x1000, 0x000, 0⟩
def BUFC_STAT_LB_COUNT : Fld := ⟨BUFC_STAT, 31, 16⟩
def BUFC_STAT_REMAPS : Fld := ⟨BUFC_STAT, 12, 8⟩
def BUFC_STAT_STATE : Fld := ⟨BUFC_STAT, 3, 0⟩
def BUFC_CTRL : Reg := ⟨0x00910000, 0x1000, 0x004, 0⟩
def BUFC_CTRL_EDC_TH : Fld := ⟨BUFC_CTRL, 15, 8⟩
def BUFC_CTRL_RETRAIN_FAIL : Fld := ⟨BUFC_CTRL, 1, 1⟩
def BUFC_CTRL_RETRAIN : Fld := ⟨BUFC_CTRL, 0, 0⟩
def BUFC_CNT_CORR : Reg := ⟨0x00910000, 0x1000, 0x040, 0⟩
def BUFC_CNT_UNC : Reg := ⟨0x00910000, 0x1000, 0x044, 0⟩
def BUFC_CNT_EDC : Reg := ⟨0x00910000, 0x1000, 0x048, 0⟩
def BUFC_CNT_SCRUB : Reg := ⟨0x00910000, 0x1000, 0x04C, 0⟩
def BUFC_REMAP : Reg := ⟨0x00910000, 0x1000, 0x100, 4⟩
def BUFC_REMAP_VALID : Fld := ⟨BUFC_REMAP, 31, 31⟩
def BUFC_REMAP_GROUP : Fld := ⟨BUFC_REMAP, 21, 0⟩
/-! CPH (R356) -/
def CPH_CTRL : Reg := ⟨0x00A00000, 0, 0x000, 0⟩
def CPH_CTRL_WIPE_ALL : Fld := ⟨CPH_CTRL, 1, 1⟩
def CPH_CTRL_EN : Fld := ⟨CPH_CTRL, 0, 0⟩
def CPH_STAT : Reg := ⟨0x00A00000, 0, 0x004, 0⟩
def CPH_STAT_WIPING : Fld := ⟨CPH_STAT, 31, 31⟩
def CPH_STAT_MEDIA : Fld := ⟨CPH_STAT, 30, 20⟩
def CPH_STAT_PEER : Fld := ⟨CPH_STAT, 19, 9⟩
def CPH_STAT_BUSY : Fld := ⟨CPH_STAT, 8, 0⟩
def CPH_CAP : Reg := ⟨0x00A00000, 0, 0x008, 0⟩
def CPH_CAP_NENG : Fld := ⟨CPH_CAP, 24, 16⟩
def CPH_CAP_NSLOT : Fld := ⟨CPH_CAP, 13, 0⟩
def CPH_SLOT_CMD : Reg := ⟨0x00A00000, 0, 0x010, 0⟩
def CPH_SLOT_CMD_GO : Fld := ⟨CPH_SLOT_CMD, 31, 31⟩
def CPH_SLOT_CMD_RESULT : Fld := ⟨CPH_SLOT_CMD, 30, 27⟩
def CPH_SLOT_CMD_OP : Fld := ⟨CPH_SLOT_CMD, 26, 24⟩
def CPH_SLOT_CMD_MODE : Fld := ⟨CPH_SLOT_CMD, 23, 23⟩
def CPH_SLOT_CMD_GEN : Fld := ⟨CPH_SLOT_CMD, 20, 13⟩
def CPH_SLOT_CMD_SLOT : Fld := ⟨CPH_SLOT_CMD, 12, 0⟩
def CPH_SLOT_STAT : Reg := ⟨0x00A00000, 0, 0x014, 0⟩
def CPH_SLOT_STAT_KIND : Fld := ⟨CPH_SLOT_STAT, 31, 30⟩
def CPH_SLOT_STAT_VALID_A : Fld := ⟨CPH_SLOT_STAT, 29, 29⟩
def CPH_SLOT_STAT_VALID_B : Fld := ⟨CPH_SLOT_STAT, 28, 28⟩
def CPH_SLOT_STAT_GEN_A : Fld := ⟨CPH_SLOT_STAT, 23, 16⟩
def CPH_SLOT_STAT_GEN_B : Fld := ⟨CPH_SLOT_STAT, 15, 8⟩
def CPH_SLOT_CTR_LO : Reg := ⟨0x00A00000, 0, 0x018, 0⟩
def CPH_SLOT_CTR_HI : Reg := ⟨0x00A00000, 0, 0x01C, 0⟩
def CPH_KEY : Reg := ⟨0x00A00000, 0, 0x040, 4⟩
def CPH_EFENCE : Reg := ⟨0x00A00000, 0, 0x100, 4⟩
def CPH_EFAULT : Reg := ⟨0x00A00000, 0, 0x120, 4⟩
def CPH_CNT_REQ : Reg := ⟨0x00A00000, 0, 0x180, 0⟩
def CPH_CNT_NOKEY : Reg := ⟨0x00A00000, 0, 0x184, 0⟩
def CPH_CNT_AUTH : Reg := ⟨0x00A00000, 0, 0x188, 0⟩
def CPH_CNT_REISSUE : Reg := ⟨0x00A00000, 0, 0x18C, 0⟩
/-! SEQ (R416) -/
def SEQ_CTRL : Reg := ⟨0x00B00000, 0x1000, 0x000, 0⟩
def SEQ_CTRL_RELOAD : Fld := ⟨SEQ_CTRL, 3, 3⟩
def SEQ_CTRL_FORCE : Fld := ⟨SEQ_CTRL, 2, 2⟩
def SEQ_CTRL_RUN : Fld := ⟨SEQ_CTRL, 0, 0⟩
def SEQ_STAT : Reg := ⟨0x00B00000, 0x1000, 0x004, 0⟩
def SEQ_STAT_PC : Fld := ⟨SEQ_STAT, 30, 16⟩
def SEQ_STAT_IN_FAST : Fld := ⟨SEQ_STAT, 5, 5⟩
def SEQ_STAT_IN_NORMAL : Fld := ⟨SEQ_STAT, 4, 4⟩
def SEQ_STAT_STATE : Fld := ⟨SEQ_STAT, 3, 0⟩
def SEQ_IMGVER : Reg := ⟨0x00B00000, 0x1000, 0x008, 0⟩
def SEQ_LPAR_LO : Reg := ⟨0x00B00000, 0x1000, 0x00C, 0⟩
def SEQ_LPAR_HI : Reg := ⟨0x00B00000, 0x1000, 0x010, 0⟩
def SEQ_LPAR_HI_ADDR : Fld := ⟨SEQ_LPAR_HI, 7, 0⟩
def SEQ_WDOG : Reg := ⟨0x00B00000, 0x1000, 0x014, 0⟩
def SEQ_MBOX : Reg := ⟨0x00B00000, 0x1000, 0x018, 0⟩
def SEQ_SOFT : Reg := ⟨0x00B00000, 0x1000, 0x01C, 0⟩
def SEQ_SOFT_SOFT : Fld := ⟨SEQ_SOFT, 15, 0⟩
def SEQ_CNT_WORDS : Reg := ⟨0x00B00000, 0x1000, 0x040, 0⟩
def SEQ_CNT_EVF : Reg := ⟨0x00B00000, 0x1000, 0x044, 0⟩
def SEQ_CNT_EVN : Reg := ⟨0x00B00000, 0x1000, 0x048, 0⟩
def SEQ_CNT_RF : Reg := ⟨0x00B00000, 0x1000, 0x04C, 0⟩
def SEQ_EVC_EN : Reg := ⟨0x00B00000, 0x1000, 0x100, 4⟩
def SEQ_EVC_PEND : Reg := ⟨0x00B00000, 0x1000, 0x108, 4⟩
def SEQ_EVC_CLASS : Reg := ⟨0x00B00000, 0x1000, 0x110, 4⟩
def SEQ_EVC_CTRL : Reg := ⟨0x00B00000, 0x1000, 0x118, 0⟩
def SEQ_EVC_CTRL_GMASK : Fld := ⟨SEQ_EVC_CTRL, 0, 0⟩
def SEQ_EVC_VEC : Reg := ⟨0x00B00000, 0x1000, 0x200, 4⟩
def SEQ_EVC_VEC_ADDR : Fld := ⟨SEQ_EVC_VEC, 14, 0⟩
/-! LDR (R416) -/
def LDR_CTRL : Reg := ⟨0x00B80000, 0, 0x000, 0⟩
def LDR_CTRL_GO : Fld := ⟨LDR_CTRL, 31, 31⟩
def LDR_CTRL_RESULT : Fld := ⟨LDR_CTRL, 30, 27⟩
def LDR_CTRL_MODE : Fld := ⟨LDR_CTRL, 26, 26⟩
def LDR_ADDR_LO : Reg := ⟨0x00B80000, 0, 0x004, 0⟩
def LDR_ADDR_LO_ADDR : Fld := ⟨LDR_ADDR_LO, 31, 4⟩
def LDR_ADDR_HI : Reg := ⟨0x00B80000, 0, 0x008, 0⟩
def LDR_ADDR_HI_ADDR : Fld := ⟨LDR_ADDR_HI, 7, 0⟩
def LDR_MASK_LO : Reg := ⟨0x00B80000, 0, 0x00C, 0⟩
def LDR_MASK_HI : Reg := ⟨0x00B80000, 0, 0x010, 0⟩
def LDR_MASK_HI_MASK : Fld := ⟨LDR_MASK_HI, 7, 0⟩
def LDR_ERR : Reg := ⟨0x00B80000, 0, 0x014, 0⟩
def LDR_ERR_INDEX : Fld := ⟨LDR_ERR, 15, 0⟩
/-! HIF (R387) -/
def HIF_PCFG : Reg := ⟨0x00C00000, 0x1000, 0x000, 0⟩
def HIF_PCFG_MAXGEN : Fld := ⟨HIF_PCFG, 5, 3⟩
def HIF_PCFG_SPLIT : Fld := ⟨HIF_PCFG, 2, 2⟩
def HIF_PCFG_EN : Fld := ⟨HIF_PCFG, 0, 0⟩
def HIF_LSTAT : Reg := ⟨0x00C00000, 0x1000, 0x004, 0⟩
def HIF_LSTAT_L1_WIDTH : Fld := ⟨HIF_LSTAT, 28, 24⟩
def HIF_LSTAT_L1_FLIT : Fld := ⟨HIF_LSTAT, 23, 23⟩
def HIF_LSTAT_L1_GEN : Fld := ⟨HIF_LSTAT, 22, 20⟩
def HIF_LSTAT_L1_UP : Fld := ⟨HIF_LSTAT, 16, 16⟩
def HIF_LSTAT_L0_WIDTH : Fld := ⟨HIF_LSTAT, 12, 8⟩
def HIF_LSTAT_L0_FLIT : Fld := ⟨HIF_LSTAT, 7, 7⟩
def HIF_LSTAT_L0_GEN : Fld := ⟨HIF_LSTAT, 6, 4⟩
def HIF_LSTAT_L0_UP : Fld := ⟨HIF_LSTAT, 0, 0⟩
def HIF_CNT_FETCH : Reg := ⟨0x00C00000, 0x1000, 0x010, 0⟩
def HIF_CNT_SLOTW : Reg := ⟨0x00C00000, 0x1000, 0x014, 0⟩
def HIF_CNT_ABORT : Reg := ⟨0x00C00000, 0x1000, 0x018, 0⟩
/-! HIFV (R387) -/
def HIFV_FVEC : Reg := ⟨0x00C04000, 0, 0x000, 4⟩
def HIFV_FVEC_EN : Fld := ⟨HIFV_FVEC, 31, 31⟩
def HIFV_FVEC_PORT : Fld := ⟨HIFV_FVEC, 30, 30⟩
def HIFV_FVEC_LINK : Fld := ⟨HIFV_FVEC, 29, 29⟩
def HIFV_FVEC_VECTOR : Fld := ⟨HIFV_FVEC, 10, 0⟩
def HIFV_FPEND : Reg := ⟨0x00C04000, 0, 0x400, 4⟩
/-! PFB (R474) -/
def PFB_CTRL : Reg := ⟨0x00D00000, 0, 0x000, 0⟩
def PFB_CTRL_RTO : Fld := ⟨PFB_CTRL, 23, 16⟩
def PFB_CFG : Reg := ⟨0x00D00000, 0, 0x004, 0⟩
def PFB_CFG_ETYPE : Fld := ⟨PFB_CFG, 31, 16⟩
def PFB_CFG_RX_WIN : Fld := ⟨PFB_CFG, 15, 5⟩
def PFB_CFG_RXCLASS : Fld := ⟨PFB_CFG, 4, 2⟩
def PFB_CFG_P1_EN : Fld := ⟨PFB_CFG, 1, 1⟩
def PFB_CFG_P0_EN : Fld := ⟨PFB_CFG, 0, 0⟩
def PFB_MAC_LO : Reg := ⟨0x00D00000, 0, 0x008, 0⟩
def PFB_MAC_HI : Reg := ⟨0x00D00000, 0, 0x00C, 0⟩
def PFB_MAC_HI_MAC : Fld := ⟨PFB_MAC_HI, 15, 0⟩
def PFB_DUR_TO : Reg := ⟨0x00D00000, 0, 0x010, 0⟩
def PFB_DUR_TO_MS : Fld := ⟨PFB_DUR_TO, 15, 0⟩
/-! PFBP (R474) -/
def PFBP_PSTAT : Reg := ⟨0x00D01000, 0x1000, 0x000, 0⟩
def PFBP_PSTAT_PTP : Fld := ⟨PFBP_PSTAT, 7, 4⟩
def PFBP_PSTAT_FEC : Fld := ⟨PFBP_PSTAT, 1, 1⟩
def PFBP_PSTAT_UP : Fld := ⟨PFBP_PSTAT, 0, 0⟩
def PFBP_CNT_TX : Reg := ⟨0x00D01000, 0x1000, 0x010, 0⟩
def PFBP_CNT_RX : Reg := ⟨0x00D01000, 0x1000, 0x014, 0⟩
def PFBP_CNT_AUTH : Reg := ⟨0x00D01000, 0x1000, 0x018, 0⟩
def PFBP_CNT_DROP : Reg := ⟨0x00D01000, 0x1000, 0x01C, 0⟩
/-! PEER (R474) -/
def PEER_CTL : Reg := ⟨0x00D04000, 0x20, 0x000, 0⟩
def PEER_CTL_JOIN : Fld := ⟨PEER_CTL, 31, 31⟩
def PEER_CTL_LEAVE : Fld := ⟨PEER_CTL, 30, 30⟩
def PEER_CTL_RESULT : Fld := ⟨PEER_CTL, 29, 27⟩
def PEER_CTL_STATE : Fld := ⟨PEER_CTL, 26, 24⟩
def PEER_CTL_PORT : Fld := ⟨PEER_CTL, 16, 16⟩
def PEER_CTL_UNIT : Fld := ⟨PEER_CTL, 15, 0⟩
def PEER_MAC_LO : Reg := ⟨0x00D04000, 0x20, 0x004, 0⟩
def PEER_MAC_HI : Reg := ⟨0x00D04000, 0x20, 0x008, 0⟩
def PEER_MAC_HI_MAC : Fld := ⟨PEER_MAC_HI, 15, 0⟩
def PEER_KEYS : Reg := ⟨0x00D04000, 0x20, 0x00C, 0⟩
def PEER_KEYS_RXSLOT : Fld := ⟨PEER_KEYS, 28, 16⟩
def PEER_KEYS_TXSLOT : Fld := ⟨PEER_KEYS, 12, 0⟩
def PEER_KGEN : Reg := ⟨0x00D04000, 0x20, 0x010, 0⟩
def PEER_KGEN_KGEN : Fld := ⟨PEER_KGEN, 7, 0⟩
def PEER_OUT : Reg := ⟨0x00D04000, 0x20, 0x014, 0⟩
/-! TB (R475) -/
def TB_CFG : Reg := ⟨0x00D08000, 0, 0x000, 0⟩
def TB_CFG_PRIO1 : Fld := ⟨TB_CFG, 31, 24⟩
def TB_CFG_PRIO2 : Fld := ⟨TB_CFG, 23, 16⟩
def TB_CFG_CLASS : Fld := ⟨TB_CFG, 15, 8⟩
def TB_CFG_DOMAIN : Fld := ⟨TB_CFG, 7, 0⟩
def TB_SERVO : Reg := ⟨0x00D08000, 0, 0x004, 0⟩
def TB_SERVO_STEP_ANY : Fld := ⟨TB_SERVO, 31, 31⟩
def TB_SERVO_LOGSYNC : Fld := ⟨TB_SERVO, 27, 24⟩
def TB_SERVO_KP_E : Fld := ⟨TB_SERVO, 23, 20⟩
def TB_SERVO_KI_E : Fld := ⟨TB_SERVO, 19, 16⟩
def TB_SERVO_STEP_TH : Fld := ⟨TB_SERVO, 15, 0⟩
def TB_LIM : Reg := ⟨0x00D08000, 0, 0x008, 0⟩
def TB_LIM_INVALID_NS : Fld := ⟨TB_LIM, 31, 16⟩
def TB_LIM_VALID_NS : Fld := ⟨TB_LIM, 15, 0⟩
def TB_STAT : Reg := ⟨0x00D08000, 0, 0x00C, 0⟩
def TB_STAT_STEPPED : Fld := ⟨TB_STAT, 15, 15⟩
def TB_STAT_GM : Fld := ⟨TB_STAT, 14, 14⟩
def TB_STAT_SLAVE : Fld := ⟨TB_STAT, 9, 8⟩
def TB_STAT_STATE : Fld := ⟨TB_STAT, 1, 0⟩
def TB_OFS : Reg := ⟨0x00D08000, 0, 0x010, 0⟩
def TB_TICK_LO : Reg := ⟨0x00D08000, 0, 0x014, 0⟩
def TB_TICK_HI : Reg := ⟨0x00D08000, 0, 0x018, 0⟩
def TB_TICK_HI_TICK : Fld := ⟨TB_TICK_HI, 15, 0⟩
def TB_SEC_LO : Reg := ⟨0x00D08000, 0, 0x01C, 0⟩
def TB_SEC_HI : Reg := ⟨0x00D08000, 0, 0x020, 0⟩
def TB_SEC_HI_SEC : Fld := ⟨TB_SEC_HI, 15, 0⟩
def TB_NS : Reg := ⟨0x00D08000, 0, 0x024, 0⟩
def TB_NS_NS : Fld := ⟨TB_NS, 29, 0⟩
def TB_ORIGIN_LO : Reg := ⟨0x00D08000, 0, 0x028, 0⟩
def TB_ORIGIN_HI : Reg := ⟨0x00D08000, 0, 0x02C, 0⟩
def TB_ORIGIN_HI_SEC : Fld := ⟨TB_ORIGIN_HI, 15, 0⟩
/-! FUS (R449) -/
def FUS_LC : Reg := ⟨0x00E00000, 0, 0x000, 0⟩
def FUS_LC_LC_BUSY : Fld := ⟨FUS_LC, 31, 31⟩
def FUS_LC_TAP_OPEN : Fld := ⟨FUS_LC, 9, 9⟩
def FUS_LC_OBS_OPEN : Fld := ⟨FUS_LC, 8, 8⟩
def FUS_LC_STATE : Fld := ⟨FUS_LC, 2, 0⟩
def FUS_NONCE_LO : Reg := ⟨0x00E00000, 0, 0x008, 0⟩
def FUS_NONCE_HI : Reg := ⟨0x00E00000, 0, 0x00C, 0⟩
def FUS_AUTH : Reg := ⟨0x00E00000, 0, 0x010, 0⟩
def FUS_AUTH_GO : Fld := ⟨FUS_AUTH, 31, 31⟩
def FUS_AUTH_RESULT : Fld := ⟨FUS_AUTH, 30, 27⟩
def FUS_AUTH_CLOSE : Fld := ⟨FUS_AUTH, 8, 8⟩
def FUS_AUTH_ACTION : Fld := ⟨FUS_AUTH, 7, 0⟩
def FUS_PROV : Reg := ⟨0x00E00000, 0, 0x014, 0⟩
def FUS_PROV_GO : Fld := ⟨FUS_PROV, 31, 31⟩
def FUS_PROV_RESULT : Fld := ⟨FUS_PROV, 30, 28⟩
def FUS_KEYHASH : Reg := ⟨0x00E00000, 0, 0x040, 4⟩
def FUS_TOKEN : Reg := ⟨0x00E00000, 0, 0x100, 4⟩
/-! OBS (R539) -/
def OBS_SEL : Reg := ⟨0x00F00000, 0, 0x000, 4⟩
def OBS_SEL_SIGNAL : Fld := ⟨OBS_SEL, 23, 16⟩
def OBS_SEL_INDEX : Fld := ⟨OBS_SEL, 8, 0⟩
def OBS_STAT : Reg := ⟨0x00F00000, 0, 0x020, 0⟩
def OBS_STAT_OPEN : Fld := ⟨OBS_STAT, 8, 8⟩
def OBS_STAT_PINS : Fld := ⟨OBS_STAT, 7, 0⟩
/-! FLT (R476) -/
def FLT_STAT : Reg := ⟨0, 0, 0xF00, 0⟩
def FLT_STAT_FATAL : Fld := ⟨FLT_STAT, 31, 31⟩
def FLT_STAT_CONTAINED : Fld := ⟨FLT_STAT, 30, 30⟩
def FLT_STAT_CORRECTED : Fld := ⟨FLT_STAT, 29, 29⟩
def FLT_STAT_CAUSE : Fld := ⟨FLT_STAT, 23, 0⟩
def FLT_EN : Reg := ⟨0, 0, 0xF04, 0⟩
def FLT_EN_EN : Fld := ⟨FLT_EN, 23, 0⟩
def FLT_CLR : Reg := ⟨0, 0, 0xF08, 0⟩
def FLT_CLR_CLR : Fld := ⟨FLT_CLR, 23, 0⟩
def FLT_FENCE : Reg := ⟨0, 0, 0xF0C, 0⟩
def FLT_FENCE_BYFAULT : Fld := ⟨FLT_FENCE, 1, 1⟩
def FLT_FENCE_FENCE : Fld := ⟨FLT_FENCE, 0, 0⟩
def FLT_HIST : Reg := ⟨0, 0, 0xF10, 4⟩
def FLT_HIST_CLASS : Fld := ⟨FLT_HIST, 31, 30⟩
def FLT_HIST_INJ : Fld := ⟨FLT_HIST, 29, 29⟩
def FLT_HIST_CAUSE : Fld := ⟨FLT_HIST, 28, 24⟩
def FLT_HIST_TICK : Fld := ⟨FLT_HIST, 23, 0⟩
def FLT_INJ : Reg := ⟨0, 0, 0xF30, 0⟩
def FLT_INJ_GO : Fld := ⟨FLT_INJ, 31, 31⟩
def FLT_INJ_RESULT : Fld := ⟨FLT_INJ, 30, 28⟩
def FLT_INJ_MODE : Fld := ⟨FLT_INJ, 9, 8⟩
def FLT_INJ_CAUSE : Fld := ⟨FLT_INJ, 4, 0⟩
def FLT_HSEQ : Reg := ⟨0, 0, 0xF34, 0⟩

end Reg

/-- The register table of GLB (R447). -/
def regsGLB : List RegDef :=
 [
  ⟨0x000, 1, 4, 0x3216, 0, 0, 0, 0, 0⟩,
  ⟨0x004, 1, 4, 9, 0, 0, 0x80000000, 0, 0⟩,
  ⟨0x008, 1, 4, 0, 0, 0, 1, 0xFFFF0000, 0⟩,
  ⟨0x00C, 1, 4, 0, 0, 0, 0, 0, 0⟩,
  ⟨0x010, 1, 4, 0, 0, 0, 0, 0, 0⟩,
  ⟨0x020, 5, 4, 0, 0, 0, 0, 0, 0⟩,
  ⟨0x040, 4, 4, 0, 0xCF001FF, 0, 0x80000000, 0, 0⟩,
  ⟨0x080, 32, 4, 0, 0, 0, 0, 0, 0⟩,
  ⟨0x100, 1, 4, 0, 0, 0, 0, 0, 0⟩]

/-- The register table of CLK (R448). -/
def regsCLK : List RegDef :=
 [
  ⟨0x000, 1, 4, 1, 0x31, 0, 0, 0, 0⟩,
  ⟨0x004, 1, 4, 0x100, 0, 0x3000, 0, 0, 0⟩,
  ⟨0x008, 1, 4, 0, 0, 0, 0, 0, 0⟩,
  ⟨0x00C, 1, 4, 0, 0, 0, 0, 0, 0⟩,
  ⟨0x010, 1, 4, 0, 0, 1, 0, 0, 0⟩,
  ⟨0x020, 1, 4, 0, 0x107003F, 0, 0x80000000, 0, 0⟩]

/-- The register table of PRC (R473). -/
def regsPRC : List RegDef :=
 [
  ⟨0x000, 1, 4, 0, 0, 0, 0, 0, 0⟩,
  ⟨0x004, 1, 4, 1, 1, 0, 0, 0, 0⟩,
  ⟨0x010, 1, 4, 0, 0, 0, 0, 0, 0xFFFFFFFF⟩,
  ⟨0x014, 1, 4, 0, 0, 0, 0, 0, 0xFFFFFFFF⟩,
  ⟨0x018, 1, 4, 0, 0, 0, 0, 0, 0xFFFFFFFF⟩,
  ⟨0x01C, 1, 4, 0, 0, 0, 0, 0, 0xFFFFFFFF⟩]

/-- The register table of ATC (R498). -/
def regsATC : List RegDef :=
 [
  ⟨0x000, 1, 4, 0, 1, 0, 0, 0, 0⟩,
  ⟨0x004, 1, 4, 0xFFFFFFFF, 0xFFFFFFFC, 0, 0, 0, 0⟩,
  ⟨0x008, 1, 4, 0, 0, 0, 0, 0, 0⟩,
  ⟨0x00C, 1, 4, 0, 0, 0, 0, 0, 0⟩,
  ⟨0x010, 1, 4, 0, 0, 0, 0, 0xFFFFFFFF, 0⟩,
  ⟨0x020, 1, 4, 0, 0, 0, 0, 0, 0xFFFFFFFF⟩,
  ⟨0x024, 1, 4, 0, 0, 0, 0, 0, 0xFFFFFFFF⟩]

/-- The register table of HLK (R66). -/
def regsHLK : List RegDef :=
 [
  ⟨0x000, 1, 4, 0x5000, 0xF005, 0, 2, 0, 0⟩,
  ⟨0x004, 1, 4, 0, 0, 0, 0, 0, 0⟩,
  ⟨0x008, 1, 4, 0, 0xF, 0, 0x10, 0, 0⟩,
  ⟨0x00C, 1, 4, 0x100000, 0xFFFFFFFF, 0, 0, 0, 0⟩,
  ⟨0x010, 1, 4, 0, 0, 0, 0, 0, 0xFFFFFFFF⟩,
  ⟨0x014, 1, 4, 0, 0, 0, 0, 0, 0xFFFFFFFF⟩,
  ⟨0x018, 1, 4, 0, 0, 0, 0, 0, 0xFFFFFFFF⟩,
  ⟨0x01C, 1, 4, 0, 0, 0, 0, 0, 0xFFFFFFFF⟩,
  ⟨0x100, 8, 0x20, 0, 0, 0, 0, 0, 0⟩]

/-- The register table of RCH (R100). -/
def regsRCH : List RegDef :=
 [
  ⟨0x000, 1, 4, 0x1E, 0x1F, 0, 0, 0, 0⟩,
  ⟨0x004, 1, 4, 0, 0, 0, 0, 0, 0⟩,
  ⟨0x008, 1, 4, 0, 0x380FF, 0, 0x80000000, 0, 0⟩,
  ⟨0x010, 1, 4, 0x1012, 0xFFFF, 0, 0, 0, 0⟩,
  ⟨0x014, 1, 4, 0x1114, 0xFFFF, 0, 0, 0, 0⟩,
  ⟨0x018, 1, 4, 0x1317, 0xFFFF, 0, 0, 0, 0⟩,
  ⟨0x01C, 1, 4, 0x2020, 0xFFFF, 0, 0, 0, 0⟩,
  ⟨0x020, 1, 4, 0x442400, 0xFFFF00, 0, 0, 0, 0⟩,
  ⟨0x040, 1, 4, 0, 0, 0, 0, 0, 0⟩,
  ⟨0x044, 1, 4, 0, 0, 0, 0, 0, 0⟩,
  ⟨0x048, 1, 4, 0, 0, 0, 0, 0, 0⟩,
  ⟨0x04C, 1, 4, 0, 0, 0, 0, 0, 0⟩,
  ⟨0x060, 8, 4, 0, 0, 0, 0, 0, 0⟩,
  ⟨0x0C0, 3, 4, 0, 0, 0, 0, 0, 0⟩,
  ⟨0x100, 1, 4, 0, 0, 0, 0, 0, 0xFFFFFFFF⟩,
  ⟨0x104, 1, 4, 0, 0, 0, 0, 0, 0xFFFFFFFF⟩,
  ⟨0x108, 1, 4, 0, 0, 0, 0, 0, 0xFFFFFFFF⟩,
  ⟨0x10C, 1, 4, 0, 0, 0, 0, 0, 0xFFFFFFFF⟩]

/-- The register table of RCHB (R100). -/
def regsRCHB : List RegDef :=
 [
  ⟨0x000, 1, 4, 0, 0xFFFFFF80, 0, 0, 0, 0⟩,
  ⟨0x004, 1, 4, 0, 0xFF, 0, 0, 0, 0⟩,
  ⟨0x008, 1, 4, 0x1F6D0A9C, 0xFFFFFFFF, 0, 0, 0, 0⟩,
  ⟨0x00C, 1, 4, 0xE4B2, 0xFFFF, 0, 0, 0, 0⟩]

/-- The register table of DEC (R133). -/
def regsDEC : List RegDef :=
 [
  ⟨0x000, 1, 4, 0x80020, 0x3F3FF1, 0, 0, 0, 0⟩,
  ⟨0x004, 1, 4, 0, 0, 0, 0, 0, 0⟩,
  ⟨0x008, 1, 4, 0x80168040, 0, 0, 0, 0, 0⟩,
  ⟨0x00C, 1, 4, 0x10, 0, 0, 0, 0, 0⟩,
  ⟨0x010, 2, 4, 0, 0xFFFFFFFF, 0, 0, 0, 0⟩,
  ⟨0x018, 2, 4, 0, 0, 0xFFFFFFFF, 0, 0, 0⟩,
  ⟨0x040, 1, 4, 0, 0, 0, 0, 0, 0xFFFFFFFF⟩,
  ⟨0x044, 1, 4, 0, 0, 0, 0, 0, 0xFFFFFFFF⟩,
  ⟨0x048, 1, 4, 0, 0, 0, 0, 0, 0xFFFFFFFF⟩,
  ⟨0x04C, 1, 4, 0, 0, 0, 0, 0, 0xFFFFFFFF⟩,
  ⟨0x050, 1, 4, 0, 0, 0, 0, 0, 0xFFFFFFFF⟩,
  ⟨0x054, 1, 4, 0, 0, 0, 0, 0, 0xFFFFFFFF⟩,
  ⟨0x058, 1, 4, 0, 0, 0, 0, 0, 0xFFFFFFFF⟩,
  ⟨0x080, 1, 4, 0, 0xFFFFFFF0, 0, 0, 0, 0⟩,
  ⟨0x084, 1, 4, 0, 0xFF, 0, 0, 0, 0⟩,
  ⟨0x088, 1, 4, 0, 0, 0, 0, 0, 0xFFFFFFFF⟩,
  ⟨0x08C, 1, 4, 0, 0, 0, 0, 0, 0xFFFFFFFF⟩,
  ⟨0x090, 1, 4, 0, 0, 0, 0, 0, 0xFFFFFFFF⟩,
  ⟨0x094, 1, 4, 0, 0, 0, 0, 0, 0xFFFFFFFF⟩]

/-- The register table of SRV (R212). -/
def regsSRV : List RegDef :=
 [
  ⟨0x000, 1, 4, 0, 1, 0, 6, 0, 0⟩,
  ⟨0x004, 1, 4, 0, 0, 0, 0, 0, 0⟩,
  ⟨0x008, 1, 4, 0xA00, 0x1FFF, 0, 0, 0, 0⟩,
  ⟨0x00C, 1, 4, 0x2D00B400, 0xFFFFFFC0, 0, 0, 0, 0⟩,
  ⟨0x010, 1, 4, 0x40014E1B, 0xFF0FFFFF, 0, 0, 0, 0⟩,
  ⟨0x014, 1, 4, 0x1EC14842, 0xFFFFFFFF, 0, 0, 0, 0⟩,
  ⟨0x018, 1, 4, 0x26640004, 0xFFFFFFFF, 0, 0, 0, 0⟩,
  ⟨0x01C, 1, 4, 0x1F40800, 0xFFFFFFFF, 0, 0, 0, 0⟩,
  ⟨0x020, 1, 4, 0x2830242B, 0xFFFFFFFF, 0, 0, 0, 0⟩,
  ⟨0x024, 1, 4, 0x20E21E24, 0xFFFFFFFF, 0, 0, 0, 0⟩,
  ⟨0x028, 1, 4, 0x1BD319D6, 0xFFFFFFFF, 0, 0, 0, 0⟩,
  ⟨0x02C, 1, 4, 0x181D0010, 0xFFFF00FF, 0, 0, 0, 0⟩,
  ⟨0x030, 1, 4, 0xFFF, 0xF0FFF, 0, 0x80000000, 0, 0⟩,
  ⟨0x034, 1, 4, 0, 0xFFFFF000, 0, 0, 0, 0⟩,
  ⟨0x038, 1, 4, 0, 0xFF, 0, 0, 0, 0⟩,
  ⟨0x03C, 1, 4, 0, 0xFFFFF000, 0, 0, 0, 0⟩,
  ⟨0x040, 1, 4, 0, 0xFF, 0, 0, 0, 0⟩,
  ⟨0x044, 1, 4, 0, 0xFFFFFF, 0, 0, 0, 0⟩,
  ⟨0x050, 1, 4, 0, 0, 0, 0, 0, 0xFFFFFFFF⟩,
  ⟨0x054, 1, 4, 0, 0, 0, 0, 0, 0xFFFFFFFF⟩,
  ⟨0x058, 1, 4, 0, 0, 0, 0, 0, 0xFFFFFFFF⟩,
  ⟨0x05C, 1, 4, 0, 0, 0, 0, 0, 0xFFFFFFFF⟩,
  ⟨0x060, 1, 4, 0, 0, 0, 0, 0, 0xFFFFFFFF⟩,
  ⟨0x064, 1, 4, 0, 0, 0, 0, 0, 0xFFFFFFFF⟩,
  ⟨0x080, 4, 4, 0, 0xFFFFFFFF, 0, 0, 0, 0⟩,
  ⟨0x090, 4, 4, 0, 0xFFFFFFFF, 0, 0, 0, 0⟩,
  ⟨0x100, 10, 0x20, 0, 0, 0, 0, 0, 0⟩,
  ⟨0x104, 10, 0x20, 0, 0, 0, 0, 0, 0⟩,
  ⟨0x108, 10, 0x20, 0, 0xFFFF, 0, 0, 0, 0⟩,
  ⟨0x10C, 10, 0x20, 0, 0, 0, 0, 0, 0⟩] ++
 [
  ⟨0x110, 10, 0x20, 0, 0, 0, 0, 0, 0⟩,
  ⟨0x400, 1, 4, 0, 0xFFC000, 0, 0x88000000, 0, 0⟩,
  ⟨0x404, 1, 4, 0x2660000, 0xFFFFFFFF, 0, 0, 0, 0⟩,
  ⟨0x408, 1, 4, 0, 0xFFFFFFFF, 0, 0, 0, 0⟩,
  ⟨0x40C, 1, 4, 0x4001, 0xFFFFFFFF, 0, 0, 0, 0⟩,
  ⟨0x410, 1, 4, 0, 0xFFFF, 0, 0, 0, 0⟩,
  ⟨0x414, 1, 4, 0, 0, 0, 0, 0, 0⟩,
  ⟨0x420, 1, 4, 0, 0xFFFFFFF, 0, 0x80000000, 0, 0⟩,
  ⟨0x424, 1, 4, 0, 0xFFFFFFFF, 0, 0, 0, 0⟩,
  ⟨0x428, 1, 4, 0, 0xFFFFFFF8, 0, 0, 0, 0⟩,
  ⟨0x42C, 1, 4, 0, 0xFF, 0, 0, 0, 0⟩,
  ⟨0x430, 1, 4, 0, 0xFFFFFFC0, 0, 0, 0, 0⟩,
  ⟨0x434, 1, 4, 0, 0xFF, 0, 0, 0, 0⟩,
  ⟨0x438, 1, 4, 0, 0, 0, 0, 0, 0⟩,
  ⟨0x43C, 1, 4, 0, 0, 0, 0, 0, 0⟩]

/-- The register table of SPN (R256). -/
def regsSPN : List RegDef :=
 [
  ⟨0x000, 1, 4, 0, 0x19, 0, 0x26, 0, 0⟩,
  ⟨0x004, 1, 4, 0, 0, 0, 0, 0, 0⟩,
  ⟨0x008, 1, 4, 0x40, 0xFFFF807F, 0, 0, 0, 0⟩,
  ⟨0x00C, 1, 4, 0x4040, 0xFFFFFFFF, 0, 0, 0, 0⟩,
  ⟨0x010, 1, 4, 0x33C8, 0xFFFFFF, 0, 0, 0, 0⟩,
  ⟨0x014, 1, 4, 0x40B91, 0xFFFFFF, 0, 0, 0, 0⟩,
  ⟨0x018, 1, 4, 0x65BA09C4, 0xFFFFFFFF, 0, 0, 0, 0⟩,
  ⟨0x01C, 1, 4, 0x4000044C, 0xF000FFFF, 0, 0, 0, 0⟩,
  ⟨0x020, 1, 4, 0x190014, 0xFFFFFFFF, 0, 0, 0, 0⟩,
  ⟨0x024, 1, 4, 0x19060A02, 0xFFFFFFFF, 0, 0, 0, 0⟩,
  ⟨0x028, 1, 4, 0x12C1000, 0xFFFFFFFF, 0, 0, 0, 0⟩,
  ⟨0x02C, 1, 4, 0x12C0C30, 0xFFFFFFFF, 0, 0, 0, 0⟩,
  ⟨0x030, 1, 4, 0x2582000, 0xFFFFFFFF, 0, 0, 0, 0⟩,
  ⟨0x034, 1, 4, 0x32012C, 0xFFFFFFFF, 0, 0, 0, 0⟩,
  ⟨0x038, 1, 4, 0x600, 0xFFF, 0, 0, 0, 0⟩,
  ⟨0x03C, 1, 4, 0xF0000400, 0xFFFFFFFF, 0, 0, 0, 0⟩,
  ⟨0x040, 1, 4, 0x4028, 0xFFFF, 0, 0, 0, 0⟩,
  ⟨0x044, 1, 4, 0x3E801F4, 0xFFFFFFFF, 0, 0, 0, 0⟩,
  ⟨0x048, 1, 4, 0, 7, 0, 0, 0, 0⟩,
  ⟨0x050, 1, 4, 0, 0xFFFFFF, 0, 0, 0, 0⟩,
  ⟨0x054, 2, 4, 0, 0xFFFFFF, 0, 0, 0, 0⟩,
  ⟨0x05C, 2, 4, 0x400000, 0xFFFFFF, 0, 0, 0, 0⟩,
  ⟨0x070, 1, 4, 0, 0xFFFFFF, 0, 0, 0, 0⟩,
  ⟨0x074, 2, 4, 0, 0xFFFFFF, 0, 0, 0, 0⟩,
  ⟨0x07C, 2, 4, 0x400000, 0xFFFFFF, 0, 0, 0, 0⟩,
  ⟨0x0A0, 1, 4, 0, 0, 0, 0, 0, 0⟩,
  ⟨0x0A4, 1, 4, 0, 0, 0, 0, 0, 0⟩,
  ⟨0x0A8, 1, 4, 0, 0, 0, 0, 0, 0⟩,
  ⟨0x0AC, 1, 4, 0, 0, 0, 0, 0, 0⟩,
  ⟨0x0B0, 1, 4, 0, 0, 0, 0, 0, 0⟩] ++
 [
  ⟨0x0B4, 1, 4, 0, 0, 0, 0, 0, 0⟩,
  ⟨0x0B8, 1, 4, 0, 0, 0, 0, 0, 0⟩,
  ⟨0x0C0, 1, 4, 0, 0, 0, 0, 0, 0xFFFFFFFF⟩,
  ⟨0x0C4, 1, 4, 0, 0, 0, 0, 0, 0xFFFFFFFF⟩,
  ⟨0x0C8, 1, 4, 0, 0, 0, 0, 0, 0xFFFFFFFF⟩,
  ⟨0x0CC, 1, 4, 0, 0, 0, 0, 0, 0xFFFFFFFF⟩,
  ⟨0x0D0, 1, 4, 0, 0, 0, 0, 0, 0xFFFFFFFF⟩]

/-- The register table of SPNB (R256). -/
def regsSPNB : List RegDef :=
 [
  ⟨0x000, 1, 4, 0x35E8, 0xFFFF, 0, 0, 0, 0⟩,
  ⟨0x004, 1, 4, 0x3A98, 0xFFFF, 0, 0, 0, 0⟩,
  ⟨0x008, 1, 4, 0x38A4, 0xFFFF, 0, 0, 0, 0⟩,
  ⟨0x00C, 1, 4, 0x27D8, 0xFFFF, 0, 0, 0, 0⟩,
  ⟨0x010, 1, 4, 0x34BC, 0xFFFF, 0, 0, 0, 0⟩,
  ⟨0x014, 1, 4, 0x3390, 0xFFFF, 0, 0, 0, 0⟩]

/-- The register table of STM (R289). -/
def regsSTM : List RegDef :=
 [
  ⟨0x000, 1, 4, 0, 3, 0, 0, 0, 0⟩,
  ⟨0x004, 1, 4, 0, 0, 0, 0, 0, 0⟩,
  ⟨0x008, 1, 4, 0, 0xFC000000, 0, 0, 0, 0⟩,
  ⟨0x00C, 1, 4, 0, 0xFF, 0, 0, 0, 0⟩,
  ⟨0x010, 1, 4, 0, 0xFFFFFFC0, 0, 0, 0, 0⟩,
  ⟨0x014, 1, 4, 0, 0xFF, 0, 0, 0, 0⟩,
  ⟨0x018, 1, 4, 0, 0xFFFFFFC0, 0, 0, 0, 0⟩,
  ⟨0x01C, 1, 4, 0, 0xFF, 0, 0, 0, 0⟩,
  ⟨0x020, 1, 4, 0, 0xFFFFFFC0, 0, 0, 0, 0⟩,
  ⟨0x024, 1, 4, 0, 0xFF, 0, 0, 0, 0⟩,
  ⟨0x028, 1, 4, 0, 0xFFFFFFE0, 0, 0, 0, 0⟩,
  ⟨0x02C, 1, 4, 0, 0xFF, 0, 0, 0, 0⟩,
  ⟨0x030, 1, 4, 0, 0x8001FFF, 0, 0x80000000, 0, 0⟩,
  ⟨0x034, 1, 4, 0x10E02000, 0xFFFFFF00, 0, 0, 0, 0⟩,
  ⟨0x038, 1, 4, 0, 0, 0, 0, 0, 0⟩,
  ⟨0x03C, 1, 4, 0, 0x80FFFFF, 0, 0x80000000, 0, 0⟩,
  ⟨0x040, 16, 4, 0, 0xFFFFFFFF, 0, 0, 0, 0⟩,
  ⟨0x080, 1, 4, 0, 0xFFFF, 0, 0, 0, 0⟩,
  ⟨0x090, 1, 4, 0, 0, 0, 0, 0, 0xFFFFFFFF⟩,
  ⟨0x094, 1, 4, 0, 0, 0, 0, 0, 0xFFFFFFFF⟩,
  ⟨0x098, 1, 4, 0, 0, 0, 0, 0, 0xFFFFFFFF⟩,
  ⟨0x09C, 1, 4, 0, 0, 0, 0, 0, 0xFFFFFFFF⟩,
  ⟨0x0A0, 1, 4, 0, 0, 0, 0, 0, 0xFFFFFFFF⟩,
  ⟨0x0B0, 1, 4, 0, 0xFFFF, 0, 0, 0, 0⟩,
  ⟨0x0B4, 1, 4, 0, 0, 0xFFFFFFFF, 0, 0, 0⟩,
  ⟨0x100, 8, 0x20, 0, 0xFFFFFF, 0, 0, 0, 0⟩,
  ⟨0x104, 8, 0x20, 0, 0xF00FFFFF, 0, 0, 0, 0⟩,
  ⟨0x108, 8, 0x20, 0, 0xFFFFFFFF, 0, 0, 0, 0⟩,
  ⟨0x10C, 8, 0x20, 0, 0xFFFFFFFF, 0, 0, 0, 0⟩,
  ⟨0x110, 8, 0x20, 0, 0xFFFFF000, 0, 0, 0, 0⟩] ++
 [
  ⟨0x114, 8, 0x20, 0, 0xFF, 0, 0, 0, 0⟩,
  ⟨0x118, 8, 0x20, 0, 0xFFFFFFC0, 0, 0, 0, 0⟩,
  ⟨0x11C, 8, 0x20, 0, 0xFF, 0, 0, 0, 0⟩,
  ⟨0x200, 8, 4, 0, 0, 0, 0, 0, 0⟩]

/-- The register table of CCH (R308). -/
def regsCCH : List RegDef :=
 [
  ⟨0x000, 1, 4, 0, 0xF1, 0, 0, 0, 0⟩,
  ⟨0x004, 1, 4, 0, 0, 0x10000, 0, 0, 0⟩,
  ⟨0x010, 4, 0x10, 0, 0xFFFFF001, 0, 0, 0, 0⟩,
  ⟨0x014, 4, 0x10, 0, 0xFF, 0, 0, 0, 0⟩,
  ⟨0x018, 4, 0x10, 0, 0xFFFFFFF, 0, 0, 0, 0⟩,
  ⟨0x050, 1, 4, 0, 0x3F, 0, 0x80000000, 0, 0⟩,
  ⟨0x054, 1, 4, 0, 0xFFFFFFFF, 0, 0, 0, 0⟩,
  ⟨0x058, 1, 4, 0, 0xFF, 0, 0, 0, 0⟩,
  ⟨0x05C, 1, 4, 0, 0xFFFFFFFF, 0, 0, 0, 0⟩,
  ⟨0x060, 1, 4, 0, 0xFF, 0, 0, 0, 0⟩,
  ⟨0x064, 1, 4, 0, 0, 0, 0, 0, 0⟩,
  ⟨0x068, 1, 4, 0, 0, 0, 0, 0, 0⟩,
  ⟨0x070, 8, 4, 0, 0, 0xFFFFFFFF, 0, 0, 0⟩,
  ⟨0x090, 1, 4, 0x10, 0xFFFF, 0, 0, 0, 0⟩,
  ⟨0x0A0, 1, 4, 0, 0, 0, 0, 0, 0xFFFFFFFF⟩,
  ⟨0x0A4, 1, 4, 0, 0, 0, 0, 0, 0xFFFFFFFF⟩,
  ⟨0x0A8, 1, 4, 0, 0, 0, 0, 0, 0xFFFFFFFF⟩,
  ⟨0x0AC, 1, 4, 0, 0, 0, 0, 0, 0xFFFFFFFF⟩,
  ⟨0x0B0, 1, 4, 0, 0, 0, 0, 0, 0xFFFFFFFF⟩,
  ⟨0x0B4, 1, 4, 0, 0, 0, 0, 0, 0xFFFFFFFF⟩]

/-- The register table of DMV (R337). -/
def regsDMV : List RegDef :=
 [
  ⟨0x000, 1, 4, 0, 1, 0, 0, 0, 0⟩,
  ⟨0x004, 1, 4, 0, 0, 0, 0, 0, 0⟩,
  ⟨0x400, 64, 0x10, 0, 0xFFFFFFC0, 0, 0, 0, 0⟩,
  ⟨0x404, 64, 0x10, 0, 0xFF, 0, 0, 0, 0⟩,
  ⟨0x408, 64, 0x10, 0, 0xFFFFFFFF, 0, 0, 0, 0⟩,
  ⟨0x40C, 64, 0x10, 0, 0xFF, 0, 0, 0, 0⟩,
  ⟨0x1000, 64, 0x40, 0x2000000, 0xFF800000, 0, 0, 0, 0⟩,
  ⟨0x1004, 64, 0x40, 0, 0xFFFFFFE0, 0, 0, 0, 0⟩,
  ⟨0x1008, 64, 0x40, 0, 0xFF, 0, 0, 0, 0⟩,
  ⟨0x100C, 64, 0x40, 0, 0xFFFF, 0, 0, 0, 0⟩,
  ⟨0x1010, 64, 0x40, 0, 0, 0, 0, 0, 0⟩,
  ⟨0x1014, 64, 0x40, 0, 0, 0, 0, 0, 0⟩,
  ⟨0x1018, 64, 0x40, 0, 0, 0, 0, 0, 0⟩,
  ⟨0x101C, 64, 0x40, 0, 0xFFFFFFFF, 0, 0, 0, 0⟩,
  ⟨0x1020, 64, 0x40, 0, 0xFFFFFFFF, 0, 0, 0, 0⟩,
  ⟨0x1024, 64, 0x40, 0, 0, 0, 3, 0, 0⟩]

/-- The register table of BUF (R338). -/
def regsBUF : List RegDef :=
 [
  ⟨0x000, 1, 4, 0x80C, 6, 0, 0, 0, 0⟩,
  ⟨0x004, 1, 4, 0x1859, 0, 0, 0, 0, 0⟩,
  ⟨0x008, 1, 4, 0, 0, 1, 0, 0, 0⟩,
  ⟨0x010, 1, 4, 0x400001, 0xFFFFFFFF, 0, 0, 0, 0⟩,
  ⟨0x014, 1, 4, 0x28, 0xFFFF, 0, 0, 0, 0⟩,
  ⟨0x018, 1, 4, 0, 0, 0, 0, 0, 0⟩,
  ⟨0x020, 1, 4, 0, 0, 0, 0, 0, 0xFFFFFFFF⟩,
  ⟨0x100, 128, 4, 0, 0xC000007F, 0, 0, 0, 0⟩,
  ⟨0x400, 32, 0x10, 0, 0, 0x80000000, 0, 0, 0⟩,
  ⟨0x404, 32, 0x10, 0, 0, 0, 0, 0, 0⟩,
  ⟨0x408, 32, 0x10, 0, 0, 0, 0, 0, 0⟩,
  ⟨0x40C, 32, 0x10, 0, 0, 0, 0, 0, 0⟩]

/-- The register table of BUFC (R338). -/
def regsBUFC : List RegDef :=
 [
  ⟨0x000, 1, 4, 0, 0, 0, 0, 0, 0⟩,
  ⟨0x004, 1, 4, 0x1000, 0xFF00, 0, 1, 0, 0⟩,
  ⟨0x040, 1, 4, 0, 0, 0, 0, 0, 0xFFFFFFFF⟩,
  ⟨0x044, 1, 4, 0, 0, 0, 0, 0, 0xFFFFFFFF⟩,
  ⟨0x048, 1, 4, 0, 0, 0, 0, 0, 0xFFFFFFFF⟩,
  ⟨0x04C, 1, 4, 0, 0, 0, 0, 0, 0xFFFFFFFF⟩,
  ⟨0x100, 16, 4, 0, 0, 0, 0, 0, 0⟩]

/-- The register table of CPH (R356). -/
def regsCPH : List RegDef :=
 [
  ⟨0x000, 1, 4, 0, 1, 0, 2, 0, 0⟩,
  ⟨0x004, 1, 4, 0, 0, 0, 0, 0, 0⟩,
  ⟨0x008, 1, 4, 0x1002000, 0, 0, 0, 0, 0⟩,
  ⟨0x010, 1, 4, 0, 0x79FFFFF, 0, 0x80000000, 0, 0⟩,
  ⟨0x014, 1, 4, 0, 0, 0, 0, 0, 0⟩,
  ⟨0x018, 1, 4, 0, 0, 0, 0, 0, 0⟩,
  ⟨0x01C, 1, 4, 0, 0, 0, 0, 0, 0⟩,
  ⟨0x040, 16, 4, 0, 0, 0, 0, 0xFFFFFFFF, 0⟩,
  ⟨0x100, 8, 4, 0, 0xFFFFFFFF, 0, 0, 0, 0⟩,
  ⟨0x120, 8, 4, 0, 0, 0xFFFFFFFF, 0, 0, 0⟩,
  ⟨0x180, 1, 4, 0, 0, 0, 0, 0, 0xFFFFFFFF⟩,
  ⟨0x184, 1, 4, 0, 0, 0, 0, 0, 0xFFFFFFFF⟩,
  ⟨0x188, 1, 4, 0, 0, 0, 0, 0, 0xFFFFFFFF⟩,
  ⟨0x18C, 1, 4, 0, 0, 0, 0, 0, 0xFFFFFFFF⟩]

/-- The register table of SEQ (R416). -/
def regsSEQ : List RegDef :=
 [
  ⟨0x000, 1, 4, 0, 0, 0, 0xD, 0, 0⟩,
  ⟨0x004, 1, 4, 0, 0, 0, 0, 0, 0⟩,
  ⟨0x008, 1, 4, 0, 0, 0, 0, 0, 0⟩,
  ⟨0x00C, 1, 4, 0, 0xFFFFFFFF, 0, 0, 0, 0⟩,
  ⟨0x010, 1, 4, 0, 0xFF, 0, 0, 0, 0⟩,
  ⟨0x014, 1, 4, 0, 0xFFFFFFFF, 0, 0, 0, 0⟩,
  ⟨0x018, 1, 4, 0, 0xFFFFFFFF, 0, 0, 0, 0⟩,
  ⟨0x01C, 1, 4, 0, 0, 0, 0xFFFF, 0, 0⟩,
  ⟨0x040, 1, 4, 0, 0, 0, 0, 0, 0xFFFFFFFF⟩,
  ⟨0x044, 1, 4, 0, 0, 0, 0, 0, 0xFFFFFFFF⟩,
  ⟨0x048, 1, 4, 0, 0, 0, 0, 0, 0xFFFFFFFF⟩,
  ⟨0x04C, 1, 4, 0, 0, 0, 0, 0, 0xFFFFFFFF⟩,
  ⟨0x100, 2, 4, 0, 0xFFFFFFFF, 0, 0, 0, 0⟩,
  ⟨0x108, 2, 4, 0, 0xFFFFFFFF, 0, 0, 0, 0⟩,
  ⟨0x110, 2, 4, 0, 0xFFFFFFFF, 0, 0, 0, 0⟩,
  ⟨0x118, 1, 4, 0, 1, 0, 0, 0, 0⟩,
  ⟨0x200, 64, 4, 0, 0x7FFF, 0, 0, 0, 0⟩]

/-- The register table of LDR (R416). -/
def regsLDR : List RegDef :=
 [
  ⟨0x000, 1, 4, 0, 0x4000000, 0, 0x80000000, 0, 0⟩,
  ⟨0x004, 1, 4, 0, 0xFFFFFFF0, 0, 0, 0, 0⟩,
  ⟨0x008, 1, 4, 0, 0xFF, 0, 0, 0, 0⟩,
  ⟨0x00C, 1, 4, 0, 0xFFFFFFFF, 0, 0, 0, 0⟩,
  ⟨0x010, 1, 4, 0, 0xFF, 0, 0, 0, 0⟩,
  ⟨0x014, 1, 4, 0, 0, 0, 0, 0, 0⟩]

/-- The register table of HIF (R387). -/
def regsHIF : List RegDef :=
 [
  ⟨0x000, 1, 4, 0x31, 0x3D, 0, 0, 0, 0⟩,
  ⟨0x004, 1, 4, 0, 0, 0, 0, 0, 0⟩,
  ⟨0x010, 1, 4, 0, 0, 0, 0, 0, 0xFFFFFFFF⟩,
  ⟨0x014, 1, 4, 0, 0, 0, 0, 0, 0xFFFFFFFF⟩,
  ⟨0x018, 1, 4, 0, 0, 0, 0, 0, 0xFFFFFFFF⟩]

/-- The register table of HIFV (R387). -/
def regsHIFV : List RegDef :=
 [
  ⟨0x000, 129, 4, 0, 0xE00007FF, 0, 0, 0, 0⟩,
  ⟨0x400, 8, 4, 0, 0, 0xFFFFFFFF, 0, 0, 0⟩]

/-- The register table of PFB (R474). -/
def regsPFB : List RegDef :=
 [
  ⟨0x000, 1, 4, 0x320000, 0xFF0000, 0, 0, 0, 0⟩,
  ⟨0x004, 1, 4, 0x88B5801C, 0xFFFFFFFF, 0, 0, 0, 0⟩,
  ⟨0x008, 1, 4, 0, 0xFFFFFFFF, 0, 0, 0, 0⟩,
  ⟨0x00C, 1, 4, 0, 0xFFFF, 0, 0, 0, 0⟩,
  ⟨0x010, 1, 4, 0x7D0, 0xFFFF, 0, 0, 0, 0⟩]

/-- The register table of PFBP (R474). -/
def regsPFBP : List RegDef :=
 [
  ⟨0x000, 1, 4, 0, 0, 0, 0, 0, 0⟩,
  ⟨0x010, 1, 4, 0, 0, 0, 0, 0, 0xFFFFFFFF⟩,
  ⟨0x014, 1, 4, 0, 0, 0, 0, 0, 0xFFFFFFFF⟩,
  ⟨0x018, 1, 4, 0, 0, 0, 0, 0, 0xFFFFFFFF⟩,
  ⟨0x01C, 1, 4, 0, 0, 0, 0, 0, 0xFFFFFFFF⟩]

/-- The register table of PEER (R474). -/
def regsPEER : List RegDef :=
 [
  ⟨0x000, 1, 4, 0, 0x1FFFF, 0, 0xC0000000, 0, 0⟩,
  ⟨0x004, 1, 4, 0, 0xFFFFFFFF, 0, 0, 0, 0⟩,
  ⟨0x008, 1, 4, 0, 0xFFFF, 0, 0, 0, 0⟩,
  ⟨0x00C, 1, 4, 0, 0x1FFF1FFF, 0, 0, 0, 0⟩,
  ⟨0x010, 1, 4, 0, 0xFF, 0, 0, 0, 0⟩,
  ⟨0x014, 1, 4, 0, 0, 0, 0, 0, 0⟩]

/-- The register table of TB (R475). -/
def regsTB : List RegDef :=
 [
  ⟨0x000, 1, 4, 0x8080F800, 0xFFFFFFFF, 0, 0, 0, 0⟩,
  ⟨0x004, 1, 4, 0xC1403E8, 0x8FFFFFFF, 0, 0, 0, 0⟩,
  ⟨0x008, 1, 4, 0x3E800C8, 0xFFFFFFFF, 0, 0, 0, 0⟩,
  ⟨0x00C, 1, 4, 0, 0, 0x8000, 0, 0, 0⟩,
  ⟨0x010, 1, 4, 0, 0, 0, 0, 0, 0⟩,
  ⟨0x014, 1, 4, 0, 0, 0, 0, 0, 0⟩,
  ⟨0x018, 1, 4, 0, 0, 0, 0, 0, 0⟩,
  ⟨0x01C, 1, 4, 0, 0, 0, 0, 0, 0⟩,
  ⟨0x020, 1, 4, 0, 0, 0, 0, 0, 0⟩,
  ⟨0x024, 1, 4, 0, 0, 0, 0, 0, 0⟩,
  ⟨0x028, 1, 4, 0, 0xFFFFFFFF, 0, 0, 0, 0⟩,
  ⟨0x02C, 1, 4, 0, 0xFFFF, 0, 0, 0, 0⟩]

/-- The register table of FUS (R449). -/
def regsFUS : List RegDef :=
 [
  ⟨0x000, 1, 4, 0x300, 0, 0, 0, 0, 0⟩,
  ⟨0x008, 1, 4, 0, 0, 0, 0, 0, 0⟩,
  ⟨0x00C, 1, 4, 0, 0, 0, 0, 0, 0⟩,
  ⟨0x010, 1, 4, 0, 0, 0, 0x80000100, 0, 0⟩,
  ⟨0x014, 1, 4, 0, 0, 0, 0x80000000, 0, 0⟩,
  ⟨0x040, 12, 4, 0, 0xFFFFFFFF, 0, 0, 0, 0⟩,
  ⟨0x100, 64, 4, 0, 0, 0, 0, 0xFFFFFFFF, 0⟩]

/-- The register table of OBS (R539). -/
def regsOBS : List RegDef :=
 [
  ⟨0x000, 8, 4, 0, 0xFF01FF, 0, 0, 0, 0⟩,
  ⟨0x020, 1, 4, 0, 0, 0, 0, 0, 0⟩]

/-- The register table of FLT (R476). -/
def regsFLT : List RegDef :=
 [
  ⟨0xF00, 1, 4, 0, 0, 0, 0, 0, 0⟩,
  ⟨0xF04, 1, 4, 0, 0xFFFFFF, 0, 0, 0, 0⟩,
  ⟨0xF08, 1, 4, 0, 0, 0, 0, 0xFFFFFF, 0⟩,
  ⟨0xF0C, 1, 4, 0, 1, 0, 0, 0, 0⟩,
  ⟨0xF10, 8, 4, 0, 0, 0, 0, 0, 0⟩,
  ⟨0xF30, 1, 4, 0, 0x31F, 0, 0x80000000, 0, 0⟩,
  ⟨0xF34, 1, 4, 0, 0, 0, 0, 0, 0⟩]

/-- The blocks of the address map (R540). -/
def blocks : List BlockDef := [
  ⟨0x00000000, 0, 1, 1, regsGLB⟩,
  ⟨0x00010000, 0, 1, 1, regsCLK⟩,
  ⟨0x00020000, 0, 1, 1, regsPRC⟩,
  ⟨0x00030000, 0, 1, 1, regsATC⟩,
  ⟨0x00100000, 0x1000, 16, 8, regsHLK⟩,
  ⟨0x00200000, 0x400, 320, 160, regsRCH⟩,
  ⟨0x002F0000, 0, 1, 1, regsRCHB⟩,
  ⟨0x00300000, 0, 1, 1, regsDEC⟩,
  ⟨0x00400000, 0x1000, 32, 16, regsSRV⟩,
  ⟨0x00500000, 0x800, 16, 8, regsSPN⟩,
  ⟨0x00508000, 0, 1, 1, regsSPNB⟩,
  ⟨0x00600000, 0, 1, 1, regsSTM⟩,
  ⟨0x00700000, 0, 1, 1, regsCCH⟩,
  ⟨0x00800000, 0, 1, 1, regsDMV⟩,
  ⟨0x00900000, 0, 1, 1, regsBUF⟩,
  ⟨0x00910000, 0x1000, 8, 4, regsBUFC⟩,
  ⟨0x00A00000, 0, 1, 1, regsCPH⟩,
  ⟨0x00B00000, 0x1000, 40, 40, regsSEQ⟩,
  ⟨0x00B80000, 0, 1, 1, regsLDR⟩,
  ⟨0x00C00000, 0x1000, 2, 2, regsHIF⟩,
  ⟨0x00C04000, 0, 1, 1, regsHIFV⟩,
  ⟨0x00D00000, 0, 1, 1, regsPFB⟩,
  ⟨0x00D01000, 0x1000, 2, 1, regsPFBP⟩,
  ⟨0x00D04000, 0x20, 64, 64, regsPEER⟩,
  ⟨0x00D08000, 0, 1, 1, regsTB⟩,
  ⟨0x00E00000, 0, 1, 1, regsFUS⟩,
  ⟨0x00F00000, 0, 1, 1, regsOBS⟩]

/-- The fault groups of every block instance with a source number (R385, R476), as blocks. -/
def faultBlocks : List BlockDef := [
  ⟨0x00000000, 0, 1, 1, regsFLT⟩, ⟨0x00010000, 0, 1, 1, regsFLT⟩, ⟨0x00020000, 0, 1, 1, regsFLT⟩,
  ⟨0x00030000, 0, 1, 1, regsFLT⟩, ⟨0x002F0000, 0, 1, 1, regsFLT⟩, ⟨0x00300000, 0, 1, 1, regsFLT⟩,
  ⟨0x00600000, 0, 1, 1, regsFLT⟩, ⟨0x00700000, 0, 1, 1, regsFLT⟩, ⟨0x00800000, 0, 1, 1, regsFLT⟩,
  ⟨0x00900000, 0, 1, 1, regsFLT⟩, ⟨0x00A00000, 0, 1, 1, regsFLT⟩, ⟨0x00C00000, 0x1000, 2, 2, regsFLT⟩,
  ⟨0x00D01000, 0x1000, 2, 1, regsFLT⟩, ⟨0x00E00000, 0, 1, 1, regsFLT⟩, ⟨0x00100000, 0x1000, 16, 8, regsFLT⟩,
  ⟨0x00400000, 0x1000, 32, 16, regsFLT⟩, ⟨0x00580000, 0x1000, 16, 8, regsFLT⟩,
  ⟨0x00910000, 0x1000, 8, 4, regsFLT⟩, ⟨0x00B00000, 0x1000, 40, 40, regsFLT⟩, ⟨0x00F00000, 0, 1, 1, regsFLT⟩]

/-- The fault-group base of source `src` (R385, R476). -/
def faultBase (src : Nat) : Nat :=
  if src < 16 then
    [0x00000000, 0x00010000, 0x00020000, 0x00030000, 0x002F0000, 0x00300000, 0x00600000, 0x00700000,
     0x00800000, 0x00900000, 0x00A00000, 0x00C00000, 0x00C01000, 0x00D01000, 0x00D02000, 0x00E00000].getD src 0
  else if src < 32 then 0x00100000 + (src - 16) * 0x1000
  else if src < 64 then 0x00400000 + (src - 32) * 0x1000
  else if src < 80 then 0x00580000 + (src - 64) * 0x1000
  else if src < 88 then 0x00910000 + (src - 80) * 0x1000
  else if src < 128 then 0x00B00000 + (src - 88) * 0x1000
  else 0x00F00000

/-- The register base of source `src`, which differs from its fault-group base for SPN alone (R476). -/
def registerBase (src : Nat) : Nat :=
  if 64 ≤ src ∧ src < 80 then 0x00500000 + (src - 64) * 0x800 else faultBase src

/-- A fault-group register of source `src` (R476). -/
def Reg.flt (r : Reg) (src : Nat) : Reg := { r with base := faultBase src, stride := 0 }

/-- A fault-group field of source `src` (R476). -/
def Fld.flt (f : Fld) (src : Nat) : Fld := { f with reg := f.reg.flt src }

/-- Find the row of a block's table that names offset `o`. -/
def findReg (o : Nat) : List RegDef → Option (RegDef × Nat)
  | [] => none
  | d :: ds =>
    if d.off ≤ o ∧ (o - d.off) % d.step = 0 ∧ (o - d.off) / d.step < d.count then some (d, (o - d.off) / d.step)
    else findReg o ds

/-- Find the register at a BAR2 address among some blocks: its row, instance, entry and the instance count. -/
def findIn (jd16 : Bool) (addr : Nat) : List BlockDef → Option (RegDef × Nat × Nat × Bool)
  | [] => none
  | b :: bs =>
    let n := if jd16 then b.n16 else b.n08
    let i := if b.stride = 0 then 0 else (addr - b.base) / b.stride
    let o := if b.stride = 0 then addr - b.base else (addr - b.base) % b.stride
    if b.base ≤ addr ∧ i < b.n16 then
      match findReg o b.regs with
      | some (d, j) => some (d, i, j, decide (i < n))
      | none => findIn jd16 addr bs
    else findIn jd16 addr bs

/-- A sequencer number that the variant implements (R2): the JD1608 has 0 to 15 and 32 to 39. -/
def seqImpl (jd16 : Bool) (q : Nat) : Bool :=
  decide (q < 40) && (jd16 || decide (q < 16) || decide (32 ≤ q))

/-- The register at a BAR2 address, and whether the variant implements its instance (R2, R3). -/
def regAt (jd16 : Bool) (addr : Nat) : Option (RegDef × Nat × Nat × Bool) :=
  let r := match findIn jd16 addr blocks with
    | some x => some x
    | none => findIn jd16 addr faultBlocks
  if 0x00B00000 ≤ addr ∧ addr < 0x00B28000 then
    r.map fun (d, i, j, _) => (d, i, j, seqImpl jd16 i)
  else r

/-- The value of the register at `addr` right after reset, on the variant (R4, R133, R338, R356 differ). -/
def regReset (jd16 : Bool) (addr : Nat) : Nat :=
  if ¬ jd16 ∧ addr = 0x00000000 then 0x00001608
  else if ¬ jd16 ∧ addr = 0x00300008 then 0x400B4020
  else if ¬ jd16 ∧ addr = 0x0030000C then 0x00000008
  else if ¬ jd16 ∧ addr = 0x00900000 then 0x00000404
  else if ¬ jd16 ∧ addr = 0x00900004 then 0x0000185A
  else if ¬ jd16 ∧ addr = 0x00A00008 then 0x00802000
  else match regAt jd16 addr with
    | some (d, _, _, true) => d.reset
    | _ => 0

end Sys2Proof.Machine
end

