-- ==== Sys2Proof/Machine/State.lean ====
section
/-!
DEFINITION. The state of the block as plain data, and the state after reset. Every register of BAR2 lives in
`State.regs`; what no register shows lives in one structure per unit.
-/

namespace Sys2Proof.Machine

/-- The lookup in a sparse map whose unlisted keys read `d`. -/
def mget {α : Type} (d : Nat → α) : List (Nat × α) → Nat → α
  | [], k => d k
  | (j, v) :: m, k => if j = k then v else mget d m k

/-- The update of a sparse map: keys stay rising, and no entry equals what its key reads as unlisted. -/
def mset {α : Type} [DecidableEq α] (d : Nat → α) (m : List (Nat × α)) (k : Nat) (v : α) : List (Nat × α) :=
  m.filter (fun e => e.1 < k) ++ (if v = d k then [] else [(k, v)]) ++ m.filter (fun e => k < e.1)

/-- The canonical form: keys strictly rising, no entry equal to what its key reads as unlisted. -/
def mcanon {α : Type} [DecidableEq α] (d : Nat → α) : List (Nat × α) → Bool
  | [] => true
  | [(k, v)] => decide (v ≠ d k)
  | (k, v) :: (k', v') :: m => decide (v ≠ d k) && decide (k < k') && mcanon d ((k', v') :: m)

/-- What a fault can be. No command of the block stops it (inventory, "Faults"). -/
inductive Fault where
  /-- Raised by no meaning: the type must have a value. Safe. -/
  | halted
  deriving DecidableEq, Repr

/-- Why a command has no meaning. -/
inductive Refusal where
  /-- Raised by `exec` for a command that is not modelled. Safe. -/
  | notModelled (mnemonic : String)
  deriving DecidableEq, Repr

/-- Modes, resets and the wipe beside the GLB registers. -/
structure GlbS where
  /-- Main rails off: Dormant, which GLB_MODE cannot report (R436). -/
  dormant : Bool := false
  /-- A device reset held behind a fuse burn, with its cause (R433). -/
  rstPend : Option Nat := none
  /-- The SRAM wipe of R434 runs. -/
  sramWipe : Bool := true
  /-- The buffer part of the wipe, R323, runs. -/
  bufWipe : Bool := true
  /-- The boot engine has been started and has not ended (R432). -/
  booting : Bool := false
  /-- The mode before the device reset, for the MODE record (R493); 0 is Dormant. -/
  prevMode : Nat := 0
  /-- Contained cause bits set by injections that do not count, by source (R482, R486, R487). -/
  quiet : List (Nat × Nat) := []
  /-- Units to rejoin at the next epoch boundary: fault sources whose fence cleared (R31, R485). -/
  rejoin : List Nat := []
  deriving DecidableEq, Repr

/-- Clock gating and supervision beside the CLK registers. -/
structure ClkS where
  /-- Gated units, TYPE and INDEX of R428. -/
  gated : List (Nat × Nat) := []
  /-- The unit of the gate request that waits (R429). -/
  gateWait : Option (Nat × Nat) := none
  /-- Register writes held while the gate request waits: agent, address and value (R429). -/
  held : List (Agent × Nat × Word) := []
  /-- Ticks in the present or last holdover, and whether R422 has acted in it (R422, R448). -/
  holdTicks : Nat := 0
  acted : Bool := false
  deriving DecidableEq, Repr

/-- A record of the Attic (R490). -/
structure AtticRec where
  seq : Nat := 0
  tick : Nat := 0
  inj : Bool := false
  trig : Nat := 0
  cls : Nat := 0
  loss : Bool := false
  cause : Nat := 0
  source : Nat := 0
  rep : Nat := 0
  snaps : List Word := []
  deriving DecidableEq, Repr

/-- The Attic beside its registers (R489 to R497). -/
structure AtcS where
  /-- The stored records by slot. -/
  recs : List (Nat × AtticRec) := []
  /-- Triggers captured and not yet stored, oldest first, at most 16 (R494). -/
  pend : List AtticRec := [
    { trig := 1, source := 0xFFFF, snaps := List.replicate 12 0 },
    { trig := 2, source := 0xFFFF,
      snaps := [0, 0, 0x00000401, 0x00000100] ++ List.replicate 8 0 } ]
  /-- The next stored record carries LOSS (R494). -/
  loss : Bool := false
  /-- The last record number used (R497). -/
  last : Nat := 0
  deriving DecidableEq, Repr

/-- Fuses beside the FUS registers (R442 to R446). -/
structure FusS where
  /-- The burn in progress: the target state (R444). -/
  burn : Option Nat := none
  /-- The token staging registers, which read zero (R445). -/
  token : List (Nat × Word) := []
  /-- The fused serial number, 20 characters (R445). -/
  serial : List Byte := List.replicate 20 0
  /-- The fused owner key hash, 48 bytes (R443). -/
  ownerHash : List Byte := List.replicate 48 0
  /-- Openings by token (R446). -/
  obsTok : Bool := false
  tapTok : Bool := false
  deriving DecidableEq, Repr

/-- A load of a sequencer that has not returned: destination register, whether the fast handler issued it, registers,
buffer or Pantry address, and ONCE (R396). -/
structure SeqLoad where
  dst : Nat
  fast : Bool
  cnt : Nat
  pantry : Bool
  addr : Nat
  once : Bool
  deriving DecidableEq, Repr

/-- A sequencer beside its registers (R388 to R390). -/
structure SeqS where
  /-- General registers g0 to g63; unlisted ones hold zero. -/
  g : List (Nat × Word) := []
  /-- The shadow bank, by 0 to 15 (R389). -/
  shadow : List (Nat × Word) := []
  /-- Return stack, newest first, at most 8. -/
  stack : List Nat := []
  /-- MERR 5, RF 4, Z 3, N 2, C 1, V 0. -/
  flags : Word := 0
  cf : Word := 0
  epcN : Word := 0
  eflN : Word := 0
  epcF : Word := 0
  eflF : Word := 0
  tmr : List (Nat × Word) := []
  /-- A first watchdog expiry has come with no restart since (R408). -/
  wdogOnce : Bool := false
  /-- The four buffer window bases, LO at 2i and HI at 2i + 1. -/
  win : List (Nat × Word) := []
  /-- LPAR taken at RUN, LO and HI. -/
  lparLo : Word := 0
  lparHi : Word := 0
  /-- SR latches of the WC_LO and ANCH_T reads (R390). -/
  wcHi : Word := 0
  wnum : Word := 0
  wavg : Word := 0
  anchS : Word := 0
  anchF : Word := 0
  /-- Address of the next word to issue. -/
  pc : Nat := 0
  /-- Cycles waited by the WAIT word at `pc` (R395). -/
  waited : Nat := 0
  /-- Hardware sets of PEND_LO and PEND_HI since the last read (R406). -/
  sinceLo : Word := 0
  sinceHi : Word := 0
  /-- Inbound queues Q0 to Q3, oldest first, 64 records of 16 words each (R388, R400). -/
  queues : List (Nat × List (List Word)) := []
  /-- Records on their way to this sequencer: queue and record, oldest first (R400). -/
  inbound : List (Nat × List Word) := []
  /-- Outstanding loads, oldest first, at most 4 (R396). -/
  loads : List SeqLoad := []
  /-- The cache operation of a CMO word runs: the word has issued and waits (R395). -/
  cmo : Bool := false
  /-- The control store; unlisted words are TRAP words (R388, R434). -/
  store : List (Nat × BitVec 128) := []
  /-- ENTRY of the loaded image (R410). -/
  entry : Nat := 0
  /-- The last load ended done (R411). -/
  loaded : Bool := false
  deriving DecidableEq, Repr

/-- Who issued a command to a companion (R58). -/
inductive Issuer where
  | servo (a : Nat)
  | spindle (n : Nat)
  | micro (q : Nat) (sub : Nat)
  | link
  deriving DecidableEq, Repr

/-- A command block that awaits its transmission or its acknowledgement (R54 to R58). -/
structure LinkCmd where
  cls : Nat
  cseq : Nat
  block : List Byte
  /-- Transmissions so far. -/
  sends : Nat := 0
  /-- To be placed in the next frame. -/
  due : Bool := true
  issuer : Issuer
  deriving DecidableEq, Repr

/-- A burst of WRITE blocks in transmission (R134, R399): blocks still to send. -/
structure Burst where
  head : Nat
  blocks : List (List Byte)
  /-- Channel bits already sent. -/
  sent : Nat := 0
  /-- Start and bit period of its WRITE_OPEN, once one has come (R139, R140). -/
  gate : Option (Nat × Nat) := none
  deriving DecidableEq, Repr

/-- A WRITE_OPEN of a head (R139): start in 1/256 tick, bit period in 2^-22 ps, length in bits; whether a burst has
taken it, and whether the companion has reported a write fault in it (R148). -/
structure WriteOpen where
  start : Nat
  period : Nat
  length : Nat
  used : Bool := false
  fault : Bool := false
  deriving DecidableEq, Repr

/-- A command failure event that a servo engine or spindle controller received (R58, R545). -/
structure CmdFail where
  cls : Nat
  cseq : Nat
  result : Nat
  deriving DecidableEq, Repr

/-- A LANE_MAP that waits for its frame: transmit and receive lane masks of the port (R51, R60). -/
structure LaneMap where
  tx : Nat
  rx : Nat
  frame : Nat
  deriving DecidableEq, Repr

/-- A lane retrain in progress (R60): direction 0 receive, 1 transmit. -/
structure LaneTrain where
  dir : Nat
  lane : Nat
  /-- Requested through HLK_LANE. -/
  host : Bool
  deriving DecidableEq, Repr

/-- A frame as the port sends it: its sequence number, lanes and blocks (R37, R38). -/
structure TxFrame where
  seq : Nat
  lanes : Nat
  blocks : List (List Byte)
  deriving DecidableEq, Repr

/-- A head-link port beside its registers. -/
structure HlkS where
  /-- Failed bring-up attempts (R59). -/
  attempts : Nat := 0
  /-- Consecutive markers found and missed per receive lane (R39). -/
  laneSeen : List (Nat × Nat) := []
  laneMiss : List (Nat × Nat) := []
  /-- Aligned receive lanes. -/
  aligned : Nat := 0
  /-- The running window of 2^20 frames: frames, uncorrectable codewords and corrected symbols (R60, R66). -/
  winFrames : Nat := 0
  winUnc : List (Nat × Nat) := []
  winCorr : List (Nat × Nat) := []
  /-- A STATUS block has come since Lock began (R59). -/
  statusSeen : Bool := false
  /-- Frame count of link time, 26 bits (R41). -/
  frame : Nat := 0
  /-- Last CSEQ sent per class 1 to 4 (R54). -/
  cseq : List (Nat × Nat) := []
  cmds : List LinkCmd := []
  bursts : List Burst := []
  /-- The latest WRITE_OPENs per link head, newest first, at most four (R140). -/
  opens : List (Nat × List WriteOpen) := []
  /-- Command failure events of the port's servo and spindle commands, newest first (R58). -/
  failures : List CmdFail := []
  laneMaps : List LaneMap := []
  /-- Lane retrains in progress, oldest first, at most one per direction (R60). -/
  retrain : List LaneTrain := []
  /-- Blocks released by the receiver and not yet taken, oldest first. -/
  rxq : List (List Byte) := []
  /-- One above the block number, in 96 samples, of the last accepted block per link head; 0 when none has come since
  bring-up (R42, R45). -/
  bseq : List (Nat × Nat) := []
  /-- Last EPOCH bit per actuator of the port, 2 when no block has come since bring-up (R42, R81). -/
  epochBit : List (Nat × Nat) := []
  /-- Fields of the newest STATUS block (R47). -/
  flags : Nat := 0
  anchorT : Nat := 0
  anchor : List (Nat × Nat) := []
  frac : List (Nat × Nat) := []
  badRx : Nat := 0
  /-- Information words by index (R47). -/
  info : List (Nat × Option Word) := []
  /-- The frame on the transmit lanes. -/
  tx : Option TxFrame := none
  /-- N of each actuator's ADC rate, and N of its newest ADC_RATE command (R51, R81). -/
  adcN : List (Nat × Nat) := []
  adcNext : List (Nat × Nat) := []
  deriving DecidableEq, Repr

/-- A line of the context cache (R293). -/
structure CLine where
  tag : Nat := 0
  data : List Byte := []
  valid : Bool := false
  dirty : Bool := false
  locked : Bool := false
  stale : Bool := false
  age : Nat := 0
  deriving DecidableEq, Repr

/-- A bank's outstanding miss: the requests that wait on it, oldest first, and the poison mark (R294, R301). -/
structure CMiss where
  line : Nat
  reqs : List CacheReq
  poisoned : Bool := false
  deriving DecidableEq, Repr

/-- The maintenance operation that runs (R298). -/
structure COp where
  op : Nat
  addr : Nat
  len : Nat
  range : Bool
  incl : Bool
  /-- The sequencer whose CMO word started it; none for CCH_OP. -/
  who : Option Nat
  inval : Nat := 0
  stale : Nat := 0
  poison : Nat := 0
  wb : Nat := 0
  refused : Bool := false
  look : Nat := 0
  deriving DecidableEq, Repr

/-- The answer to a cached access: address, and its bytes or an error. -/
structure CResp where
  who : Agent
  addr : Nat
  data : Option (List Byte)
  deriving DecidableEq, Repr

/-- The context cache beside its registers (R290 to R307). -/
structure CchS where
  /-- Lines by (bank × 16 + way) × 512 + set. -/
  lines : List (Nat × CLine) := []
  /-- Outstanding misses by bank. -/
  miss : List (Nat × Option CMiss) := []
  /-- Requests that wait for a bank's fill or for a running range operation, oldest first (R294, R302). -/
  waiting : List CacheReq := []
  op : Option COp := none
  /-- Operations of microcode that wait their turn (R298). -/
  opq : List COp := []
  /-- Corrected errors of this epoch by bank × 16 + way (R307). -/
  ecc : List (Nat × Nat) := []
  /-- Ways to return at the next epoch boundary, bank × 16 + way (R307). -/
  returning : List Nat := []
  /-- The newest answers to cached accesses, newest first. -/
  out : List CResp := []
  deriving DecidableEq, Repr

/-- A buffer channel beside its registers (R313 to R326). -/
structure BufChS where
  /-- Burst repeats in this epoch (R314). -/
  edc : Nat := 0
  /-- Retirements in this epoch (R318). -/
  retired : Nat := 0
  /-- Next group to scrub (R322). -/
  scrub : Nat := 0
  /-- Groups being copied to spares, with their remap entries, oldest first (R317). -/
  copying : List (Nat × Nat) := []
  /-- Resilvered, to join at the next epoch boundary (R326). -/
  joining : Bool := false
  deriving DecidableEq, Repr

/-- A generation held in a half of a key slot (R342): XTS keys of 64 bytes, or a GCM key of 32 bytes with
its hash subkey, salt and invocation counter. `spent` marks the counter used at 2^64 - 1 (R341). -/
structure KeyGen where
  gen : Nat
  key : List Byte
  h : List Byte := []
  salt : List Byte := []
  ctr : Nat := 0
  spent : Bool := false
  deriving DecidableEq, Repr

/-- A key slot: kind 0 empty, 1 XTS, 2 GCM; halves A and B (R342). -/
structure KeySlot where
  kind : Nat := 0
  a : Option KeyGen := none
  b : Option KeyGen := none
  deriving DecidableEq, Repr

/-- A request in a cipher queue or engine: its age, and the IV it was given (R341, R351, R354). -/
structure CphJob where
  age : Nat
  req : CipherReq
  iv : Option (List Byte) := none
  key : Option KeyGen := none
  deriving DecidableEq, Repr

/-- A slot command whose requests have not finished (R345). -/
structure SlotCmd where
  slot : Nat
  /-- The generation removed; none for WIPE. -/
  gen : Option Nat
  deriving DecidableEq, Repr

/-- The result of a request for its requester (R353). -/
structure CphDone where
  tag : Nat
  result : Nat
  out : List Byte
  deriving DecidableEq, Repr

/-- The cipher beside its registers (R339 to R356). -/
structure CphS where
  slots : List (Nat × KeySlot) := []
  /-- Staging registers by number, which read zero (R343). -/
  stage : List (Nat × Word) := []
  media : List CphJob := []
  peer : List CphJob := []
  eng : List (Nat × Option CphJob) := []
  nextAge : Nat := 0
  /-- Places of the media input store taken, and decoders that wait for one, in order (R351). -/
  store : Nat := 0
  storeWait : List Nat := []
  cmd : Option SlotCmd := none
  /-- Engines to return at the next epoch boundary (R355). -/
  returning : List Nat := []
  /-- Results of requests that came through CIPHER_REQUEST, newest first. -/
  done : List CphDone := []
  deriving DecidableEq, Repr

/-- An I/O submission queue: its completion queue, size, the tail last written, entries fetched (R367, R368). -/
structure SubQ where
  qid : Nat
  cq : Nat
  size : Nat
  tail : Nat := 0
  head : Nat := 0
  deriving DecidableEq, Repr

/-- An I/O completion queue: its size and MSI-X vector (R367, R384). -/
structure CmpQ where
  qid : Nat
  size : Nat
  vector : Nat
  intr : Bool
  deriving DecidableEq, Repr

/-- A controller: one per link of a port (R358). -/
structure Ctrl where
  /-- CC.EN. -/
  en : Bool := false
  /-- CSTS.SHST: 0 normal, 1 occurring, 2 complete (R362). -/
  shst : Nat := 0
  /-- The admin queue pair is queue 0. -/
  subs : List SubQ := [{ qid := 0, cq := 0, size := 4096 }]
  cmps : List CmpQ := [{ qid := 0, size := 4096, vector := 0, intr := true }]
  /-- Volatile Write Cache enabled (R372). -/
  vwc : Bool := true
  /-- Power state, and the last operational one (R375). -/
  ps : Nat := 0
  opPs : Nat := 0
  /-- Asynchronous Event Requests held, by command slot, oldest first (R364). -/
  aers : List Nat := []
  /-- Event types noticed and not yet reported. -/
  notices : List Nat := []
  deriving DecidableEq, Repr

/-- A command in a command slot (R368, R369): its submission entry, the page addresses of its data, its
sequence number, and how far its sectors have come. -/
structure Cmd where
  link : Nat
  qid : Nat
  cid : Nat
  sqe : List Word
  prps : List Nat
  seqno : Nat
  tick : Nat
  /-- Write cache disabled at the fetch, or FUA (R21, R372). -/
  through : Bool
  /-- The command's row has run: it has been decided or admitted. -/
  begun : Bool := false
  /-- Sectors to serve, and the namespace and first LBA. -/
  nsid : Nat := 0
  slba : Nat := 0
  count : Nat := 0
  /-- Sectors admitted, ended, and with data present. -/
  admitted : Nat := 0
  ended : Nat := 0
  arrived : Nat := 0
  /-- The DMV has started a chunk of the transfer (R371). -/
  moving : Bool := false
  /-- Transfers to host memory have been handed to the DMV. -/
  handed : Bool := false
  /-- First failure status, SCT × 256 + SC; 0 none. -/
  fail : Nat := 0
  /-- A Flush to report a failure of a sector it depends on (R153, R548). -/
  flushFail : Bool := false
  /-- Dwords 0 and 1 of the completion: the LBA that a Zone Append took (R373). -/
  result : Nat := 0
  /-- LBAs of a stream read that need no admission: held already, or failed (R280, R283). -/
  skip : List Nat := []
  /-- The stream of a stream command. -/
  stream : Option Nat := none
  deriving DecidableEq, Repr

/-- What a host port sends: completion entries, MSI-X messages, data (R332, R368, R384). -/
inductive HostMsg where
  | cqe (port link qid cid status dw0 : Nat)
  | msix (port link vector : Nat)
  | data (port link addr : Nat) (bytes : List Byte)
  deriving DecidableEq, Repr

/-- A transfer that a unit has ready for the DMV: the owner places it as a descriptor (R327, R329). -/
structure Xfer where
  toHost : Bool
  len : Nat
  host : Nat
  buf : Nat
  p0 : Nat
  p1 : Nat
  tag : Nat
  /-- The host port whose command it serves. -/
  port : Nat := 0
  deriving DecidableEq, Repr

/-- The idle policy and record of one HDA (R376 to R378, R382). -/
structure IdleS where
  en : Nat := 3
  slowK : Nat := 32
  unloadT : Nat := 120
  slowT : Nat := 900
  stopT : Nat := 3600
  /-- Idle state: 0 active, 1 unloaded, 2 slowed, 3 stopped. -/
  state : Nat := 0
  entries : Nat := 0
  /-- Tick of the last grant. -/
  last : Nat := 0
  /-- Target K before the HDA slowed. -/
  wakeK : Nat := 64
  /-- Wake in progress: from which state and since which tick (R382), and how far it is: 0 not begun, 1 start or ramp
  asked for, 2 load asked for (R377). -/
  waking : Option (Nat × Nat) := none
  wakeStep : Nat := 0
  /-- A stop towards the idle state Stopped is under way (R376). -/
  stopping : Bool := false
  /-- Measured exit latencies in ms by state, newest first, at most 16 of each. -/
  exits : List (Nat × Nat) := []
  deriving DecidableEq, Repr

/-- An entry of the Media Error log (R383). -/
structure MediaErr where
  seq : Nat
  cause : Nat
  nsid : Nat
  lba : Nat
  psa : Nat
  hda : Nat
  epoch : Nat
  deriving DecidableEq, Repr

/-- The host interface beside its registers. -/
structure HifS where
  /-- Controllers by port × 2 + link. -/
  ctrl : List (Nat × Ctrl) := []
  /-- Command slots by port × 4096 + slot. -/
  slots : List (Nat × Option Cmd) := []
  /-- The next subsystem sequence number (R369). -/
  seqno : Nat := 1
  /-- PERST deasserted, by port. -/
  perstHigh : List (Nat × Bool) := []
  /-- HIF_PCFG as applied at the last PERST deassertion, by port (R358). -/
  applied : List (Nat × Word) := []
  /-- Links held down after R422. -/
  heldDown : Bool := false
  /-- Fault interrupts whose message has been sent or counted (R386). -/
  intr : List Nat := []
  /-- Messages accepted by the transmit queues, newest first. -/
  out : List HostMsg := []
  /-- Transfers ready, by port (R327). -/
  ready : List (Nat × List Xfer) := []
  /-- The Media Error ring, newest first, at most 256 entries, and its last SEQ (R383). -/
  errs : List MediaErr := []
  errSeq : Nat := 0
  /-- Commands completed with Unrecovered Read Error or Write Fault (R381). -/
  mediaErrors : Nat := 0
  /-- The power state that the device applies (R375). -/
  ps : Nat := 0
  /-- Decoders and cipher engines that PS2 has fenced (R375). -/
  psDec : List Nat := []
  psEng : List Nat := []
  /-- Idle policy and state by HDA (R376). -/
  idle : List (Nat × IdleS) := []
  /-- Images staged by Firmware Download, by byte offset (R365). -/
  fw : List (Nat × Byte) := []
  deriving DecidableEq, Repr

/-- A zone entry as committed (R259). -/
structure Zone where
  valid : Bool := false
  shingled : Bool := false
  firstCyl : Nat := 0
  ncyl : Nat := 0
  spt : Nat := 0
  dataP : Nat := 0
  rsvBase : Nat := 0
  ang0 : Nat := 0
  slip : Nat := 0
  metaA : Nat := 0
  metaB : Nat := 0
  nextP : Nat := 0
  /-- Zone state of a shingled zone: 0 as its write pointer says, 1 Read Only (R148), 2 Full (R153, R157), 3 Offline; and how
  it was opened: 0 by a write, 1 explicitly, 2 closed (R373). -/
  zstate : Nat := 0
  zopen : Nat := 0
  /-- Write pointer in LBAs of the zone (R157). -/
  wp : Nat := 0
  deriving DecidableEq, Repr

/-- One extent (R258): copy A and, in a mirrored namespace, copy B. -/
structure Extent where
  lba : Nat
  count : Nat
  aAct : Nat
  aZone : Nat
  aP : Nat
  bAct : Nat
  bZone : Nat
  bP : Nat
  deriving DecidableEq, Repr

/-- A namespace descriptor as committed, with its extents (R257). -/
structure Ns where
  valid : Bool := false
  zoned : Bool := false
  mirror : Bool := false
  profile : Nat := 0
  keySlot : Nat := 0
  keyGen : Nat := 0
  size : Nat := 0
  peer : Nat := 0
  bRemote : Bool := false
  extents : List Extent := []
  deriving DecidableEq, Repr

/-- Where a sector stands. `queued` waits for a grant; `granted` holds landing and decoder credits; `served`
has its data in buffer; `merged` is a write whose media work went to the write with that TAG (R155). -/
inductive SecSt where
  | queued
  | granted
  | served
  | merged (into : Nat)
  deriving DecidableEq, Repr

/-- A sector of a command or stream (R25 to R29, R267 to R279). -/
structure Sector where
  tag : Nat
  /-- 0 read, 1 write, 3 scan. -/
  op : Nat
  nsid : Nat
  lba : Nat
  /-- The place: actuator, zone, the P that the LBA maps to and the P in use after the slip table. -/
  copyB : Bool
  act : Nat
  zone : Nat
  p0 : Nat
  p : Nat
  /-- The copy lies behind a peer port (R278, R279). -/
  remote : Bool := false
  cls : Nat
  slot : Nat
  st : SecSt := .queued
  /-- Write data present in the slot, or read data delivered. -/
  data : Bool := false
  deadline : Nat
  soft : Option Nat := none
  decCredit : Bool := false
  /-- In-place retries at this place and rewrite-forwards so far (R147, R152). -/
  retries : Nat := 0
  forwards : Nat := 0
  /-- The verify has passed at this place (R158). -/
  verified : Bool := false
  /-- Slip entries used by its lookup that are not yet DURABLE are awaited (R158). -/
  twin : Option Nat := none
  /-- The command that it belongs to while that has not completed, and the controller that fetched it: port × 2 + link. -/
  cmd : Option (Nat × Nat) := none
  ctrl : Option Nat := none
  stream : Option Nat := none
  seqno : Nat := 0
  order : Nat := 0
  fua : Bool := false
  /-- It has been granted before (R155), and its verify is a late one (R145). -/
  given : Bool := false
  late : Bool := false
  /-- Its result is discarded (R272, R361, R371). -/
  dropped : Bool := false
  /-- A copy of a zone's slip table: the zone index and copy number (R154). -/
  slipOf : Option (Nat × Nat) := none
  /-- For work of a peer: the entry and the PSEQ to answer (R460, R461), or of a rebuild the RBREQ's (op 3, R467). -/
  peer : Option (Nat × Nat) := none
  /-- Of a write received from a peer: its WEPOCH and origin (R462), its STREAM, and that it has lost to a later write. -/
  origin : Option (Nat × Nat) := none
  mark : Nat := 0xFFFFF
  lost : Bool := false
  keySlot : Nat := 0
  keyGen : Nat := 0
  wepoch : Nat := 0
  flags : Nat := 0
  deriving DecidableEq, Repr

/-- What the scheduler holds of one actuator (R275, R286). -/
structure ActS where
  /-- The chosen stripe: zone and stripe number. -/
  stripe : Option (Nat × Nat) := none
  busy : Nat := 0
  served : Nat := 0
  late : Nat := 0
  admitted : Nat := 0
  waits : Nat := 0
  qmax : Nat := 0
  deriving DecidableEq, Repr

/-- A slot of a class pool (R267): 0 free, 1 earmarked, 2 held as a buffer credit. -/
abbrev SlotSt := Nat

/-- A checked entry that waits for the epoch boundary (R260). -/
inductive MapPend where
  | ns (n : Nat) (x : Ns)
  | zone (k : Nat) (z : Zone)
  deriving DecidableEq, Repr

/-- A Rebind that waits for the epoch boundary (R280). -/
structure Rebind where
  stream : Nat
  nsid : Nat
  cls : Nat
  lba : Nat
  port : Nat
  slot : Nat
  deriving DecidableEq, Repr

/-- The stream engine beside its registers and tables. -/
structure StmS where
  sectors : List Sector := []
  nextTag : Nat := 1
  order : Nat := 0
  /-- Commands whose pieces wait, by class, oldest first: port and slot (R268). -/
  waiting : List (Nat × List (Nat × Nat)) := []
  acts : List (Nat × ActS) := []
  /-- Slots by class × 2^24 + slot. -/
  slots : List (Nat × SlotSt) := []
  zones : List (Nat × Zone) := []
  ns : List (Nat × Ns) := []
  mapPend : Option MapPend := none
  /-- Indices of contexts that are not FREE (R263). -/
  opened : List Nat := []
  /-- Read-ahead sectors that failed and that no stream read has covered: stream, LBA and FAIL (R271, R283). -/
  ringFailed : List (Nat × Nat × Nat) := []
  /-- Rings in use: class, ring and the stream that holds it (R280). -/
  rings : List (Nat × Nat × Nat) := []
  /-- Streams whose context the buffer did not deliver: they are BROKEN (R321). -/
  lost : List Nat := []
  rebind : List Rebind := []
  /-- Close commands that wait for their stream's work to end: stream, port, slot (R280). -/
  closes : List (Nat × Nat × Nat) := []
  /-- Consecutive write faults per head (R148). -/
  wfRun : List (Nat × Nat) := []
  /-- LBAs whose write failed: reads return Unrecovered (R153). -/
  failed : List (Nat × Nat) := []
  /-- Namespaces with a failure that no Flush has reported (R153). -/
  owed : List Nat := []
  /-- Actuators to return to writes at the next epoch boundary (R148). -/
  wReturn : List Nat := []
  /-- Zones whose slip-table copies are to be written (R154). -/
  slipDue : List Nat := []
  /-- Slip copies verified since the last change of the table: zone × 2 + copy (R154). -/
  slipOk : List Nat := []
  /-- Zone Resets that wait for their table copies: zone, port, slot (R157). -/
  zoneResets : List (Nat × Nat × Nat) := []
  /-- Highest epoch count reached (R471). -/
  hwm : Nat := 0
  /-- Transfers of the STM ready for the DMV (R327). -/
  ready : List Xfer := []
  /-- Soft slots taken (landing credits) and decoder credits taken (R24, R119). -/
  soft : List Nat := []
  dcred : Nat := 0
  deriving DecidableEq, Repr

/-- A chunk in flight: offset in the descriptor and length (R331). -/
structure Chunk where
  off : Nat
  len : Nat
  deriving DecidableEq, Repr

/-- A descriptor that has started: its index, words, the bytes cut into chunks, the bytes that reached the
destination, and the chunks in flight, oldest first. -/
structure DmvRun where
  index : Nat
  words : List Word
  cut : Nat := 0
  moved : Nat := 0
  flight : List Chunk := []
  deriving DecidableEq, Repr

/-- A descriptor channel beside its registers. -/
structure DmvCh where
  runs : List DmvRun := []
  /-- Index of the next descriptor to start. -/
  next : Nat := 0
  /-- EN was cleared and chunks in flight still finish (R336). -/
  ending : Bool := false
  deriving DecidableEq, Repr

/-- A pulse sent: target, index, TAG and the error flag (R334). -/
structure Pulse where
  target : Nat
  index : Nat
  tag : Nat
  error : Bool
  deriving DecidableEq, Repr

/-- The data mover beside its registers. -/
structure DmvS where
  ch : List (Nat × DmvCh) := []
  /-- Pulses sent and not yet acted on, oldest first. -/
  pulses : List Pulse := []
  deriving DecidableEq, Repr

/-- A request to a peer (R459): its sequence number, type, flags and plaintext payload, times sent, the
sector it serves, and whether stage 1 has come. -/
structure PeerReq where
  pseq : Nat
  type : Nat
  flags : Nat
  ref : Nat := 0
  payload : List Byte
  sends : Nat := 0
  tag : Nat
  stage1 : Bool := false
  deriving DecidableEq, Repr

/-- A request seen from a peer and the answer given: type and payload (R459). -/
structure PeerSeen where
  pseq : Nat
  type : Nat := 0
  answer : Option (Nat × List Byte) := none
  deriving DecidableEq, Repr

/-- A rebuild that a peer asked for with an RBREQ (R467): its PSEQ, the next LBA, LBAs left and LBAs sent. -/
structure RbJob where
  pseq : Nat
  nsid : Nat
  lba : Nat
  left : Nat
  sent : Nat := 0
  deriving DecidableEq, Repr

/-- A peer beside its entry registers. -/
structure PeerS where
  /-- Last PSEQ used. -/
  pseq : Nat := 0
  /-- Outstanding requests, oldest first, MWRITEs between stage 1 and stage 2 included. -/
  reqs : List PeerReq := []
  /-- Requests held back by the peer's window, oldest first. -/
  held : List PeerReq := []
  seen : List PeerSeen := []
  /-- HELLO intervals since the last HELLO; the window it advertised. -/
  quiet : Nat := 3
  rxWin : Nat := 0
  /-- JOIN awaits the epoch boundary (R465). -/
  joining : Bool := false
  /-- Slots of RXCLASS reserved (R460). -/
  reserved : Nat := 0
  rebuild : List RbJob := []
  deriving DecidableEq, Repr

/-- A PTP port's data: the master's identity and priorities heard, and the four timestamps in ns (R469). -/
structure PtpPort where
  heard : Option (List Nat) := none
  seqId : Nat := 0
  t1 : Option Int := none
  t2 : Option Int := none
  t3 : Option Int := none
  delay : Int := 0
  deriving DecidableEq, Repr

/-- The peer ports and the time base beside their registers. -/
structure PfbS where
  peers : List (Nat × PeerS) := []
  /-- Frames sent, newest first: port and frame. -/
  out : List (Nat × PeerFrame) := []
  /-- PTP messages sent, newest first. -/
  ptpOut : List (Nat × PtpMsg) := []
  ports : List (Nat × PtpPort) := []
  /-- Fraction of a nanosecond, ADJ and I of the servo in 2^-32 ns per REF cycle (R468, R470). -/
  frac : Nat := 0
  adj : Int := 0
  integ : Int := 0
  okRun : Nat := 0
  /-- Has been VALID since reset. -/
  wasValid : Bool := false
  deriving DecidableEq, Repr

/-- The service chain beside PRC's registers (R452, R533). -/
structure ChainS where
  /-- Frames passed on and responses started, newest first. -/
  out : List ChainFrame := []
  tripped : Bool := false
  deriving DecidableEq, Repr

/-- A read gate request (R69, R399); START in 1/256 sample, `acc` as R398 gives it. -/
structure GateReq where
  start : Nat
  exp : Nat
  bank : Nat
  slot : Nat
  tag : Nat
  splitAt : Nat := 0
  splitLen : Nat := 0
  acc : Nat := 0
  deriving DecidableEq, Repr

/-- A replay request (R94, R398): raw slot, forced candidate (0 none), forced offset and bank, and the
accumulator's pass count when the detector runs on the accumulator (R170). -/
structure ReplayReq where
  raw : Nat
  slot : Nat
  tag : Nat
  cand : Nat := 0
  ofs : Option Int := none
  bank : Option Nat := none
  passes : Option Nat := none
  deriving DecidableEq, Repr

/-- The head record of a raw slot (R93, R114, R115, R399). -/
structure RawRec where
  used : Bool := false
  start : Nat := 0
  exp : Nat := 0
  bank : Nat := 0
  rho : Nat := 0
  count : Nat := 0
  cut : Bool := false
  splitAt : Nat := 0
  splitLen : Nat := 0
  /-- Samples left out at a split: where, counted from START, and how many (R399). -/
  skipAt : Nat := 0
  skipN : Nat := 0
  /-- Number of the gate that filled it. -/
  age : Nat := 0
  pin : Bool := false
  deriving DecidableEq, Repr

/-- A sync candidate (R91): offset from EXP_SYNC and M ÷ Es. -/
structure SyncCand where
  ofs : Int
  m : Rat
  deriving DecidableEq, Repr

/-- A gate that runs in a processing context (R68, R75 to R92): all by bit, oldest first. -/
structure GateCtx where
  req : GateReq
  replay : Option ReplayReq := none
  /-- The bank's entry as it stood when the gate opened (R96). -/
  params : List Word
  /-- The nominal ratio, Q4.24 (R80). -/
  rho : Nat
  /-- P in 2^-24 sample and F in 2^-24 sample per bit (R77). -/
  p : Int
  f : Int := 0
  /-- G in 2^-8, O in 1/64 LSB, the asymmetry in 2^-12, the FIR in 2^-10 (R75, R85). -/
  g : Int
  o : Int
  alpha : Int
  fir : List Int
  /-- Phase of R82: 0 ZPS, 1 ACQ, 2 SETTLE, 3 TRACK; and the ends of ZPS and ACQ in bits from gate open. -/
  phase : Nat := 0
  zpsEnd : Nat := 0
  acqEnd : Nat := 0
  /-- Bit instants formed so far. -/
  bits : Nat := 0
  /-- Interpolated values, scaled values and equalized values. -/
  v : List Rat := []
  u : List Rat := []
  z : List Rat := []
  /-- Survivor metrics and paths of the 16 states, newest bit lowest (R84, R87). -/
  surv : List (Rat × Nat) := []
  /-- Tentative decisions, oldest first. -/
  dec : List Nat := []
  /-- The mean of v × v over the zero-phase start, and the phase of the 2T pattern it found. -/
  pv : Rat := 64
  /-- The split of R399 has been passed. -/
  skipped : Bool := false
  clips : Nat := 0
  clampT : Bool := false
  clampG : Bool := false
  clampF : Bool := false
  /-- The raw slot that captures, and the samples captured (R93); none: no capture (R164). -/
  raw : Option Nat := none
  cands : List SyncCand := []
  /-- Samples of the gate from the one at START, oldest first; and the samples that the split skipped. -/
  smp : List Int := []
  skipAt : Nat := 0
  skipN : Nat := 0
  /-- First codeword bit, once the sync window has closed (R92). -/
  frame : Option Nat := none
  /-- Status that the gate will end with (R71). -/
  status : Nat := 0
  /-- Codeword bits whose soft values stand in the slot. -/
  written : Nat := 0
  deriving DecidableEq, Repr

/-- A head pipeline beside its registers. -/
structure RchS where
  /-- Samples in the input FIFO by index, oldest first, at most 1,024 (R67). -/
  fifo : List (Nat × Int) := []
  bank0 : Option (List Word) := none
  bank1 : Option (List Word) := none
  queue : List GateReq := []
  live : Option GateCtx := none
  replay : Option GateCtx := none
  raw0 : RawRec := {}
  raw1 : RawRec := {}
  /-- Gates opened so far. -/
  gates : Nat := 0
  /-- Both raw slots are the accumulator of R170. -/
  accOn : Bool := false
  deriving DecidableEq, Repr

/-- A codeword in the decoder pool (R120 to R125): its age, its sequencer and the fields of its request. -/
structure Codeword where
  age : Nat
  q : Nat
  slot : Nat
  kind : Nat
  pri : Nat
  iter : Nat
  nsid : Nat
  lba : Nat
  psa : Nat
  keyslot : Nat
  bufaddr : Nat
  tag : Nat
  /-- Iterations run over all parts. -/
  used : Nat := 0
  /-- It resumes from the posteriors in its slot. -/
  parked : Bool := false
  /-- Input that came back with it from a fenced decoder's input buffer (R131). -/
  carry : List Int := []
  /-- Cancelled: it ends ABANDONED at the next iteration boundary (R130). -/
  cancel : Bool := false
  deriving DecidableEq, Repr

/-- A codeword in an input buffer of a decoder: descrambled input, posteriors and check messages. -/
structure DecWork where
  cw : Codeword
  input : List Int
  post : List Int
  msgs : List (List Int) := []
  /-- Unsatisfied checks after the last iteration, and iterations since they last fell (R124). -/
  unsat : Nat := 0
  stall : Nat := 0
  /-- All 37,120 soft values have been read. -/
  taken : Bool := false
  deriving DecidableEq, Repr

/-- A decoder: the buffer it decodes, its other buffer, and a GOOD sector that waits for a place of the
cipher's media store (R351). -/
structure Decoder where
  run : Option DecWork := none
  next : Option DecWork := none
  hold : Option CipherReq := none
  deriving DecidableEq, Repr

/-- Encoder work (R109): the sector block, the ciphertext once it has come, and its result. -/
structure EncJob where
  q : Nat
  block : List Word
  cipher : Option (List Byte) := none
  result : Nat := 0
  deriving DecidableEq, Repr

/-- The decoder pool and the encoders beside their registers. -/
structure DecS where
  queue : List Codeword := []
  age : Nat := 0
  dec : List (Nat × Decoder) := []
  /-- Encoder work that waits, in the order accepted; and the encoders. -/
  encq : List EncJob := []
  enc : List (Nat × Option EncJob) := []
  /-- Decoders that return at the next epoch boundary (R132). -/
  returning : List Nat := []
  deriving DecidableEq, Repr

/-- A read offset of a head (R168, R188): value in 1/256 track, START in 1/256 sample, length in samples;
stage 0 waiting, 1 in the command, 2 in the reference too, 3 leaving the reference. -/
structure OfsReq where
  value : Int
  start : Nat
  len : Nat
  stage : Nat := 0
  deriving DecidableEq, Repr

/-- One head of a comb beside its registers. -/
structure SrvHead where
  /-- It has delivered its wedge or closed its window since the last wedge-complete, and what it found: SAM
  end in 1/256 sample, position in 2^-12 track and wedge number. -/
  done : Bool := false
  found : Bool := false
  samEnd : Nat := 0
  y : Int := 0
  wnum : Nat := 0
  ampOk : Bool := false
  idOk : Bool := false
  gap : Bool := false
  /-- SAM end, position and wedge number of the last wedge that it delivered. -/
  lastSam : Option Nat := none
  lastY : Option Int := none
  lastW : Option Nat := none
  /-- Consecutive missed wedges. -/
  missRun : Nat := 0
  /-- Integrator m in 2^-16 track (R186). -/
  m : Int := 0
  ma : Int := 0
  /-- Bias in force (R188). -/
  bias : Int := 0
  ofs : Option OfsReq := none
  outRun : Nat := 0
  inRun : Nat := 0
  rdRun : Nat := 0
  wrRun : Nat := 0
  inh : Bool := true
  deriving DecidableEq, Repr

/-- A seek (R196 to R199): target, settle, TAG, mode, distance at its choice, wedges since it began. -/
structure SeekS where
  target : Nat
  write : Bool
  tag : Option (Nat × Nat)
  long : Bool := false
  /-- The mode has been chosen (first wedge after the request). -/
  begun : Bool := false
  d0 : Int := 0
  from_ : Int := 0
  k : Nat := 0
  /-- Wedges since the request, for SEEK_MAX. -/
  wedges : Nat := 0
  /-- The last reference step or the handover has come (R199). -/
  settling : Bool := false
  deriving DecidableEq, Repr

/-- A coefficient-set load (R210, R211): parts mask, band, MODE, requested by host. -/
structure SetLoad where
  mask : Nat
  band : Nat
  host : Bool
  mode : Nat
  deriving DecidableEq, Repr

/-- An injection run (R213 to R220). -/
structure InjRun where
  point : Nat
  head : Nat
  signal : Nat
  step : Nat := 0
  inc : Nat
  ph : Nat := 0
  /-- Wedges run in the step, correlated wedges, and missed ones. -/
  k : Nat := 0
  n : Nat := 0
  missed : Nat := 0
  clamp : Bool := false
  stop : Bool := false
  lfsr : Nat := 0x7FF
  a : Int := 0
  b : Int := 0
  ia : Int := 0
  qa : Int := 0
  ib : Int := 0
  qb : Int := 0
  /-- The first wedge has come. -/
  begun : Bool := false
  deriving DecidableEq, Repr

/-- A servo engine beside its registers. -/
structure SrvS where
  heads : List (Nat × SrvHead) := []
  /-- Target cylinder C. -/
  target : Nat := 0
  seek : Option SeekS := none
  /-- Latest wedge-complete: sample index in 1/256 sample, wedge number; the last wedge intervals, newest
  first, at most four, in 1/256 sample (R184, R185, R80). -/
  wc : Nat := 0
  wnum : Nat := 0
  ints : List Nat := []
  /-- Time-base instant of the latest wedge-complete in 1/256 tick, and wedges since the speed loop used one (R246). -/
  wtick : Nat := 0
  /-- Inputs and states of the three compensator sections, 2^-16 track (R190). -/
  s0 : Int := 0
  s1 : Int := 0
  s2 : Int := 0
  s3 : Int := 0
  vcm : Int := 0
  /-- Last VCM code before its clamp (R222), and the comb's mean position of the last wedge. -/
  u : Int := 0
  ebar : Option Int := none
  ymean : Option Int := none
  vest : Int := 0
  apply : Nat := 0
  inh : Nat := 0
  cmiss : Nat := 0
  feRun : Bool := false
  /-- Profile in play: true load, and its step (R205, R206). -/
  prof : Option (Bool × Nat) := none
  /-- An unload has been asked for and takes effect at the next wedge; its park seek runs (R206). -/
  unloadReq : Bool := false
  parking : Bool := false
  /-- Successive wedges of the acquisition (R205), and the head events of the last of them. -/
  acq : Nat := 0
  /-- VCM held by bus protection (R254). -/
  held : Bool := false
  /-- Coefficient banks, empty until loaded; the load that runs and the set that waits for its switch. -/
  active : List Word := []
  loading : List Word := []
  load : Option SetLoad := none
  switch : Option SetLoad := none
  inj : Option InjRun := none
  /-- Records captured (R221). -/
  cap : Nat := 0
  deriving DecidableEq, Repr

/-- A comparator edge (R46, R233): phase 0 U, 1 V, 2 W, rising, and its link time. -/
structure Edge where
  phase : Nat
  rising : Bool
  t : Nat
  deriving DecidableEq, Repr

/-- Why a spindle brakes (R230, R244, R253 to R255): 0 none, 1 STOP, 2 loss of synchronism or overcurrent,
3 bus protection, 4 port fenced. -/
abbrev BrakeWhy := Nat

/-- A spindle controller beside its registers. -/
structure SpnS where
  /-- Edges of the listen window, oldest first. -/
  edges : List Edge := []
  tries : Nat := 0
  /-- Commutation step, and the blind ramp's step number and consecutive steps with an accepted edge. -/
  step : Nat := 0
  blind : Nat := 0
  blindOk : Nat := 0
  /-- Closed-loop commutation runs. -/
  closed : Bool := false
  /-- APPLY of the present step in ticks of link time, and whether its edge has come. -/
  apply : Nat := 0
  edgeSeen : Bool := false
  /-- Last accepted edge and the last six accepted intervals, newest first, in ticks (R233). -/
  lastEdge : Option Nat := none
  ints : List Nat := []
  miss : Nat := 0
  /-- Latest link time that a report or status has shown. -/
  linkNow : Nat := 0
  duty : Nat := 0
  /-- Shunt offset as a running mean, peak of the present step, and a cut of the next duty (R236). -/
  shunt : Rat := 0
  peak : Nat := 0
  cut : Bool := false
  /-- Reconstructed phase currents U, V, W of the newest sample (R236). -/
  cur : List Int := [0, 0, 0]
  /-- theta_ref: angle count × 2^32, and omega_ref in 2^-32 count per tick (R245). -/
  theta : Nat := 0
  omega : Nat := 0
  /-- A ramp waits for its epoch boundary: the epoch count [15:0], or none for the next boundary. -/
  rampAt : Option (Option Nat) := none
  /-- The target of a run-up or ramp in counts per tick. -/
  rampK : Nat := 64
  /-- The time base is not yet valid or has been lost (R249). -/
  x1 : Int := 0
  s1 : Int := 0
  s2 : Int := 0
  set : Bool := true
  lockRun : Nat := 0
  trkRun : Nat := 0
  /-- Measured speed in 2^-24 count per tick. -/
  omegaM : Nat := 0
  /-- The wedges used by the loop: instant in 1/256 tick and angle of the first since the last update, and
  wedges completed since. -/
  w0 : Option (Nat × Nat) := none
  w1 : Option (Nat × Nat) := none
  wn : Nat := 0
  /-- Odd actuator's offset as a running mean, and the newest wedge of each actuator. -/
  actofs : Rat := 0
  /-- Commutations since the deviation checks last passed, over one revolution (R243). -/
  devRun : Nat := 0
  xchkRun : Nat := 0
  why : BrakeWhy := 0
  /-- Braking: 0 unload wait, 1 regenerative, 2 short brake interval, 3 listen, 4 still. -/
  brake : Nat := 0
  /-- The bus action on the HDA: 0 none, 1 above OV1, 2 above OV2; and writes inhibited by UV (R254). -/
  ov : Nat := 0
  uv : Bool := false
  deriving DecidableEq, Repr

/-- Pins and the test access port that no register shows (R524, R531, R537). -/
structure PinS where
  /-- THERMTRIP_N is pulled low. -/
  trip : Bool := false
  /-- The instruction of the test access port; 1 IDCODE after its reset (log entry 8). -/
  ir : Nat := 1
  deriving DecidableEq, Repr


/-- The whole state. -/
structure State where
  /-- `true` on the JD3216, `false` on the JD1608 (R1). Never changed. -/
  jd16 : Bool := true
  /-- The BAR2 registers that differ from their reset value (R6 to R8). -/
  regs : List (Nat × Word) := []
  /-- The upper halves latched by reads of lower registers, by lower address (R10). -/
  latch : List (Nat × Word) := []
  /-- The value that the last register read returned: the model's own field, which nothing reads back. -/
  answer : Word := 0
  /-- The model's own counter of free values taken (log entry 2). -/
  freeCtr : Nat := 0
  glb : GlbS := {}
  clk : ClkS := {}
  atc : AtcS := {}
  fus : FusS := {}
  /-- The sequencers (R388). -/
  seq : List (Nat × SeqS) := []
  /-- The head-link ports (R35). -/
  hlk : List (Nat × HlkS) := []
  /-- Buffer memory by channel × 2^34 + channel-local address; unlisted bytes read zero, as the wipe of
  R323 leaves them. -/
  mem : List Host.Cell := []
  /-- Blocks that read poisoned, by channel × 2^34 + channel-local block number (R320). -/
  poison : List Nat := []
  /-- The Pantry's bytes by offset; unlisted bytes read zero (R303, R304). -/
  pantry : List Host.Cell := []
  cch : CchS := {}
  bufc : List (Nat × BufChS) := []
  cph : CphS := {}
  hif : HifS := {}
  /-- The boot flash by byte address; unlisted bytes read 0xFF, erased (log entry 3). -/
  flash : List Host.Cell := []
  stm : StmS := {}
  dmv : DmvS := {}
  pfb : PfbS := {}
  chain : ChainS := {}
  /-- The head pipelines by controller head. -/
  rch : List (Nat × RchS) := []
  /-- The Landing's bytes: head × 65536 + raw slot × 32768 from 0, and soft slot × 28672 from 2^25; unlisted
  bytes read zero, as the wipe of R434 leaves them (R114). -/
  land : List (Nat × Byte) := []
  dec : DecS := {}
  /-- The servo engines by actuator. -/
  srv : List (Nat × SrvS) := []
  /-- The spindle controllers by HDA. -/
  spn : List (Nat × SpnS) := []
  pins : PinS := {}
  /-- The commands that wait, oldest first. -/
  pending : List Instr := []
  deriving DecidableEq, Repr

/-- The machine right after the Porch's power-on and the release of the device reset: every field at its value at
reset, the SRAM and buffer wipe of R434 and R323 running, no command waiting. -/
def State.reset : State := { regs := [(0x00020000, 0x00000401)] }

end Sys2Proof.Machine
end

