-- ==== Sys2Proof/Machine/Ops.lean ====
section
/-!
DEFINITION. The named operations over registers, free values, buffer bytes and the per-unit maps.
-/

namespace Sys2Proof.Machine

/-- The outcome of a meaning. -/
abbrev Out := Host.Outcome State Fault Refusal

/-- A command of a unit that the main rails feed: in Dormant the unit has no power, and the command no effect (R33). -/
def State.powered (s : State) (f : State → Out) : Out := if s.glb.dormant then .next s else f s

/-! ## Bits -/

/-- The value of bits `hi` to `lo` of `w`. -/
def bitsOf (w hi lo : Nat) : Nat := w / 2 ^ lo % 2 ^ (hi + 1 - lo)

/-- `w` with bits `hi` to `lo` replaced by the low bits of `v`. -/
def putBits (w hi lo v : Nat) : Nat :=
  w % 2 ^ lo + v % 2 ^ (hi + 1 - lo) * 2 ^ lo + w / 2 ^ (hi + 1) * 2 ^ (hi + 1)

/-- Bit `k` of a number. -/
def bitOf (w k : Nat) : Bool := w.testBit k

/-- `w` with bit `k` set to `b`. -/
def setBit (w k : Nat) (b : Bool) : Nat := putBits w k k (if b then 1 else 0)

/-- A number as a word, modulo 2^32. -/
def word (n : Nat) : Word := BitVec.ofNat 32 n

/-- The bits of `mask` in `w`. -/
def setBitsList (mask n : Nat) : List Nat := (List.range n).filter fun k => mask.testBit k

/-- One as a truth value. -/
def bit01 (b : Bool) : Nat := if b then 1 else 0

/-! ## Bytes -/

/-- The little-endian value of a byte list (R11). -/
def leNat : List Byte → Nat
  | [] => 0
  | b :: bs => b.toNat + 256 * leNat bs

/-- The big-endian value of a byte list: transmission order (R11). -/
def beNat (bs : List Byte) : Nat := bs.foldl (fun a b => a * 256 + b.toNat) 0

/-- `n` bytes of a number, least significant first (R11). -/
def leBytes : Nat → Nat → List Byte
  | 0, _ => []
  | n + 1, v => BitVec.ofNat 8 v :: leBytes n (v / 256)

/-- `n` bytes of a number, most significant first. -/
def beBytes (n v : Nat) : List Byte := (leBytes n v).reverse

/-! ## Registers -/

/-- What a register that is not listed reads: its reset value on the variant. -/
def State.regDflt (s : State) (addr : Nat) : Word := word (regReset s.jd16 addr)

/-- The stored value of the register at a BAR2 address. -/
def State.rdA (s : State) (addr : Nat) : Word := mget s.regDflt s.regs addr

/-- The register at a BAR2 address set to a value. -/
def State.wrA (s : State) (addr : Nat) (w : Word) : State := { s with regs := mset s.regDflt s.regs addr w }

/-- The value of entry `j` of instance `i` of a register. -/
def State.rd (s : State) (r : Reg) (i j : Nat) : Word := s.rdA (r.addr i j)

/-- Entry `j` of instance `i` of a register set to `w`. -/
def State.wr (s : State) (r : Reg) (i j : Nat) (w : Word) : State := s.wrA (r.addr i j) w

/-- The value of a field in a word. -/
def Fld.get (f : Fld) (w : Word) : Nat := bitsOf w.toNat f.hi f.lo

/-- A word with a field replaced. -/
def Fld.put (f : Fld) (w : Word) (v : Nat) : Word := word (putBits w.toNat f.hi f.lo v)

/-- A field of entry `j` of instance `i`. -/
def State.fldJ (s : State) (f : Fld) (i j : Nat) : Nat := f.get (s.rd f.reg i j)

/-- A field of instance `i`, entry 0. -/
def State.fld (s : State) (f : Fld) (i : Nat) : Nat := s.fldJ f i 0

/-- A field of entry `j` of instance `i` set. -/
def State.setFldJ (s : State) (f : Fld) (i j v : Nat) : State := s.wr f.reg i j (f.put (s.rd f.reg i j) v)

/-- A field of instance `i`, entry 0, set. -/
def State.setFld (s : State) (f : Fld) (i v : Nat) : State := s.setFldJ f i 0 v

/-- A one-bit field as a truth value. -/
def State.flag (s : State) (f : Fld) (i : Nat) : Bool := s.fld f i == 1

/-- A counter register of instance `i` raised by `n`, modulo 2^32 (log entry 15). -/
def State.bump (s : State) (r : Reg) (i n : Nat) : State := s.wr r i 0 (word ((s.rd r i 0).toNat + n))

/-- The value in a pair of registers, the lower one first (R10). -/
def State.pair (s : State) (lo hi : Reg) (i j : Nat) : Nat :=
  (s.rd lo i j).toNat + 2 ^ 32 * (s.rd hi i j).toNat

/-- A 64-bit value placed in a pair of registers. -/
def State.setPair (s : State) (lo hi : Reg) (i j v : Nat) : State :=
  (s.wr lo i j (word v)).wr hi i j (word (v / 2 ^ 32))

/-! ## Free values -/

/-- A fresh free value: nothing constrains it (log entry 2). -/
def State.fresh (s : State) : Nat × State := (Config.freeNat s.freeCtr, { s with freeCtr := s.freeCtr + 1 })

/-! ## Instances (R1, R2) -/

def State.nHda (s : State) : Nat := if s.jd16 then 16 else 8
def State.nAct (s : State) : Nat := if s.jd16 then 32 else 16
def State.nHead (s : State) : Nat := if s.jd16 then 320 else 160
def State.nDec (s : State) : Nat := if s.jd16 then 64 else 32
def State.nEng (s : State) : Nat := if s.jd16 then 256 else 128
def State.nCh (s : State) : Nat := if s.jd16 then 8 else 4
def State.nPeerPort (s : State) : Nat := if s.jd16 then 2 else 1
def State.hasSeq (s : State) (q : Nat) : Bool := seqImpl s.jd16 q

/-- The fault sources that the variant implements (R2, R385). -/
def State.hasSrc (s : State) (src : Nat) : Bool :=
  if src < 14 then true
  else if src = 14 then s.jd16
  else if src = 15 then true
  else if src < 32 then decide (src - 16 < s.nHda)
  else if src < 64 then decide (src - 32 < s.nAct)
  else if src < 80 then decide (src - 64 < s.nHda)
  else if src < 88 then decide (src - 80 < s.nCh)
  else if src < 128 then s.hasSeq (src - 88)
  else src == 128

/-! ## Units -/

def State.sq (s : State) (q : Nat) : SeqS := mget (fun _ => ({} : SeqS)) s.seq q
def State.setSq (s : State) (q : Nat) (x : SeqS) : State :=
  { s with seq := mset (fun _ => ({} : SeqS)) s.seq q x }

/-! ## Time (R390, R468) -/

/-- The 48-bit tick count of the time base. -/
def State.tick (s : State) : Nat := s.pair Reg.TB_TICK_LO Reg.TB_TICK_HI 0 0

/-- The scheduling-epoch count: 1,024 ticks each (R31). -/
def State.epoch (s : State) : Nat := s.tick / 1024

/-- The mode of GLB_MODE (R447). -/
def State.mode (s : State) : Nat := s.fld Reg.GLB_MODE_MODE 0

def modeQuiescent : Nat := 1
def modeService : Nat := 2
def modeMaintenance : Nat := 3
def modeDegraded : Nat := 4
def modeSealed : Nat := 5

end Sys2Proof.Machine
end

