-- ==== Sys2Proof/Machine/Faults.lean ====
section
/-!
DEFINITION. Fault causes and how they are recorded, the Attic's capture, fences, device modes and the events
and records that reach sequencers.
-/

namespace Sys2Proof.Machine

/-! ## Events and records of sequencers (R400, R403) -/

/-- Source `i` becomes pending in sequencer `q` by hardware (R403, R406). -/
def State.seqEvent (s : State) (q i : Nat) : State :=
  if s.hasSeq q then
    let x := s.sq q
    let half := i / 32
    let m := word (2 ^ (i % 32))
    let s := s.wr Reg.SEQ_EVC_PEND q half (s.rd Reg.SEQ_EVC_PEND q half ||| m)
    s.setSq q (if half = 0 then { x with sinceLo := x.sinceLo ||| m } else { x with sinceHi := x.sinceHi ||| m })
  else s

/-- Source `i` becomes pending in every sequencer of a list. -/
def State.seqEvents (s : State) (qs : List Nat) (i : Nat) : State := qs.foldl (fun s q => s.seqEvent q i) s

/-- The stewards (R388). -/
def stewards : List Nat := [32, 33, 34, 35, 36, 37, 38, 39]

/-- A record sets out for queue `qu` of sequencer `q` (R400). -/
def State.sendRec (s : State) (q qu : Nat) (r : List Word) : State :=
  if s.hasSeq q then
    let x := s.sq q
    s.setSq q { x with inbound := x.inbound ++ [(qu, (r ++ List.replicate 16 0).take 16)] }
  else s

/-- The format sequencers that serve a fault source's unit (R403, source 13). -/
def servedBy (src : Nat) : List Nat :=
  if 16 ≤ src ∧ src < 32 then [2 * (src - 16), 2 * (src - 16) + 1]
  else if 32 ≤ src ∧ src < 64 then [src - 32]
  else if 64 ≤ src ∧ src < 80 then [2 * (src - 64), 2 * (src - 64) + 1]
  else []

/-- A fence or a return: source 13 in the sequencers concerned and in every steward (R403). -/
def State.fenceEvent (s : State) (src : Nat) : State := s.seqEvents (servedBy src ++ stewards) 13

/-- A change of an HDA's or a servo engine's state: source 9 (R403). -/
def State.hdaEvent (s : State) (n : Nat) : State := s.seqEvents ([2 * n, 2 * n + 1] ++ stewards) 9

/-! ## Sources and causes (R385, R484) -/

def srcGLB : Nat := 0
def srcCLK : Nat := 1
def srcPRC : Nat := 2
def srcATC : Nat := 3
def srcRCH : Nat := 4
def srcDEC : Nat := 5
def srcSTM : Nat := 6
def srcCCH : Nat := 7
def srcDMV : Nat := 8
def srcBUF : Nat := 9
def srcCPH : Nat := 10
def srcHIF (p : Nat) : Nat := 11 + p
def srcPFB (p : Nat) : Nat := 13 + p
def srcFUS : Nat := 15
def srcHLK (n : Nat) : Nat := 16 + n
def srcSRV (a : Nat) : Nat := 32 + a
def srcSPN (n : Nat) : Nat := 64 + n
def srcBUFC (c : Nat) : Nat := 80 + c
def srcSEQ (q : Nat) : Nat := 88 + q
def srcOBS : Nat := 128

/-- The classes of the causes of a source, bit 0 first: 1 corrected, 2 contained, 3 fatal, 0 reserved (R484). -/
def causeClasses (src : Nat) : List Nat :=
  if src = 0 then [3]
  else if src = 1 then [2, 3, 1, 1]
  else if src = 5 then [2, 1]
  else if src = 6 then [2, 1]
  else if src = 7 then [1, 2, 2, 1]
  else if src = 10 then [2, 1]
  else if src = 13 ∨ src = 14 then [1, 2]
  else if src = 15 then [1, 3]
  else if src < 15 then [1]
  else if src < 32 then [2, 2, 2, 1, 1, 1, 1]
  else if src < 64 then [2, 2, 2, 2, 1]
  else if src < 80 then [2, 2, 2, 2, 2, 1]
  else if src < 88 then [1, 1, 2, 2, 1, 2, 2]
  else if src < 128 then
    [2, 2, 2, 2, 2, 2, 1, 1, 0, 0, 0, 0, 0, 0, 0, 0, 1, 1, 1, 1, 1, 1, 1, 1]
  else if src = 128 then [1]
  else []

/-- The class of a cause (R484); 0 where the group does not define the bit. -/
def causeClass (src bit : Nat) : Nat := (causeClasses src).getD bit 0

/-- The Attic trigger of a fault source (R493). -/
def faultTrigger (src : Nat) : Nat :=
  if src < 3 then 10 + src
  else if src = 15 then 13
  else if 16 ≤ src ∧ src < 32 then 14
  else if src = 4 then 15
  else if src = 5 then 16
  else if 32 ≤ src ∧ src < 64 then 17
  else if 64 ≤ src ∧ src < 80 then 18
  else if src = 6 then 19
  else if src = 7 then 20
  else if src = 8 then 21
  else if src = 9 then 22
  else if 80 ≤ src ∧ src < 88 then 23
  else if src = 10 then 24
  else if 88 ≤ src ∧ src < 128 then 25
  else if src = 11 ∨ src = 12 then 26
  else if src = 13 ∨ src = 14 then 27
  else 28

/-- The bits of a cause mask that have a class. -/
def classMask (src cls : Nat) : Nat :=
  ((List.range 24).filter fun k => causeClass src k == cls).foldl (fun m k => m + 2 ^ k) 0

/-! ## Fault groups (R476, R477) -/

/-- The cause bits of a source. -/
def State.causes (s : State) (src : Nat) : Nat := s.fld (Reg.FLT_STAT_CAUSE.flt src) 0

/-- FLT_STAT and GLB_FSUM of a source rewritten for a cause mask (R476, R488). -/
def State.setCauses (s : State) (src mask : Nat) : State :=
  let top (c : Nat) : Nat := bit01 (mask &&& classMask src c != 0)
  let s := s.wr (Reg.FLT_STAT.flt src) 0 0
    (word (top 3 * 2 ^ 31 + top 2 * 2 ^ 30 + top 1 * 2 ^ 29 + mask % 2 ^ 24))
  let f := s.rd Reg.GLB_FSUM 0 (src / 32)
  s.wr Reg.GLB_FSUM 0 (src / 32) (word (setBit f.toNat (src % 32) (top 3 == 1 || top 2 == 1)))

/-- FLT_HIST moved down by one entry, with `e` as entry 0 (R477). -/
def State.pushHist (s : State) (src : Nat) (e : Word) : State :=
  let r := Reg.FLT_HIST.flt src
  let old := (List.range 7).map fun k => s.rd r 0 k
  let s := ((List.range 7).zip old).foldl (fun s kv => s.wr r 0 (kv.1 + 1) kv.2) s
  s.wr r 0 0 e

/-- A cause enters its group: the cause bit, FLT_HIST and FLT_HSEQ (R477). `quiet` marks a contained
cause of an injection that counts neither for Degraded nor for FAULT_N (R482). -/
def State.noteCause (s : State) (src bit : Nat) (inj quiet : Bool) : State :=
  let c := causeClass src bit
  let had := bitOf (s.causes src) bit
  let q := mget (fun _ => 0) s.glb.quiet src
  let q' := if quiet then (if had && !bitOf q bit then q else setBit q bit true) else setBit q bit false
  let s := { s with glb := { s.glb with quiet := mset (fun _ => 0) s.glb.quiet src q' } }
  let s := s.setCauses src (setBit (s.causes src) bit true)
  let s := s.pushHist src (word (c * 2 ^ 30 + bit01 inj * 2 ^ 29 + bit * 2 ^ 24 + s.tick % 2 ^ 24))
  let r := Reg.FLT_HSEQ.flt src
  s.wr r 0 0 (s.rd r 0 0 + 1)

/-! ## The Attic's capture (R491 to R494) -/

/-- What a read without side effects finds: write-only bits read zero, absent registers read zero
(R3, R8, R492). -/
def State.peek (s : State) (addr : Nat) : Word :=
  match regAt s.jd16 addr with
  | some (d, _, _, true) => word ((s.rdA addr).toNat - ((s.rdA addr).toNat &&& d.wo))
  | _ => 0

/-- Whether a trigger is recorded at all (R491). -/
def State.recorded (s : State) (trig cls : Nat) : Bool :=
  if 10 ≤ trig ∧ trig ≤ 28 then cls != 1 || s.flag Reg.ATC_CTRL_CORR_EN 0
  else trig < 2 || bitOf (s.rd Reg.ATC_TRIG_EN 0 0).toNat trig

/-- A trigger enters the pending buffer, or is dropped and counted when all 16 entries are full (R494).
The ATC cause makes no record of its own (R491). -/
def State.attic (s : State) (trig cls cause source : Nat) (inj : Bool) (snaps : List Word) : State :=
  if s.recorded trig cls then
    if s.atc.pend.length < 16 then
      let r : AtticRec :=
        { tick := s.tick, inj := inj, trig := trig, cls := cls, cause := cause, source := source,
          snaps := (snaps ++ List.replicate 12 0).take 12 }
      { s with atc := { s.atc with pend := s.atc.pend ++ [r] } }
    else
      let s := s.bump Reg.ATC_CNT_DROP 0 1
      let s := s.noteCause srcATC 0 false false
      { s with atc := { s.atc with loss := true } }
  else s

/-- A trigger that is not a fault (R490, R493). -/
def State.atticEvent (s : State) (trig : Nat) (snaps : List Word) : State :=
  s.attic trig 0 0 0xFFFF false snaps

/-- The twelve snapshots of a fault trigger (R492): FLT_STAT holds the new cause bit, nothing else has moved. -/
def State.faultSnaps (s : State) (src : Nat) : List Word :=
  [s.peek (faultBase src + 0xF00), s.peek (faultBase src + 0xF0C), s.peek (faultBase src + 0xF04),
   s.rd Reg.GLB_MODE 0 0] ++ (List.range 8).map fun k => s.peek (registerBase src + 4 * k)

/-! ## Fences and modes (R485 to R487, R437) -/

/-- The unit of a fault source is fenced in its group (R485). -/
def State.fenced (s : State) (src : Nat) : Bool := s.flag (Reg.FLT_FENCE_FENCE.flt src) 0

/-- A unit of a fault source whose group implements FENCE (R485). -/
def fenceable (src : Nat) : Bool := decide (16 ≤ src) && decide (src < 128)

/-- The cause bits of a class that count, quiet injections left out (R482, R486). -/
def State.loudCauses (s : State) (src cls : Nat) : Nat :=
  let m := s.causes src &&& classMask src cls
  m - (m &&& mget (fun _ => 0) s.glb.quiet src)

/-- A contained cause counts in some group (R486). -/
def State.anyContained (s : State) : Bool := (List.range 129).any fun src => s.loudCauses src 2 != 0

/-- A fatal cause bit is set in some group (R487). -/
def State.anyFatal (s : State) : Bool := (List.range 129).any fun src => s.loudCauses src 3 != 0

/-- A unit is fenced by a fault (R486). -/
def State.anyFencedByFault (s : State) : Bool :=
  ((List.range 129).any fun src => s.flag (Reg.FLT_FENCE_BYFAULT.flt src) 0)
  || ((List.range 2).any fun j => s.rd Reg.DEC_DFAULT 0 j != 0)
  || ((List.range 8).any fun j => s.rd Reg.CPH_EFAULT 0 j != 0)
  || ((List.range 64).any fun i => s.fld Reg.PEER_CTL_STATE i == 4)
  || s.rd Reg.STM_WFENCE 0 0 != 0

/-- The condition of Degraded (R486). -/
def State.degradedCond (s : State) : Bool := s.anyContained || s.anyFencedByFault

/-- A claim is held (R33). -/
def State.anyClaim (s : State) : Bool := (List.range 32).any fun k => s.fldJ Reg.GLB_CLAIMT_VALID 0 k == 1

/-- FAULT_N is driven low (R487). In Dormant the pin is not driven. -/
def State.faultNLow (s : State) : Bool :=
  !s.glb.dormant && (s.anyContained || s.anyFatal || s.glb.rstPend.isSome || s.flag Reg.GLB_MODE_WIPING 0
    || s.mode == modeSealed)

/-- GLB_MODE.MODE and its copy in PRC_STAT take a new mode; a change is an Attic MODE trigger (R436, R493). -/
def State.setMode (s : State) (m : Nat) : State :=
  if s.mode = m then s
  else
    let old := s.mode
    let s := (s.setFld Reg.GLB_MODE_MODE 0 m).setFld Reg.PRC_STAT_MODE 0 m
    s.atticEvent 3 ([word old, word m] ++ ((List.range 5).map fun k => s.rd Reg.GLB_FSUM 0 k)
      ++ [s.rd Reg.CLK_REF_STAT 0 0])

/-- Service and Maintenance become Degraded in the cycle in which the condition holds (R34, R437). -/
def State.degrade (s : State) : State :=
  if (s.mode = modeService ∨ s.mode = modeMaintenance) ∧ s.degradedCond then s.setMode modeDegraded else s

/-- The mode that holds when Degraded does not: Maintenance while a claim is held, otherwise Service (R33). -/
def State.servingMode (s : State) : Nat :=
  if s.degradedCond then modeDegraded else if s.anyClaim then modeMaintenance else modeService

/-- The clock of a fault source's unit is gated, so that it raises no cause (R428, R479). -/
def State.gatedSrc (s : State) (src : Nat) : Bool :=
  s.clk.gated.any fun u =>
    (u.1 == 0 && src == srcHLK u.2) || (u.1 == 1 && src == srcSRV u.2) || (u.1 == 2 && src == srcSPN u.2)
    || (u.1 == 5 && src == srcBUFC u.2) || (u.1 == 6 && src == srcSEQ u.2) || (u.1 == 7 && src == srcPFB u.2)

/-- A cause occurs: it is recorded in its group and passed to the Attic with its snapshots, taken before
any reaction (R477, R492). -/
def State.cause (s : State) (src bit : Nat) (inj quiet : Bool) : State :=
  if s.hasSrc src && causeClass src bit != 0 && !s.gatedSrc src then
    let s := s.noteCause src bit inj quiet
    if src = srcATC then s
    else
      s.attic (faultTrigger src) (causeClass src bit) bit src inj (s.faultSnaps src)
  else s

/-- A corrected cause occurs: it is recorded, and the block carries on (R478). -/
def State.corrected (s : State) (src bit : Nat) : State := s.cause src bit false false

/-- The fence of a group set by a contained cause or, with BYFAULT left clear, by a corrected cause or by
host software (R485). -/
def State.setFence (s : State) (src : Nat) (byFault : Bool) : State :=
  if fenceable src && s.hasSrc src then
    let was := s.fenced src
    let s := s.setFld (Reg.FLT_FENCE_FENCE.flt src) 0 1
    let s := if byFault then s.setFld (Reg.FLT_FENCE_BYFAULT.flt src) 0 1 else s
    let s := { s with glb := { s.glb with rejoin := s.glb.rejoin.filter (· != src) } }
    if was then s else s.fenceEvent src
  else s

/-- A unit of HDA `n`, or the HDA itself, counts as fenced (R544). -/
def State.hdaFenced (s : State) (n : Nat) : Bool := s.fenced (srcHLK n) || s.fenced (srcSPN n)

/-- Actuator `a` counts as fenced (R544). -/
def State.actFenced (s : State) (a : Nat) : Bool := s.fenced (srcSRV a) || s.hdaFenced (a / 2)

/-- The stream engine treats actuator `a` as it treats those of a fenced HDA: a unit of R544 is fenced, or its format
sequencer is, or it has left the fence and waits for the next epoch boundary (R31, R64, R204, R409). -/
def State.actOut (s : State) (a : Nat) : Bool :=
  s.actFenced a || s.fenced (srcSEQ a)
    || [srcSRV a, srcHLK (a / 2), srcSPN (a / 2), srcSEQ a].any fun src => s.glb.rejoin.contains src

end Sys2Proof.Machine
end

