-- ==== Sys2Proof/Machine/BufferOps.lean ====
section
/-!
DEFINITION. Buffer memory as its requesters see it: segments and channels (R310), reads and writes with the
reactions of R321, the context cache (R290 to R307) and the Pantry (R303, R304).
-/

namespace Sys2Proof.Machine

/-! ## Channels and segments -/

def chOff : Nat := 0
def chTraining : Nat := 1
def chUp : Nat := 2
def chRetraining : Nat := 3
def chFenced : Nat := 4
def chResilvering : Nat := 5

def State.bc (s : State) (c : Nat) : BufChS := mget (fun _ => ({} : BufChS)) s.bufc c
def State.setBc (s : State) (c : Nat) (x : BufChS) : State :=
  { s with bufc := mset (fun _ => ({} : BufChS)) s.bufc c x }

def State.chState (s : State) (c : Nat) : Nat := s.fld Reg.BUFC_STAT_STATE c

/-- The channel serves reads: Up or Retraining, and not fenced (R324, R325). -/
def State.chReads (s : State) (c : Nat) : Bool :=
  (s.chState c == chUp || s.chState c == chRetraining) && !s.fenced (srcBUFC c)

/-- The channel takes duplex writes: as for reads, and while it resilvers (R326). -/
def State.chWrites (s : State) (c : Nat) : Bool :=
  s.chReads c || (s.chState c == chResilvering && !s.fenced (srcBUFC c))

/-- The byte key of a channel-local address. -/
def locKey (c l : Nat) : Nat := c * 2 ^ 34 + l

/-- The channel and channel-local address of each copy of a buffer address; none where no VALID segment
maps it or at 32 GiB and above (R310). -/
def State.locs (s : State) (addr : Nat) : List (Nat × Nat) :=
  let k := addr / 2 ^ 28
  if addr < 2 ^ 35 ∧ s.fldJ Reg.BUF_SEG_VALID 0 k = 1 then
    let c := s.nCh
    let o := addr % 2 ^ 28
    let u := o / 1024
    let b := o % 1024
    let base := s.fldJ Reg.BUF_SEG_DOFS 0 k * 2 ^ 25
    if s.fldJ Reg.BUF_SEG_DUPLEX 0 k = 0 then [(u % c, base + u / c * 1024 + b)]
    else
      let l := base + u / (c / 2) * 1024 + b
      [(u % (c / 2), l), (u % (c / 2) + c / 2, l)]
  else []

/-- The copies that can serve a read: the simplex copy on a serving channel, or the duplex copies on serving
channels whose block is not poisoned (R320, R325). -/
def State.readable (s : State) (addr : Nat) : List (Nat × Nat) :=
  (s.locs addr).filter fun cl => s.chReads cl.1 && !s.poison.contains (locKey cl.1 (cl.2 / 64))

/-- The copies that take a write; a simplex address on a channel that does not serve takes none (R325). -/
def State.writable (s : State) (addr : Nat) : List (Nat × Nat) :=
  let ls := s.locs addr
  if ls.length = 1 then ls.filter fun cl => s.chReads cl.1 else ls.filter fun cl => s.chWrites cl.1

/-- A byte at a location. -/
def State.byteAt (s : State) (cl : Nat × Nat) : Byte := mget (fun _ => (0 : Byte)) s.mem (locKey cl.1 cl.2)

/-- A byte of buffer memory; none where the access is refused or poisoned (R321). -/
def State.bufByte (s : State) (addr : Nat) : Option Byte :=
  match s.readable addr with
  | cl :: _ => some (s.byteAt cl)
  | [] => none

/-- A byte of buffer memory written to every copy that takes it. -/
def State.putByte (s : State) (addr : Nat) (b : Byte) : State :=
  { s with mem := (s.writable addr).foldl (fun m cl => mset (fun _ => (0 : Byte)) m (locKey cl.1 cl.2) b) s.mem }

/-- Bytes `addr` to `addr + n - 1`; none when any of them is refused or poisoned. -/
def State.bufRead (s : State) (addr : Nat) : Nat → Option (List Byte)
  | 0 => some []
  | n + 1 =>
    match s.bufByte addr, State.bufRead s (addr + 1) n with
    | some b, some bs => some (b :: bs)
    | _, _ => none

/-- Every byte of a range can be written. -/
def State.bufCanWrite (s : State) (addr : Nat) : Nat → Bool
  | 0 => true
  | n + 1 => !(s.writable addr).isEmpty && State.bufCanWrite s (addr + 1) n

/-- Bytes written from `addr` upward. -/
def State.putBytes (s : State) : Nat → List Byte → State
  | _, [] => s
  | addr, b :: bs => State.putBytes (s.putByte addr b) (addr + 1) bs

/-- The 64-byte blocks that a range covers whole are good again after a write (R320). -/
def State.healBlocks (s : State) (addr n : Nat) : State :=
  let blocks := (List.range (n / 64 + 2)).map fun k => (addr + 63) / 64 * 64 + 64 * k
  let keys := ((blocks.filter fun a => a + 64 ≤ addr + n).map fun a =>
    (s.writable a).map fun cl => locKey cl.1 (cl.2 / 64)).flatten
  { s with poison := s.poison.filter fun k => !keys.contains k }

/-- Some byte of a range lies where no VALID segment maps it (R310). -/
def State.unmapped (s : State) (addr n : Nat) : Bool :=
  (List.range ((n + 1023) / 1024 + 1)).any fun k =>
    let a := if 1024 * k < n then addr + 1024 * k else addr + n - 1
    decide (0 < n) && (s.locs a).isEmpty

/-- A refused access to an unmapped address raises the corrected fault "buffer address" (R310). -/
def State.noteUnmapped (s : State) (addr n : Nat) : State :=
  if s.unmapped addr n then s.corrected srcBUF 0 else s

/-- A write that bypasses the cache: all bytes, or none where any byte is refused; the flag says which. -/
def State.bufWrite (s : State) (addr : Nat) (bs : List Byte) : State × Bool :=
  if s.bufCanWrite addr bs.length then ((s.putBytes addr bs).healBlocks addr bs.length, true)
  else (s.noteUnmapped addr bs.length, false)

/-- A read that bypasses the cache, with the fault of an unmapped address. -/
def State.bufFetch (s : State) (addr n : Nat) : State × Option (List Byte) :=
  match s.bufRead addr n with
  | some bs => (s, some bs)
  | none => (s.noteUnmapped addr n, none)

/-! ## The context cache (R290 to R297) -/

def lineBank (addr : Nat) : Nat := addr / 64 % 16
def lineSet (addr : Nat) : Nat := addr / 1024 % 512
def lineTag (addr : Nat) : Nat := addr / 2 ^ 19
def lineKey (bank way set : Nat) : Nat := (bank * 16 + way) * 512 + set

/-- The first byte address of the line in a set of a bank. -/
def lineAddr (bank set tag : Nat) : Nat := tag * 2 ^ 19 + set * 1024 + bank * 64

def State.cline (s : State) (bank way set : Nat) : CLine :=
  mget (fun _ => ({} : CLine)) s.cch.lines (lineKey bank way set)
def State.setCline (s : State) (bank way set : Nat) (l : CLine) : State :=
  { s with cch := { s.cch with lines := mset (fun _ => ({} : CLine)) s.cch.lines (lineKey bank way set) l } }

/-- Ways turned into Pantry (R303). -/
def State.pantryWays (s : State) : Nat := s.fld Reg.CCH_CTRL_PANTRY_WAYS 0

/-- A way of a bank is disabled, or waits for the epoch boundary at which it returns (R307, R308). -/
def State.wayDis (s : State) (bank way : Nat) : Bool :=
  bitOf (s.rd Reg.CCH_WAY_DIS 0 (bank / 2)).toNat (bank % 2 * 16 + way) || s.cch.returning.contains (bank * 16 + way)

/-- A way that is neither Pantry nor disabled. -/
def State.wayUsable (s : State) (bank way : Nat) : Bool :=
  decide (way < 16 - s.pantryWays) && !s.wayDis bank way

/-- An eligible way of a set: usable, with no locked line (R296). -/
def State.wayEligible (s : State) (bank set way : Nat) : Bool :=
  s.wayUsable bank way && !((s.cline bank way set).valid && (s.cline bank way set).locked)

def State.eligibleWays (s : State) (bank set : Nat) : List Nat :=
  (List.range 16).filter fun w => s.wayEligible bank set w

/-- The address lies in an enabled region and the cache is active (R291, R308). -/
def State.cached (s : State) (addr : Nat) : Bool :=
  s.flag Reg.CCH_CTRL_EN 0 && (List.range 4).any fun k =>
    let base := s.fldJ Reg.CCH_RGN_BASE_LO_ADDR 0 k * 4096 + s.fldJ Reg.CCH_RGN_BASE_HI_ADDR 0 k * 2 ^ 32
    let size := s.fldJ Reg.CCH_RGN_SIZE_SIZE 0 k * 4096
    s.fldJ Reg.CCH_RGN_BASE_LO_EN 0 k == 1 && decide (base ≤ addr) && decide (addr < base + size)

/-- The way that holds the line of an address. -/
def State.hitWay (s : State) (addr : Nat) : Option Nat :=
  let b := lineBank addr
  let st := lineSet addr
  (List.range 16).find? fun w =>
    decide (w < 16 - s.pantryWays) && (s.cline b w st).valid && (s.cline b w st).tag == lineTag addr

/-- A line written back when it is dirty; it stays as it is (R292). -/
def State.writeBack (s : State) (bank way set : Nat) : State :=
  let l := s.cline bank way set
  if l.valid && l.dirty then
    let s := (s.bufWrite (lineAddr bank set l.tag) l.data).1
    (s.setCline bank way set { l with dirty := false }).bump Reg.CCH_CNT_WB 0 1
  else s

/-- The way a fill takes, with the ageing of R296; none when no way is eligible. -/
def State.fillWay (s : State) (bank set : Nat) : State × Option Nat :=
  let el := s.eligibleWays bank set
  match el.find? fun w => !(s.cline bank w set).valid with
  | some w => (s, some w)
  | none =>
    match el.find? fun w => (s.cline bank w set).age == 3 with
    | some w => (s, some w)
    | none =>
      let top := el.foldl (fun m w => max m (s.cline bank w set).age) 0
      let s' := el.foldl (fun s w =>
        s.setCline bank w set { s.cline bank w set with age := (s.cline bank w set).age + (3 - top) }) s
      (s', el.find? fun w => (s'.cline bank w set).age == 3)

/-- A filled line installed: the victim is written back first, and AGE is 0, or 2 under ONCE (R295, R296). -/
def State.install (s : State) (addr : Nat) (data : List Byte) (once : Bool) : State :=
  let b := lineBank addr
  let st := lineSet addr
  match s.fillWay b st with
  | (s, some w) =>
    let s := s.writeBack b w st
    s.setCline b w st { tag := lineTag addr, data := data, valid := true, age := if once then 2 else 0 }
  | (s, none) => s

/-- A hit touches AGE unless it carries ONCE (R295). -/
def State.touch (s : State) (bank way set : Nat) (once : Bool) : State :=
  if once then s else s.setCline bank way set { s.cline bank way set with age := 0 }

/-- A read through the cache of bytes inside one line: a hit, or a miss that fills (R294 to R296). -/
def State.lineRead (s : State) (addr n : Nat) (once : Bool) : State × Option (List Byte) :=
  let b := lineBank addr
  let st := lineSet addr
  match s.hitWay addr with
  | some w =>
    let s := s.bump Reg.CCH_CNT_HIT 0 1
    let d := ((s.cline b w st).data.drop (addr % 64)).take n
    (s.touch b w st once, some d)
  | none =>
    let s := s.bump Reg.CCH_CNT_MISS 0 1
    match s.bufFetch (addr / 64 * 64) 64 with
    | (s, some bs) => (s.install addr bs once, some ((bs.drop (addr % 64)).take n))
    | (s, none) => (s, none)

/-- Bytes of a line replaced. -/
def mergeBytes (line : List Byte) (o : Nat) (bs : List Byte) : List Byte :=
  line.take o ++ bs ++ line.drop (o + bs.length)

/-- A write through the cache of bytes inside one line (R292). -/
def State.lineWrite (s : State) (addr : Nat) (bs : List Byte) (once : Bool) : State × Bool :=
  let b := lineBank addr
  let st := lineSet addr
  match s.hitWay addr with
  | some w =>
    let s := s.bump Reg.CCH_CNT_HIT 0 1
    let l := s.cline b w st
    let s := s.setCline b w st { l with data := mergeBytes l.data (addr % 64) bs, dirty := true }
    (s.touch b w st once, true)
  | none =>
    let s := s.bump Reg.CCH_CNT_MISS 0 1
    match s.bufFetch (addr / 64 * 64) 64 with
    | (s, some old) =>
      let s := s.install addr (mergeBytes old (addr % 64) bs) once
      match s.hitWay addr with
      | some w => (s.setCline b w st { s.cline b w st with dirty := true }, true)
      | none => s.bufWrite addr bs
    | (s, none) => (s, false)

/-- Cut points of a range at 64-byte lines: address and length of each part. -/
def lineParts : Nat → Nat → Nat → List (Nat × Nat)
  | 0, _, _ => []
  | fuel + 1, addr, n =>
    if n = 0 then []
    else
      let k := min n (64 - addr % 64)
      (addr, k) :: lineParts fuel (addr + k) (n - k)

/-- A buffer read of the STM or of a sequencer: through the cache inside a region, else past it (R291). -/
def State.cRead (s : State) (addr n : Nat) (once : Bool) : State × Option (List Byte) :=
  (lineParts (n + 1) addr n).foldl
    (fun (acc : State × Option (List Byte)) p =>
      match acc with
      | (s, some bs) =>
        let (s, r) := if s.cached p.1 then s.lineRead p.1 p.2 once else s.bufFetch p.1 p.2
        (s, r.map fun x => bs ++ x)
      | (s, none) => (s, none))
    (s, some [])

/-- A buffer write of the STM or of a sequencer (R291, R292). -/
def State.cWrite (s : State) (addr : Nat) (bs : List Byte) (once : Bool) : State × Bool :=
  (lineParts (bs.length + 1) addr bs.length).foldl
    (fun (acc : State × Bool) p =>
      let part := (bs.drop (p.1 - addr)).take p.2
      if acc.2 then
        if acc.1.cached p.1 then acc.1.lineWrite p.1 part once else acc.1.bufWrite p.1 part
      else acc)
    (s, true)

/-- `n` little-endian words read through the cache (R11). -/
def State.cWords (s : State) (addr n : Nat) (once : Bool) : State × Option (List Word) :=
  match s.cRead addr (4 * n) once with
  | (s, some bs) => (s, some ((List.range n).map fun k => word (leNat ((bs.drop (4 * k)).take 4))))
  | (s, none) => (s, none)

/-- `n` little-endian words read past the cache. -/
def State.bufWords (s : State) (addr n : Nat) : State × Option (List Word) :=
  match s.bufFetch addr (4 * n) with
  | (s, some bs) => (s, some ((List.range n).map fun k => word (leNat ((bs.drop (4 * k)).take 4))))
  | (s, none) => (s, none)

/-- `n` little-endian words of buffer memory; none where the buffer does not deliver them (R321). -/
def State.bufWordsRaw (s : State) (addr n : Nat) : Option (List Word) :=
  (s.bufRead addr (4 * n)).map fun bs => (List.range n).map fun k => word (leNat ((bs.drop (4 * k)).take 4))

/-- The little-endian bytes of words. -/
def wordBytes (ws : List Word) : List Byte := (ws.map fun w => leBytes 4 w.toNat).flatten

/-! ## The Pantry (R303, R304) -/

/-- The Pantry's size in bytes. -/
def State.pantrySize (s : State) : Nat := s.pantryWays * 2 ^ 19

/-- A Pantry read; beyond the size it reads zero and raises "pantry range" (R304). -/
def State.pantryRead (s : State) (x n : Nat) : State × List Byte :=
  if x + n ≤ s.pantrySize then (s, (List.range n).map fun k => mget (fun _ => (0 : Byte)) s.pantry (x + k))
  else (s.corrected srcCCH 3, List.replicate n 0)

/-- A Pantry write; beyond the size it is ignored and raises "pantry range" (R304). -/
def State.pantryWrite (s : State) (x : Nat) (bs : List Byte) : State :=
  if x + bs.length ≤ s.pantrySize then
    let put := fun (m : List Host.Cell) (kb : Nat × Byte) => mset (fun _ => (0 : Byte)) m (x + kb.1) kb.2
    { s with pantry := ((List.range bs.length).zip bs).foldl put s.pantry }
  else s.corrected srcCCH 3

end Sys2Proof.Machine
end

