-- ==== Sys2Proof/Machine/Credits.lean ====
section
/-!
DEFINITION. Landing and decoder credits and the sector that holds them (R24 to R28, R119), and the Landing's bytes
(R114 to R118).
-/

namespace Sys2Proof.Machine

/-! ## The sector of a TAG -/

/-- The sector that holds a TAG. -/
def State.sector (s : State) (tag : Nat) : Option Sector := s.stm.sectors.find? fun x => x.tag == tag

/-- The sector of a TAG replaced. -/
def State.setSector (s : State) (x : Sector) : State :=
  { s with stm := { s.stm with sectors := s.stm.sectors.map fun y => if y.tag = x.tag then x else y } }

/-- The sector of a TAG removed. -/
def State.dropSector (s : State) (tag : Nat) : State :=
  { s with stm := { s.stm with sectors := s.stm.sectors.filter fun y => y.tag != tag } }

/-! ## Credits -/

/-- Soft slots of the variant, which are the landing credits (R119). -/
def State.nSoft (s : State) : Nat := if s.jd16 then 720 else 360

/-- Entries of the decoder pool's input queue, which are the decoder credits (R119). -/
def State.nDcred (s : State) : Nat := if s.jd16 then 1024 else 512

/-- The lowest free soft slot. -/
def State.freeSoft (s : State) : Option Nat :=
  (List.range s.nSoft).find? fun k => !s.stm.soft.contains k

/-- One landing credit and one decoder credit can be taken together (R25). -/
def State.creditsFree (s : State) : Bool := s.freeSoft.isSome && decide (s.stm.dcred < s.nDcred)

/-- One landing credit and one decoder credit taken together (R25): the soft slot, or none. -/
def State.takeCredits (s : State) : State × Option Nat :=
  match s.freeSoft with
  | some k =>
    if s.stm.dcred < s.nDcred then
      ({ s with stm := { s.stm with soft := s.stm.soft ++ [k], dcred := s.stm.dcred + 1 } }, some k)
    else (s, none)
  | none => (s, none)

/-- The landing credit of a soft slot comes back (R27). -/
def State.releaseSoft (s : State) (slot tag : Nat) : State :=
  let s := { s with stm := { s.stm with soft := s.stm.soft.filter (· != slot) } }
  match s.sector tag with
  | some x => if x.soft = some slot then s.setSector { x with soft := none } else s
  | none => s

/-- A decoder credit comes back (R27). -/
def State.releaseDcred (s : State) (tag : Nat) : State :=
  let s := { s with stm := { s.stm with dcred := s.stm.dcred - 1 } }
  match s.sector tag with
  | some x => s.setSector { x with decCredit := false }
  | none => s

/-- Both credits of a gate that wrote no soft values come back (R72). -/
def State.releaseBoth (s : State) (slot tag : Nat) : State := (s.releaseSoft slot tag).releaseDcred tag

/-! ## The Landing -/

/-- Key of a byte of a head's raw area: its two raw slots of 32 KiB. -/
def rawKey (h slot byte : Nat) : Nat := h * 65536 + slot * 32768 + byte

/-- Key of a byte of a soft slot of 28 KiB. -/
def softKey (slot byte : Nat) : Nat := 2 ^ 25 + slot * 28672 + byte

def State.landByte (s : State) (k : Nat) : Byte := mget (fun _ => (0 : Byte)) s.land k

def State.landBytes (s : State) (k n : Nat) : List Byte := (List.range n).map fun i => s.landByte (k + i)

def State.putLand (s : State) : Nat → List Byte → State
  | _, [] => s
  | k, b :: bs => State.putLand { s with land := mset (fun _ => (0 : Byte)) s.land k b } (k + 1) bs

/-- Bits `lo` upward of the little-endian bytes at a key replaced by the low `n` bits of a value. -/
def State.putLandBits (s : State) (base lo n v : Nat) : State :=
  let b0 := lo / 8
  let cnt := (lo % 8 + n + 7) / 8
  let old := leNat (s.landBytes (base + b0) cnt)
  s.putLand (base + b0) (leBytes cnt (putBits old (lo % 8 + n - 1) (lo % 8) v))

/-- `n` bits from bit `lo` of the little-endian bytes at a key. -/
def State.landBits (s : State) (base lo n : Nat) : Nat :=
  let b0 := lo / 8
  let cnt := (lo % 8 + n + 7) / 8
  bitsOf (leNat (s.landBytes (base + b0) cnt)) (lo % 8 + n - 1) (lo % 8)

/-- Soft value `n` of a slot (R116). -/
def State.softVal (s : State) (slot n : Nat) : Int :=
  signed 6 (s.landBits (softKey slot (n / 4 * 3)) (n % 4 * 6) 6)

/-- Soft value `n` of a slot written (R116). -/
def State.setSoftVal (s : State) (slot n : Nat) (x : Int) : State :=
  if slot < s.nSoft then s.putLandBits (softKey slot (n / 4 * 3)) (n % 4 * 6) 6 (unsigned 6 x) else s

end Sys2Proof.Machine
end

