-- ==== Sys2Proof/Machine/HeadLinkOps.lean ====
section
/-!
DEFINITION. Head-link operations that other units use: block layouts, sending commands, the safe pattern and
the link states (R40, R48 to R51, R54 to R58, R62, R545).
-/

namespace Sys2Proof.Machine

def State.hl (s : State) (n : Nat) : HlkS := mget (fun _ => ({} : HlkS)) s.hlk n
def State.setHl (s : State) (n : Nat) (x : HlkS) : State :=
  { s with hlk := mset (fun _ => ({} : HlkS)) s.hlk n x }

/-! ## Block layouts -/

/-- Byte `i` of a block. -/
def blkByte (b : List Byte) (i : Nat) : Nat := (b.getD i 0).toNat

/-- `n` bytes from byte `i`, in transmission order (R11). -/
def blkNat (b : List Byte) (i n : Nat) : Nat := beNat ((b.drop i).take n)

/-- A block of 64 bytes from its leading bytes; the rest is zero. -/
def block64 (bs : List Byte) : List Byte := (bs ++ List.replicate 64 0).take 64

/-- A block with CSEQ placed in bytes 2 and 3 (R49 to R51). -/
def withCseq (b : List Byte) (c : Nat) : List Byte := b.take 2 ++ beBytes 2 c ++ b.drop 4

/-- The IDLE block (R40). -/
def idleBlock : List Byte := List.replicate 64 0

/-- A CONFIG block: subcommand and operand bytes from byte 4 (R51). -/
def configBlock (sub : Nat) (ops : List Byte) : List Byte :=
  block64 ([BitVec.ofNat 8 0x14, BitVec.ofNat 8 sub, 0, 0] ++ ops)

/-- A SERVO block (R49): actuator of the port, APPLY, ten MA codes, VCM code, inhibit mask with bit 15 for
head 0. -/
def servoBlock (odd : Nat) (apply : Nat) (ma : List Nat) (vcm inh : Nat) : List Byte :=
  block64 ([BitVec.ofNat 8 0x12, BitVec.ofNat 8 (odd * 128), 0, 0] ++ beBytes 4 apply
    ++ (((ma ++ List.replicate 10 0).take 10).map (beBytes 2)).flatten ++ beBytes 2 vcm ++ beBytes 2 (inh * 64))

/-- A SPINDLE block (R50): phase modes of U, V, W, drive mode, duty, PWM period, shunt instants A and B. -/
def spindleBlock (apply modes drive duty period shA shB : Nat) : List Byte :=
  block64 ([BitVec.ofNat 8 0x13, 0, 0, 0] ++ beBytes 4 apply ++ [BitVec.ofNat 8 modes, BitVec.ofNat 8 drive]
    ++ beBytes 2 duty ++ beBytes 2 period ++ beBytes 2 shA ++ beBytes 2 shB)

/-! ## Link states (R66) -/

def linkOff : Nat := 0
def linkDetect : Nat := 1
def linkAdapt : Nat := 2
def linkLock : Nat := 3
def linkUp : Nat := 4
def linkUp7 : Nat := 5
def linkFenced : Nat := 6

def State.linkState (s : State) (n : Nat) : Nat := s.fld Reg.HLK_STAT_LINK_STATE n

/-- The port can carry commands: Up or Up on 7 lanes, and no safe pattern (R545). -/
def State.canCommand (s : State) (n : Nat) : Bool :=
  (s.linkState n == linkUp || s.linkState n == linkUp7) && !s.flag Reg.HLK_STAT_SAFE n

/-- A command failure event reaches the unit that issued the command (R58, R400, R545). -/
def State.cmdFailed (s : State) (n : Nat) (cls cseq result : Nat) (who : Issuer) : State :=
  match who with
  | .micro q sub =>
    s.sendRec q 2 [word (0x7 * 2 ^ 28 + result * 2 ^ 24 + cls * 2 ^ 20), word cseq, word sub]
  | .servo _ | .spindle _ =>
    let x := s.hl n
    s.setHl n { x with failures := { cls := cls, cseq := cseq, result := result } :: x.failures.take 15 }
  | .link => s

/-- A unit issues a command to a port: it takes the next CSEQ of its class and waits for its frame, or is
not sent and comes back DROPPED (R54, R545). -/
def State.sendCmd (s : State) (n cls : Nat) (block : List Byte) (who : Issuer) : State :=
  if s.canCommand n then
    let x := s.hl n
    let c := (mget (fun _ => 0) x.cseq cls + 1) % 2 ^ 16
    s.setHl n { x with
      cseq := mset (fun _ => 0) x.cseq cls c
      cmds := x.cmds ++ [{ cls := cls, cseq := c, block := withCseq block c, issuer := who }] }
  else s.cmdFailed n cls (mget (fun _ => 0) (s.hl n).cseq cls) 7 who

/-- Every command of a port that awaits an acknowledgement or a retry ends DROPPED (R545). -/
def State.dropCmds (s : State) (n : Nat) : State :=
  let x := s.hl n
  let s := s.setHl n { x with cmds := [] }
  x.cmds.foldl (fun s c => s.cmdFailed n c.cls c.cseq 7 c.issuer) s

/-- The port starts to send the safe pattern (R62, R545). -/
def State.startSafe (s : State) (n : Nat) : State :=
  if s.flag Reg.HLK_STAT_SAFE n then s
  else
    let s := s.setFld Reg.HLK_STAT_SAFE n 1
    let s := s.setHl n { s.hl n with tx := none, bursts := [] }
    s.dropCmds n

/-- Every reason of R62 to send the safe pattern on a port. -/
def State.safeWanted (s : State) (n : Nat) : Bool :=
  s.fenced (srcHLK n) || s.flag Reg.HLK_CTRL_FORCE_SAFE n || s.mode == modeSealed || s.glb.rstPend.isSome
    || (s.flag Reg.CLK_REF_STAT_SAFE 0 && s.flag Reg.CLK_REF_STAT_HOLD 0)

/-- The safe pattern of a port starts or stops as R62 says. -/
def State.safeUpdate (s : State) (n : Nat) : State :=
  if s.safeWanted n then s.startSafe n else s.setFld Reg.HLK_STAT_SAFE n 0

/-- The port leaves Up, or changes to another state that carries no commands. -/
def State.linkTo (s : State) (n st : Nat) : State :=
  let s := s.setFld Reg.HLK_STAT_LINK_STATE n st
  if st = linkUp ∨ st = linkUp7 then s else s.dropCmds n

/-- The number nearest to `cur` whose low `n` bits are those of `v` (R42, R52). -/
def nearest (n cur v : Nat) : Nat :=
  let m := 2 ^ n
  let d := (v % m + m - cur % m) % m
  if d < m / 2 then cur + d else if m - d ≤ cur then cur - (m - d) else cur + d

/-- Number of active lanes of a mask. -/
def laneCount (mask : Nat) : Nat := (setBitsList mask 8).length

end Sys2Proof.Machine
end

