-- ==== Sys2Proof/Machine/Numeric.lean ====
section
/-!
DEFINITION. Exact arithmetic with explicit narrowing: rounding to a step, square roots, sine and cosine.
-/

namespace Sys2Proof.Machine

/-- Rounding to the nearest integer, halves upward (log entry 21). -/
def rnd (x : Rat) : Int := (x + 1 / 2).floor

/-- A value placed on a step grid where the spec gives no rounding: exact when it lies on the grid, else one
of its two neighbours, free (log entry 22). -/
def qz (site : Nat) (x : Rat) : Int :=
  if x = (x.floor : Rat) then x.floor else if Config.roundUp site x then x.floor + 1 else x.floor

/-- The largest natural whose square is at most a non-negative rational. -/
def sqrtFloor (x : Rat) : Nat := Nat.sqrt (x.num.toNat / x.den)

/-- A square root on a step grid, with free rounding when it lies between steps. -/
def qzSqrt (site : Nat) (x : Rat) : Nat :=
  let r := sqrtFloor x
  if ((r * r : Nat) : Rat) = x then r else if Config.roundUp site x then r + 1 else r

/-- Thirty digits of pi. -/
def piQ : Rat := 3141592653589793238462643383279 / 1000000000000000000000000000000

/-- The alternating series x^k / k! from term `k`, whose present value is `t`. -/
def sinSeries (x2 : Rat) : Nat → Nat → Rat → Rat
  | 0, _, _ => 0
  | fuel + 1, k, t => t + sinSeries x2 fuel (k + 2) (-(t * x2) / (((k + 1) * (k + 2) : Nat) : Rat))

/-- The sine of `ph` of 65,536 parts of a turn, within 10^-20. -/
def sinTurn (ph : Nat) : Rat :=
  let q := ph % 65536
  let h := q % 32768
  let m := if h ≤ 16384 then h else 32768 - h
  let x := piQ * ((m : Nat) : Rat) / 32768
  let r := sinSeries (x * x) 14 1 x
  if q < 32768 then r else -r

/-- The cosine of `ph` of 65,536 parts of a turn. -/
def cosTurn (ph : Nat) : Rat := sinTurn (ph + 16384)

/-- The largest `k` from -2048 to 2047 such that the angle of the point (x to the right, y upward) is at least
`k` of 4,096 parts of a turn. -/
def angleFloor (y x : Rat) : Int :=
  let up := decide (0 ≤ y)
  let ks := (List.range 2049).map fun k => if up then (k : Int) else (k : Int) - 2048
  let under := ks.filter fun k =>
    let ph := (unsigned 16 (k * 16))
    decide (0 ≤ y * cosTurn ph - x * sinTurn ph)
  under.foldl max (if up then 0 else -2048)

/-- The angle in 1/4096 turn, above -2048 and at most 2048, with free rounding (R182: "to 2^-12"). -/
def angle12 (site : Nat) (y x : Rat) : Int :=
  let k := angleFloor y x
  let ph := unsigned 16 (k * 16)
  let k' := if y * cosTurn ph = x * sinTurn ph then k
    else if Config.roundUp site (y / (if x = 0 then 1 else x)) then k + 1 else k
  if k' ≤ -2048 then 2048 else k'

/-- A saturating two's complement number of `n` bits. -/
def satS (n : Nat) (x : Int) : Int := clampI (-(2 ^ (n - 1) : Nat)) ((2 ^ (n - 1) : Nat) - 1) x

/-- The list's sum. -/
def sumQ (xs : List Rat) : Rat := xs.foldl (· + ·) 0

end Sys2Proof.Machine
end

