-- ==== Sys2Proof/Machine/RchOps.lean ====
section
/-!
DEFINITION. The head pipelines: parameter entries (R95, R96), the loops of a gate (R75 to R92), framing, the end of
a gate (R71, R72) and replays (R93, R94, R170).
-/

namespace Sys2Proof.Machine

def State.rc (s : State) (h : Nat) : RchS := mget (fun _ => ({} : RchS)) s.rch h
def State.setRc (s : State) (h : Nat) (x : RchS) : State :=
  { s with rch := mset (fun _ => ({} : RchS)) s.rch h x }

def State.sv (s : State) (a : Nat) : SrvS := mget (fun _ => ({} : SrvS)) s.srv a
def State.setSv (s : State) (a : Nat) (x : SrvS) : State :=
  { s with srv := mset (fun _ => ({} : SrvS)) s.srv a x }

/-! ## Parameter entries (R95, R96) -/

/-- A field of an entry: word, highest and lowest bit. -/
def ent (ws : List Word) (i hi lo : Nat) : Nat := bitsOf (ws.getD i 0).toNat hi lo

/-- The sum of words modulo 2^32. -/
def wordSum (ws : List Word) : Word := ws.foldl (· + ·) 0

/-- Every field lies in its legal range, reserved ones are zero, and zone, reader and band match (R95, R96). -/
def entryOk (ws : List Word) (zone reader band : Nat) : Bool :=
  ent ws 0 31 24 == 1 && ent ws 0 23 16 == zone && ent ws 0 15 8 == 0 && ent ws 0 3 3 == 0
    && ent ws 0 2 2 == reader && ent ws 0 1 1 == band && ent ws 0 0 0 == 1
    && ent ws 1 31 0 != 0
    && decide (0x040 ≤ ent ws 2 31 20) && decide (ent ws 2 31 20 ≤ 0x400)
    && decide (-512 ≤ signed 12 (ent ws 2 19 8)) && decide (signed 12 (ent ws 2 19 8) ≤ 511)
    && ent ws 2 7 0 != 0
    && decide (-1024 ≤ signed 12 (ent ws 3 31 20)) && decide (signed 12 (ent ws 3 31 20) ≤ 1024)
    && ent ws 3 19 8 == 0 && ent ws 4 31 24 == 0
    && (List.range 16).all (fun j =>
        let c := signed 16 (ent ws (5 + j / 2) (j % 2 * 16 + 15) (j % 2 * 16))
        decide (-2048 ≤ c) && decide (c ≤ 2047))
    && (List.range 8).all (fun c => ent ws (17 + c / 4) (c % 4 * 8 + 7) (c % 4 * 8) != 0)
    && (List.range 12).all (fun i => ws.getD (19 + i) 0 == 0)

/-- The result of a load of an entry: 1 loaded, 3 BADCHK, 4 BADENT (R96, R100). -/
def entryResult (ws : List Word) (zone reader band : Nat) : Nat :=
  if wordSum ws != 0 then 3 else if entryOk ws zone reader band then 1 else 4

/-- The entry in a bank. -/
def RchS.bank (x : RchS) (b : Nat) : Option (List Word) := if b = 0 then x.bank0 else x.bank1

/-- A bank is named by a queued, open or replaying gate (R96). -/
def RchS.bankBusy (x : RchS) (b : Nat) : Bool :=
  (x.queue.any fun g => g.bank == b)
    || (match x.live with | some c => c.req.bank == b | none => false)
    || (match x.replay with | some c => c.req.bank == b | none => false)

/-- RCH_STAT rewritten from the pipeline's state. -/
def State.rchStat (s : State) (h : Nat) : State :=
  let x := s.rc h
  let s := s.setFld Reg.RCH_STAT_QUEUED h x.queue.length
  let s := s.setFld Reg.RCH_STAT_BANK0_VALID h (bit01 x.bank0.isSome)
  let s := s.setFld Reg.RCH_STAT_BANK1_VALID h (bit01 x.bank1.isSome)
  let s := s.setFld Reg.RCH_STAT_LIVE h (bit01 x.live.isSome)
  s.setFld Reg.RCH_STAT_REPLAY h (bit01 x.replay.isSome)

/-- A bank takes an entry whole. -/
def State.setBank (s : State) (h b : Nat) (ws : List Word) : State :=
  let x := s.rc h
  (s.setRc h (if b = 0 then { x with bank0 := some ws } else { x with bank1 := some ws })).rchStat h

/-- The buffer address of the table entry of a head, zone, reader and band (R95). -/
def State.entryAddr (s : State) (h zone reader band : Nat) : Nat :=
  s.pair Reg.RCHB_TBL_BASE_LO Reg.RCHB_TBL_BASE_HI 0 0 + (((h * 256 + zone) * 2 + reader) * 2 + band) * 128

/-- A load of the entry at an address into a bank: its result, and the bank replaced when it is good (R96). An
entry that the buffer does not deliver reads as a failed check (log entry 23). -/
def State.loadEntry (s : State) (h b addr zone reader band : Nat) : State × Nat :=
  if (s.rc h).bankBusy b then (s, 2)
  else
    match s.bufWordsRaw addr 32 with
    | some ws =>
      let r := entryResult ws zone reader band
      (if r = 1 then s.setBank h b ws else s, r)
    | none => (s, 3)

/-! ## W_avg and the nominal ratio (R80, R185) -/

/-- The mean of the actuator's last four stored wedge intervals in 1/256 sample; none stored reads zero. -/
def State.wAvg (s : State) (a : Nat) : Rat :=
  let xs := (s.sv a).ints
  if xs = [] then 0 else ((xs.foldl (· + ·) 0 : Nat) : Rat) / ((xs.length : Nat) : Rat)

/-- W_avg ÷ BPW of an entry, in samples per bit (R80). -/
def State.ratio (s : State) (a : Nat) (ws : List Word) : Rat :=
  let bpw : Rat := ((ent ws 1 31 0 : Nat) : Rat) / 4096
  if bpw = 0 then 0 else s.wAvg a / 256 / bpw

/-- Bit periods of a gate (R70). -/
def gateBits (exp : Nat) : Nat := exp + 64 + 48 + 37120 + 24

/-- The sample at which a gate ends at a ratio, in 1/256 sample. -/
def gateEndAt (g : GateReq) (rho : Rat) : Nat :=
  g.start + (rho * 256 * ((gateBits g.exp + (if g.splitAt = 0 then 0 else g.splitLen) : Nat) : Rat)).floor.toNat

/-! ## One CORE cycle of a gate -/

/-- The loop settings of a head at work: gains of the phase and adaptation enables (R76, R79, R82, R86). -/
structure LoopCfg where
  kp : Rat
  ki : Rat
  kg : Rat
  ko : Rat
  ka : Rat
  mu : Rat
  gain : Bool
  ofs : Bool
  asym : Bool
  fir : Bool

/-- 2 to a negative power. -/
def negPow (n : Nat) : Rat := 1 / (((2 ^ n : Nat) : Nat) : Rat)

/-- The settings of head `h` in a phase. -/
def State.loopCfg (s : State) (h phase : Nat) : LoopCfg :=
  let g (fm fe im ie : Fld) : Rat × Rat :=
    (((s.fld fm h : Nat) : Rat) * negPow (s.fld fe h + 4), ((s.fld im h : Nat) : Rat) * negPow (s.fld ie h + 8))
  let k := if phase = 1 then g Reg.RCH_TRG_ACQ_KP_M Reg.RCH_TRG_ACQ_KP_E Reg.RCH_TRG_ACQ_KI_M Reg.RCH_TRG_ACQ_KI_E
    else if phase = 2 then
      g Reg.RCH_TRG_SET_KP_M Reg.RCH_TRG_SET_KP_E Reg.RCH_TRG_SET_KI_M Reg.RCH_TRG_SET_KI_E
    else g Reg.RCH_TRG_TRK_KP_M Reg.RCH_TRG_TRK_KP_E Reg.RCH_TRG_TRK_KI_M Reg.RCH_TRG_TRK_KI_E
  { kp := k.1, ki := k.2,
    kg := negPow (s.fld Reg.RCH_LOOPG_KG_E h + 6), ko := negPow (s.fld Reg.RCH_LOOPG_KO_E h + 6),
    ka := negPow (s.fld Reg.RCH_LOOPG_KA_E h + 10), mu := negPow (s.fld Reg.RCH_LOOPG_MU_E h + 10),
    gain := s.flag Reg.RCH_CTRL_ADAPT_GAIN h, ofs := s.flag Reg.RCH_CTRL_ADAPT_OFS h,
    asym := s.flag Reg.RCH_CTRL_ADAPT_ASYM h, fir := s.flag Reg.RCH_CTRL_ADAPT_FIR h }

/-- Target tap `i` of an entry, 1/16 each (R95). -/
def tapG (ws : List Word) (i : Nat) : Rat := (signed 8 (ent ws 4 (23 - 8 * i) (16 - 8 * i)) : Rat) / 16

/-- +1 for bit 0 and −1 for bit 1. -/
def lvl (b : Nat) : Rat := if b = 0 then 1 else -1

/-- The ideal output for bits k, k − 1 and k − 2 (R75). -/
def ideal (ws : List Word) (b0 b1 b2 : Nat) : Rat := tapG ws 0 * lvl b0 + tapG ws 1 * lvl b1 + tapG ws 2 * lvl b2

/-- Bit `k` of the 2T pattern 1100 counted from gate open (R84; log entry 24). -/
def pat2T (k : Nat) : Nat := if k % 4 < 2 then 1 else 0

/-- The FIR cursor of an entry. -/
def cursorOf (ws : List Word) : Nat := ent ws 0 7 4

/-- Sample `i` of a gate counted from the sample at START; samples before it read zero (log entry 25). -/
def GateCtx.smpAt (c : GateCtx) (i : Int) : Rat := if i < 0 then 0 else (c.smp.getD i.toNat 0 : Int)

/-- The interpolated value at a position in 2^-24 sample (R78), with the offset correction (R75). -/
def GateCtx.interpAt (c : GateCtx) (p : Int) : Rat :=
  let base : Int := (c.req.start / 256 : Nat)
  let i := p / 2 ^ 24 - base
  let ph := ((p % 2 ^ 24) / 2 ^ 18).toNat
  sumQ ((List.range 8).map fun t => Config.interp ph t * (c.smpAt (i - 3 + t) + (c.o : Rat) / 64))

/-- Bit at which a split sector's span is skipped (R399); none when the sector is whole or it has been passed. -/
def GateCtx.splitBit (c : GateCtx) : Option Nat :=
  if c.req.splitAt = 0 ∨ c.skipped then none else some (c.req.splitAt - 192 + c.req.exp)

/-- End of the present phase in bits from gate open (R82). -/
def GateCtx.phaseEnd (c : GateCtx) : Nat :=
  if c.phase = 0 then c.zpsEnd else if c.phase = 1 then c.acqEnd
  else if c.phase = 2 then c.req.exp + 112 else gateBits c.req.exp

/-- Bits counted for the phase: instants formed in ZPS, equalized bits afterwards. -/
def GateCtx.progress (c : GateCtx) : Nat := if c.phase = 0 then c.bits else c.z.length

/-- Bits that the next cycle forms. -/
def GateCtx.cycleBits (c : GateCtx) : Nat :=
  let m := min 8 (c.phaseEnd - c.progress)
  match c.splitBit with
  | some k => min m (k - c.bits)
  | none => m

/-- Every sample that the next cycle needs has arrived. -/
def GateCtx.ready (c : GateCtx) : Bool :=
  let m := c.cycleBits
  let last := c.p + ((m : Int) - 1) * ((c.rho : Int) + c.f)
  let base : Int := (c.req.start / 256 : Nat)
  decide (0 < m) && decide (last / 2 ^ 24 - base + 4 < (c.smp.length : Int))

/-- The equalized value of bit `k` (R85). -/
def GateCtx.fir1 (c : GateCtx) (u : List Rat) (cur k : Nat) : Rat :=
  sumQ ((List.range 16).map fun j =>
    ((c.fir.getD j 0 : Int) : Rat) / 1024 * (if k + cur < j then 0 else u.getD (k + cur - j) 0))

/-- Predictor tap `i` (1 or 2) of a condition (R87, R95), and the weight. -/
def npTap (ws : List Word) (i cnd : Nat) : Rat :=
  let lo := cnd % 2 * 16 + (i - 1) * 8
  (signed 8 (ent ws (13 + cnd / 2) (lo + 7) lo) : Rat) / 64
def npW (ws : List Word) (cnd : Nat) : Nat := ent ws (17 + cnd / 4) (cnd % 4 * 8 + 7) (cnd % 4 * 8)

/-- The branch metric for bits k to k − 4, newest lowest, and three equalized values (R87). -/
def branchMetric (ws : List Word) (path : Nat) (z0 z1 z2 : Rat) : Rat :=
  let b (i : Nat) : Nat := path / 2 ^ i % 2
  let n0 := z0 - ideal ws (b 0) (b 1) (b 2)
  let n1 := z1 - ideal ws (b 1) (b 2) (b 3)
  let n2 := z2 - ideal ws (b 2) (b 3) (b 4)
  let cnd := 4 * b 0 + 2 * b 1 + b 2
  let r := n0 - npTap ws 1 cnd * n1 - npTap ws 2 cnd * n2
  let w : Rat := ((npW ws cnd : Nat) : Rat) / 16
  w * r * r - Config.lnTable (npW ws cnd) / 2

/-- One step of the survivors over an equalized value: metric and path of each state b(k−1) to b(k−4), newest
bit lowest. Of equal metrics the one from the lower-numbered state stays (log entry 26). -/
def survStep (ws : List Word) (sv : List (Rat × Nat)) (z0 z1 z2 : Rat) : List (Rat × Nat) :=
  (List.range 16).map fun t =>
    let from1 (hi : Nat) : Rat × Nat :=
      let o := sv.getD (t / 2 + 8 * hi) (0, t / 2 + 8 * hi)
      let path := o.2 * 2 + t % 2
      (o.1 + branchMetric ws path z0 z1 z2, path % 2 ^ 32)
    let x := from1 0
    let y := from1 1
    if y.1 < x.1 then y else x

/-- The path of the best survivor. -/
def bestPath (sv : List (Rat × Nat)) : Nat :=
  match sv with
  | [] => 0
  | x :: xs => (xs.foldl (fun (b : Rat × Nat) y => if y.1 < b.1 then y else b) x).2

/-- The survivors and the tentative decisions after the equalized values from bit `k` on (R84). -/
def survRun (ws : List Word) (z : List Rat) : Nat → Nat → List (Rat × Nat) → List Nat → List (Rat × Nat) × List Nat
  | 0, _, sv, d => (sv, d)
  | fuel + 1, k, sv, d =>
    if k < z.length then
      let zp (i : Nat) : Rat := if k < i then 0 else z.getD (k - i) 0
      let sv := survStep ws sv (zp 0) (zp 1) (zp 2)
      let d := if 24 ≤ k then d ++ [bestPath sv / 2 ^ 24 % 2] else d
      survRun ws z fuel (k + 1) sv d
    else (sv, d)

/-- The bit of the decision in force at bit `k`: the known pattern in ACQ, the tentative decision after it. -/
def decidedBit (known : Bool) (d : List Nat) (k : Nat) : Nat :=
  if known then pat2T k else d.getD k 0

/-- A value moved by a step and clamped; the flag says that a limit was reached. -/
def stepClamp (x : Int) (dx : Int) (lo hi : Int) : Int × Bool :=
  let y := x + dx
  (clampI lo hi y, decide (y < lo) || decide (hi < y))

/-- The FIR corrections of R86 in steps of 2^-10, with its two constraints. -/
def firDelta (mu : Rat) (cur : Nat) (es : List (Nat × Rat)) (u : List Rat) : List Rat :=
  let d := (List.range 16).map fun j =>
    mu * sumQ (es.map fun ke => ke.2 * (if ke.1 + cur < j then 0 else u.getD (ke.1 + cur - j) 0))
  let d := d.set cur 0
  if 0 < cur ∧ cur < 15 then
    let m := (d.getD (cur - 1) 0 + d.getD (cur + 1) 0) / 2
    (d.set (cur - 1) m).set (cur + 1) m
  else d

/-- The loop updates of a cycle over the error bits `ks` (R76, R79, R86). -/
def GateCtx.update (c : GateCtx) (cfg : LoopCfg) (known : Bool) (ks : List Nat) : GateCtx :=
  let ws := c.params
  let b (k : Nat) : Nat := decidedBit known c.dec k
  let sh (k : Nat) : Rat := ideal ws (b k) (b (k - 1)) (b (k - 2))
  let et : Rat := tapG ws 0 * tapG ws 0 + tapG ws 1 * tapG ws 1 + tapG ws 2 * tapG ws 2
  let zk (k : Nat) : Rat := c.z.getD k 0
  let terr (k : Nat) : Rat :=
    if et = 0 then 0 else max (-2) (min 2 ((zk k * sh (k - 1) - zk (k - 1) * sh k) / et))
  let e := sumQ (ks.map terr)
  let p := c.p - qz 1 (cfg.kp * e * 2 ^ 24)
  let lim : Int := (c.rho / 64 : Nat)
  let (f, ct) := stepClamp c.f (-(qz 2 (cfg.ki * e * 2 ^ 24))) (-lim) lim
  let es := ks.map fun k => (k, zk k - sh k)
  let track := c.phase == 3
  let (g, cg) := if cfg.gain then
      stepClamp c.g (-(qz 3 (cfg.kg * sumQ (es.map fun ke => ke.2 * sh ke.1) * 256))) 0x040 0x400
    else (c.g, false)
  let (o, co) := if cfg.ofs then stepClamp c.o (-(qz 4 (cfg.ko * sumQ (es.map Prod.snd) * 64))) (-512) 511
    else (c.o, false)
  let (al, ca) := if cfg.asym && track then
      stepClamp c.alpha
        (qz 5 (cfg.ka * sumQ (es.map fun ke => ke.2 * (c.v.getD ke.1 0 * c.v.getD ke.1 0 - c.pv) / 16) * 4096))
        (-1024) 1024
    else (c.alpha, false)
  let fs := if cfg.fir && track then
      (c.fir.zip (firDelta cfg.mu (cursorOf ws) es c.u)).map fun x =>
        stepClamp x.1 (-(qz 6 (x.2 * 1024))) (-2048) 2047
    else c.fir.map fun x => (x, false)
  { c with p := p, f := f, g := g, o := o, alpha := al, fir := fs.map Prod.fst,
           clampT := c.clampT || ct, clampG := c.clampG || cg || co || ca,
           clampF := c.clampF || fs.any Prod.snd }

/-- One CORE cycle (R79): bit instants, correction, equalization, decisions and, after ZPS, the loop updates. The
errors are those of the previous cycle's bits in ACQ and of the newly decided bits afterwards (log entry 27). -/
def GateCtx.cycle (c : GateCtx) (cfg : LoopCfg) : GateCtx :=
  let m := c.cycleBits
  let step : Int := (c.rho : Int) + c.f
  let vs := (List.range m).map fun i => c.interpAt (c.p + (i : Int) * step)
  let us := vs.map fun v => ((c.g : Int) : Rat) / 256 * (v - ((c.alpha : Int) : Rat) / 4096 * v * v / 16)
  let u := c.u ++ us
  let cur := cursorOf c.params
  let z0 := c.z.length
  let z := c.z ++ (List.range (u.length - cur - z0)).map fun i => c.fir1 u cur (z0 + i)
  let (sv, d) := survRun c.params z (z.length + 1) z0 c.surv c.dec
  let d0 := c.dec.length
  let known := c.phase == 1
  let prev := z0 - 8
  let ks := if known then (List.range (z0 - prev)).map (prev + ·) else (List.range (d.length - d0)).map (d0 + ·)
  let c := { c with bits := c.bits + m, v := c.v ++ vs, u := u, z := z, surv := sv, dec := d,
                    p := c.p + (m : Int) * step }
  if c.phase = 0 then c else c.update cfg known ks

/-- The span of a split passed: loops hold, P advances, no bits (R399). -/
def GateCtx.skip (c : GateCtx) : GateCtx :=
  let p := c.p + (c.req.splitLen : Int) * ((c.rho : Int) + c.f)
  { c with p := p, skipped := true, skipAt := (c.p / 2 ^ 24 - ((c.req.start / 256 : Nat) : Int)).toNat,
           skipN := (p / 2 ^ 24 - c.p / 2 ^ 24).toNat }

/-- Cycles run while samples last and the phase has bits to go. -/
def GateCtx.run (cfg : LoopCfg) : Nat → GateCtx → GateCtx
  | 0, c => c
  | fuel + 1, c =>
    if c.splitBit = some c.bits then GateCtx.run cfg fuel c.skip
    else if c.ready then GateCtx.run cfg fuel (c.cycle cfg) else c

/-! ## Phase ends (R83, R91, R92) -/

/-- The fundamental at a quarter of the baud rate over values from bit 0: real and imaginary parts (R83). -/
def fund (vs : List Rat) : Rat × Rat :=
  ((List.range vs.length).zip vs).foldl
    (fun (a : Rat × Rat) kv =>
      if kv.1 % 4 = 0 then (a.1 + kv.2, a.2) else if kv.1 % 4 = 1 then (a.1, a.2 - kv.2)
      else if kv.1 % 4 = 2 then (a.1 - kv.2, a.2) else (a.1, a.2 + kv.2))
    (0, 0)

/-- The end of ZPS: the preamble sets P, G and Pv (R83, R76). -/
def GateCtx.zpsDone (c : GateCtx) : GateCtx :=
  let vs := c.v.take c.zpsEnd
  let cs := fund vs
  let ref := fund ((List.range c.zpsEnd).map fun k =>
    ideal c.params (pat2T k) (pat2T (k + 3)) (pat2T (k + 2)))
  let turn := Config.argQuarter cs.1 cs.2 - Config.argQuarter ref.1 ref.2
  let c2 := cs.1 * cs.1 + cs.2 * cs.2
  let r2 := ref.1 * ref.1 + ref.2 * ref.2
  let g : Int := if c2 = 0 then 0x400 else (qzSqrt 7 (r2 / c2 * 65536) : Nat)
  let n : Rat := ((vs.length : Nat) : Rat)
  { c with p := c.p - qz 8 (((c.rho : Nat) : Rat) * turn), g := clampI 0x040 0x400 g,
           clampG := c.clampG || decide (g < 0x040) || decide (0x400 < g),
           pv := if vs = [] then 64 else sumQ (vs.map fun v => v * v) / n }

/-- Bit `i` of the sync mark, sent bit 47 first (R90); bits −1 and −2 are the preamble's 0, 0 (R91). -/
def State.markBit (s : State) (i : Nat) : Nat :=
  let m := (s.rd Reg.RCHB_SYNC_LO 0 0).toNat + s.fld Reg.RCHB_SYNC_HI_MARK 0 * 2 ^ 32
  m / 2 ^ (47 - i) % 2

/-- The ideal output of the mark's bit `i` (R91). -/
def State.markOut (s : State) (ws : List Word) (i : Nat) : Rat :=
  ideal ws (s.markBit i) (if i < 1 then 0 else s.markBit (i - 1)) (if i < 2 then 0 else s.markBit (i - 2))

/-- The three best local maxima of the sync search (R91). -/
def State.syncSearch (s : State) (c : GateCtx) : List SyncCand :=
  let ts := (List.range 48).map (s.markOut c.params)
  let es := sumQ (ts.map fun t => t * t)
  let lo := c.req.exp - 64
  let ms := (List.range 129).map fun i =>
    sumQ (((List.range 48).zip ts).map fun it => c.z.getD (lo + i + it.1) 0 * it.2)
  let mAt (i : Nat) : Rat := ms.getD i 0
  let tops := (List.range 129).filter fun i =>
    (List.range 9).all fun k => i + k < 4 || 129 ≤ i + k - 4 || decide (mAt (i + k - 4) ≤ mAt i)
  let far (i : Nat) : Nat := if i < 64 then 64 - i else i - 64
  let before (i j : Nat) : Bool :=
    decide (mAt j < mAt i) || (mAt i == mAt j && (decide (far i < far j) || (far i == far j && decide (i < j))))
  let sorted := tops.filter fun i => decide ((tops.filter fun j => before j i).length < 3)
  let ranked := sorted.mergeSort fun i j => before i j || i == j
  (ranked.take 3).map fun (i : Nat) => { ofs := (i : Int) - 64, m := if es = 0 then 0 else mAt i / es }

/-- A candidate passes the threshold (R91). -/
def candPasses (ws : List Word) (x : SyncCand) : Bool := decide (((ent ws 3 7 0 : Nat) : Rat) / 256 ≤ x.m)

/-- The close of the sync window: candidates and framing (R92, R94). -/
def State.frameGate (s : State) (c : GateCtx) : GateCtx :=
  let cs := s.syncSearch c
  let pick : Option Int × Nat :=
    match c.replay with
    | some r =>
      match r.ofs with
      | some o => (some o, 0)
      | none =>
        if r.cand = 0 then
          match cs with
          | x :: _ => if candPasses c.params x then (some x.ofs, 0) else (none, 1)
          | [] => (none, 1)
        else
          match cs[r.cand]? with
          | some x => (some x.ofs, 0)
          | none => (none, 1)
    | none =>
      match cs with
      | x :: _ => if candPasses c.params x then (some x.ofs, 0) else (none, 1)
      | [] => (none, 1)
  let at' : Int := (c.req.exp : Int) + pick.1.getD 0 + 48
  { c with cands := cs, frame := some at'.toNat, status := pick.2 }

/-! ## Soft values (R87 to R89) -/

/-- Forward metrics of the 16 states before each bit of a span. -/
def fwd (ws : List Word) (z : List Rat) : Nat → Nat → List Rat → List (List Rat)
  | 0, _, m => [m]
  | n + 1, k, m =>
    let zp (i : Nat) : Rat := if k < i then 0 else z.getD (k - i) 0
    let m' := (List.range 16).map fun t =>
      let v (hi : Nat) : Rat :=
        m.getD (t / 2 + 8 * hi) 0 + branchMetric ws ((t / 2 + 8 * hi) * 2 + t % 2) (zp 0) (zp 1) (zp 2)
      min (v 0) (v 1)
    m :: fwd ws z n (k + 1) m'

/-- Backward metrics of the 16 states after each bit of a span that ends before bit `k`, last bit first. -/
def bwd (ws : List Word) (z : List Rat) : Nat → Nat → List Rat → List (List Rat)
  | 0, _, m => [m]
  | n + 1, k, m =>
    let j := k - 1
    let zp (i : Nat) : Rat := if j < i then 0 else z.getD (j - i) 0
    let m' := (List.range 16).map fun f =>
      let v (b : Nat) : Rat := m.getD ((f * 2 + b) % 16) 0 + branchMetric ws (f * 2 + b) (zp 0) (zp 1) (zp 2)
      min (v 0) (v 1)
    m :: bwd ws z n (k - 1) m'

/-- The max-log value of bit `k`: windows of 64 bits with 32 bits of warm-up each way (R88). -/
def maxLog (ws : List Word) (z : List Rat) (k : Nat) : Rat :=
  let w := k / 64 * 64
  let lo := w - 32
  let hi := min (w + 96) z.length
  let zero := List.replicate 16 (0 : Rat)
  let a := (fwd ws z (k - lo) lo zero).getD (k - lo) zero
  let b := (bwd ws z (hi - (k + 1)) hi zero).getD (hi - (k + 1)) zero
  let zp (i : Nat) : Rat := if k < i then 0 else z.getD (k - i) 0
  let best (bit : Nat) : Rat :=
    let xs := (List.range 16).map fun f =>
      a.getD f 0 + branchMetric ws (f * 2 + bit) (zp 0) (zp 1) (zp 2) + b.getD ((f * 2 + bit) % 16) 0
    xs.foldl min (xs.getD 0 0)
  best 1 - best 0

/-- The 6-bit soft value of bit `k` (R88). -/
def softOf (ws : List Word) (z : List Rat) (k : Nat) : Int :=
  clampI (-31) 31 (rnd (maxLog ws z k * (((ent ws 2 7 0 : Nat) : Rat) / 16)))

/-- The codeword's soft values that can be written now go to the gate's slot (R89). -/
def State.writeSoft (s : State) (c : GateCtx) : State × GateCtx :=
  match c.frame with
  | none => (s, c)
  | some f =>
    let done := c.progress == gateBits c.req.exp
    let upto := min 37120 (if done then 37120 else (c.z.length / 64 * 64 - 96) - f)
    let ns := (List.range (upto - c.written)).map (c.written + ·)
    let slot := match c.replay with | some r => r.slot | none => c.req.slot
    (ns.foldl (fun s n => s.setSoftVal slot n (softOf c.params c.z (f + n))) s,
     { c with written := max c.written upto })

/-! ## The raw slots (R93, R114, R115) -/

/-- Samples that a raw slot can hold. -/
def rawMax : Nat := 52424

def RchS.rawRec (x : RchS) (k : Nat) : RawRec := if k = 0 then x.raw0 else x.raw1
def RchS.setRaw (x : RchS) (k : Nat) (r : RawRec) : RchS := if k = 0 then { x with raw0 := r } else { x with raw1 := r }

/-- The raw slot that a live gate captures into: the older unpinned one; none when both are pinned or are the
accumulator (R93, R164, R170). -/
def RchS.captureSlot (x : RchS) : Option Nat :=
  if x.accOn then none
  else if x.raw0.pin then (if x.raw1.pin then none else some 1)
  else if x.raw1.pin then some 0
  else if x.raw1.age < x.raw0.age then some 1 else some 0

/-- The context stands at the end of a phase that is not the last. -/
def GateCtx.phaseDue (c : GateCtx) : Bool := decide (c.phase < 3) && c.progress == c.phaseEnd

/-- The context has run all its bits. -/
def GateCtx.finished (c : GateCtx) : Bool := c.phase == 3 && c.progress == c.phaseEnd

/-- Samples that a gate captures, to the last that its bits use: those of the split's span left out (R93, R399). -/
def GateCtx.captureList (c : GateCtx) : List Int :=
  let base : Int := (c.req.start / 256 : Nat)
  let last : Int := (c.p - (c.rho : Int) - c.f) / 2 ^ 24 - base + 5
  let xs := if c.finished then c.smp.take last.toNat else c.smp
  if c.skipped then xs.take c.skipAt ++ xs.drop (c.skipAt + c.skipN) else xs

/-- Clipped samples of a gate (R74). -/
def GateCtx.clipCount (c : GateCtx) : Nat := (c.captureList.filter fun v => v == -16 || v == 15).length

/-- Five bytes of eight samples, the earliest in the lowest bits (R115). -/
def packRaw (xs : List Int) : List Byte :=
  leBytes 5 (((List.range 8).map fun i => unsigned 5 (xs.getD i 0) * 2 ^ (5 * i)).foldl (· + ·) 0)

/-- The capture of a gate that ends, stored in its raw slot with its head record (R93, R114). -/
def State.storeRaw (s : State) (h : Nat) (c : GateCtx) : State :=
  match c.raw with
  | none => s
  | some k =>
    let all := c.captureList
    let xs := all.take rawMax
    let s := (List.range ((xs.length + 7) / 8)).foldl
      (fun s g => s.putLand (rawKey h k (5 * g)) (packRaw (xs.drop (8 * g)))) s
    let x := s.rc h
    s.setRc h (x.setRaw k { x.rawRec k with
      used := true, start := c.req.start, exp := c.req.exp, bank := c.req.bank, rho := c.rho, count := xs.length,
      cut := (x.rawRec k).cut || decide (rawMax < all.length), splitAt := c.req.splitAt,
      splitLen := c.req.splitLen, skipAt := c.skipAt, skipN := c.skipN })

/-- The samples of a raw slot, with the split's span put back as zeros, which no bit uses (R399). -/
def State.rawSamples (s : State) (h k : Nat) : List Int :=
  let r := (s.rc h).rawRec k
  let xs := (List.range r.count).map fun i => signed 5 (s.landBits (rawKey h k (i / 8 * 5)) (i % 8 * 5) 5)
  xs.take r.skipAt ++ List.replicate r.skipN 0 ++ xs.drop r.skipAt

/-! ## The end of a gate (R71, R72, R400) -/

/-- A candidate as RCH_CAND and the status record show it (R100). -/
def candWord (x : Option SyncCand) : Word :=
  match x with
  | none => 0
  | some x => word (unsigned 8 x.ofs * 2 ^ 24 + min 65535 (if x.m ≤ 0 then 0 else (qz 9 (x.m * 16384)).toNat))

/-- The status writes soft values (R71). -/
def softStatus (st : Nat) : Bool := st == 0 || st == 1

/-- The status record of a gate or replay to the format sequencer of the head's actuator (R71, R400). -/
def State.gateRecord (s : State) (h st : Nat) (replay nocap : Bool) (ct cg cf : Bool) (clips tag slot : Nat)
    (cands : List SyncCand) : State :=
  s.sendRec (h / 10) 0
    [word ((if replay then 2 else 1) * 2 ^ 28 + st * 2 ^ 24 + h % 10 * 2 ^ 20 + bit01 ct * 2 ^ 19
        + bit01 cg * 2 ^ 18 + bit01 cf * 2 ^ 17 + bit01 nocap * 2 ^ 16 + clips % 65536),
     word tag, candWord cands[0]?, candWord cands[1]?, candWord cands[2]?, word slot]

/-- What every ended gate does beside its record: the last status, the counters, the credits of a status that
writes no soft values, and the corrected fault of a microcode error (R72, R100). -/
def State.gateTally (s : State) (h st tag slot : Nat) (clips : Nat) (clamp : Bool) : State :=
  let s := s.setFld Reg.RCH_STAT_LAST_STATUS h st
  let s := s.bump Reg.RCH_CNT_CLIP h clips
  let s := if st = 1 then s.bump Reg.RCH_CNT_NOSYNC h 1 else s
  let s := if st = 2 ∨ st = 3 then s.bump Reg.RCH_CNT_GAP h 1 else s
  let s := if clamp then s.bump Reg.RCH_CNT_LIM h 1 else s
  let s := if softStatus st then s else s.releaseBoth slot tag
  if st = 4 ∨ st = 6 ∨ st = 7 then s.corrected srcRCH 0 else s

/-- A gate request that never opened ends with a status. -/
def State.refuseGate (s : State) (h st : Nat) (g : GateReq) : State :=
  (s.gateTally h st g.tag g.slot 0 false).gateRecord h st false true false false false 0 g.tag g.slot []

/-- The end-of-gate values of a gate with soft values (R100). -/
def State.gateValues (s : State) (h : Nat) (c : GateCtx) : State :=
  let s := s.setFld Reg.RCH_RHO_RHO h c.rho
  let s := s.setFld Reg.RCH_FREQ_F h (unsigned 24 c.f)
  let s := s.setFld Reg.RCH_GOA_G h (unsigned 12 c.g)
  let s := s.setFld Reg.RCH_GOA_O h (unsigned 12 c.o)
  let s := s.setFld Reg.RCH_ASY_ALPHA h (unsigned 12 c.alpha)
  (List.range 8).foldl (fun s i =>
    s.wr Reg.RCH_FIR_END h i (word (unsigned 16 (c.fir.getD (2 * i) 0) + unsigned 16 (c.fir.getD (2 * i + 1) 0) * 65536)))
    s

/-- Accumulator value `n` of a head (R170). -/
def State.accVal (s : State) (h n : Nat) : Int := signed 14 (s.landBits (rawKey h 0 0) (14 * n) 14)

/-- A pass added to the accumulator: OK with candidate 0 above threshold; the first pass clears it (R170, R398). -/
def State.addPass (s : State) (h : Nat) (c : GateCtx) : State :=
  if c.req.acc = 0 then s
  else
    let good := c.status == 0 && (match c.cands with | x :: _ => candPasses c.params x | [] => false)
    let f := c.frame.getD 0
    (List.range 37120).foldl (fun s n =>
      let old := if c.req.acc = 1 then 0 else s.accVal h n
      let new := if good then old + clampI (-128) 127 (rnd (c.z.getD (f + n) 0)) else old
      s.putLandBits (rawKey h 0 0) (14 * n) 14 (unsigned 14 (satS 14 new))) s

/-- A gate or replay ends with a status (R71 to R73). -/
def State.endCtx (s : State) (h : Nat) (replay : Bool) (st : Nat) : State :=
  let x := s.rc h
  match (if replay then x.replay else x.live) with
  | none => s
  | some c =>
    let c := { c with status := st, clips := c.clipCount }
    let slot := match c.replay with | some r => r.slot | none => c.req.slot
    let tag := match c.replay with | some r => r.tag | none => c.req.tag
    let s := if replay then s.setRc h { x with replay := none } else s.setRc h { x with live := none }
    let s := if replay then s else (s.storeRaw h c).addPass h c
    let s := if softStatus st then s.gateValues h c else s
    let s := (List.range 3).foldl (fun s k => s.wr Reg.RCH_CAND h k (candWord c.cands[k]?)) s
    let s := s.gateTally h st tag slot c.clips (c.clampT || c.clampG || c.clampF)
    (s.gateRecord h st replay (!replay && c.raw.isNone) c.clampT c.clampG c.clampF c.clips tag slot c.cands).rchStat h

/-- Every gate and replay of a head ends with a status, queued ones too. -/
def State.endHead (s : State) (h st : Nat) : State :=
  let x := s.rc h
  let s := s.setRc h { x with queue := [] }
  let s := x.queue.foldl (fun s g => s.refuseGate h st g) s
  (((s.endCtx h false st).endCtx h true st)).rchStat h

/-! ## Opening (R70, R80, R93) -/

/-- A context at the start of a gate: seeds of the entry, P at START, F zero (R75, R80, R82). -/
def State.openCtx (s : State) (h : Nat) (g : GateReq) (ws : List Word) (rho : Nat) (raw : Option Nat)
    (r : Option ReplayReq) (smp : List Int) : GateCtx :=
  let zps := s.fld Reg.RCH_PHASE_ZPS_LEN h
  let acq := zps + s.fld Reg.RCH_PHASE_ACQ_LEN h
  let lim := g.exp - 64
  { req := g, replay := r, params := ws, rho := rho, p := (g.start : Int) * 65536, g := (ent ws 2 31 20 : Nat),
    o := signed 12 (ent ws 2 19 8), alpha := signed 12 (ent ws 3 31 20),
    fir := (List.range 16).map fun j => signed 16 (ent ws (5 + j / 2) (j % 2 * 16 + 15) (j % 2 * 16)),
    phase := if zps = 0 then 1 else 0, zpsEnd := zps, acqEnd := if lim < acq then max zps lim else acq,
    surv := (List.range 16).map fun k => ((0 : Rat), k), raw := raw, smp := smp }

/-- A gate's context runs on the samples it has, and its soft values are written. -/
def State.runLive (s : State) (h : Nat) : State :=
  match (s.rc h).live with
  | none => s
  | some c =>
    let c := GateCtx.run (s.loopCfg h c.phase) (c.smp.length + 8) c
    let (s, c) := s.writeSoft c
    s.setRc h { s.rc h with live := some c }

def State.runReplay (s : State) (h : Nat) : State :=
  match (s.rc h).replay with
  | none => s
  | some c =>
    let c := GateCtx.run (s.loopCfg h c.phase) (c.smp.length + 8) c
    let (s, c) := s.writeSoft c
    s.setRc h { s.rc h with replay := some c }

/-- The next phase of a context whose bit count has reached its phase's end (R82). -/
def State.nextPhase (s : State) (c : GateCtx) : GateCtx :=
  if c.phase = 0 then { c.zpsDone with phase := 1 }
  else if c.phase = 1 then { c with phase := 2 }
  else { s.frameGate c with phase := 3 }

/-- Samples from the FIFO enter an open live gate (R67, R93). -/
def State.feedLive (s : State) (h : Nat) : State :=
  let x := s.rc h
  match x.live with
  | none => s
  | some c =>
    let from' := c.req.start / 256 + c.smp.length
    let new := (x.fifo.filter fun e => decide (from' ≤ e.1)).map Prod.snd
    let s := s.setRc h { x with live := some { c with smp := c.smp ++ new } }
    s.runLive h

end Sys2Proof.Machine
end

