-- ==== Sys2Proof/Machine/SrvOps.lean ====
section
/-!
DEFINITION. A servo engine (R177 to R222): coefficient sets, demodulation, the comb control law, seeks, supervision,
injection and capture.
-/

namespace Sys2Proof.Machine

def srvUnloaded : Nat := 0
def srvLoading : Nat := 1
def srvAcquiring : Nat := 2
def srvSeeking : Nat := 3
def srvSettling : Nat := 4
def srvFollowing : Nat := 5
def srvUnloading : Nat := 6
def srvFencedSt : Nat := 7

def State.srvState (s : State) (a : Nat) : Nat := s.fld Reg.SRV_STAT_STATE a

/-- A change of the engine's state, with source 9 in the sequencers concerned (R207, R403). -/
def State.srvTo (s : State) (a st : Nat) : State :=
  if s.srvState a = st then s else (s.setFld Reg.SRV_STAT_STATE a st).hdaEvent (a / 2)

def SrvS.head (x : SrvS) (j : Nat) : SrvHead := mget (fun _ => ({} : SrvHead)) x.heads j
def SrvS.setHead (x : SrvS) (j : Nat) (y : SrvHead) : SrvS :=
  { x with heads := mset (fun _ => ({} : SrvHead)) x.heads j y }
def SrvS.mapHeads (x : SrvS) (f : Nat → SrvHead → SrvHead) : SrvS :=
  (List.range 10).foldl (fun x j => x.setHead j (f j (x.head j))) x

/-! ## Coefficient sets (R209, R210) -/

/-- A field of the active set; a bank that has never been loaded reads zeros (log entry 30). -/
def SrvS.cf (x : SrvS) (i hi lo : Nat) : Nat := ent x.active i hi lo

/-- A signed field of the active set. -/
def SrvS.cfS (x : SrvS) (n i hi lo : Nat) : Int := signed n (x.cf i hi lo)

/-- Every field of a set lies in its range (R209). -/
def setOk (ws : List Word) (band : Nat) : Bool :=
  let z (i : Nat) : Bool := ws.getD i 0 == 0
  ent ws 0 31 24 == 1 && ent ws 0 23 21 == band && ent ws 0 20 1 == 0 && ent ws 0 0 0 == 1
    && (List.range 14).all (fun i => z (1 + i))
    && (List.range 7).all (fun i => ent ws (16 + i) 31 24 == 0)
    && decide (1 ≤ ent ws 23 15 0) && decide (ent ws 23 15 0 ≤ 32767)
    && decide (ent ws 24 31 24 ≤ 15) && decide (ent ws 25 31 24 ≤ 7)
    && decide (1 ≤ ent ws 26 15 8) && decide (ent ws 26 15 8 ≤ 32) && ent ws 26 7 0 == 0
    && ent ws 27 23 0 != 0 && ent ws 27 31 24 == 0
    && (List.range 4).all (fun i => z (28 + i))
    && (List.range 64).all (fun i => ent ws (32 + i) 31 24 == 0)
    && ent ws (96 + (ent ws 26 15 8 - 1)) 31 16 == 0x8000
    && (List.range 10).all (fun j =>
        let o := 64 * j
        ent ws (128 + o) 23 0 != 0
          && decide (1 ≤ ent ws (129 + o) 31 16) && decide (ent ws (129 + o) 31 16 ≤ 32767)
          && ent ws (129 + o) 15 0 != 0 && ent ws (130 + o) 15 8 != 0 && ent ws (130 + o) 7 1 == 0
          && ent ws (163 + o) 31 16 == 0
          && (List.range 28).all (fun i => z (164 + o + i)))

/-- The result of a set's checks: 1 good, 2 BADCHK, 3 BADSET (R210). -/
def setResult (ws : List Word) (band : Nat) : Nat :=
  if ws.length ≠ 768 ∨ wordSum ws ≠ 0 then 2 else if setOk ws band then 1 else 3

/-- Word `i` belongs to a part that the mask takes (R210). -/
def partTaken (mask i : Nat) : Bool :=
  if i < 16 then true
  else if i < 28 then mask.testBit 11
  else if i < 32 then true
  else if i < 128 then mask.testBit 10
  else mask.testBit ((i - 128) / 64)

/-- The loading bank: parts of the mask from the image, the others from the active bank (R210). -/
def mergeSet (mask : Nat) (image active : List Word) : List Word :=
  (List.range 768).map fun i => if partTaken mask i then image.getD i 0 else active.getD i 0

/-! ## Demodulation (R181 to R183) -/

/-- Samples per servo bit period (R178). -/
def State.rhoS (s : State) (a : Nat) : Rat :=
  let sbp := s.fld Reg.SRV_FIELD_WEDGE_SBP a
  if sbp = 0 then 0 else s.wAvg a / 256 / ((sbp : Nat) : Rat)

/-- The ratio lies where wedges can be read (R179). -/
def State.rhoSOk (s : State) (a : Nat) : Bool := decide (3 ≤ s.rhoS a) && decide (s.rhoS a ≤ 16)

/-- The SAM position taken: within ±16 SBP, at most SAM_ERR mismatches, nearest the prediction, the earlier of
two at equal distance (R181). -/
def pickSam (errMax : Nat) (xs : List SamPos) : Option SamPos :=
  let ok := xs.filter fun p => decide (p.ofs.natAbs ≤ 16) && decide (p.errs ≤ errMax)
  ok.foldl (fun b p =>
    match b with
    | none => some p
    | some q => if p.ofs.natAbs < q.ofs.natAbs ∨ (p.ofs.natAbs = q.ofs.natAbs ∧ p.ofs < q.ofs) then some p else b) none

/-- The in-phase part of a burst's fundamental over the preamble's (R182). -/
def inPhase (c pre : Int × Int) : Rat :=
  let d := pre.1 * pre.1 + pre.2 * pre.2
  if d = 0 then 0 else ((c.1 * pre.1 + c.2 * pre.2 : Int) : Rat) / ((d : Int) : Rat)

/-- Binary of a 24-bit Gray code. -/
def grayDecode (g : Nat) : Nat := (List.range 24).foldl (fun b i => b.xor (g / 2 ^ i)) 0

/-- Even parity of the wedge ID's bit 10 over bits 9 to 0 (R177). -/
def widOk (wid : Nat) : Bool := ((setBitsList (wid % 2 ^ 11) 11).length) % 2 == 0

/-- The reference of head `j`: C, bias and read offset in 2^-12 track (R187). -/
def SrvS.refOf (x : SrvS) (c12 : Int) (j : Nat) : Int :=
  let h := x.head j
  let o : Int := match h.ofs with | some r => if r.stage = 2 ∨ r.stage = 3 then r.value * 16 else 0 | none => 0
  c12 + h.bias + o

/-- The comb's reference in 2^-12 track: C, or the step of a short seek (R197). -/
def SrvS.c12 (x : SrvS) : Int :=
  let full : Int := (x.target : Int) * 4096
  match x.seek with
  | some k =>
    let n := x.cf 26 15 8
    if k.begun && !k.long && !k.settling && decide (0 < k.k) && decide (k.k ≤ n) then
      k.from_ + (full - k.from_) * (x.cf (96 + (k.k - 1)) 31 16 : Nat) / 32768
    else full
  | none => full

/-- What head `j`'s demodulated wedge says (R181 to R183): the head with its result. The missed-wedge tests that
compare heads run at wedge-complete. -/
def State.demod (s : State) (a j : Nat) (dem : Demod) : SrvHead × Bool :=
  let x := s.sv a
  let h := x.head j
  match pickSam (s.fld Reg.SRV_SAM_SAM_ERR a) dem.sams with
  | none => ({ h with done := true, found := false }, false)
  | some p =>
    let n1 := inPhase dem.n1 dem.pre
    let n2 := inPhase dem.n2 dem.pre
    let xx := angle12 11 n1 n2
    let amp := decide (1 / 16 ≤ n1 * n1 + n2 * n2)
    let wn := dem.wid % 1024
    let wed := s.fld Reg.SRV_FIELD_WEDGES a
    let seqOk := match h.lastW with | some w => wn == (w + 1) % (max wed 1) | none => true
    let pred := h.lastY.map fun y => y + (if x.seek.isSome then x.vest else 0)
    let k : Int := match pred with
      | some y => rnd (((y - xx : Int) : Rat) / 4096)
      | none => (grayDecode dem.gray : Nat)
    let gray : Int := (grayDecode dem.gray : Nat)
    let near := match pred with | some _ => true | none => decide (xx.natAbs ≤ 1024)
    let gm := pred.isSome && decide (1 < (gray - k).natAbs)
    let rro : Int := if x.cf (130 + 64 * j) 0 0 = 1 then signed 16 dem.rro else 0
    ({ h with done := true, found := true, samEnd := p.samEnd, y := k * 4096 + xx - rro, wnum := wn,
              ampOk := amp && near, idOk := widOk dem.wid && seqOk }, gm)

/-! ## The SERVO block (R49, R189) -/

/-- The sample period of an actuator in ticks of link time: 800 ÷ N (R51, R139). -/
def State.tickPerSample (s : State) (a : Nat) : Rat :=
  800 / ((mget (fun _ => 4096) (s.hl (a / 2)).adcN (a % 2) : Nat) : Rat)

/-- Link time of a sample index in 1/256 sample, from the newest anchor (R41, R47). -/
def State.linkTimeOf (s : State) (a wc : Nat) : Nat :=
  let h := s.hl (a / 2)
  let anchor := mget (fun _ => 0) h.anchor (a % 2)
  let frac := mget (fun _ => 0) h.frac (a % 2)
  let d : Int := signed 40 (wc + 2 ^ 40 - (anchor * 256 + frac) % 2 ^ 40)
  unsigned 32 ((h.anchorT : Int) + qz 12 ((d : Rat) / 256 * s.tickPerSample a))

/-- Bits of the write-inhibit mask: bit 9 for head 0, as SERVO and SRV_STAT carry it. -/
def SrvS.inhMask (x : SrvS) : Nat :=
  ((List.range 10).filter fun j => (x.head j).inh).foldl (fun m j => m + 2 ^ (9 - j)) 0

/-- SRV_STAT.INH shows head 0 in its lowest bit (R212). -/
def SrvS.inhStat (x : SrvS) : Nat :=
  ((List.range 10).filter fun j => (x.head j).inh).foldl (fun m j => m + 2 ^ j) 0

/-- The engine sends a SERVO block with its present codes and mask (R49, R54). -/
def State.sendServo (s : State) (a apply : Nat) : State :=
  let x := s.sv a
  s.sendCmd (a / 2) (1 + a % 2)
    (servoBlock (a % 2) apply ((List.range 10).map fun j => unsigned 16 (x.head j).ma) (unsigned 16 x.vcm) x.inhMask)
    (.servo a)

/-- The bus holds every INH bit of the HDA set (R254). -/
def State.busInh (s : State) (n : Nat) : Bool :=
  let p := mget (fun _ => ({} : SpnS)) s.spn n
  p.uv || decide (1 ≤ p.ov)

/-! ## Injection (R213 to R220) -/

def SrvS.maPoint (x : SrvS) (j : Nat) : Bool :=
  match x.inj with | some r => (r.point == 1 || r.point == 2) && r.head == j | none => false
def SrvS.vcmPoint (x : SrvS) : Bool :=
  match x.inj with | some r => r.point == 3 || r.point == 4 | none => false

/-- A run ends with a result (R218). -/
def State.injEnd (s : State) (a res : Nat) : State :=
  let x := s.sv a
  match x.inj with
  | none => s
  | some _ =>
    let s := s.setSv a { x with inj := none }
    let s := (s.setFld Reg.SRV_INJ_CTRL_RESULT a res).setFld Reg.SRV_INJ_CTRL_GO a 0
    s.setFld Reg.SRV_INJ_CTRL_STOP a 0

/-- The last wedge of the present step has come. -/
def State.injDue (s : State) (a : Nat) : Bool :=
  match (s.sv a).inj with
  | none => false
  | some r =>
    let dwell := s.fld Reg.SRV_INJ_DWELL_DWELL a
    let settle := if r.signal = 2 then 0 else s.fld Reg.SRV_INJ_STEP_SETTLE a
    r.begun && decide (settle + dwell ≤ r.k)

/-- The step record (R220). -/
def corrRecord (r : InjRun) : List Byte :=
  leBytes 2 r.inc ++ [BitVec.ofNat 8 (bit01 r.stop + 2 * bit01 r.clamp + 4 * bit01 (r.missed != 0)), 0]
    ++ leBytes 4 r.n ++ leBytes 8 (unsigned 64 r.ia) ++ leBytes 8 (unsigned 64 r.qa) ++ leBytes 8 (unsigned 64 r.ib)
    ++ leBytes 8 (unsigned 64 r.qb) ++ List.replicate 24 0

/-- The end of a step: its record, then the next step or DONE (R216, R218, R220). -/
def State.injStepEnd (s : State) (a : Nat) : State :=
  match (s.sv a).inj with
  | none => s
  | some r =>
    if s.injDue a then
      let addr := s.pair Reg.SRV_CORR_ADDR_LO Reg.SRV_CORR_ADDR_HI a 0 / 64 * 64 + 64 * r.step
      let dwell := s.fld Reg.SRV_INJ_DWELL_DWELL a
      let s := if r.signal = 2 ∨ dwell = 0 then s else (s.bufWrite addr (corrRecord r)).1
      let inc := r.inc + s.fld Reg.SRV_INJ_STEP_INC_STEP a
      if r.signal = 1 ∧ s.fld Reg.SRV_INJ_STEP_INC_STEP a ≠ 0 ∧ inc ≤ s.fld Reg.SRV_INJ_FREQ_INC_END a ∧ !r.stop then
        let r' : InjRun :=
          { point := r.point, head := r.head, signal := 1, step := r.step + 1, inc := inc, begun := true }
        let s := s.setSv a { s.sv a with inj := some r' }
        (s.setFld Reg.SRV_INJ_STAT_STEP a (r.step + 1)).setFld Reg.SRV_INJ_STAT_WEDGES a 0
      else s.injEnd a 1
    else s

/-- A condition of R218 that stops a run ends it STOPPED; in the wedge that ends the last step, DONE (R219). -/
def State.injStop (s : State) (a res : Nat) : State :=
  if s.injDue a then
    let x := s.sv a
    (s.setSv a { x with inj := x.inj.map fun r => { r with stop := true } }).injStepEnd a
  else s.injEnd a res

/-- The injected value of this wedge (R216). -/
def State.injValue (s : State) (a : Nat) (r : InjRun) : Int :=
  let amp : Int := (s.fld Reg.SRV_INJ_AMP_AMP a : Nat)
  if r.signal = 2 then (if r.lfsr / 1024 % 2 = 1 then amp else -amp)
  else rnd ((amp : Rat) * sinTurn r.ph)

/-- A run after a wedge: sums over a correlated wedge that is not left out, phase and counts (R216, R219, R220). -/
def State.injAdvance (s : State) (a : Nat) (r : InjRun) (av bv : Int) (valid clamp : Bool) : InjRun :=
  let settle := if r.signal = 2 then 0 else s.fld Reg.SRV_INJ_STEP_SETTLE a
  let corr := decide (settle ≤ r.k) && valid && r.signal != 2
  let c := rnd (cosTurn r.ph * 32768)
  let sn := rnd (sinTurn r.ph * 32768)
  let hold := max 1 (s.fld Reg.SRV_INJ_STEP_HOLD a)
  let l' := if (r.k + 1) % hold = 0 then (r.lfsr * 2 % 2048 + (r.lfsr / 1024 + r.lfsr / 256) % 2) else r.lfsr
  { r with k := r.k + 1, ph := (r.ph + r.inc) % 65536, lfsr := l', a := av, b := bv, clamp := r.clamp || clamp,
           n := if corr then r.n + 1 else r.n, missed := if valid then r.missed else r.missed + 1,
           ia := if corr then satS 64 (r.ia + av * c) else r.ia, qa := if corr then satS 64 (r.qa + av * sn) else r.qa,
           ib := if corr then satS 64 (r.ib + bv * c) else r.ib, qb := if corr then satS 64 (r.qb + bv * sn) else r.qb }

/-! ## The comb control law (R189 to R195) -/

/-- The gain of the table at a residual in 2^-12 track (R191). -/
def SrvS.lut (x : SrvS) (j : Nat) (eps : Int) : Rat :=
  let g (i : Nat) : Rat := ((x.cf (131 + 64 * j + i / 2) (i % 2 * 16 + 15) (i % 2 * 16) : Nat) : Rat) / 16384
  let emax : Rat := ((max 1 (x.cf (129 + 64 * j) 15 0) : Nat) : Rat)
  let p := (((eps : Int) : Rat) + emax) * 32 / emax
  if p ≤ 0 then g 0 else if 64 ≤ p then g 64
  else
    let i := p.floor.toNat
    g i + (p - ((i : Nat) : Rat)) * (g (i + 1) - g i)

/-- Codes of a displacement in 2^-16 track (R189). -/
def SrvS.codes (x : SrvS) (j : Nat) (m : Int) : Rat :=
  ((m : Int) : Rat) / 65536 * (((x.cf (128 + 64 * j) 23 0 : Nat) : Rat) / 256)

/-- The feedforward offset of head `j` in 2^-16 track (R188). -/
def SrvHead.ff (h : SrvHead) : Int :=
  match h.ofs with | some r => if r.stage = 1 ∨ r.stage = 2 then r.value * 256 else 0 | none => 0

/-- The heads of V: valid in this wedge and within reach (R189, R195). -/
def State.combV (s : State) (a : Nat) (valid : List Nat) : List Nat :=
  valid.filter fun j => s.fldJ Reg.SRV_HFLAG_REACH_LOST a j == 0

/-- The weight of head `j`, zero while a microactuator point tests it (R192, R214). -/
def SrvS.weight (x : SrvS) (j : Nat) : Nat := if x.maPoint j then 0 else x.cf (128 + 64 * j) 31 24

/-- One compensator section (R190). -/
def section1 (z p : Int) (inNow inPrev outPrev : Int) : Int :=
  satS 32 (qz 13 (((inNow : Int) : Rat) - ((z : Int) : Rat) / 4194304 * ((inPrev : Int) : Rat)
    + ((p : Int) : Rat) / 4194304 * ((outPrev : Int) : Rat)))

/-- The compensator over an input in 2^-16 track: the three section outputs and u in DAC codes (R190). -/
def SrvS.compensate (x : SrvS) (inp : Int) : (Int × Int × Int) × Rat :=
  let s1 := section1 (x.cfS 24 17 23 0) (x.cfS 24 20 23 0) inp x.s0 x.s1
  let s2 := section1 (x.cfS 24 18 23 0) (x.cfS 24 21 23 0) s1 x.s1 x.s2
  let s3 := section1 (x.cfS 24 19 23 0) (x.cfS 24 22 23 0) s2 x.s2 x.s3
  ((s1, s2, s3), ((x.cfS 24 16 23 0 : Int) : Rat) / 1024 * ((s3 : Int) : Rat) / 65536)

/-- v_ref at a distance in 2^-12 track, in 2^-12 track per wedge (R197). -/
def SrvS.vref (x : SrvS) (d : Nat) : Rat :=
  let span : Rat := ((x.cf 27 23 0 : Nat) : Rat) * 4096
  let pt (i : Nat) : Rat := span * ((i * i : Nat) : Rat) / 4096
  let v (i : Nat) : Rat := ((x.cf (32 + i) 23 0 : Nat) : Rat)
  let dd : Rat := ((d : Nat) : Rat)
  if pt 63 ≤ dd then v 63
  else
    let i := ((List.range 63).filter fun i => decide (pt i ≤ dd)).length - 1
    let w := pt (i + 1) - pt i
    if w = 0 then v i else v i + (dd - pt i) * (v (i + 1) - v i) / w

/-- The heads of the wedge that are valid: SAM found, identity and amplitude good, no gap, within the skew limit of
the reference head (R183). -/
def State.validHeads (s : State) (a : Nat) : List Nat :=
  let x := s.sv a
  if s.rhoSOk a then
    let ok := (List.range 10).filter fun j => (x.head j).found
    match ok.head? with
    | none => []
    | some r =>
      let lim := ((s.fld Reg.SRV_SAM_SKEW_MAX a : Nat) : Rat) * s.rhoS a * 256
      ok.filter fun j =>
        let h := x.head j
        h.ampOk && h.idOk && !h.gap
          && decide (((((h.samEnd : Int) - ((x.head r).samEnd : Int)).natAbs : Nat) : Rat) ≤ lim)
  else []

/-- The wedge-complete sample index, the skews and the wedge interval (R184, R185). -/
def State.wedgeTimes (s : State) (a : Nat) : State :=
  let x := s.sv a
  let found := (List.range 10).filter fun j => (x.head j).found
  let skew (j : Nat) : Int := signed 24 (s.fldJ Reg.SRV_HSKEW_S a j)
  match found.head? with
  | none => s
  | some r =>
    let wc := (((x.head r).samEnd : Int) - (if r = 0 then 0 else skew r)).toNat
    let s := found.foldl (fun s j =>
      let off : Int := ((x.head j).samEnd : Int) - (wc : Int)
      s.setFldJ Reg.SRV_HSKEW_S a j (unsigned 24 (qz 14 (((skew j : Int) : Rat) + ((off - skew j : Int) : Rat) / 16)))) s
    let both := found.filterMap fun j => (x.head j).lastSam.map fun l => ((x.head j).samEnd : Int) - (l : Int)
    let n : Rat := ((both.length : Nat) : Rat)
    let int := qz 15 ((both.foldl (fun (t : Rat) d => t + ((d : Int) : Rat)) 0) / n)
    let x := if both = [] then x else { x with ints := (int.toNat :: x.ints).take 4 }
    s.setSv a { x with wc := wc, wnum := (x.head r).wnum }

/-- Read offsets move with the wedges: into the command at the wedge before START, into the reference one wedge
later, and out again after the gate's length (R168, R188). -/
def State.moveOffsets (s : State) (a : Nat) : State :=
  let x := s.sv a
  let next : Nat := x.wc + (s.wAvg a).floor.toNat
  (List.range 10).foldl (fun s j =>
    let x := s.sv a
    let h := x.head j
    match h.ofs with
    | none => s
    | some r =>
      if r.stage = 0 ∧ r.start ≤ next then
        (s.setSv a (x.setHead j { h with ofs := some { r with stage := 1 } })).sendRec a 2
          [word (6 * 2 ^ 28 + 2 * 2 ^ 24 + j * 2 ^ 20)]
      else if (r.stage = 1 ∨ r.stage = 2) ∧ r.start + r.len * 256 ≤ x.wc then
        (s.setSv a (x.setHead j { h with ofs := some { r with stage := 3 } })).sendRec a 2
          [word (6 * 2 ^ 28 + 3 * 2 ^ 24 + j * 2 ^ 20)]
      else if r.stage = 1 then s.setSv a (x.setHead j { h with ofs := some { r with stage := 2 } })
      else if r.stage = 3 then s.setSv a (x.setHead j { h with ofs := none })
      else s) s

/-- The mode of a seek chosen at the first wedge after its request, at which C is TARGET already and `d` is the comb's
distance to go (R197, R198). -/
def State.seekBegin (s : State) (a : Nat) (d ymean : Int) : State :=
  let x := s.sv a
  match x.seek with
  | none => s
  | some k =>
    let long := decide ((x.cf 26 31 16 : Nat) * 4096 < d.natAbs)
    let from' := if k.long then ymean else k.from_
    s.setSv a { x with vest := if long && k.long then x.vest else 0,
                       seek := some { k with begun := true, long := long, d0 := d, from_ := from', k := 1 } }

/-- Residual supervision of a valid head: out of reach and back (R195). -/
def State.reach (s : State) (a j : Nat) (eps : Int) : State :=
  let x := s.sv a
  let h := x.head j
  let lim := x.cf (130 + 64 * j) 31 16
  let n := x.cf (130 + 64 * j) 15 8
  if s.fldJ Reg.SRV_HFLAG_REACH_LOST a j = 0 then
    let run := if lim < eps.natAbs then h.outRun + 1 else 0
    let s := s.setSv a (x.setHead j { h with outRun := run, inRun := 0 })
    if n ≤ run ∧ 0 < run then
      (s.setFldJ Reg.SRV_HFLAG_REACH_LOST a j 1).sendRec a 2 [word (6 * 2 ^ 28 + j * 2 ^ 20)]
    else s
  else
    let run := if lim < eps.natAbs then 0 else h.inRun + 1
    let s := s.setSv a (x.setHead j { h with inRun := run, outRun := 0 })
    if n ≤ run then
      (s.setFldJ Reg.SRV_HFLAG_REACH_LOST a j 0).sendRec a 2 [word (6 * 2 ^ 28 + 2 ^ 24 + j * 2 ^ 20)]
    else s

/-- Ready counts and flags of a head in this wedge (R199). -/
def State.readyCounts (s : State) (a j : Nat) (valid : Bool) (e : Int) : State :=
  let x := s.sv a
  let h := x.head j
  if valid then
    let rdIn := decide (e.natAbs ≤ s.fld Reg.SRV_THR2_RD_TH a)
    let wrIn := decide (e.natAbs ≤ s.fld Reg.SRV_THR1_WR_TH a)
    let rd := if rdIn then h.rdRun + 1 else 0
    let wr := if wrIn then h.wrRun + 1 else 0
    let s := s.setSv a (x.setHead j { h with rdRun := rd, wrRun := wr })
    let s := if !rdIn then s.setFldJ Reg.SRV_HFLAG_READ_READY a j 0
      else if s.fld Reg.SRV_THR1_RD_N a ≤ rd then s.setFldJ Reg.SRV_HFLAG_READ_READY a j 1 else s
    if !wrIn then s.setFldJ Reg.SRV_HFLAG_WRITE_READY a j 0
    else if s.fld Reg.SRV_THR1_WR_N a ≤ wr then s.setFldJ Reg.SRV_HFLAG_WRITE_READY a j 1 else s
  else s.setSv a (x.setHead j { h with rdRun := 0, wrRun := 0 })

/-- The causes of R200, R214, R215 and R254 that set a head's INH bit in this wedge. -/
def State.inhCause (s : State) (a j : Nat) (valid : Bool) (e : Int) : Bool :=
  let x := s.sv a
  let h := x.head j
  !valid || decide (s.fld Reg.SRV_THR1_WI_TH a < e.natAbs) || x.seek.isSome
    || (match h.ofs with | some r => decide (1 ≤ r.stage) | none => false)
    || s.fldJ Reg.SRV_HFLAG_REACH_LOST a j == 1
    || s.fld Reg.SPN_STAT_HDA_STATE (a / 2) == 5 || s.srvState a != srvFollowing
    || x.maPoint j || x.vcmPoint || s.busInh (a / 2)

/-- INH bits: set by a cause, cleared once none holds and the head has been write-ready anew (R200). -/
def State.inhibits (s : State) (a : Nat) (valid : List Nat) (e : Nat → Int) : State :=
  (List.range 10).foldl (fun s j =>
    let x := s.sv a
    let h := x.head j
    let c := s.inhCause a j (valid.contains j) (e j)
    let ready := s.fldJ Reg.SRV_HFLAG_WRITE_READY a j == 1 && decide (s.fld Reg.SRV_THR1_WR_N a ≤ h.wrRun)
    let inh := c || (h.inh && !ready)
    (s.setSv a (x.setHead j { h with inh := inh })).setFldJ Reg.SRV_HFLAG_INH a j (bit01 inh)) s

/-- Every INH bit of the comb set. -/
def State.inhAll (s : State) (a : Nat) : State :=
  (List.range 10).foldl (fun s j => s.setFldJ Reg.SRV_HFLAG_INH a j 1)
    (s.setSv a ((s.sv a).mapHeads fun _ h => { h with inh := true }))

/-- A position saturated for the registers and the capture (R222). -/
def sat16 (x : Int) : Int := clampI (-32767) 32767 x

/-- The value of a capture channel (R222). -/
def State.capValue (s : State) (a sel : Nat) (valid : List Nat) (d av : Int) : Nat :=
  let x := s.sv a
  let j := sel % 16
  let headOk := valid.contains j
  let k := sel / 16
  if k = 1 then unsigned 16 (sat16 d)
  else if k = 2 then (if headOk then s.fldJ Reg.SRV_HPES_E a j else 0x8000)
  else if k = 3 then (if headOk then s.fldJ Reg.SRV_HPES_EPS a j else 0x8000)
  else if k = 4 then (match x.ebar with | some e => unsigned 16 (sat16 e) | none => 0x8000)
  else if k = 5 then (if headOk then unsigned 16 (x.head j).ma else 0x8000)
  else if k = 6 then unsigned 16 x.vcm
  else if k = 7 then unsigned 16 (sat16 x.u)
  else if k = 8 then unsigned 16 (sat16 av)
  else 0

/-- Capture of this wedge (R221): the trigger makes it record 0; one record a wedge up to LEN. -/
def State.capture (s : State) (a : Nat) (valid : List Nat) (d av : Int) (runStart : Bool) : State :=
  let st := s.fld Reg.SRV_CAP_CTRL_STATE a
  let trig := s.fld Reg.SRV_CAP_CTRL_TRIG a
  let x := s.sv a
  let hit := st == 1 && ((trig == 0 && runStart) || (trig == 1 && x.wnum == s.fld Reg.SRV_CAP_CTRL_WNUM a) || trig == 2)
  let s := if hit then
      let s := (s.setFld Reg.SRV_CAP_CTRL_STATE a 2).setSv a { x with cap := 0 }
      (s.setFld Reg.SRV_CAP_W0_WNUM a x.wnum).wr Reg.SRV_CAP_TB a 0 (word s.tick)
    else s
  if (s.fld Reg.SRV_CAP_CTRL_STATE a = 2) ∧ (s.sv a).cap < s.fld Reg.SRV_CAP_CTRL_LEN a then
    let x := s.sv a
    let sel := (s.rd Reg.SRV_CAP_SEL a 0).toNat
    let rec' := ((List.range 4).map fun n => leBytes 2 (s.capValue a (sel / 256 ^ n % 256) valid d av)).flatten
    let addr := s.pair Reg.SRV_CAP_ADDR_LO Reg.SRV_CAP_ADDR_HI a 0 / 8 * 8 + 8 * x.cap
    let s := (s.bufWrite addr rec').1
    (s.setSv a { s.sv a with cap := x.cap + 1 }).setFld Reg.SRV_CAP_W0_RECS a (x.cap + 1)
  else s

/-- The registers of the heads after a wedge (R212). -/
def State.headRegs (s : State) (a : Nat) (valid : List Nat) : State :=
  let s := (List.range 10).foldl (fun s j =>
    let h := (s.sv a).head j
    let o := match h.ofs with | some r => if r.stage = 2 ∨ r.stage = 3 then unsigned 8 r.value else 0 | none => 0
    let s := s.setFldJ Reg.SRV_HMA_MA a j (unsigned 16 h.ma)
    let s := s.setFldJ Reg.SRV_HFLAG_OFS a j o
    let s := s.setFldJ Reg.SRV_HFLAG_FF a j (bit01 (h.ff != 0))
    s.setFldJ Reg.SRV_HFLAG_VALID a j (bit01 (valid.contains j))) s
  let s := s.setFld Reg.SRV_STAT_VALID a (valid.foldl (fun m j => m + 2 ^ j) 0)
  s.setFld Reg.SRV_STAT_INH a (s.sv a).inhStat

/-- The control law of a wedge with comb heads `v`, valid heads `all` (a head out of reach keeps its own loop, R195), errors
`e` and injected value `d`: the integrators, the microactuator codes and the VCM code; with the mean error, the VCM code before its clamp, and whether a clamp held
a value (R189 to R193, R197, R217). -/
def State.law (s : State) (a : Nat) (v all : List Nat) (e : Nat → Int) (d : Int) : State × Int × Int × Bool :=
  let x := s.sv a
  let point := match x.inj with | some r => r.point | none => 0
  let tgt := match x.inj with | some r => r.head | none => 10
  let wsum := v.foldl (fun t j => t + x.weight j) 0
  let wr : Rat := ((wsum : Nat) : Rat)
  let ebar := qz 16 ((v.foldl (fun (t : Rat) j => t + ((x.weight j : Nat) : Rat) * ((e j : Int) : Rat)) 0) / wr)
  let seeking := match x.seek with | some k => k.begun && !k.settling | none => false
  let epsOf (j : Nat) : Int := e j - ebar
  -- integrators
  let step (s : State) (j : Nat) : State :=
    let x := s.sv a
    let h := x.head j
    let eps := epsOf j + (if point = 1 ∧ j = tgt then d else 0)
    let m := if seeking then h.m else satS 32 (h.m + qz 17 (x.lut j eps * ((eps : Int) : Rat) * 16))
    let lim : Int := (x.cf (129 + 64 * j) 31 16 : Nat)
    let c := x.codes j (m + h.ff)
    let k := x.codes j 65536
    let done1 := decide ((lim : Rat) < c) || decide (c < -(lim : Rat))
    let m' := if done1 && k != 0 then
        qz 18 ((if c < 0 then -(lim : Rat) else (lim : Rat)) / k * 65536) - h.ff else m
    let s := s.setSv a (x.setHead j { h with m := m' })
    let s := s.setFldJ Reg.SRV_HFLAG_SAT a j (bit01 done1)
    let s := if done1 then s.bump Reg.SRV_CNT_SAT a 1 else s
    let s := (s.setFldJ Reg.SRV_HPES_E a j (unsigned 16 (sat16 (e j)))).setFldJ Reg.SRV_HPES_EPS a j
      (unsigned 16 (sat16 (epsOf j)))
    s
  let s := all.foldl step s
  let clampM := all.any fun j => s.fldJ Reg.SRV_HFLAG_SAT a j == 1
  let x := s.sv a
  let mbar : Rat := (v.foldl (fun (t : Rat) j => t + ((x.weight j : Nat) : Rat) * (((x.head j).m : Int) : Rat)) 0) / wr
  let ds : Int := (x.cf 23 31 16 : Nat)
  let delta := clampI (-ds) ds (qz 19 (mbar * negPow (x.cf 24 31 24)))
  let x := x.mapHeads fun j h =>
    let m := satS 32 (h.m - delta)
    let lim : Int := (x.cf (129 + 64 * j) 31 16 : Nat)
    let ma := rnd (x.codes j (m + h.ff)) + (if point = 2 ∧ j = tgt then d else 0)
    { h with m := m, ma := clampI (-lim) lim ma }
  -- the voice coil
  let ymean := qz 20 ((v.foldl (fun (t : Rat) j => t + ((((x.head j).y) : Int) : Rat)) 0) / ((v.length : Nat) : Rat))
  let dy : Int := match x.ymean with | some y => ymean - y | none => 0
  let vest := x.vest + qz 21 (((dy - x.vest : Int) : Rat) * negPow (x.cf 25 31 24))
  let lim : Int := (x.cf 23 15 0 : Nat)
  let longRun := match x.seek with
    | some k => k.begun && k.long && !k.settling && decide (x.cf 25 23 0 < ebar.natAbs) | none => false
  let handover := match x.seek with
    | some k => k.begun && k.long && !k.settling && decide (ebar.natAbs ≤ x.cf 25 23 0) | none => false
  let x := { x with ebar := some ebar, ymean := some ymean, vest := vest }
  let kv : Rat := ((x.cfS 24 24 23 0 : Int) : Rat) / 1024 / 4096
  let x := if handover then
      let kc : Rat := ((x.cfS 24 16 23 0 : Int) : Rat) / 1024
      { x with s1 := 0, s2 := 0, s3 := if kc = 0 then 0 else satS 32 (qz 22 (((x.u : Int) : Rat) / kc * 65536)) }
    else x
  if longRun then
    let sgn : Rat := if ebar < 0 then -1 else 1
    let u := kv * (sgn * x.vref ebar.natAbs - ((vest : Int) : Rat))
    let r := rnd u + (if point = 4 then d else 0)
    (s.setSv a { x with u := clampI (-lim) lim (rnd u), vcm := if x.held then x.vcm else clampI (-lim) lim r },
     ebar, r, clampM)
  else
    let inp : Int := (ebar + (if point = 3 then d else 0)) * 16
    let (st, uc) := x.compensate inp
    let ff : Rat := match x.seek with
      | some k => if k.begun && !k.long && !k.settling && decide (0 < k.k) && decide (k.k ≤ x.cf 26 15 8) then
          (signed 16 (x.cf (96 + (k.k - 1)) 15 0) : Rat) / 256 * ((k.d0 : Int) : Rat) / 4096 else 0
      | none => 0
    let out := decide ((lim : Rat) < uc) || decide (uc < -(lim : Rat))
    let x := if out then x else { x with s0 := inp, s1 := st.1, s2 := st.2.1, s3 := st.2.2 }
    let s := if out then s.bump Reg.SRV_CNT_SAT a 1 else s
    let u := rnd (uc + ff)
    let r := u + (if point = 4 then d else 0)
    (s.setSv a { x with u := u, vcm := if x.held then x.vcm else clampI (-lim) lim r }, ebar, r, clampM || out)

/-- A seek after a wedge: its reference steps, and Settling once the last step or the handover has come (R197, R199). -/
def State.seekAdvance (s : State) (a : Nat) (ebar : Int) : State :=
  let x := s.sv a
  match x.seek with
  | none => s
  | some k =>
    let n := x.cf 26 15 8
    let done1 := k.settling || (if k.long then decide (ebar.natAbs ≤ x.cf 25 23 0) else decide (n ≤ k.k))
    let s := s.setSv a { x with seek := some { k with k := k.k + 1, settling := done1 } }
    if done1 && s.srvState a == srvSeeking then s.srvTo a srvSettling else s

/-- A seek that ends reports to its sequencer and leaves the engine Following (R199, R400); on the way to the ramp
it goes on to the unload profile instead. -/
def State.seekEnd (s : State) (a : Nat) (failed : Bool) : State :=
  let x := s.sv a
  match x.seek with
  | none => s
  | some k =>
    let s := s.setSv a { x with seek := none }
    let s := if failed then s.bump Reg.SRV_CNT_SEEKF a 1 else s
    let s := match k.tag with
      | some qt => s.sendRec qt.1 2 [word (5 * 2 ^ 28 + bit01 failed * 2 ^ 24), word qt.2]
      | none => s
    if x.parking then s else (s.setFld Reg.SRV_CTRL_LOAD a 0).srvTo a srvFollowing

/-- A seek that another request, an unload or a fence replaces has failed for the sequencer that asked for it
(R198, R398: every accepted request returns its outcome). -/
def State.seekDrop (s : State) (a : Nat) : State :=
  match (s.sv a).seek with
  | none => s
  | some k =>
    let s := s.setSv a { s.sv a with seek := none }
    match k.tag with
    | some qt => (s.bump Reg.SRV_CNT_SEEKF a 1).sendRec qt.1 2 [word (5 * 2 ^ 28 + 2 ^ 24), word qt.2]
    | none => s

/-- The heads of V are ready for the seek's settle (R199). -/
def State.seekReady (s : State) (a : Nat) (v : List Nat) : Bool :=
  match (s.sv a).seek with
  | none => false
  | some k => k.settling && !v.isEmpty && v.all fun j =>
      s.fldJ (if k.write then Reg.SRV_HFLAG_WRITE_READY else Reg.SRV_HFLAG_READ_READY) a j == 1

/-- The heads are made ready for the next wedge: what they delivered becomes their last wedge (R180, R182). -/
def State.nextWedge (s : State) (a : Nat) (valid : List Nat) : State :=
  let missMax := s.fld Reg.SRV_THR2_MISS_MAX a
  s.setSv a ((s.sv a).mapHeads fun j h =>
    let ok := valid.contains j
    let run := if ok then 0 else h.missRun + 1
    { h with
      done := false, gap := false, missRun := run,
      lastSam := if h.found then some h.samEnd else none,
      lastY := if ok then some h.y else if missMax ≤ run then none else h.lastY,
      lastW := if ok then some h.wnum else h.lastW.map fun w => (w + 1) % (max 1 (s.fld Reg.SRV_FIELD_WEDGES a)) })

/-- The mean wedge interval in SRV cycles (R208): 320 ÷ N of them a sample. -/
def State.twCycles (s : State) (a : Nat) : Rat :=
  s.wAvg a / 256 * 320 / ((mget (fun _ => 4096) (s.hl (a / 2)).adcN (a % 2) : Nat) : Rat)

/-- The servo band that the mean interval calls for, with hysteresis (R208). -/
def State.bandOf (s : State) (a : Nat) : Nat :=
  let es := [s.fld Reg.SRV_BAND0_E0 a, s.fld Reg.SRV_BAND0_E1 a, s.fld Reg.SRV_BAND1_E2 a, s.fld Reg.SRV_BAND1_E3 a,
    s.fld Reg.SRV_BAND2_E4 a, s.fld Reg.SRV_BAND2_E5 a, s.fld Reg.SRV_BAND3_E6 a]
  let hy : Rat := ((s.fld Reg.SRV_BAND3_HYST a : Nat) : Rat)
  let t := s.twCycles a
  let up := (es.filter fun e => decide (t < ((e : Nat) : Rat) - hy)).length
  let down := (es.filter fun e => decide (t ≤ ((e : Nat) : Rat) + hy)).length
  let b := s.fld Reg.SRV_STAT_BAND a
  if b < up then up else if down < b then down else b

/-- Every head of the comb has delivered its wedge or closed its window (R184). -/
def State.allDone (s : State) (a : Nat) : Bool := (List.range 10).all fun j => ((s.sv a).head j).done

/-- The engine reads wedges: heads off the ramp and windows open. -/
def State.windows (s : State) (a : Nat) : Bool :=
  let st := s.srvState a
  st == srvAcquiring || st == srvSeeking || st == srvSettling || st == srvFollowing
    || (st == srvUnloading && (s.sv a).parking)

/-- A gap of samples `g0` up to `g1` of a head overlaps its servo window (R45, R180, R183). -/
def State.gapWindow (s : State) (a j g0 g1 : Nat) : State :=
  let x := s.sv a
  let h := x.head j
  match h.lastSam with
  | none => s
  | some l =>
    let rho := s.rhoS a
    let p : Rat := ((l : Nat) : Rat) / 256 + s.wAvg a / 256 - 16 * rho
    let lo := p - 152 * rho
    let hi := p + 424 * rho
    if decide (((g0 : Nat) : Rat) ≤ hi) && decide (lo ≤ ((g1 : Nat) : Rat)) && s.windows a then
      s.setSv a (x.setHead j { h with gap := true })
    else s

/-- A VCM code sent while no wedge is read: every microactuator at rest, every INH bit set (R204 to R206). -/
def State.profileCode (s : State) (a : Nat) (code : Int) : State :=
  let x := (s.sv a).mapHeads fun _ h => { h with ma := 0, inh := true }
  let s := (s.setSv a { x with vcm := if x.held then x.vcm else code }).inhAll a
  s.sendServo a (((s.hl (a / 2)).frame * 64 + s.fld Reg.SRV_APPLY_DELAY a) % 2 ^ 32)

/-- Step `k` of a profile: its code and duration. -/
def State.profStep (s : State) (a : Nat) (load : Bool) (k : Nat) : Int × Nat :=
  if k < 4 then
    if load then (signed 16 (s.fldJ Reg.SRV_LPROF_VCM a k), s.fldJ Reg.SRV_LPROF_US a k)
    else (signed 16 (s.fldJ Reg.SRV_UPROF_VCM a k), s.fldJ Reg.SRV_UPROF_US a k)
  else (0, 0)

/-- The end of an unload: Unloaded, or Fenced when the actuator is fenced (R204, R206). -/
def State.unloadDone (s : State) (a : Nat) : State :=
  let s := s.seekDrop a
  let x := s.sv a
  let s := s.setSv a { x with prof := none, parking := false, unloadReq := false, seek := none, ebar := none,
                              ymean := none, heads := (x.mapHeads fun _ h =>
    { h with lastSam := none, lastY := none, lastW := none, done := false, ofs := none, inh := true }).heads }
  let s := (s.setFld Reg.SRV_CTRL_UNLOAD a 0).setFld Reg.SRV_CTRL_LOAD a 0
  s.srvTo a (if s.fenced (srcSRV a) || s.fenced (srcHLK (a / 2)) then srvFencedSt else srvUnloaded)

/-- The unload profile starts; with no step it is over at once (R206). -/
def State.startUnloadProfile (s : State) (a : Nat) : State :=
  let s := s.seekDrop a
  let s := s.setSv a { s.sv a with prof := some (false, 0), parking := false }
  let s := s.srvTo a srvUnloading
  let p := s.profStep a false 0
  if p.2 = 0 then s.unloadDone a else s.profileCode a p.1

/-- A valid prediction still exists for some head (R204). -/
def State.hasPrediction (s : State) (a : Nat) : Bool :=
  (List.range 10).any fun j => ((s.sv a).head j).lastY.isSome

/-- A seek requested by the engine itself or by a sequencer (R196 to R198). -/
def State.requestSeek (s : State) (a target : Nat) (write : Bool) (tag : Option (Nat × Nat)) : State :=
  let x := s.sv a
  let old : Int := match x.seek with
    | some k => if k.long then (x.ymean.getD ((x.target : Int) * 4096)) else x.c12
    | none => (x.target : Int) * 4096
  let wasLong := match x.seek with | some k => k.long | none => false
  let s := (s.injStop a 4).seekDrop a
  let x := s.sv a
  (s.setSv a { x with seek := some { target := target, write := write, tag := tag, long := wasLong, from_ := old } }).srvTo a
    (if x.parking then srvUnloading else srvSeeking)

/-- The unload of R206 and R204 begins: a park seek while a prediction exists, else the profile at once. -/
def State.beginUnload (s : State) (a : Nat) : State :=
  let st := s.srvState a
  if st = srvUnloaded ∨ st = srvFencedSt then s.unloadDone a
  else if st = srvUnloading then s
  else
    let s := (s.injStop a 4).seekDrop a
    let s := s.setSv a { s.sv a with unloadReq := false }
    if s.hasPrediction a then
      let s := s.setSv a { s.sv a with parking := true }
      (s.requestSeek a (s.fld Reg.SRV_PARK_CYL_CYL a) false none).inhAll a
    else s.startUnloadProfile a

/-- An unload asked for: it takes effect at the next wedge where wedges are read, at once elsewhere (R206). -/
def State.askUnload (s : State) (a : Nat) : State :=
  let st := s.srvState a
  if st = srvUnloaded ∨ st = srvFencedSt ∨ st = srvUnloading then s
  else if s.windows a then s.setSv a { s.sv a with unloadReq := true }
  else s.beginUnload a

/-- The engine's heads are off the ramp (R229). -/
def State.loaded (s : State) (a : Nat) : Bool := s.srvState a != srvUnloaded && s.srvState a != srvFencedSt

/-- Both engines of an HDA have their heads on the ramp. -/
def State.hdaParked (s : State) (n : Nat) : Bool := !s.loaded (2 * n) && !s.loaded (2 * n + 1)

end Sys2Proof.Machine
end

