-- ==== Sys2Proof/Machine/CipherOps.lean ====
section
/-!
DEFINITION. Key slots, the cipher queues and the two modes of R339 over the AES block of `Config`.
-/

namespace Sys2Proof.Machine

/-! ## Block arithmetic -/

/-- Bytewise exclusive or, as long as the shorter list. -/
def xorBytes (a b : List Byte) : List Byte := List.zipWith (fun x y => x ^^^ y) a b

/-- Multiplication by alpha of a tweak block in the little-endian form of IEEE 1619. -/
def xtsDouble (t : List Byte) : List Byte :=
  let v := leNat t * 2
  let v := if v < 2 ^ 128 then v else (v % 2 ^ 128).xor 0x87
  leBytes 16 v

/-- Split into 16-byte blocks, the last one possibly short. -/
def blocks16 : Nat → List Byte → List (List Byte)
  | 0, _ => []
  | fuel + 1, bs => if bs = [] then [] else bs.take 16 :: blocks16 fuel (bs.drop 16)

/-- The tweak of a sector: NSID × 2^64 + LBA, 128 bits little-endian (R340). -/
def xtsTweak (nsid lba : Nat) : List Byte := leBytes 16 (nsid * 2 ^ 64 + lba)

/-- One XTS block under a tweak. -/
def xtsBlock (decrypt : Bool) (k1 t p : List Byte) : List Byte :=
  let x := xorBytes p t
  xorBytes (if decrypt then Config.aes256Inv k1 x else Config.aes256 k1 x) t

/-- XTS over whole blocks, with ciphertext stealing for a short last block (R339, R349). -/
def xtsRun (decrypt : Bool) (k1 : List Byte) : List Byte → List (List Byte) → List Byte
  | _, [] => []
  | t, [p] => xtsBlock decrypt k1 t p
  | t, p :: q :: rest =>
    if rest = [] ∧ q.length < 16 then
      if decrypt then
        let pp := xtsBlock true k1 (xtsDouble t) p
        let c := q ++ pp.drop q.length
        xtsBlock true k1 t c ++ pp.take q.length
      else
        let cc := xtsBlock false k1 t p
        xtsBlock false k1 (xtsDouble t) (q ++ cc.drop q.length) ++ cc.take q.length
    else xtsBlock decrypt k1 t p ++ xtsRun decrypt k1 (xtsDouble t) (q :: rest)

/-- XTS-AES-256 of a data unit (R339, R340). -/
def xts (decrypt : Bool) (key text : List Byte) (nsid lba : Nat) : List Byte :=
  xtsRun decrypt (key.take 32) (Config.aes256 (key.drop 32) (xtsTweak nsid lba)) (blocks16 (text.length + 1) text)

/-- Multiplication in GF(2^128) as SP 800-38D defines it, on big-endian values. -/
def gfMulLoop : Nat → Nat → Nat → Nat → Nat
  | 0, _, _, z => z
  | n + 1, x, v, z =>
    let z := if x.testBit n then z.xor v else z
    let v := if v % 2 = 1 then (v / 2).xor (0xE1 * 2 ^ 120) else v / 2
    gfMulLoop n x v z

def gfMul (x y : Nat) : Nat := gfMulLoop 128 x y 0

/-- GHASH over blocks, the last one zero-padded. -/
def ghash (h : Nat) (y : Nat) (bs : List (List Byte)) : Nat :=
  bs.foldl (fun y b => gfMul (y.xor (beNat ((b ++ List.replicate 16 0).take 16))) h) y

/-- The counter-mode stream over blocks, from counter value `c` (SP 800-38D). -/
def gcmCtr (key iv : List Byte) : Nat → List (List Byte) → List Byte
  | _, [] => []
  | c, b :: bs => xorBytes b (Config.aes256 key (iv ++ beBytes 4 c)) ++ gcmCtr key iv (c + 1) bs

/-- The 16-byte GCM tag (R339, R349). -/
def gcmTag (key h iv aad cipher : List Byte) : List Byte :=
  let hn := beNat h
  let y := ghash hn 0 (blocks16 (aad.length + 1) aad)
  let y := ghash hn y (blocks16 (cipher.length + 1) cipher)
  let y := gfMul (y.xor (aad.length * 8 * 2 ^ 64 + cipher.length * 8)) hn
  xorBytes (beBytes 16 y) (Config.aes256 key (iv ++ beBytes 4 1))

/-- GCM encryption or decryption of a text. -/
def gcmText (key iv text : List Byte) : List Byte := gcmCtr key iv 2 (blocks16 (text.length + 1) text)

/-! ## Key slots (R342 to R345) -/

def State.kslot (s : State) (k : Nat) : KeySlot := mget (fun _ => ({} : KeySlot)) s.cph.slots k
def State.setKslot (s : State) (k : Nat) (x : KeySlot) : State :=
  { s with cph := { s.cph with slots := mset (fun _ => ({} : KeySlot)) s.cph.slots k x } }

/-- The half that holds a generation. -/
def KeySlot.find (x : KeySlot) (gen : Nat) : Option KeyGen :=
  match x.a, x.b with
  | some g, b => if g.gen = gen then some g else b.filter fun g => g.gen == gen
  | none, b => b.filter fun g => g.gen == gen

/-- The slot without a generation; it is empty when no half is left (R342). -/
def KeySlot.drop (x : KeySlot) (gen : Nat) : KeySlot :=
  let a := x.a.filter fun g => g.gen != gen
  let b := x.b.filter fun g => g.gen != gen
  { kind := if a = none ∧ b = none then 0 else x.kind, a := a, b := b }

/-- A half replaced after its counter moved. -/
def KeySlot.put (x : KeySlot) (g : KeyGen) : KeySlot :=
  { x with a := x.a.map fun o => if o.gen = g.gen then g else o
           b := x.b.map fun o => if o.gen = g.gen then g else o }

/-- The staged key bytes (R343). -/
def State.stagedKey (s : State) (n : Nat) : List Byte :=
  (((List.range 16).map fun i => leBytes 4 (mget (fun _ => (0 : Word)) s.cph.stage i).toNat).flatten).take n

/-- The salt in CPH_KEY8: bytes 32 to 35, the most significant byte first (R343). -/
def State.stagedSalt (s : State) : List Byte := leBytes 4 (mget (fun _ => (0 : Word)) s.cph.stage 8).toNat

/-- A slot command ends: its result, GO cleared and the staging registers zeroed (R343, R356). -/
def State.slotDone (s : State) (result : Nat) : State :=
  let s := (s.setFld Reg.CPH_SLOT_CMD_RESULT 0 result).setFld Reg.CPH_SLOT_CMD_GO 0 0
  { s with cph := { s.cph with stage := [] } }

/-- Every slot zeroed (R347). -/
def State.wipeKeys (s : State) : State := { s with cph := { s.cph with slots := [], stage := [] } }

/-! ## Queues and engines (R351 to R355) -/

def State.engJob (s : State) (e : Nat) : Option CphJob := mget (fun _ => none) s.cph.eng e
def State.setEng (s : State) (e : Nat) (j : Option CphJob) : State :=
  { s with cph := { s.cph with eng := mset (fun _ => none) s.cph.eng e j } }

def State.engFenced (s : State) (e : Nat) : Bool := bitOf (s.rd Reg.CPH_EFENCE 0 (e / 32)).toNat (e % 32)

/-- An engine takes no request: it is fenced, or waits for the epoch boundary at which it returns (R355). -/
def State.engOut (s : State) (e : Nat) : Bool := s.engFenced e || s.cph.returning.contains e

/-- Engines busy, media and peer requests waiting, as CPH_STAT shows them (R356). -/
def State.cphStat (s : State) : State :=
  let busy := ((List.range s.nEng).filter fun e => (s.engJob e).isSome).length
  let s := s.setFld Reg.CPH_STAT_BUSY 0 busy
  let s := s.setFld Reg.CPH_STAT_MEDIA 0 s.cph.media.length
  s.setFld Reg.CPH_STAT_PEER 0 s.cph.peer.length

/-- Places of the media input store (R351). -/
def State.storeSize (s : State) : Nat := if s.jd16 then 1024 else 512

/-- A request enters the queue of its priority (R351). -/
def State.cphEnqueue (s : State) (r : CipherReq) : State :=
  let j : CphJob := { age := s.cph.nextAge, req := r }
  let c := { s.cph with nextAge := s.cph.nextAge + 1 }
  (if r.peer then { s with cph := { c with peer := c.peer ++ [j] } }
   else { s with cph := { c with media := c.media ++ [j] } }).cphStat

/-- The running command of R345 completes when no engine still uses what it removed. -/
def State.slotCmdPoll (s : State) : State :=
  let s := match s.cph.cmd with
    | none => s
    | some c =>
      let own (j : CphJob) : Bool := j.key.isSome && j.req.slot == c.slot && (c.gen == none || c.gen == some j.req.gen)
      let uses := (List.range s.nEng).any (fun e => (s.engJob e).any own) || (s.cph.media ++ s.cph.peer).any own
      if uses then s else { s with cph := { s.cph with cmd := none } }.slotDone 1
  if s.flag Reg.CPH_STAT_WIPING 0 && (List.range s.nEng).all (fun e => (s.engJob e).isNone)
      && (s.cph.media ++ s.cph.peer).all (fun j => j.key.isNone) then
    (s.setFld Reg.CPH_STAT_WIPING 0 0).setFld Reg.CPH_CTRL_WIPE_ALL 0 0
  else s

/-- The result of the checks of R546 at the take; 0 when all pass. -/
def State.cphCheck (s : State) (r : CipherReq) : Nat :=
  let k := s.kslot r.slot
  if s.flag Reg.CPH_STAT_WIPING 0 then 1
  else if k.kind ≠ 0 ∧ k.kind ≠ (if r.gcm then 2 else 1) then 2
  else
    match k.find r.gen with
    | none => 1
    | some g =>
      if !r.gcm && decide (0 < r.len) && decide (r.len < 16) then 3
      else if r.gcm && !r.decrypt && g.spent then 5
      else 0

/-- The IV of a GCM encryption, and the generation with its counter advanced (R341). -/
def KeyGen.nextIv (g : KeyGen) : List Byte × KeyGen :=
  (g.salt ++ beBytes 8 g.ctr,
   if g.ctr = 2 ^ 64 - 1 then { g with spent := true } else { g with ctr := g.ctr + 1 })

/-- A peer frame's seal in one step: IV, cipher text and tag, with the counter advanced (R341, R457). -/
def State.gcmSeal (s : State) (slot gen : Nat) (mkAad : List Byte → List Byte) (text : List Byte) :
    State × Option (List Byte × List Byte × List Byte) :=
  let k := s.kslot slot
  match k.find gen with
  | some g =>
    if k.kind = 2 ∧ ¬ g.spent ∧ ¬ s.flag Reg.CPH_STAT_WIPING 0 then
      let (iv, g') := g.nextIv
      let s := s.setKslot slot (k.put g')
      let c := gcmText g.key iv text
      (s.bump Reg.CPH_CNT_REQ 0 1, some (iv, c, gcmTag g.key g.h iv (mkAad iv) c))
    else (s.bump Reg.CPH_CNT_REQ 0 1, none)
  | none => ((s.bump Reg.CPH_CNT_REQ 0 1).bump Reg.CPH_CNT_NOKEY 0 1, none)

/-- A peer frame opened in one step: its plaintext when the tag matches (R350, R463). -/
def State.gcmOpen (s : State) (slot gen : Nat) (iv aad cipher tag : List Byte) : State × Option (List Byte) :=
  let k := s.kslot slot
  let s := s.bump Reg.CPH_CNT_REQ 0 1
  match k.find gen with
  | some g =>
    if k.kind = 2 ∧ gcmTag g.key g.h iv aad cipher = tag then (s, some (gcmText g.key iv cipher))
    else (s.bump Reg.CPH_CNT_AUTH 0 1, none)
  | none => (s.bump Reg.CPH_CNT_NOKEY 0 1, none)

end Sys2Proof.Machine
end

