-- ==== Sys2Proof/Machine/CodeOps.lean ====
section
/-!
DEFINITION. The sector's code (R102 to R111): CRC-64, stream tag, quasi-cyclic LDPC code, scrambler, and one layered
offset min-sum iteration (R124).
-/

namespace Sys2Proof.Machine

/-! ## Bits of bytes: bit 7 of each byte first (R102) -/

/-- The bits of a byte list, bit 7 of each byte first. -/
def bitsMsb (bs : List Byte) : List Nat :=
  (bs.map fun b => (List.range 8).map fun i => b.toNat / 2 ^ (7 - i) % 2).flatten

/-- The byte of eight bits, the first one as bit 7. -/
def byteMsb (xs : List Nat) : Byte :=
  BitVec.ofNat 8 ((List.range 8).foldl (fun a i => a * 2 + xs.getD i 0 % 2) 0)

/-- The bytes of bits. -/
def bytesMsb : Nat → List Nat → List Byte
  | 0, _ => []
  | n + 1, xs => byteMsb (xs.take 8) :: bytesMsb n (xs.drop 8)

/-! ## CRC-64 (R103) -/

/-- One bit into the CRC register. -/
def crc64Bit (r b : Nat) : Nat :=
  let top := (r / 2 ^ 63 + b) % 2
  let r := r * 2 % 2 ^ 64
  if top = 1 then r.xor 0x42F0E1EBA9EA3693 else r

/-- The CRC-64 of bytes under R103. -/
def crc64 (bs : List Byte) : Nat :=
  ((bitsMsb bs).foldl crc64Bit 0xFFFFFFFFFFFFFFFF).xor 0xFFFFFFFFFFFFFFFF

/-! ## The stream tag (R104) -/

/-- The fields of a stream tag. -/
structure TagF where
  flags : Nat
  nsid : Nat
  keygen : Nat
  lba : Nat
  psa : Nat
  wepoch : Nat
  stream : Nat
  deriving DecidableEq, Repr

/-- The 24 bytes of a tag, most significant byte of each field first. -/
def TagF.bytes (t : TagF) : List Byte :=
  [1, BitVec.ofNat 8 t.flags, BitVec.ofNat 8 t.nsid, BitVec.ofNat 8 t.keygen] ++ beBytes 8 t.lba
    ++ beBytes 5 (t.psa % 2 ^ 34) ++ beBytes 3 t.wepoch ++ beBytes 3 (t.stream % 2 ^ 20) ++ [0]

/-- VER and the fields read back from 24 bytes. -/
def tagVer (bs : List Byte) : Nat := beNat (bs.take 1)
def tagOf (bs : List Byte) : TagF :=
  let f (i n : Nat) : Nat := beNat ((bs.drop i).take n)
  { flags := f 1 1, nsid := f 2 1, keygen := f 3 1, lba := f 4 8, psa := f 12 5, wepoch := f 17 3, stream := f 20 3 }

/-- The PSA of an actuator of an HDA, a zone and a P (R112). -/
def psaOf (act zone p : Nat) : Nat := act % 2 * 2 ^ 33 + zone * 2 ^ 25 + p

/-! ## The code (R106 to R108) -/

def codeA : List Nat := [1, 3, 5, 7, 11, 13, 17, 19, 23, 29, 31, 37, 41, 43, 47, 53]
def codeB : List Nat := [0, 7, 19, 30, 44, 57, 71, 86, 98, 113, 127, 140, 155, 169, 182, 198]

/-- The block rows and shifts of block column `j` (R107, R108). -/
def colBlocks (j : Nat) : List (Nat × Nat) :=
  if j ≤ 128 then
    let q := j / 16
    let c := codeB.getD (j % 16) 0 + 16 * q
    [j % 16, (j + 5 + q) % 16, (j + 11 + 2 * q) % 16].map fun i => (i, codeA.getD i 0 * c % 256)
  else if j = 129 then [(0, 1), (8, 0), (15, 1)]
  else [(j - 130, 0), (j - 129, 0)]

/-- The block columns and shifts of block row `i`, in ascending column. -/
def rowBlocks (i : Nat) : List (Nat × Nat) :=
  ((List.range 145).map fun j => ((colBlocks j).filter fun b => b.1 == i).map fun b => (j, b.2)).flatten

/-- The codeword bits of check `r` of block row `i` (R106). -/
def checkBits (i r : Nat) : List Nat := (rowBlocks i).map fun js => js.1 * 256 + (r + js.2) % 256

/-- Check `r` of block row `i` over a word. -/
def checkOdd (c : List Nat) (i r : Nat) : Bool := ((checkBits i r).foldl (fun a n => a + c.getD n 0) 0) % 2 == 1

/-- The count of unsatisfied checks of a word. -/
def unsatCount (c : List Nat) : Nat :=
  ((List.range 4096).filter fun k => checkOdd c (k / 256) (k % 256)).length

/-- The information contribution to block row `i`, 256 bits. -/
def infoSum (info : List Nat) (i : Nat) : List Nat :=
  let bl := (rowBlocks i).filter fun js => decide (js.1 ≤ 128)
  (List.range 256).map fun r => (bl.foldl (fun a js => a + info.getD (js.1 * 256 + (r + js.2) % 256) 0) 0) % 2

/-- Blockwise exclusive or of bit lists. -/
def xorBits (a b : List Nat) : List Nat := List.zipWith (fun x y => (x + y) % 2) a b

/-- A block rotated as P^s reads it: bit r is bit (r + s) mod 256. -/
def rotBlock (s : Nat) (b : List Nat) : List Nat := (List.range 256).map fun r => b.getD ((r + s) % 256) 0

/-- Parity blocks 130 to 144 from row 0 down: row t gives block 130 + t from the block above it (R108). -/
def parityChain (info p0 : List Nat) : Nat → Nat → List Nat → List Nat
  | 0, _, _ => []
  | n + 1, t, prev =>
    let first := if t = 0 then rotBlock 1 p0 else if t = 8 then p0 else List.replicate 256 0
    let b := xorBits (xorBits (infoSum info t) first) prev
    b ++ parityChain info p0 n (t + 1) b

/-- The codeword of 33,024 information bits (R108): block 129 is the sum of every row's information part. -/
def ldpcEncode (info : List Nat) : List Nat :=
  let p0 := (List.range 16).foldl (fun a i => xorBits a (infoSum info i)) (List.replicate 256 0)
  info ++ p0 ++ parityChain info p0 15 0 (List.replicate 256 0)

/-! ## The scrambler (R110) -/

/-- The seed of an LBA. -/
def scramSeed (lba : Nat) : Nat :=
  let x := (lba % 2 ^ 31).xor (lba / 2 ^ 31 % 2 ^ 31)
  if x = 0 then 0x7FFFFFFF else x

/-- The sequence u from a register whose bit k − 1 is u(n − k). -/
def scramRun : Nat → Nat → List Nat
  | 0, _ => []
  | n + 1, r =>
    let u := (r / 2 ^ 27 + r / 2 ^ 30) % 2
    u :: scramRun n (r * 2 % 2 ^ 31 + u)

/-- The first 37,120 bits of the sequence of an LBA. -/
def scramble (lba : Nat) : List Nat := scramRun 37120 (scramSeed lba)

/-- The scrambled codeword of a sector: ciphertext and tag under the CRC and the code (R109). -/
def buildSector (cipher : List Byte) (t : TagF) : List Nat :=
  let body := cipher ++ t.bytes
  let info := bitsMsb (body ++ beBytes 8 (crc64 body))
  xorBits (ldpcEncode info) (scramble t.lba)

/-! ## Decoding (R111, R124) -/

/-- The hard decision of a posterior: positive favours bit 0, and zero counts as bit 0 (log entry 29). -/
def hardBit (x : Int) : Nat := if x < 0 then 1 else 0

/-- Offset min-sum over one check: posteriors and old messages of its bits, to new ones (R124). -/
def checkUpdate (ofs : Int) (post : List Int) (ns : List Nat) (old : List Int) : List Int × List (Nat × Int) :=
  let ins := ((List.range ns.length).zip ns).map fun kn => post.getD kn.2 0 - old.getD kn.1 0
  let sign := (ins.filter fun x => decide (x < 0)).length
  let msg (k : Nat) : Int :=
    let others := ((List.range ins.length).zip ins).filter fun jx => jx.1 != k
    let mag := others.foldl (fun m jx => min m (jx.2.natAbs : Int)) 127
    let mag := clampI 0 31 (mag - ofs)
    let s := if (ins.getD k 0) < 0 then sign - 1 else sign
    if s % 2 = 1 then -mag else mag
  let new := (List.range ins.length).map msg
  (new, ((List.range ins.length).zip ns).map fun kn => (kn.2, satS 8 (ins.getD kn.1 0 + new.getD kn.1 0)))

/-- Checks `k` upward of an iteration, in order of block row and check. -/
def iterChecks (ofs : Int) : Nat → Nat → List Int → List (List Int) → List Int × List (List Int)
  | 0, _, post, _ => (post, [])
  | n + 1, k, post, msgs =>
    let ns := checkBits (k / 256) (k % 256)
    let (new, upd) := checkUpdate ofs post ns (msgs.headD [])
    let post := upd.foldl (fun p nv => p.set nv.1 nv.2) post
    let (p, ms) := iterChecks ofs n (k + 1) post msgs.tail
    (p, new :: ms)

/-- One layered iteration over all 16 block rows: posteriors and messages. -/
def ldpcIterate (ofs : Int) (post : List Int) (msgs : List (List Int)) : List Int × List (List Int) :=
  iterChecks ofs 4096 0 post msgs

end Sys2Proof.Machine
end

