-- ==== Sys2Proof/Machine/DecOps.lean ====
section
/-!
DEFINITION. The decoder pool and the encoders (R109, R120 to R132): intake, iterations, results, parking, fences.
-/

namespace Sys2Proof.Machine

def State.decoder (s : State) (d : Nat) : Decoder := mget (fun _ => ({} : Decoder)) s.dec.dec d
def State.setDecoder (s : State) (d : Nat) (x : Decoder) : State :=
  { s with dec := { s.dec with dec := mset (fun _ => ({} : Decoder)) s.dec.dec d x } }

def State.encJob (s : State) (e : Nat) : Option EncJob := mget (fun _ => none) s.dec.enc e
def State.setEnc (s : State) (e : Nat) (j : Option EncJob) : State :=
  { s with dec := { s.dec with enc := mset (fun _ => none) s.dec.enc e j } }

def State.setDecQueue (s : State) (xs : List Codeword) : State := { s with dec := { s.dec with queue := xs } }

/-- Encoders of the variant (R109). -/
def State.nEnc (s : State) : Nat := if s.jd16 then 16 else 8

/-- DEC_DFENCE and DEC_DFAULT of a decoder. -/
def State.decFenced (s : State) (d : Nat) : Bool := bitOf (s.rd Reg.DEC_DFENCE 0 (d / 32)).toNat (d % 32)
/-- A decoder takes no work: it is fenced, or waits for the epoch boundary at which it returns (R132). -/
def State.decOut (s : State) (d : Nat) : Bool := s.decFenced d || s.dec.returning.contains d
def State.decFaulted (s : State) (d : Nat) : Bool := bitOf (s.rd Reg.DEC_DFAULT 0 (d / 32)).toNat (d % 32)

/-- A decoder runs iterations of a priority-3 codeword. -/
def State.decExt (s : State) (d : Nat) : Bool :=
  match (s.decoder d).run with
  | some w => w.taken && w.cw.pri == 3
  | none => false

def State.extBusy (s : State) : Nat := ((List.range s.nDec).filter s.decExt).length

/-- DEC_STAT from the pool (R133). -/
def State.decStat (s : State) : State :=
  let busy := ((List.range s.nDec).filter fun d => (s.decoder d).run.isSome).length
  let s' := s.setFld Reg.DEC_STAT_QUEUE 0 s.dec.queue.length
  (s'.setFld Reg.DEC_STAT_EXT 0 s.extBusy).setFld Reg.DEC_STAT_BUSY 0 busy

/-- A codeword enters the queue in age order; a parked or reissued one keeps its age (R122). -/
def State.enqueueCw (s : State) (c : Codeword) : State :=
  s.setDecQueue ((s.dec.queue.filter fun x => decide (x.age < c.age)) ++ [c]
    ++ s.dec.queue.filter fun x => decide (c.age < x.age))

/-- A codeword of priority 0 waits in the queue. -/
def State.firstWaits (s : State) : Bool := s.dec.queue.any fun c => c.pri == 0

/-- The oldest waiting codeword of the highest priority present (R122). -/
def State.nextCw (s : State) : Option Codeword :=
  ((List.range 4).filterMap fun p => s.dec.queue.find? fun c => c.pri == p).head?

/-- The decoder can begin an intake: a buffer empty, none being filled, no result held, no fence (R122, R503). -/
def State.decFree (s : State) (d : Nat) : Bool :=
  let x := s.decoder d
  !s.decOut d && x.hold.isNone
    && (match x.run, x.next with
        | none, none => true
        | some w, none => w.taken
        | _, _ => false)

/-- The soft values of a codeword's slot as the decoder takes them: descrambled, or as parked (R111, R125). -/
def State.intake (s : State) (c : Codeword) : List Int :=
  if c.carry ≠ [] then c.carry
  else
    let xs := (List.range 37120).map fun n => s.softVal c.slot n
    if c.parked then xs else List.zipWith (fun (x : Int) u => if u = 1 then -x else x) xs (scramble c.lba)

/-- The iteration of a priority-3 codeword may not begin (R123). -/
def State.extStopped (s : State) (c : Codeword) (busyOthers : Nat) : Bool :=
  c.pri == 3 && s.firstWaits && decide (s.fld Reg.DEC_EXT_CAP_CAP 0 < busyOthers + 1)

/-- A codeword parked: its posteriors, clamped to ±31, in its slot, and itself in the queue (R125). -/
def State.parkCw (s : State) (d : Nat) (w : DecWork) : State :=
  let s := ((List.range 37120).zip w.post).foldl (fun s nx => s.setSoftVal w.cw.slot nx.1 (clampI (-31) 31 nx.2)) s
  let x := s.decoder d
  let s := s.setDecoder d { x with run := x.next, next := none }
  ((s.enqueueCw { w.cw with parked := true, carry := [] }).bump Reg.DEC_CNT_PARK 0 1).decStat

/-- The tag of decided information bytes. -/
def infoTag (bytes : List Byte) : TagF := tagOf ((bytes.drop 4096).take 24)

/-- The checks after a zero syndrome (R103, R105, R126): 0 GOOD, 1 CRCFAIL, 2 TAGFAIL. -/
def goodCheck (c : Codeword) (bytes : List Byte) : Nat :=
  let tag := (bytes.drop 4096).take 24
  let t := tagOf tag
  if crc64 (bytes.take 4120) ≠ beNat ((bytes.drop 4120).take 8) then 1
  else if tagVer tag = 1 ∧ t.nsid = c.nsid ∧ t.lba = c.lba ∧ t.psa = c.psa then 0
  else 2

/-- The result record of a codeword (R127, R400). -/
def State.cwRecord (s : State) (c : Codeword) (res used unsat flips : Nat) (t : TagF) : State :=
  s.sendRec c.q 1
    [word (3 * 2 ^ 28 + res * 2 ^ 24 + c.kind * 2 ^ 22 + c.pri * 2 ^ 20 + used % 64 * 2 ^ 14 + min unsat 4096),
     word c.tag, word (min flips 65535 * 2 ^ 16 + t.flags % 256 * 2 ^ 8 + t.keygen % 256), word t.wepoch,
     word t.stream, word c.slot]

/-- A codeword ends: its record, its credits and the counters (R126, R127). The landing credit of a codeword
that no decoder has taken is released too (R130). -/
def State.endCw (s : State) (c : Codeword) (res : Nat) (taken : Bool) (unsat flips : Nat) (t : TagF) : State :=
  let s := s.cwRecord c res c.used unsat flips t
  let s := s.releaseDcred c.tag
  let s := if !taken || c.pri == 3 then s.releaseSoft c.slot c.tag else s
  let s := s.bump Reg.DEC_CNT_CW 0 1
  let s := if res = 3 ∨ res = 4 then s.bump Reg.DEC_CNT_NOCONV 0 1 else s
  let s := if res = 1 then s.bump Reg.DEC_CNT_CRC 0 1 else s
  let s := if res = 2 then s.bump Reg.DEC_CNT_TAG 0 1 else s
  s.decStat

/-- A tag with nothing in it, for codewords that end without one. -/
def noTag : TagF := { flags := 0, nsid := 0, keygen := 0, lba := 0, psa := 0, wepoch := 0, stream := 0 }

/-- The decoder's buffers move up after its codeword ended; a priority-3 codeword that may not begin its iterations is
parked (R123). -/
def State.decNext (s : State) (d : Nat) : State :=
  let x := s.decoder d
  let s := s.setDecoder d { x with run := none, next := none, hold := none }
  match x.next with
  | none => s.decStat
  | some w =>
    let stop := w.taken && s.extStopped w.cw s.extBusy
    let s := s.setDecoder d { run := some w }
    if stop then s.parkCw d w else s.decStat

/-- Codeword bits of posteriors, their bytes, and FLIPS against the input (R127). -/
def hardBits (post : List Int) : List Nat := post.map hardBit
def infoBytes (bits : List Nat) : List Byte := bytesMsb 4128 (bits.take 33024)
def flipCount (bits : List Nat) (input : List Int) : Nat :=
  ((bits.zip input).filter fun bx => bx.1 != hardBit bx.2).length

/-- The media request of a GOOD read or recovery sector (R128). -/
def goodRequest (c : Codeword) (bytes : List Byte) : CipherReq :=
  { gcm := false, decrypt := true, peer := false, slot := c.keyslot, gen := (infoTag bytes).keygen, len := 4096,
    aad := [], nsid := c.nsid, lba := c.lba, iv := [], src := .bytes (bytes.take 4096), dst := .buffer c.bufaddr,
    tag := c.tag }

/-- A result with its record; GOOD read data goes to the cipher, and waits for a place of its store with the
record held when none is free (R128, R351). -/
def State.deliver (s : State) (d : Nat) (w : DecWork) (res unsat : Nat) : State :=
  let bits := hardBits w.post
  let bytes := infoBytes bits
  let t := if res ≤ 2 then infoTag bytes else noTag
  let flips := flipCount bits w.input
  if res = 0 ∧ (w.cw.kind = 0 ∨ w.cw.kind = 2) then
    let r := goodRequest w.cw bytes
    if s.cph.store < s.storeSize then
      let s := { s with cph := { s.cph with store := s.cph.store + 1 } }
      ((s.endCw w.cw res w.taken unsat flips t).cphEnqueue r).decNext d
    else
      let s := { s with cph := { s.cph with storeWait := s.cph.storeWait ++ [d] } }
      s.setDecoder d { s.decoder d with run := some w, hold := some r }
  else (s.endCw w.cw res w.taken unsat flips t).decNext d

/-- A codeword whose queue entry, buffer or decoder is cancelled (R130, R398). -/
def State.cancelCw (s : State) (tag : Nat) : State :=
  match s.dec.queue.find? fun c => c.tag == tag with
  | some c =>
    (s.setDecQueue (s.dec.queue.filter fun x => x.tag != tag)).endCw c 5 (c.carry != []) 0 0 noTag
  | none =>
    let hit := (List.range s.nDec).find? fun d =>
      let x := s.decoder d
      (match x.run with | some w => w.cw.tag == tag | none => false)
        || (match x.next with | some w => w.cw.tag == tag | none => false)
    match hit with
    | none => s
    | some d =>
      let x := s.decoder d
      match x.next with
      | some w =>
        if w.cw.tag = tag then
          (s.setDecoder d { x with next := none }).endCw w.cw 5 w.taken 0 0 noTag
        else
          match x.run with
          | some r => s.setDecoder d { x with run := some { r with cw := { r.cw with cancel := true } } }
          | none => s
      | none =>
        match x.run with
        | some r => s.setDecoder d { x with run := some { r with cw := { r.cw with cancel := true } } }
        | none => s

/-- Every codeword of a format sequencer cancelled (R130, R409). -/
def State.cancelAll (s : State) (q : Nat) : State :=
  let tags := (s.dec.queue.filter fun c => c.q == q).map Codeword.tag
    ++ ((List.range s.nDec).map fun d =>
        ((s.decoder d).run.toList ++ (s.decoder d).next.toList).filterMap fun w =>
          if w.cw.q = q then some w.cw.tag else none).flatten
  tags.foldl (fun s t => s.cancelCw t) s

/-- One iteration boundary of a decoder (R124, R126). -/
def State.iterate (s : State) (d : Nat) : State :=
  match (s.decoder d).run with
  | none => s
  | some w =>
    if !w.taken || (s.decoder d).hold.isSome then s
    else if w.cw.cancel then (s.endCw w.cw 5 true w.unsat 0 noTag).decNext d
    else
      let run := decide (w.cw.used < w.cw.iter)
      let ofs : Int := (s.fld Reg.DEC_CTRL_OFS 0 : Nat)
      let (post, msgs) := if run then ldpcIterate ofs w.post w.msgs else (w.post, w.msgs)
      let s := if run then s.bump Reg.DEC_CNT_ITER 0 1 else s
      let used := if run then w.cw.used + 1 else w.cw.used
      let un := unsatCount (hardBits post)
      let stall := if un < w.unsat then 0 else w.stall + 1
      let w' : DecWork := { w with cw := { w.cw with used := used }, post := post, msgs := msgs, unsat := un, stall := stall }
      let lim := s.fld Reg.DEC_CTRL_STALL_ITER 0
      if un = 0 then s.deliver d w' (goodCheck w'.cw (infoBytes (hardBits post))) 0
      else if w.cw.iter ≤ used then s.deliver d w' 3 un
      else if w.cw.pri ≠ 3 ∧ lim ≠ 0 ∧ lim ≤ stall then s.deliver d w' 4 un
      else
        let s' := s.setDecoder d { s.decoder d with run := some w' }
        if s'.extStopped w'.cw (s'.extBusy - 1) then s'.parkCw d w' else s'

/-- A codeword of a fenced decoder goes back to the queue with its full budget (R131). -/
def State.reissueCw (s : State) (w : DecWork) (restart : Bool) : State :=
  let c := if restart then { w.cw with used := 0 } else w.cw
  let c := if c.pri = 3 ∨ !w.taken then { c with carry := [] } else { c with carry := w.input }
  (s.enqueueCw c).bump Reg.DEC_CNT_REISSUE 0 (bit01 restart)

/-- The codeword request of a sector block (R120, R121, R401). -/
def State.cwOf (s : State) (q : Nat) (b : List Word) : Codeword :=
  let w (i : Nat) : Nat := (b.getD i 0).toNat
  let iter := bitsOf (w 0) 23 18
  { age := s.dec.age, q := q, slot := bitsOf (w 0) 9 0, kind := bitsOf (w 0) 27 26,
    pri := if s.fld Reg.DEC_CTRL_STD_ITER 0 < iter then 3 else bitsOf (w 0) 25 24, iter := iter,
    nsid := bitsOf (w 2) 31 24, lba := w 3 + 2 ^ 32 * w 4, psa := w 5 + 2 ^ 32 * bitsOf (w 6) 1 0,
    keyslot := bitsOf (w 2) 12 0, bufaddr := w 7 + 2 ^ 32 * bitsOf (w 8) 7 0, tag := w 1 }

/-- The tag fields of a sector block (R104, R401). -/
def blockTag (b : List Word) : TagF :=
  let w (i : Nat) : Nat := (b.getD i 0).toNat
  { flags := bitsOf (w 6) 15 8, nsid := bitsOf (w 2) 31 24, keygen := bitsOf (w 2) 23 16,
    lba := w 3 + 2 ^ 32 * w 4, psa := w 5 + 2 ^ 32 * bitsOf (w 6) 1 0, wepoch := bitsOf (w 9) 23 0,
    stream := bitsOf (w 10) 19 0 }

/-- The encryption request of an ENCODE (R109, R348). -/
def encodeRequest (b : List Word) : CipherReq :=
  let w (i : Nat) : Nat := (b.getD i 0).toNat
  { gcm := false, decrypt := false, peer := false, slot := bitsOf (w 2) 12 0, gen := bitsOf (w 2) 23 16,
    len := 4096, aad := [], nsid := bitsOf (w 2) 31 24, lba := w 3 + 2 ^ 32 * w 4, iv := [],
    src := .buffer (w 7 + 2 ^ 32 * bitsOf (w 8) 7 0), dst := .encoder, tag := w 1 }

/-- The ciphertext, or the error, of a TAG comes back to its encoder work. -/
def State.encCipher (s : State) (tag : Nat) (out : List Byte) (result : Nat) : State :=
  let up (j : EncJob) : EncJob :=
    if (j.block.getD 1 0).toNat = tag ∧ j.cipher = none then { j with cipher := some out, result := result } else j
  { s with dec := { s.dec with encq := s.dec.encq.map up } }

end Sys2Proof.Machine
end

