-- ==== Sys2Proof/Machine/HifOps.lean ====
section
/-!
DEFINITION. The host interface's own state: controllers, command slots, completions, messages and the notices of
R364 (R357 to R387).
-/

namespace Sys2Proof.Machine

/-! ## Statuses, as SCT × 256 + SC (R282, R364, R370, R371) -/

def scOk : Nat := 0x000
def scOpcode : Nat := 0x001
def scField : Nat := 0x002
def scTransfer : Nat := 0x004
def scAborted : Nat := 0x007
def scBadNs : Nat := 0x00B
def scRange : Nat := 0x080
def scNotReady : Nat := 0x082
def scWriteFault : Nat := 0x280
def scUnrecovered : Nat := 0x281
def scPath : Nat := 0x302

/-! ## Controllers -/

def State.ctrl (s : State) (p l : Nat) : Ctrl := mget (fun _ => ({} : Ctrl)) s.hif.ctrl (p * 2 + l)
def State.setCtrl (s : State) (p l : Nat) (c : Ctrl) : State :=
  { s with hif := { s.hif with ctrl := mset (fun _ => ({} : Ctrl)) s.hif.ctrl (p * 2 + l) c } }

/-- HIF_PCFG in force on a port: as taken at the last deassertion of PERST (R358). -/
def State.pcfg (s : State) (p : Nat) : Word := mget (fun _ => (0 : Word)) s.hif.applied p

/-- The port is split into two links (R358). -/
def State.split (s : State) (p : Nat) : Bool := Reg.HIF_PCFG_SPLIT.get (s.pcfg p) == 1

/-- The port and link exist on the device as configured. -/
def State.hasLink (s : State) (p l : Nat) : Bool := decide (p < 2) && (l == 0 || (l == 1 && s.split p))

def State.linkIsUp (s : State) (p l : Nat) : Bool :=
  s.flag (if l = 0 then Reg.HIF_LSTAT_L0_UP else Reg.HIF_LSTAT_L1_UP) p

/-- The fields of HIF_LSTAT of a link: up, rate, width and FLIT mode (R387). -/
def State.setLstat (s : State) (p l up gen width flit : Nat) : State :=
  if l = 0 then
    (((s.setFld Reg.HIF_LSTAT_L0_UP p up).setFld Reg.HIF_LSTAT_L0_GEN p gen).setFld Reg.HIF_LSTAT_L0_WIDTH p width).setFld
      Reg.HIF_LSTAT_L0_FLIT p flit
  else
    (((s.setFld Reg.HIF_LSTAT_L1_UP p up).setFld Reg.HIF_LSTAT_L1_GEN p gen).setFld Reg.HIF_LSTAT_L1_WIDTH p width).setFld
      Reg.HIF_LSTAT_L1_FLIT p flit

/-- The controller runs: its link is up and CC.EN is set. -/
def State.ctrlOn (s : State) (p l : Nat) : Bool := s.linkIsUp p l && (s.ctrl p l).en

/-- A message accepted by a transmit queue. -/
def State.send (s : State) (m : HostMsg) : State := { s with hif := { s.hif with out := m :: s.hif.out } }

/-- An MSI-X message of a controller; a function that cannot take it sends none (R384, log entry 51). -/
def State.msix (s : State) (p l v : Nat) : State := if s.linkIsUp p l then s.send (.msix p l v) else s

/-! ## Fault messages (R386) -/

/-- The interrupt of a fault group is high while a cause bit is set whose enable bit is set (R480). -/
def State.fltHigh (s : State) (src : Nat) : Bool :=
  (s.causes src &&& s.fld (Reg.FLT_EN_EN.flt src) 0) != 0

/-- Where HIF_FVEC sends a source: port, link and vector; none when the entry is ignored (R387). -/
def State.fvec (s : State) (src : Nat) : Option (Nat × Nat × Nat) :=
  let w := s.rd Reg.HIFV_FVEC 0 src
  let p := Reg.HIFV_FVEC_PORT.get w
  let l := if s.split p then Reg.HIFV_FVEC_LINK.get w else 0
  let v := Reg.HIFV_FVEC_VECTOR.get w
  if Reg.HIFV_FVEC_EN.get w = 1 ∧ ¬ (s.split p ∧ 1023 < v) then some (p, l, v) else none

/-- The message of a source goes out, or waits in HIF_FPEND until its function can take it (R386). -/
def State.faultMsg (s : State) (src : Nat) : State :=
  if s.glb.dormant || s.glb.rstPend.isSome || s.flag Reg.GLB_MODE_WIPING 0 then s
  else
    match s.fvec src with
    | none => s
    | some (p, l, v) =>
      if s.linkIsUp p l then s.send (.msix p l v)
      else
        let r := s.rd Reg.HIFV_FPEND 0 (src / 32)
        s.wr Reg.HIFV_FPEND 0 (src / 32) (word (setBit r.toNat (src % 32) true))

/-- The pending fault messages of a link that came up (R386). -/
def State.fpendSend (s : State) (p l : Nat) : State :=
  (List.range 129).foldl (fun s src =>
    let r := s.rd Reg.HIFV_FPEND 0 (src / 32)
    match s.fvec src with
    | some (p', l', v) =>
      if r.toNat.testBit (src % 32) ∧ p' = p ∧ l' = l then
        (s.wr Reg.HIFV_FPEND 0 (src / 32) (word (setBit r.toNat (src % 32) false))).send (.msix p l v)
      else s
    | none => s) s

/-! ## Command slots (R368, R369) -/

def slotKey (p k : Nat) : Nat := p * 4096 + k

def State.cmd (s : State) (p k : Nat) : Option Cmd := mget (fun _ => none) s.hif.slots (slotKey p k)
def State.setCmd (s : State) (p k : Nat) (c : Option Cmd) : State :=
  { s with hif := { s.hif with slots := mset (fun _ => none) s.hif.slots (slotKey p k) c } }

/-- Every command in a slot: port, slot and command. -/
def State.cmds (s : State) : List (Nat × Nat × Cmd) :=
  s.hif.slots.filterMap fun e => e.2.map fun c => (e.1 / 4096, e.1 % 4096, c)

/-- The lowest free command slot of a port (R368). -/
def State.freeCmdSlot (s : State) (p : Nat) : Option Nat :=
  (List.range 4096).find? fun k => (s.cmd p k).isNone

/-- Word `i` of a command's submission entry. -/
def Cmd.w (c : Cmd) (i : Nat) : Nat := (c.sqe.getD i 0).toNat

def Cmd.opcode (c : Cmd) : Nat := bitsOf (c.w 0) 7 0
def Cmd.nsidField (c : Cmd) : Nat := c.w 1
def Cmd.cdw (c : Cmd) (i : Nat) : Nat := c.w i

/-- The command is an admin command: it came from queue 0. -/
def Cmd.admin (c : Cmd) : Bool := c.qid == 0

/-- The command writes LBAs: Write, Write Zeroes, Zone Append or a stream Write. -/
def Cmd.writes (c : Cmd) : Bool := !c.admin && [0x01, 0x08, 0x7D, 0x83].contains c.opcode

/-- First LBA and number of LBAs that a command's dwords name (R379). -/
def Cmd.lbaField (c : Cmd) : Nat := c.cdw 10 + 2 ^ 32 * c.cdw 11
def Cmd.nlb (c : Cmd) : Nat := bitsOf (c.cdw 12) 15 0 + 1

/-- The completion queue of a submission queue. -/
def Ctrl.cqOf (c : Ctrl) (qid : Nat) : Option CmpQ :=
  match c.subs.find? fun x => x.qid == qid with
  | some x => c.cmps.find? fun y => y.qid == x.cq
  | none => none

/-- A command ends: its completion entry with status and dword 0 and the interrupt of its queue go out while the
controller runs, and its slot is free (R361, R368, R384). Media errors count (R381). -/
def State.complete (s : State) (p k status dw0 : Nat) : State :=
  match s.cmd p k with
  | none => s
  | some c =>
    let s := s.setCmd p k none
    let s := { s with stm := { s.stm with
      sectors := s.stm.sectors.map fun x => if x.cmd = some (p, k) then { x with cmd := none } else x } }
    let s := if status = scUnrecovered ∨ status = scWriteFault then
        { s with hif := { s.hif with mediaErrors := s.hif.mediaErrors + 1 } } else s
    if !s.ctrlOn p c.link then s
    else
      match (s.ctrl p c.link).cqOf c.qid with
      | none => s
      | some q =>
        let s := s.send (.cqe p c.link q.qid c.cid status dw0)
        if q.intr then s.msix p c.link q.vector else s

/-- Data of a command written to its host pages, first page first (R365, R379). -/
def State.hostData (s : State) (p : Nat) (c : Cmd) (bytes : List Byte) : State :=
  if !s.ctrlOn p c.link then s
  else
    (List.range ((bytes.length + 4095) / 4096)).foldl (fun s i =>
      s.send (.data p c.link (c.prps.getD i 0) ((bytes.drop (4096 * i)).take 4096))) s

/-- A command's data and its success. -/
def State.completeData (s : State) (p k : Nat) (bytes : List Byte) : State :=
  match s.cmd p k with
  | none => s
  | some c => (s.hostData p c bytes).complete p k scOk 0

/-- A transfer handed to the DMV channel owner of a port, or to the stream engine's for a stream command (R327). -/
def State.addReady (s : State) (p : Nat) (stream : Bool) (x : Xfer) : State :=
  let x := { x with port := p }
  if stream then { s with stm := { s.stm with ready := s.stm.ready ++ [x] } }
  else { s with hif := { s.hif with ready := mset (fun _ => []) s.hif.ready p (mget (fun _ => []) s.hif.ready p ++ [x]) } }

/-! ## Notices and the Media Error log (R364, R383) -/

/-- A notice reaches every running controller: a held Asynchronous Event Request completes with it, or it waits
(R364). `info` is dword 0. -/
def State.notice (s : State) (info : Nat) : State :=
  [(0, 0), (0, 1), (1, 0), (1, 1)].foldl (fun s pl =>
    let c := s.ctrl pl.1 pl.2
    if s.ctrlOn pl.1 pl.2 then
      match c.aers with
      | k :: rest => (s.setCtrl pl.1 pl.2 { c with aers := rest }).complete pl.1 k scOk info
      | [] => if c.notices.contains info then s else s.setCtrl pl.1 pl.2 { c with notices := c.notices ++ [info] }
    else s) s

/-- Asynchronous Event information of R364: type 2 (notice), information 0x00 Namespace Attribute Changed with log
page 0x04, 0x03 ANA Change with log page 0x0C. -/
def noticeNs : Nat := 0x00040002
def noticeAna : Nat := 0x000C0302

/-- An entry enters the Media Error ring (R383). -/
def State.mediaError (s : State) (cause nsid lba psa hda : Nat) : State :=
  let e : MediaErr := { seq := s.hif.errSeq + 1, cause := cause, nsid := nsid, lba := lba, psa := psa, hda := hda,
                        epoch := s.epoch }
  { s with hif := { s.hif with errs := (e :: s.hif.errs).take 256, errSeq := s.hif.errSeq + 1 } }

/-- The idle record of an HDA. -/
def State.idle (s : State) (n : Nat) : IdleS := mget (fun _ => ({} : IdleS)) s.hif.idle n
def State.setIdle (s : State) (n : Nat) (x : IdleS) : State :=
  { s with hif := { s.hif with idle := mset (fun _ => ({} : IdleS)) s.hif.idle n x } }

end Sys2Proof.Machine
end

