-- ==== Sys2Proof/Machine/PeerOps.lean ====
section
/-!
DEFINITION. Peer frames, requests and answers (R457 to R464), which the stream engine and the peer commands share.
-/

namespace Sys2Proof.Machine

/-! ## Peer entries (R464) -/

def peerDown : Nat := 0
def peerSeen : Nat := 1
def peerActive : Nat := 2
def peerLeaving : Nat := 3
def peerFenced : Nat := 4

def State.pe (s : State) (i : Nat) : PeerS := mget (fun _ => ({} : PeerS)) s.pfb.peers i
def State.setPe (s : State) (i : Nat) (x : PeerS) : State :=
  { s with pfb := { s.pfb with peers := mset (fun _ => ({} : PeerS)) s.pfb.peers i x } }

def State.peerState (s : State) (i : Nat) : Nat := s.fld Reg.PEER_CTL_STATE i

/-- The entry of a unit address that has been heard. -/
def State.peerOfUnit (s : State) (u : Nat) : Option Nat :=
  (List.range 64).find? fun i => s.fld Reg.PEER_CTL_UNIT i == u && s.pair Reg.PEER_MAC_LO Reg.PEER_MAC_HI i 0 != 0

/-- This unit's address on the chain (R450). -/
def State.unitAddr (s : State) : Nat := s.fld Reg.PRC_STAT_ADDR 0

/-- The port is enabled and up (R456, R474). -/
def State.peerPortOn (s : State) (p : Nat) : Bool :=
  decide (p < s.nPeerPort) && s.flag (if p = 0 then Reg.PFB_CFG_P0_EN else Reg.PFB_CFG_P1_EN) 0
    && bitOf (s.rd Reg.PFBP_PSTAT p 0).toNat 0

/-- A frame goes out on a port and is counted. -/
def State.peerOut (s : State) (p : Nat) (f : PeerFrame) : State :=
  if s.peerPortOn p then
    { s with pfb := { s.pfb with out := (p, f) :: s.pfb.out } }.bump Reg.PFBP_CNT_TX p 1
  else s

/-- The 32-byte header (R457). -/
def peerHeader (type flags kgen src dst pseq ref : Nat) (iv : List Byte) (len : Nat) : List Byte :=
  [1, BitVec.ofNat 8 type, BitVec.ofNat 8 flags, BitVec.ofNat 8 kgen] ++ beBytes 2 src ++ beBytes 2 dst
    ++ beBytes 4 pseq ++ beBytes 4 ref ++ (iv ++ List.replicate 12 0).take 12 ++ beBytes 2 len ++ [0, 0]

/-- A sealed frame to a peer (R457): its port takes it when the cipher has sealed it. -/
def State.peerSeal (s : State) (i type flags pseq ref : Nat) (payload : List Byte) : State :=
  let hdr (iv : List Byte) : List Byte :=
    peerHeader type flags (s.fld Reg.PEER_KGEN_KGEN i) s.unitAddr (s.fld Reg.PEER_CTL_UNIT i) pseq ref iv payload.length
  match s.gcmSeal (s.fld Reg.PEER_KEYS_TXSLOT i) (s.fld Reg.PEER_KGEN_KGEN i) hdr payload with
  | (s, some (iv, c, t)) =>
    s.peerOut (s.fld Reg.PEER_CTL_PORT i)
      { dstMac := s.pair Reg.PEER_MAC_LO Reg.PEER_MAC_HI i 0, srcMac := s.pair Reg.PFB_MAC_LO Reg.PFB_MAC_HI 0 0,
        etype := s.fld Reg.PFB_CFG_ETYPE 0, header := hdr iv, payload := c, tag := t }
  | (s, none) => s

/-! ## Requests (R459) -/

/-- PEER_OUT counts the requests that await their first answer. -/
def State.peerCount (s : State) (i : Nat) : State :=
  s.wr Reg.PEER_OUT i 0 (word ((s.pe i).reqs.filter fun r => !r.stage1).length)

/-- Held requests go out while the entry is ACTIVE and the peer's window has room (R459, R465). -/
def State.peerPump (s : State) (i : Nat) : Nat → State
  | 0 => s
  | n + 1 =>
    let x := s.pe i
    match x.held with
    | [] => s.peerCount i
    | r :: rest =>
      if s.peerState i = peerActive ∧ (x.reqs.filter fun r => !r.stage1).length < x.rxWin then
        let s := s.setPe i { x with held := rest, reqs := x.reqs ++ [{ r with sends := 1 }] }
        State.peerPump (s.peerSeal i r.type r.flags r.pseq r.ref r.payload) i n
      else s.peerCount i

/-- A new request takes the next PSEQ and goes out, or waits for the peer's window (R459). -/
def State.peerRequest (s : State) (i type flags ref tag : Nat) (payload : List Byte) : State :=
  let x := s.pe i
  let n := (x.pseq + 1) % 2 ^ 32
  let r : PeerReq := { pseq := n, type := type, flags := flags, ref := ref, payload := payload, tag := tag }
  (s.setPe i { x with pseq := n, held := x.held ++ [r] }).peerPump i (x.held.length + 1)

/-- An answer to a request of a peer, kept for its duplicates (R459). -/
def State.peerAnswer (s : State) (i type ref : Nat) (payload : List Byte) : State :=
  let x := s.pe i
  let s := s.setPe i { x with seen := x.seen.map fun e => if e.pseq = ref then { e with answer := some (type, payload) } else e }
  if s.peerState i = peerActive ∨ s.peerState i = peerLeaving then s.peerSeal i type 0 0 ref payload else s

/-- The MWACK of a stage (R458, R460). -/
def State.mwack (s : State) (i ref stage status : Nat) : State :=
  s.peerAnswer i 0x11 ref [BitVec.ofNat 8 stage, BitVec.ofNat 8 status]

/-- A request of ours leaves the outstanding list, and held ones may go out. -/
def State.peerDoneReq (s : State) (i pseq : Nat) : State :=
  let x := s.pe i
  (s.setPe i { x with reqs := x.reqs.filter fun r => r.pseq != pseq }).peerPump i (x.held.length + 1)

/-! ## Rebuilds for a peer (R467) -/

/-- The TAG of the MWRITEs of a rebuild: above every sector's. -/
def rebuildTag (pseq : Nat) : Nat := 2 ^ 32 + pseq

/-- The payload of an MWRITE (R458). -/
def mwritePayload (nsid keyGen lba wepoch stream : Nat) (bs : List Byte) : List Byte :=
  [BitVec.ofNat 8 nsid, BitVec.ofNat 8 keyGen] ++ beBytes 8 lba ++ beBytes 3 wepoch ++ beBytes 3 stream
    ++ List.replicate 16 0 ++ bs

/-- A block read for a rebuild goes out as an MWRITE with REBUILD set. -/
def State.rebuildSend (s : State) (i pseq nsid keyGen lba : Nat) (bs : List Byte) : State :=
  s.peerRequest i 0x10 0x80 0 (rebuildTag pseq) (mwritePayload nsid keyGen lba (s.epoch % 2 ^ 24) 0xFFFFF bs)

/-- A rebuild ends: RBEND with its status and the LBAs sent. -/
def State.rebuildEnd (s : State) (i pseq status : Nat) : State :=
  let x := s.pe i
  match x.rebuild.find? fun j => j.pseq == pseq with
  | none => s
  | some j =>
    let s := s.setPe i { x with rebuild := x.rebuild.filter fun k => k.pseq != pseq }
    s.peerAnswer i 0x31 pseq ([BitVec.ofNat 8 status] ++ beBytes 4 j.sent)

/-! ## Received frames (R457, R463) -/

def hdrNat (f : PeerFrame) (i n : Nat) : Nat := beNat ((f.header.drop i).take n)

/-- A discarded frame (R459, R463). -/
def State.peerDrop (s : State) (p : Nat) : State := s.bump Reg.PFBP_CNT_DROP p 1

/-- A frame of a port opened: its peer entry and plaintext, or none after it was discarded and counted. The type must
be the command's. -/
def State.peerOpen (s : State) (p type : Nat) (f : PeerFrame) : State × Option (Nat × List Byte) :=
  if !s.peerPortOn p || f.etype != s.fld Reg.PFB_CFG_ETYPE 0 || hdrNat f 1 1 != type then (s, none)
  else
    let s := s.bump Reg.PFBP_CNT_RX p 1
    match s.peerOfUnit (hdrNat f 4 2) with
    | none => (s.peerDrop p, none)
    | some i =>
      if (s.peerState i = peerActive ∨ s.peerState i = peerLeaving) ∧ hdrNat f 0 1 = 1 ∧ hdrNat f 6 2 = s.unitAddr then
        match s.gcmOpen (s.fld Reg.PEER_KEYS_RXSLOT i) (hdrNat f 3 1) ((f.header.drop 16).take 12) (f.header.take 32)
            f.payload f.tag with
        | (s, some t) => (s, some (i, t))
        | (s, none) => ((s.bump Reg.PFBP_CNT_AUTH p 1).corrected (srcPFB p) 0, none)
      else (s.peerDrop p, none)

/-- What becomes of a request with a PSEQ: 0 new, 1 answered again as a duplicate, 2 outside the window (R459). -/
def State.peerFresh (s : State) (i pseq : Nat) : State × Nat :=
  let x := s.pe i
  match x.seen.find? fun e => e.pseq == pseq with
  | some e =>
    match e.answer with
    | some (t, pl) => (s.peerSeal i t 0 0 pseq pl, 1)
    | none => (s, 1)
  | none =>
    let w := s.fld Reg.PFB_CFG_RX_WIN 0
    let top := x.seen.foldl (fun m e => max m e.pseq) 0
    if top ≤ pseq + w ∧ (x.seen = [] ∨ pseq ≤ top + w) then
      (s.setPe i { x with seen := ({ pseq := pseq } : PeerSeen) :: x.seen.take (w - 1) }, 0)
    else (s, 2)

end Sys2Proof.Machine
end

