-- ==== Sys2Proof/Machine/StmOps.lean ====
section
/-!
DEFINITION. The stream engine: the maps and slip tables, slots, stream contexts and sectors (R257 to R272, R149 to R159).
-/

namespace Sys2Proof.Machine

def scInternal : Nat := 0x006

/-! ## Slots of the class pools (R267) -/

def slotK (cls slot : Nat) : Nat := cls * 2 ^ 24 + slot

def State.clsSlots (s : State) (cls : Nat) : Nat := s.fldJ Reg.STM_CLS_POOL_SLOTS 0 cls
def State.slotAddr (s : State) (cls slot : Nat) : Nat :=
  s.pair Reg.STM_CLS_POOL_BASE_LO Reg.STM_CLS_POOL_BASE_HI 0 cls + slot * 4096
def State.slotSt (s : State) (cls slot : Nat) : SlotSt := mget (fun _ => 0) s.stm.slots (slotK cls slot)

/-- Slots of a class that are earmarked or held. -/
def State.usedSlots (s : State) (cls : Nat) : Nat := (s.stm.slots.filter fun e => e.1 / 2 ^ 24 == cls).length

/-- Slots of a class reserved for the MWRITEs of joined peers (R460, R465). -/
def State.reservedSlots (s : State) (cls : Nat) : Nat :=
  if s.fld Reg.PFB_CFG_RXCLASS 0 = cls then s.pfb.peers.foldl (fun t e => t + e.2.reserved) 0 else 0

/-- Free slots of a class. -/
def State.freeSlots (s : State) (cls : Nat) : Nat := s.clsSlots cls - s.usedSlots cls - s.reservedSlots cls

/-- STM_CLS_FREE of a class brought up to date. -/
def State.clsFree (s : State) (cls : Nat) : State := s.setFldJ Reg.STM_CLS_FREE_FREE 0 cls (s.freeSlots cls)

def State.setSlot (s : State) (cls slot st : Nat) : State :=
  { s with stm := { s.stm with slots := mset (fun _ => 0) s.stm.slots (slotK cls slot) st } }.clsFree cls

/-- The lowest slot of a class that is neither earmarked nor held (log entry 31). -/
def State.lowSlot (s : State) (cls : Nat) : Option Nat :=
  (List.range (min (s.usedSlots cls + 1) (s.clsSlots cls))).find? fun k => s.slotSt cls k == 0

/-! ## Maps (R257 to R259) -/

def State.zone (s : State) (zk : Nat) : Zone := mget (fun _ => ({} : Zone)) s.stm.zones zk
def State.setZone (s : State) (zk : Nat) (z : Zone) : State :=
  { s with stm := { s.stm with zones := mset (fun _ => ({} : Zone)) s.stm.zones zk z } }
def State.nsd (s : State) (n : Nat) : Ns := mget (fun _ => ({} : Ns)) s.stm.ns n
def State.setNsd (s : State) (n : Nat) (x : Ns) : State :=
  { s with stm := { s.stm with ns := mset (fun _ => ({} : Ns)) s.stm.ns n x } }

/-- Key of a zone: (HDA × 2 + actuator) × 256 + zone (R259). -/
def zoneKey (act zone : Nat) : Nat := act * 256 + zone

/-- Head, stripe, cylinder and track slot of a P (R113). -/
def Zone.head (p : Nat) : Nat := p % 10
def Zone.cyl (z : Zone) (p : Nat) : Nat := z.firstCyl + p / 10 / max 1 z.spt
def Zone.track (z : Zone) (p : Nat) : Nat := p / 10 % max 1 z.spt

/-- The extent that maps an LBA. -/
def Ns.extent (x : Ns) (lba : Nat) : Option Extent :=
  x.extents.find? fun e => decide (e.lba ≤ lba) && decide (lba < e.lba + e.count)

/-- Actuator, zone and P of a copy of an LBA (R258). -/
def Extent.place (e : Extent) (copyB : Bool) (lba : Nat) : Nat × Nat × Nat :=
  if copyB then (e.bAct, e.bZone, e.bP + (lba - e.lba)) else (e.aAct, e.aZone, e.aP + (lba - e.lba))

/-- The actuator takes no writes: it is fenced for them, or waits for the epoch boundary at which it returns (R148). -/
def State.wFenced (s : State) (a : Nat) : Bool := bitOf (s.rd Reg.STM_WFENCE 0 0).toNat a || s.stm.wReturn.contains a

/-- The peer entry that leads to the controller of copy B, when it is ACTIVE. -/
def State.remoteOf (s : State) (x : Ns) : Option Nat :=
  match s.peerOfUnit x.peer with
  | some i => if s.peerState i = peerActive then some i else none
  | none => none

/-- A copy of an LBA can be read, or written: it lies on no fenced HDA or actuator, and a read on no HDA that is
being rebuilt (R64, R148, R279, R519). -/
def State.copyOk (s : State) (x : Ns) (e : Extent) (copyB write : Bool) : Bool :=
  if copyB && x.bRemote then (s.remoteOf x).isSome
  else
    let a := if copyB then e.bAct else e.aAct
    let rebuilt := x.mirror && bitOf (s.fld Reg.STM_RBLD_HDA 0) (a / 2)
    !s.actOut a && !(write && s.wFenced a) && (write || !rebuilt)

/-! ## Zone slip tables (R150 to R154) -/

def slipValid (e : Nat) : Bool := e.testBit 63
def slipDurable (e : Nat) : Bool := e.testBit 62
def slipFrom (e : Nat) : Nat := e % 2 ^ 25

/-- The 64 entries of a zone's table, read through the context cache (R261). -/
def State.slipTable (s : State) (zk : Nat) : State × Option (List Nat) :=
  match s.cRead (s.zone zk).slip 512 false with
  | (s, some bs) => (s, some ((List.range 64).map fun k => leNat ((bs.drop (8 * k)).take 8)))
  | (s, none) => (s, none)

/-- The highest-numbered VALID entry that redirects P (R151). -/
def slipFind (t : List Nat) (p : Nat) : Option Nat :=
  ((List.range 64).filter fun k => slipValid (t.getD k 0) && slipFrom (t.getD k 0) == p).getLast?

/-- The P in use for a P, and whether the entry used is DURABLE (R151, R158); none when the table is not delivered. -/
def State.slipMap (s : State) (zk p : Nat) : State × Option (Nat × Bool) :=
  match s.slipTable zk with
  | (s, none) => (s, none)
  | (s, some t) =>
    match slipFind t p with
    | some k => (s, some ((s.zone zk).rsvBase + k, slipDurable (t.getD k 0)))
    | none => (s, some (p, true))

/-- The table's copies are to be written again (R154). -/
def State.slipChanged (s : State) (zk : Nat) : State :=
  if s.stm.slipDue.contains zk then s else { s with stm := { s.stm with slipDue := s.stm.slipDue ++ [zk] } }

/-- A new entry for P in the lowest unused place, earlier ones superseded (R152): the place taken. -/
def State.slipTake (s : State) (zk p : Nat) : State × Option Nat :=
  match s.slipTable zk with
  | (s, none) => (s, none)
  | (s, some t) =>
    match (List.range 64).find? fun k => !slipValid (t.getD k 0) with
    | none => (s, none)
    | some k =>
      let t' := (List.range 64).map fun i =>
        let e := t.getD i 0
        if i = k then 2 ^ 63 + p % 2 ^ 25
        else if slipValid e ∧ slipFrom e = p ∧ i < k then setBit e 61 true else e
      let s := (s.cWrite (s.zone zk).slip (t'.map (leBytes 8)).flatten false).1
      (s.slipChanged zk, some k)

/-- DURABLE set on the entries that both copies hold (R154). -/
def State.slipSettle (s : State) (zk : Nat) : State :=
  match s.slipTable zk with
  | (s, none) => s
  | (s, some t) =>
    let held (k c : Nat) : Bool := s.stm.slipOk.contains ((zk * 2 + c) * 128 + k)
    let t' := (List.range 64).map fun k =>
      let e := t.getD k 0
      if slipValid e ∧ held k 0 ∧ held k 1 then setBit e 62 true else e
    if t' = t then s else (s.cWrite (s.zone zk).slip (t'.map (leBytes 8)).flatten false).1

/-! ## Stream contexts (R262 to R265) -/

def ctxFree : Nat := 0
def ctxOpen : Nat := 1
def ctxRunning : Nat := 2
def ctxWaiting : Nat := 3
def ctxClosing : Nat := 4
def ctxBroken : Nat := 5

def State.ctxAddr (s : State) (i : Nat) : Nat := s.pair Reg.STM_CTX_BASE_LO Reg.STM_CTX_BASE_HI 0 0 + 64 * i

/-- A context as read; a stream whose context the buffer does not deliver becomes BROKEN (R321). -/
def State.ctxRead (s : State) (i : Nat) : State × Option (List Word) :=
  match s.cWords (s.ctxAddr i) 16 false with
  | (s, some ws) => if s.stm.lost.contains i then (s, none) else (s, some ws)
  | (s, none) =>
    (if s.stm.opened.contains i ∧ ¬ s.stm.lost.contains i then { s with stm := { s.stm with lost := s.stm.lost ++ [i] } } else s,
     none)
def State.ctxWrite (s : State) (i : Nat) (ws : List Word) : State := (s.cWrite (s.ctxAddr i) (wordBytes ws) false).1

/-- Field `hi` to `lo` of word `k` of a context. -/
def cw (ws : List Word) (k hi lo : Nat) : Nat := bitsOf (ws.getD k 0).toNat hi lo
def cwPut (ws : List Word) (k hi lo v : Nat) : List Word := ws.set k (word (putBits (ws.getD k 0).toNat hi lo v))
def cw64 (ws : List Word) (k : Nat) : Nat := (ws.getD k 0).toNat + 2 ^ 32 * (ws.getD (k + 1) 0).toNat
def cwPut64 (ws : List Word) (k v : Nat) : List Word := (ws.set k (word v)).set (k + 1) (word (v / 2 ^ 32))

def ctxState (ws : List Word) : Nat := cw ws 0 31 28
def ctxCls (ws : List Word) : Nat := cw ws 0 26 24
def ctxNs (ws : List Word) : Nat := cw ws 0 23 16
def ctxWrites (ws : List Word) : Bool := cw ws 0 27 27 == 1

/-- A context changed in place; one that the buffer does not deliver stays as it is (R321). -/
def State.ctxUpd (s : State) (i : Nat) (f : List Word → List Word) : State :=
  match s.ctxRead i with
  | (s, some ws) => s.ctxWrite i (f ws)
  | (s, none) => s

/-- Context `i` opened or freed: the contexts not FREE, and their count in STM_STAT (R289). -/
def State.openCount (s : State) (i : Nat) (up : Bool) : State :=
  let l := s.stm.opened.filter (· != i)
  let l := if up then l ++ [i] else l
  { s with stm := { s.stm with opened := l } }.setFld Reg.STM_STAT_OPEN 0 l.length

/-- TPS of a RATE (R265). -/
def tpsOf (rate : Nat) : Nat := if rate = 0 then 0 else (rnd (28311552 * 65536 / (10 * ((rate : Nat) : Rat)))).toNat

/-- WIN_EFF and CLAMP of a context (R270). -/
def State.winEff (s : State) (ws : List Word) : List Word :=
  let c := ctxCls ws
  let w := cw ws 8 15 0
  let e := min w (min (s.clsSlots c) (2 ^ s.fldJ Reg.STM_CLS_RING_LOG2 0 c))
  cwPut (cwPut ws 8 31 16 e) 0 15 15 (bit01 (e < w))

/-- A difference of two ticks as the STM compares them: signed, 32 bits. -/
def tickDiff (a b : Nat) : Int := signed 32 (a % 2 ^ 32 + 2 ^ 32 - b % 2 ^ 32)

def State.tick32 (s : State) : Nat := s.tick % 2 ^ 32

/-- Entry of a stream's ring for an LBA (R271). -/
def State.ringPut (s : State) (cls ring lba st fail slot : Nat) : State :=
  let n := 2 ^ s.fldJ Reg.STM_CLS_RING_LOG2 0 cls
  let a := s.pair Reg.STM_CLS_RING_BASE_LO Reg.STM_CLS_RING_BASE_HI 0 cls + ring * n * 4 + lba % n * 4
  (s.cWrite a (leBytes 4 (st * 2 ^ 30 + fail * 2 ^ 28 + slot)) false).1

/-- The ring entry of a stream's LBA, with the ring that its context names. -/
def State.streamRing (s : State) (i lba st fail slot : Nat) : State :=
  match s.ctxRead i with
  | (s, some ws) => s.ringPut (ctxCls ws) (cw ws 15 19 0) lba st fail slot
  | (s, none) => s

/-- Sectors of a stream that are admitted and have not ended. -/
def State.streamWork (s : State) (i : Nat) : List Sector := s.stm.sectors.filter fun x => x.stream == some i && !x.dropped

/-- A command fetched before a Close of a stream has not been carried out yet (R280). -/
def State.beforeClose (s : State) (i : Nat) : Bool :=
  (s.stm.closes.filter fun c => c.1 == i).any fun x =>
    match s.cmd x.2.1 x.2.2 with
    | none => false
    | some y => s.cmds.any fun c =>
        let d := c.2.2
        !d.begun && !d.admin && decide (0x82 ≤ d.opcode) && decide (d.opcode ≤ 0x87) && (bitsOf (d.cdw 13) 19 0 == i)
          && decide (d.seqno < y.seqno)

/-- No work of a stream is left that its Close waits for (R264, R280). -/
def State.streamIdle (s : State) (i : Nat) : Bool :=
  !(s.stm.sectors.any fun x => x.stream == some i) && s.stm.closes.any (fun c => c.1 == i) && !s.beforeClose i
    && !(s.cmds.any fun c => c.2.2.stream == some i && decide (c.2.2.admitted < c.2.2.count))

/-- A closed stream is FREE: its ring and index come back and its Close completes (R264, R280). -/
def State.streamFree (s : State) (i : Nat) : State :=
  let done := s.stm.closes.filter fun c => c.1 == i
  let s := { s with stm := { s.stm with
    rings := s.stm.rings.filter fun r => r.2.2 != i
    closes := s.stm.closes.filter fun c => c.1 != i
    ringFailed := s.stm.ringFailed.filter fun f => f.1 != i
    lost := s.stm.lost.filter (· != i) } }
  done.foldl (fun s c => s.complete c.2.1 c.2.2 scOk 0) (s.openCount i false)

/-- A stream's state after one of its sectors ended (R264). -/
def State.streamSettle (s : State) (i : Nat) : State :=
  match s.ctxRead i with
  | (s, none) =>
    if s.stm.lost.contains i ∧ s.streamIdle i then
      ((s.bufWrite (s.ctxAddr i) (List.replicate 64 0)).1).streamFree i
    else s
  | (s, some ws) =>
    let slots := (s.stm.sectors.filter fun x => x.stream == some i).map fun x => slotK x.cls x.slot
    let given := ((s.streamWork i).filter fun x => x.st == .granted).length
    let ws := cwPut (cwPut ws 13 31 16 slots.eraseDups.length) 13 15 0 given
    let s := s.ctxWrite i ws
    let busy := (s.streamWork i).filter fun x => decide (x.st ≠ .served)
    let st := ctxState ws
    if st = ctxRunning ∧ busy = [] then s.ctxWrite i (cwPut ws 0 31 28 ctxOpen)
    else if (st = ctxClosing ∨ st = ctxBroken) ∧ s.streamIdle i then
      (s.ctxWrite i (cwPut ws 0 31 28 ctxFree)).streamFree i
    else s

/-! ## Actuator records and queues (R275, R286) -/

def State.act (s : State) (a : Nat) : ActS := mget (fun _ => ({} : ActS)) s.stm.acts a
def State.setAct (s : State) (a : Nat) (x : ActS) : State :=
  { s with stm := { s.stm with acts := mset (fun _ => ({} : ActS)) s.stm.acts a x } }

/-- Sectors in an actuator's queue. -/
def State.queueOf (s : State) (a : Nat) : List Sector :=
  s.stm.sectors.filter fun x => x.act == a && !x.remote && x.st == .queued

/-! ## Sectors -/

/-- Another sector uses the same slot: a twin, or the other copy of a write. -/
def State.slotShared (s : State) (x : Sector) : Bool :=
  s.stm.sectors.any fun y => y.tag != x.tag && y.cls == x.cls && y.slot == x.slot

/-- A slot comes back to its class, or to the reserve of the peer whose write it held (R460). -/
def State.freeSlot (s : State) (x : Sector) : State :=
  if s.slotShared x then s
  else
    let s := s.setSlot x.cls x.slot 0
    match x.peer with
    | some (i, _) =>
      let e := s.pe i
      let back := s.peerState i == peerActive && decide (e.reserved < s.fld Reg.PFB_CFG_RX_WIN 0)
      (if back then s.setPe i { e with reserved := e.reserved + 1 } else s).clsFree x.cls
    | none => s

/-- A gate, a codeword or encoder work under way carries the TAG: it releases its credits itself (R26, R72, R127). -/
def State.tagBusy (s : State) (tag : Nat) : Bool :=
  s.dec.queue.any (fun c => c.tag == tag)
  || (List.range s.nDec).any (fun d =>
      ((s.decoder d).run.toList ++ (s.decoder d).next.toList).any fun w => w.cw.tag == tag)
  || s.rch.any (fun e => e.2.queue.any (fun g => g.tag == tag)
      || e.2.live.any (fun g => g.req.tag == tag) || e.2.replay.any (fun g => g.req.tag == tag))

/-- A sector's credits given up, unless an attempt under way holds them (R27, R147, R402). -/
def State.giveCredits (s : State) (x : Sector) : State :=
  if s.tagBusy x.tag then s
  else
    let s := match x.soft with | some k => s.releaseSoft k x.tag | none => s
    if x.decCredit then s.releaseDcred x.tag else s

/-- A command's result comes when its last sector has ended and none of its transfers is under way. -/
def State.cmdPoll (s : State) (p k : Nat) : State :=
  match s.cmd p k with
  | none => s
  | some c =>
    let out := s.stm.sectors.any fun x => x.cmd == some (p, k) && !x.dropped
    let done := if c.writes && !c.through then decide (c.count ≤ c.ended + c.arrived) else decide (c.count ≤ c.ended) && !out
    if c.begun && done && !c.handed then s.complete p k c.fail c.result
    else s

/-- One more sector of a command has ended, with a status. -/
def State.cmdEnd (s : State) (pk : Nat × Nat) (status : Nat) : State :=
  match s.cmd pk.1 pk.2 with
  | none => s
  | some c => s.setCmd pk.1 pk.2 (some { c with ended := c.ended + 1, fail := if c.fail = 0 then status else c.fail })

/-- A transfer of a read sector: CREDIT for its slot, and with the command's last sector the completion (R334). -/
def State.handRead (s : State) (x : Sector) : State :=
  match x.cmd with
  | none => s
  | some (p, k) =>
    match s.cmd p k with
    | none => s
    | some c =>
      let c := { c with ended := c.ended + 1 }
      let last := decide (c.count ≤ c.ended)
      let c := if last && c.fail == 0 then { c with handed := true } else c
      let s := s.setCmd p k (some c)
      if c.opcode = 0x0C ∧ ¬ c.admin then s
      else
        let f : Xfer :=
          { toHost := true, len := 4096, host := c.prps.getD (x.lba - c.slba) 0, buf := s.slotAddr x.cls x.slot, p0 := 0x1000,
            p1 := if c.handed then (if p = 0 then 0x3000 else 0x4000) + k else 0, tag := slotK x.cls x.slot }
        s.addReady p c.stream.isSome f

/-- A Verify needs no transfer: its sector's slot is free once it was read (R370). -/
def State.verifyDone (s : State) (x : Sector) : State :=
  match x.cmd with
  | none => s
  | some (p, k) =>
    match s.cmd p k with
    | some c =>
      if c.opcode = 0x0C ∧ ¬ c.admin then
        let s := ((s.dropSector x.tag).freeSlot x).setCmd p k (some { c with handed := false })
        s.cmdPoll p k
      else s
    | none => s

/-- A result for a sector that nobody waits for any more: its slot is free (R272, R371). -/
def State.discard (s : State) (x : Sector) : State :=
  let s := (s.dropSector x.tag).freeSlot x
  match x.stream with | some i => s.streamSettle i | none => s

/-- A read sector's data is in its slot (R19): to the ring, to the command's transfer, or to the peer that asked. -/
def State.readServed (s : State) (x : Sector) : State :=
  let s := s.setSector { x with st := .served, data := true, soft := none, decCredit := false }
  let s := match x.stream with | some i => s.streamRing i x.lba 2 0 x.slot | none => s
  match x.peer with
  | some (i, pseq) =>
    let bs := (s.bufRead (s.slotAddr x.cls x.slot) 4096).getD (List.replicate 4096 0)
    let s := if x.op = 3 then s.rebuildSend i pseq x.nsid x.keyGen x.lba bs
      else s.peerAnswer i 0x21 pseq (List.replicate 16 0 ++ bs)
    (s.dropSector x.tag).freeSlot x
  | none =>
    let s := (s.handRead x).verifyDone x
    match x.stream with | some i => s.streamSettle i | none => s

/-- A read sector fails: 0 unrecovered, 1 path error, 2 aborted (R171, R271, R283). -/
def State.readFailed (s : State) (x : Sector) (kind status : Nat) : State :=
  let s := s.giveCredits x
  let s := (s.dropSector x.tag).freeSlot x
  let s := match x.twin with | some t => s.dropSector t | none => s
  let s := match x.stream with
    | some i =>
      let s := s.streamRing i x.lba 3 kind 0
      let s := if x.cmd.isNone then
          { s with stm := { s.stm with ringFailed := s.stm.ringFailed.filter (fun f => (f.1, f.2.1) != (i, x.lba)) ++ [(i, x.lba, kind)] } }
        else s
      let s := s.ctxUpd i fun ws =>
        if kind = 0 then cwPut (cwPut ws 0 13 13 1) 14 15 0 (min 65535 (cw ws 14 15 0 + 1)) else cwPut ws 0 12 12 1
      s.streamSettle i
    | none => s
  match x.peer with
  | some (i, pseq) =>
    if x.op = 3 then s.rebuildEnd i pseq (if kind = 1 then 3 else 4) else s.peerAnswer i 0x21 pseq [if kind = 1 then 3 else 4]
  | none =>
    match x.cmd with
    | some pk => (s.cmdEnd pk status).cmdPoll pk.1 pk.2
    | none => s

/-! ## Ends of writes (R158, R153, R279) -/

/-- A Flush that depends on a sector's failure learns of it; with none waiting, the next one will (R153, R548). -/
def State.flushFailed (s : State) (nsid seqno : Nat) : State :=
  let hit := s.cmds.filter fun x =>
    !x.2.2.admin && x.2.2.opcode == 0 && (x.2.2.nsidField == nsid || x.2.2.nsidField == 0xFFFFFFFF)
      && decide (seqno < x.2.2.seqno)
  if hit = [] then
    if s.stm.owed.contains nsid then s else { s with stm := { s.stm with owed := s.stm.owed ++ [nsid] } }
  else hit.foldl (fun s x => s.setCmd x.1 x.2.1 (some { x.2.2 with flushFail := true })) s

/-- The write's LBA has no other copy still on its way. -/
def State.lastCopy (s : State) (x : Sector) : Bool :=
  !(s.stm.sectors.any fun y =>
      y.op == 1 && y.tag != x.tag && y.nsid == x.nsid && y.lba == x.lba && y.order == x.order)

/-- FETCH_LBA of a write stream: its lowest LBA not yet durable (R262). -/
def State.fetchWrite (s : State) (i : Nat) : State :=
  s.ctxUpd i fun ws =>
    if ctxWrites ws then
      let m := (s.stm.sectors.filter fun x => x.op == 1 && x.stream == some i).foldl (fun m x => min m x.lba) (cw64 ws 2)
      let w := s.cmds.filter fun c => c.2.2.stream == some i && c.2.2.writes && decide (c.2.2.admitted < c.2.2.count)
      cwPut64 ws 4 (w.foldl (fun m c => min m (c.2.2.slba + c.2.2.admitted)) m)
    else ws

/-- A write sector leaves, durable or failed: its LBA ends for its command, stream and peer with its last copy. -/
def State.writeGone (s : State) (x : Sector) (ok : Bool) : State :=
  let last := s.lastCopy x
  let s := (s.dropSector x.tag).freeSlot x
  let s := if ok then { s with stm := { s.stm with failed := s.stm.failed.filter (· != (x.nsid, x.lba)) } } else s
  let s := match x.stream with | some i => (s.fetchWrite i).streamSettle i | none => s
  if !last then s
  else
    let s := match x.peer with
      | some (i, pseq) => s.mwack i pseq 2 (if !ok then 4 else if x.lost then 5 else 0)
      | none => s
    match x.cmd with
    | none => s
    | some pk =>
      match s.cmd pk.1 pk.2 with
      | none => s
      | some c => if c.through then (s.cmdEnd pk (if ok then 0 else scWriteFault)).cmdPoll pk.1 pk.2 else s

/-- Writes whose media work went to a later one end with it (R155). -/
def State.mergedInto (s : State) (tag : Nat) : List Sector :=
  s.stm.sectors.filter fun y => y.st == .merged tag

/-- A write sector ends: itself and those merged into it, however long the chain. -/
def State.writeEnds (s : State) (x : Sector) (ok : Bool) : Nat → State
  | 0 => s.writeGone x ok
  | n + 1 =>
    let ys := s.mergedInto x.tag
    let s := s.writeGone x ok
    ys.foldl (fun s y => if y.op = 1 then State.writeEnds s y ok n else s) s

/-- The sector failed: the LBA reads as unrecovered until it is written again, and a Flush reports it (R153). -/
def State.writeFailed (s : State) (x : Sector) : State :=
  let s := s.giveCredits x
  let s := if s.stm.failed.contains (x.nsid, x.lba) then s
    else { s with stm := { s.stm with failed := s.stm.failed ++ [(x.nsid, x.lba)] } }
  let s := if x.ctrl.isSome then s.flushFailed x.nsid x.seqno else s
  let zk := zoneKey x.act x.zone
  let s := if (s.zone zk).shingled ∧ ¬ x.remote then s.setZone zk { s.zone zk with zstate := 2 } else s
  s.writeEnds x false s.stm.sectors.length

/-- A slip-table copy passed verify: the entries it holds count for DURABLE (R154). -/
def State.slipCopyDone (s : State) (x : Sector) (zk c : Nat) : State :=
  let t := (s.bufRead (s.slotAddr x.cls x.slot) 512).getD []
  let held := (List.range 64).filter fun k => slipValid (leNat ((t.drop (8 * k)).take 8))
  let keys := (if held = [] then [64] else held).map fun k => (zk * 2 + c) * 128 + k
  let s := { s with stm := { s.stm with slipOk := s.stm.slipOk ++ keys.filter fun k => !s.stm.slipOk.contains k } }
  let s := ((s.giveCredits x).dropSector x.tag).freeSlot x
  let s := s.slipSettle zk
  if held = [] ∧ [0, 1].all (fun c => s.stm.slipOk.contains ((zk * 2 + c) * 128 + 64)) then
    let done := s.stm.zoneResets.filter fun r => r.1 == zk
    let s := { s with stm := { s.stm with zoneResets := s.stm.zoneResets.filter fun r => r.1 != zk } }
    done.foldl (fun s r => if s.stm.zoneResets.any (fun q => q.2 == r.2) then s else s.complete r.2.1 r.2.2 scOk 0) s
  else s

/-- A verified sector is durable once the slip entries of its lookup are DURABLE (R158). -/
def State.durableCheck (s : State) (tag : Nat) : State :=
  match s.sector tag with
  | none => s
  | some x =>
    if !x.verified || x.op != 1 then s
    else
      match s.slipMap (zoneKey x.act x.zone) x.p0 with
      | (s, some (p, true)) => if p = x.p then s.writeEnds x true s.stm.sectors.length else s
      | (s, _) => s

/-- Every verified sector looked at again, after entries became DURABLE. -/
def State.durableSweep (s : State) : State :=
  ((s.stm.sectors.filter fun x => x.verified).map Sector.tag).foldl (fun s t => s.durableCheck t) s

/-- A sector back in its actuator's queue for another pass, without credits (R275). -/
def State.requeue (s : State) (x : Sector) : State :=
  s.setSector { x with st := .queued, soft := none, decCredit := false }

/-- Rewrite-forward of a sector, or its failure (R152, R153). -/
def State.rewriteForward (s : State) (x : Sector) (rfwdMax : Nat) : State :=
  let s := s.giveCredits x
  let zk := zoneKey x.act x.zone
  let fail (s : State) : State :=
    let s := s.corrected srcSTM 1
    (s.mediaError 1 x.nsid x.lba (psaOf x.act x.zone x.p) (x.act / 2)).writeFailed x
  if rfwdMax ≤ x.forwards then fail s
  else
    match s.slipTake zk x.p0 with
    | (s, none) => fail s
    | (s, some k) =>
      let s := s.bump Reg.DEC_CNT_RFWD 0 1
      s.requeue { x with p := (s.zone zk).rsvBase + k, late := false, retries := 0, forwards := x.forwards + 1, verified := false }

/-! ## The write entry (R137) -/

/-- Word `i` of the write entry of a sector's head and zone. -/
def State.writeEntry (s : State) (x : Sector) : State × List Word :=
  let h := 10 * x.act + x.p % 10
  let a := s.pair Reg.DEC_WR_TBL_BASE_LO Reg.DEC_WR_TBL_BASE_HI 0 0 + (h * 256 + x.zone) * 16
  match s.cWords a 4 false with
  | (s, some ws) => (s, ws)
  | (s, none) => (s, [])

/-! ## Pulses of the data mover (R334, R335) -/

/-- The sectors that use a slot. -/
def State.slotSectors (s : State) (key : Nat) : List Sector :=
  s.stm.sectors.filter fun x => slotK x.cls x.slot == key

/-- Bytes of one slot copied to another; false when the buffer does not deliver or take them. -/
def State.copySlot (s : State) (src dst : Sector) : State × Bool :=
  match s.bufFetch (s.slotAddr src.cls src.slot) 4096 with
  | (s, some bs) => s.bufWrite (s.slotAddr dst.cls dst.slot) bs
  | (s, none) => (s, false)

/-- Reads that wait for a write's data are served from its slot (R23). -/
def State.serveReads (s : State) (w : Sector) : State :=
  ((s.mergedInto w.tag).filter fun y => y.op == 0).foldl (fun s y =>
    match s.copySlot w y with
    | (s, true) => s.readServed y
    | (s, false) => s.readFailed y 1 scPath) s

/-- Write data is present in its slot (R20, R21). -/
def State.writeArrived (s : State) (x : Sector) : State :=
  let first := !(s.stm.sectors.any fun y => y.tag != x.tag && y.cls == x.cls && y.slot == x.slot && y.data)
  let s := s.setSector { x with data := true }
  let s := s.serveReads x
  if !first then s
  else
    match x.cmd with
    | none => s
    | some (p, k) =>
      match s.cmd p k with
      | none => s
      | some c =>
        (s.setCmd p k (some { c with arrived := c.arrived + 1 })).cmdPoll p k

end Sys2Proof.Machine
end

