-- ==== Sys2Proof/Machine/StmSched.lean ====
section
/-!
DEFINITION. The stream engine's work: what commands ask of the maps, admission, the cost function, grants, and the fence
of an HDA or actuator (R266 to R281, R155, R156, R64, R159).
-/

namespace Sys2Proof.Machine

/-! ## What a command asks (R370, R148, R364) -/

/-- Zone status codes of the Zoned Namespace Command Set (R373; log entry 52). -/
def scZoneBoundary : Nat := 0x1B8
def scZoneFull : Nat := 0x1B9
def scZoneReadOnly : Nat := 0x1BA
def scZoneOffline : Nat := 0x1BB
def scZoneWrite : Nat := 0x1BC
def scZoneState : Nat := 0x1BF

/-- Zone size in LBAs of a ZONED namespace (R373). -/
def Ns.zsze (x : Ns) : Nat := 2 ^ Nat.clog 2 (x.extents.foldl (fun m e => max m e.count) 1)

/-- The zone of an LBA of a ZONED namespace: its extent's number. -/
def Ns.zoneOf (x : Ns) (lba : Nat) : Nat := lba / x.zsze

/-- Key of the zone that extent `i` of a namespace covers. -/
def Ns.zoneKeyOf (x : Ns) (i : Nat) : Option Nat := (x.extents[i]?).map fun e => zoneKey e.aAct e.aZone

/-- The state of a shingled zone as its namespace shows it: 0 Empty, 1 Open or Closed, 2 Full, 3 Read Only, 4 Offline, from
its write pointer and from R148, R153 and R157. -/
def zoneShown (z : Zone) (cap : Nat) : Nat :=
  if z.zstate = 3 then 4 else if z.zstate = 1 then 3 else if z.zstate = 2 ∨ cap ≤ z.wp then 2 else if z.wp = 0 then 0 else 1

/-- The status with which a read or write of `n` LBAs is refused; success when it can be served (R370, R148, R159). -/
def State.rangeCheck (s : State) (nsid lba n : Nat) (write mdts : Bool) : Nat :=
  let x := s.nsd nsid
  if s.mode = modeQuiescent then scNotReady
  else if ¬ (1 ≤ nsid ∧ nsid ≤ 128 ∧ x.valid) then scBadNs
  else if mdts && decide (512 < n) then scField
  else if x.size < lba + n then scRange
  else
    let es := (List.range n).map fun i => x.extent (lba + i)
    if es.any Option.isNone then (if x.zoned then scZoneBoundary else scRange)
    else
      let ok (e : Extent) (w : Bool) : Bool := s.copyOk x e false w || (x.mirror && s.copyOk x e true w)
      let off := x.zoned && es.any fun e => match e with
        | some e => (s.zone (zoneKey e.aAct e.aZone)).zstate == 3 | none => false
      if off then scZoneOffline
      else if es.any (fun e => match e with | some e => !ok e false | none => false) then scPath
      else if write && es.any (fun e => match e with | some e => !ok e true | none => false) then scWriteFault
      else scOk

/-- The further checks of a write to a zone at its write pointer (R157, R373). -/
def State.zoneWriteCheck (s : State) (nsid lba n : Nat) : Nat :=
  let x := s.nsd nsid
  if x.zoned then
    match x.extents[x.zoneOf lba]? with
    | none => scZoneBoundary
    | some e =>
      let z := s.zone (zoneKey e.aAct e.aZone)
      if zoneShown z e.count = 4 then scZoneOffline
      else if zoneShown z e.count = 3 then scZoneReadOnly
      else if zoneShown z e.count = 2 then scZoneFull
      else if lba ≠ e.lba + z.wp then scZoneWrite
      else if e.count < z.wp + n then scZoneBoundary
      else scOk
  else scOk

/-- The write pointer moves when the write is accepted (R157). -/
def State.advanceWp (s : State) (nsid lba n : Nat) : State :=
  let x := s.nsd nsid
  if x.zoned then
    match x.zoneKeyOf (x.zoneOf lba) with
    | some zk =>
      let z := s.zone zk
      s.setZone zk { z with wp := z.wp + n, zopen := if z.zopen = 2 then 0 else z.zopen }
    | none => s
  else s

/-! ## Admission (R267 to R269, R278, R279) -/

/-- The copies that a read is queued on: for a mirror with MSEL 0 both local ones as twins (R278). -/
def State.readCopies (s : State) (x : Ns) (e : Extent) (msel : Nat) : List Bool :=
  let ok (b : Bool) : Bool := s.copyOk x e b false
  if !x.mirror then [false].filter ok
  else if msel = 1 then [false].filter ok
  else if msel = 2 then [true].filter ok
  else if x.bRemote then (if ok false then [false] else [true].filter ok)
  else [false, true].filter ok

/-- The copies that a write is queued on: those that take writes; copy A waits when none does (R159, R279). -/
def State.writeCopies (s : State) (x : Ns) (e : Extent) : List Bool :=
  match (if x.mirror then [false, true] else [false]).filter fun b => s.copyOk x e b true with
  | [] => [false]
  | l => l

/-- The P in use of each copy; none when a slip table is not delivered (R151, R321). -/
def State.places (s : State) (x : Ns) (e : Extent) (lba : Nat) : List Bool → State × Option (List (Bool × Nat))
  | [] => (s, some [])
  | b :: bs =>
    let pl := e.place b lba
    if b && x.bRemote then
      match State.places s x e lba bs with
      | (s, some l) => (s, some ((b, pl.2.2) :: l))
      | (s, none) => (s, none)
    else
      match s.slipMap (zoneKey pl.1 pl.2.1) pl.2.2 with
      | (s, none) => (s, none)
      | (s, some (p, _)) =>
        match State.places s x e lba bs with
        | (s, some l) => (s, some ((b, p) :: l))
        | (s, none) => (s, none)

/-- Counts of an admission for the actuator's record (R286). -/
def State.noteAdmit (s : State) (a : Nat) : State :=
  let r := s.act a
  s.setAct a { r with admitted := r.admitted + 1, qmax := max r.qmax (s.queueOf a).length }

/-- The sectors of one LBA enter the queues under one slot: `proto` with a place for each copy (R278, R279). The second
result says that the maps were delivered. -/
def State.enqueueSectors (s : State) (proto : Sector) (x : Ns) (e : Extent) (copies : List Bool) : State × Bool :=
  match s.places x e proto.lba copies with
  | (s, none) => (s, false)
  | (s, some ps) =>
    let t0 := s.stm.nextTag
    let tags := (List.range ps.length).map fun i => (t0 + i) % 2 ^ 32
    let xs := (ps.zip (List.range ps.length)).map fun q =>
      let pl := e.place q.1.1 proto.lba
      let tw := if ps.length = 2 then some ((t0 + (1 - q.2)) % 2 ^ 32) else none
      let y : Sector := { proto with
        tag := (t0 + q.2) % 2 ^ 32, copyB := q.1.1, act := pl.1, zone := pl.2.1, p0 := pl.2.2, p := q.1.2,
        remote := q.1.1 && x.bRemote, order := s.stm.order, twin := tw, keyGen := x.keyGen, keySlot := proto.keySlot,
        flags := bit01 q.1.1 * 128 + bit01 x.zoned * 32 }
      y
    let s := { s with stm := { s.stm with
      sectors := s.stm.sectors ++ xs, nextTag := (t0 + tags.length) % 2 ^ 32, order := s.stm.order + 1 } }
    let s := s.bump Reg.STM_CNT_ADMIT 0 1
    (xs.foldl (fun s y => if y.remote then s else s.noteAdmit y.act) s, true)

/-- Earlier ungranted writes of the same place give up their media work; a peer's write loses to a local one (R155, R462). -/
def State.mergeWrites (s : State) (nsid lba order : Nat) : State :=
  let news := s.stm.sectors.filter fun y => y.op == 1 && y.nsid == nsid && y.lba == lba && y.order == order
  news.foldl (fun s n =>
    let f (y : Sector) : Sector :=
      if y.op = 1 ∧ y.nsid = nsid ∧ y.lba = lba ∧ y.copyB = n.copyB ∧ y.order < order then
        let y := { y with lost := y.lost || (y.peer.isSome && n.peer.isNone) }
        if y.st = .queued ∧ ¬ y.given then { y with st := .merged n.tag } else y
      else y
    { s with stm := { s.stm with sectors := s.stm.sectors.map f } }) s

/-- The PREAD of a remote sector (R458, R461). -/
def State.remoteRead (s : State) (x : Ns) (y : Sector) : State :=
  match s.remoteOf x with
  | some i =>
    s.peerRequest i 0x20 0 0 y.tag ([BitVec.ofNat 8 y.nsid] ++ beBytes 8 y.lba ++ beBytes 4 (y.deadline % 2 ^ 32))
  | none => s.readFailed y 1 scPath

/-- A read sector admitted with an earmarked slot: served from a write not yet durable, failed where the medium holds
nothing, or queued (R23, R153, R268). -/
def State.admitRead (s : State) (proto : Sector) (msel : Nat) : State :=
  let x := s.nsd proto.nsid
  match x.extent proto.lba with
  | none => s
  | some e =>
    let olds := s.stm.sectors.filter fun y =>
      y.op == 1 && y.nsid == proto.nsid && y.lba == proto.lba && y.slipOf == none && decide (y.seqno < proto.seqno)
    let w := olds.foldl (fun (m : Option Sector) y =>
      match m with | none => some y | some z => if z.order < y.order then some y else some z) none
    match w with
    | some w =>
      let (s, ok) := s.enqueueSectors proto x e [false]
      if !ok then
        let s := s.setSlot proto.cls proto.slot 0
        match proto.cmd with
        | some pk => (s.cmdEnd pk scInternal).cmdPoll pk.1 pk.2
        | none => s
      else
        match s.stm.sectors.getLast? with
        | none => s
        | some y =>
          if w.data then
            match s.copySlot w y with
            | (s, true) => s.readServed y
            | (s, false) => s.readFailed y 1 scPath
          else s.setSector { y with st := .merged w.tag }
    | none =>
      let copies := s.readCopies x e msel
      let (s, ok) := s.enqueueSectors proto x e (if copies = [] then [false] else copies)
      let ys := s.stm.sectors.filter fun y =>
        y.nsid == proto.nsid && y.lba == proto.lba && y.order + 1 == s.stm.order && y.op == proto.op
      match ys.head? with
      | none =>
        let s := s.setSlot proto.cls proto.slot 0
        match proto.cmd with
        | some pk => (s.cmdEnd pk scInternal).cmdPoll pk.1 pk.2
        | none => s
      | some y =>
        if !ok then s
        else if s.stm.failed.contains (proto.nsid, proto.lba) then s.readFailed y 0 scUnrecovered
        else if copies = [] then s.readFailed y 1 scPath
        else ys.foldl (fun s y => if y.remote then s.remoteRead x y else s) s

/-- The pair that decides between writes of one LBA: WEPOCH, then the origin's unit address (R462). -/
def pairLess (a b : Nat × Nat) : Bool := decide (a.1 < b.1) || (a.1 == b.1 && decide (a.2 < b.2))

/-- The pair of a write held here: a peer's own, or of a local write the epoch sent to its peer, of its grant, or now. -/
def State.writePair (s : State) (y : Sector) : Nat × Nat :=
  match y.origin with
  | some o => o
  | none =>
    let far := s.stm.sectors.find? fun z => z.remote && z.op == 1 && z.nsid == y.nsid && z.lba == y.lba && z.order == y.order
    match far with
    | some z => (if z.data then z.wepoch else s.epoch % 2 ^ 24, s.unitAddr)
    | none => (if y.given then y.wepoch else s.epoch % 2 ^ 24, s.unitAddr)

/-- The held write, of a peer or of this controller, with the same LBA and a larger pair than `o`: of one copy. -/
def State.winner (s : State) (nsid lba : Nat) (ofPeer : Bool) (o : Nat × Nat) : Option Sector :=
  s.stm.sectors.find? fun y =>
    y.op == 1 && y.nsid == nsid && y.lba == lba && y.slipOf == none && !y.remote && y.peer.isSome == ofPeer && !y.lost
      && (match y.st with | .merged _ => false | _ => true) && pairLess o (s.writePair y)

/-- A new local write that loses to a peer's write held here gives up its media work (R462). -/
def State.loseTo (s : State) (nsid lba order tag : Nat) : State :=
  let f (y : Sector) : Sector :=
    if y.op = 1 ∧ y.nsid = nsid ∧ y.lba = lba ∧ y.order = order ∧ ¬ y.remote then { y with st := .merged tag } else y
  { s with stm := { s.stm with sectors := s.stm.sectors.map f } }

/-- A write sector admitted with an earmarked slot (R155, R268, R279, R462). -/
def State.admitWrite (s : State) (proto : Sector) : State :=
  let x := s.nsd proto.nsid
  match x.extent proto.lba with
  | none => s
  | some e =>
    let order := s.stm.order
    match s.enqueueSectors proto x e (s.writeCopies x e) with
    | (s, true) =>
      match s.winner proto.nsid proto.lba true (s.epoch % 2 ^ 24, s.unitAddr) with
      | some w => s.loseTo proto.nsid proto.lba order w.tag
      | none => s.mergeWrites proto.nsid proto.lba order
    | (s, false) =>
      let s := s.setSlot proto.cls proto.slot 0
      match proto.cmd with
      | some pk => (s.cmdEnd pk scInternal).cmdPoll pk.1 pk.2
      | none => s

/-- The actuators that an LBA's sectors would join, for the room of R275. -/
def State.actsOf (s : State) (nsid lba : Nat) (write : Bool) (msel : Nat) : List Nat :=
  let x := s.nsd nsid
  match x.extent lba with
  | none => []
  | some e =>
    ((if write then s.writeCopies x e else s.readCopies x e msel).filter fun b => !(b && x.bRemote)).map fun b =>
      (e.place b lba).1

/-- Every queue has room for what a piece adds to it (R275). -/
def State.queueRoom (s : State) (acts : List Nat) : Bool :=
  acts.all fun a => decide ((s.queueOf a).length + (acts.filter (· == a)).length ≤ 8192)

/-! ## The cost function (R275 to R277) -/

/-- The points in use of a seek table: distance and time (R276). -/
def seekPoints (ws : List Word) : List (Nat × Nat) :=
  let pt (i : Nat) : Nat × Nat := (bitsOf (ws.getD i 0).toNat 31 16, bitsOf (ws.getD i 0).toNat 15 0)
  let ok := (List.range 15).takeWhile fun i => decide ((pt i).1 < (pt (i + 1)).1)
  (pt 0) :: ok.map fun i => pt (i + 1)

/-- The time of the table at a distance, in 1/16 tick (R276). -/
def seekTime (ps : List (Nat × Nat)) (d : Nat) : Int :=
  match ps with
  | [] => 0
  | [a] => a.2
  | _ =>
    let i := min ((ps.filter fun p => decide (p.1 ≤ d)).length - 1) (ps.length - 2)
    let a := ps.getD i (0, 0)
    let b := ps.getD (i + 1) (0, 0)
    ((a.2 : Int) : Rat) + (((d : Int) - (a.1 : Int) : Int) : Rat) * (((b.2 : Int) - (a.2 : Int) : Int) : Rat)
      / (((b.1 : Int) - (a.1 : Int) : Int) : Rat) |>.floor

/-- A spindle's reference angle in counts, with its fraction (R245). -/
def State.spnS (s : State) (n : Nat) : SpnS := mget (fun _ => ({} : SpnS)) s.spn n

/-- The sector may be a candidate now: its data is present, no earlier write of its place is under way, its actuator
takes it, and a shingled zone is written in order (R20, R155, R156, R277). -/
def State.candidate (s : State) (x : Sector) : Bool :=
  let zk := zoneKey x.act x.zone
  let z := s.zone zk
  let before := s.stm.sectors.any fun y =>
    y.op == 1 && y.nsid == x.nsid && y.lba == x.lba && y.copyB == x.copyB && decide (y.order < x.order)
      && y.slipOf == x.slipOf && y.given
  let order := if z.shingled && x.op == 1 then
      if x.p < z.dataP then decide (x.p / 10 ≤ z.nextP / 10)
      else !(s.queueOf x.act).any fun y => y.zone == x.zone && y.op == 1 && decide (z.dataP ≤ y.p) && decide (y.p < x.p)
    else true
  x.st == .queued && !x.remote && !s.actOut x.act
    && (x.op != 1 || x.late || (x.data && !s.wFenced x.act && !before && order))

/-- Time costs of a candidate stripe in 1/16 tick: T_acc and cost (R275). -/
def State.stripeCost (s : State) (a zone stripe : Nat) (xs : List Sector) (pts : List (Nat × Nat)) : Int × Int :=
  let z := s.zone (zoneKey a zone)
  let n := a / 2
  let sp := s.spnS n
  let k : Rat := ((sp.omega : Nat) : Rat) / 4294967296
  let cyl := z.cyl (10 * stripe)
  let now := (s.sv a).target
  let dist := ((cyl : Int) - (now : Int)).natAbs
  let wr := xs.any fun x => x.op == 1 && !x.late
  let wedges := s.fld Reg.SRV_FIELD_WEDGES a
  let extra : Int := if wr ∧ dist ≠ 0 ∧ wedges ≠ 0 then
      (((s.fld Reg.SRV_THR1_WR_N a : Nat) : Rat) * 46080 / ((wedges : Nat) : Rat) / k * 16).floor else 0
  let tSeek : Int := if dist = 0 then 0 else seekTime pts dist + extra
  let thetaS : Rat := ((z.ang0 : Nat) : Rat) + ((z.track (10 * stripe) : Nat) : Rat) * 46080 / ((max 1 z.spt : Nat) : Rat)
  let theta : Rat := ((sp.theta : Nat) : Rat) / 4294967296 - ((s.fld Reg.SPN_PHASE_OFFSET n : Nat) : Rat)
  let ahead : Rat := thetaS - theta - k * ((tSeek : Int) : Rat) / 16
  let turn : Rat := ahead - 46080 * (((ahead / 46080).floor : Int) : Rat)
  let wait := (turn / k * 16).floor
  let acc := tSeek + wait
  let due := xs.foldl (fun (m : Option Int) x =>
    let d := tickDiff x.deadline s.tick32
    match m with | none => some d | some e => some (min d e)) none
  let slack := due.getD 0 * 16 - acc
  let into := max 0 ((s.fld Reg.STM_SCHED_HORIZON 0 : Int) * 16 - slack)
  let w : Rat := ((s.fld Reg.STM_SCHED_W_DL 0 : Nat) : Rat) / 16
  (acc, acc - (w * ((into : Int) : Rat)).floor)

/-- The stripes of an actuator's queue that are candidates: zone and stripe. -/
def State.stripes (s : State) (a : Nat) : List (Nat × Nat) :=
  ((s.queueOf a).filter s.candidate).foldl (fun l x => if l.contains (x.zone, x.p / 10) then l else l ++ [(x.zone, x.p / 10)]) []

/-- The stripe that an actuator's scheduler chooses (R275). -/
def State.chooseStripe (s : State) (a : Nat) : State × Option (Nat × Nat) :=
  let band := s.fld Reg.SRV_STAT_BAND a
  let base := s.pair Reg.STM_SEEK_BASE_LO Reg.STM_SEEK_BASE_HI 0 0
  match s.cWords (base + (a * 8 + band) * 64) 16 false with
  | (s, none) => (s, none)
  | (s, some ws) =>
    let pts := seekPoints ws
    let best := (s.stripes a).foldl (fun (b : Option ((Nat × Nat) × Int × Int × Nat)) zs =>
      let xs := (s.queueOf a).filter fun x => x.zone == zs.1 && x.p / 10 == zs.2 && s.candidate x
      let c := s.stripeCost a zs.1 zs.2 xs pts
      let first := xs.foldl (fun m x => min m x.order) s.stm.order
      match b with
      | none => some (zs, c.2, c.1, first)
      | some (_, cost, acc, o) =>
        if c.2 < cost ∨ (c.2 = cost ∧ (c.1 < acc ∨ (c.1 = acc ∧ first < o))) then some (zs, c.2, c.1, first) else b) none
    (s, best.map fun b => b.1)

/-- The other members of the twins that a chosen stripe takes are withdrawn (R278). -/
def State.withdrawTwins (s : State) (a : Nat) (zs : Nat × Nat) : State :=
  let xs := (s.queueOf a).filter fun x => x.zone == zs.1 && x.p / 10 == zs.2 && x.op == 0 && x.twin.isSome
  xs.foldl (fun s x =>
    match x.twin with
    | none => s
    | some t =>
      match s.sector t with
      | some y => if y.op = 0 ∧ y.st = .queued then
          ((s.dropSector t).setSector { x with twin := none }).bump Reg.STM_CNT_TWIN 0 1 else s
      | none => s) s

/-! ## Grants (R25, R273, R401) -/

/-- The sector block of a grant (R401). -/
def State.sectorBlock (s : State) (x : Sector) (soft : Nat) : List Word :=
  let z := s.zone (zoneKey x.act x.zone)
  let kind := if x.op = 1 then 1 else 0
  let op := if x.op = 1 ∧ x.late then 2 else x.op
  let pri := if x.op = 3 then 2 else 0
  let iter := s.fld Reg.DEC_CTRL_STD_ITER 0
  let psa := psaOf x.act x.zone x.p
  let buf := s.slotAddr x.cls x.slot
  let slip := if z.rsvBase ≤ x.p then 64 else 0
  [word (9 * 2 ^ 28 + kind * 2 ^ 26 + pri * 2 ^ 24 + iter * 2 ^ 18 + x.p % 10 * 2 ^ 14 + op * 2 ^ 12 + soft), word x.tag,
   word (x.nsid * 2 ^ 24 + x.keyGen * 2 ^ 16 + x.keySlot), word x.lba, word (x.lba / 2 ^ 32), word psa,
   word (psa / 2 ^ 32 + (x.flags + slip) * 2 ^ 8), word buf, word (buf / 2 ^ 32), word (x.wepoch % 2 ^ 24),
   word (x.stream.getD x.mark), word x.deadline, word (z.cyl x.p % 2 ^ 24), word (z.track x.p),
   word x.zone]

/-- A grant: the credits are taken, the earmark becomes the buffer credit, and the record goes to the actuator's format
sequencer (R25, R273, R275, R286). -/
def State.grantSector (s : State) (x : Sector) (soft : Nat) : State :=
  let zk := zoneKey x.act x.zone
  let z := s.zone zk
  let late := decide (tickDiff x.deadline s.tick32 < 0)
  let x := { x with st := .granted, soft := some soft, decCredit := true, given := true,
                    wepoch := if x.op = 1 ∧ ¬ x.late then s.epoch % 2 ^ 24 else x.wepoch }
  let s := (s.setSector x).setSlot x.cls x.slot 2
  let s := s.sendRec x.act 3 (s.sectorBlock x soft)
  let r := s.act x.act
  let s := s.setAct x.act { r with served := r.served + 1, late := r.late + bit01 late }
  let s := s.bump Reg.STM_CNT_GRANT 0 1
  let s := if late then s.bump Reg.STM_CNT_LATE 0 1 else s
  let s := if z.shingled ∧ x.op = 1 ∧ ¬ x.late ∧ x.p < z.dataP ∧ z.nextP ≤ x.p then
      let s := s.setZone zk { z with nextP := x.p + 1 }
      let a := s.pair Reg.STM_ZONE_BASE_LO Reg.STM_ZONE_BASE_HI 0 0 + zk * 64 + 44
      (s.cWrite a (leBytes 4 (x.p + 1)) false).1
    else s
  let s := s.setIdle (x.act / 2) { s.idle (x.act / 2) with last := s.tick }
  match x.stream with
  | some i =>
    let s := if late then s.ctxUpd i fun ws => cwPut (cwPut ws 0 14 14 1) 14 31 16 (min 65535 (cw ws 14 31 16 + 1)) else s
    s.streamSettle i
  | none => s

/-! ## Fences (R64, R159, R278, R279) -/

/-- Another copy of a sector's LBA that serves it: copy B or A, when it lies on no fenced HDA (R170, R278). A peer's work
stays on this controller (R461). -/
def State.otherCopy (s : State) (x : Sector) (write : Bool) : Option (Ns × Extent × Bool) :=
  let d := s.nsd x.nsid
  if !d.mirror then none
  else
    match d.extent x.lba with
    | none => none
    | some e =>
      let away := !x.copyB && d.bRemote && x.peer.isSome
      if !away && s.copyOk d e (!x.copyB) write then some (d, e, !x.copyB) else none

/-- A read sector moves to its other copy, with the same slot and TAG (R170). -/
def State.moveCopy (s : State) (x : Sector) : State :=
  match s.otherCopy x false with
  | none => s.readFailed x 1 scPath
  | some (d, e, b) =>
    let s := s.giveCredits x
    let pl := e.place b x.lba
    if b && d.bRemote then
      let y := { x with copyB := b, remote := true, st := .queued, soft := none, decCredit := false, twin := none }
      (s.setSector y).remoteRead d y
    else
      match s.slipMap (zoneKey pl.1 pl.2.1) pl.2.2 with
      | (s, none) => s.readFailed x 1 scInternal
      | (s, some (p, _)) =>
        s.setSector { x with copyB := b, remote := false, act := pl.1, zone := pl.2.1, p0 := pl.2.2, p := p, st := .queued,
                             soft := none, decCredit := false, twin := none, flags := x.flags % 128 + bit01 b * 128 }

/-- A sector of a fenced actuator: a read goes to its twin or other copy, or fails with the path error; a write lives on
in its other copy, or waits in its slot (R64, R159, R279). -/
def State.fenceSector (s : State) (x : Sector) : State :=
  if x.op ≠ 1 ∧ (x.st = .queued ∨ x.st = .granted) then
    match x.twin with
    | some t =>
      match s.sector t with
      | some y => if s.actOut y.act then s.moveCopy x else ((s.giveCredits x).dropSector x.tag).setSector { y with twin := none }
      | none => s.moveCopy x
    | none => s.moveCopy x
  else if x.op = 1 ∧ x.slipOf = none then
    let other := s.stm.sectors.any fun y =>
      y.op == 1 && y.tag != x.tag && y.nsid == x.nsid && y.lba == x.lba && y.order == x.order
        && (y.remote || !s.actOut y.act)
    if other then ((s.giveCredits x).dropSector x.tag)
    else if x.st = .granted then (s.giveCredits x).requeue x else s
  else if x.st = .granted then (s.giveCredits x).requeue x
  else s

/-- The STM fences actuators: their sectors and chosen stripes (R64, R204). -/
def State.fenceActs (s : State) (acts : List Nat) : State :=
  let xs := s.stm.sectors.filter fun x => acts.contains x.act && !x.remote
  let s := xs.foldl (fun s x => match s.sector x.tag with | some y => s.fenceSector y | none => s) s
  acts.foldl (fun s a => s.setAct a { s.act a with stripe := none }) s

/-- Writes of an actuator fenced for writes: granted ones go back to wait, or live on in their other copy (R148). -/
def State.fenceWrites (s : State) (a : Nat) : State :=
  let xs := s.stm.sectors.filter fun x => x.act == a && !x.remote && x.op == 1
  xs.foldl (fun s x =>
    match s.sector x.tag with
    | none => s
    | some x =>
      let other := x.slipOf == none && s.stm.sectors.any fun y =>
        y.op == 1 && y.tag != x.tag && y.nsid == x.nsid && y.lba == x.lba && y.order == x.order
          && (y.remote || (!s.actOut y.act && !s.wFenced y.act))
      if other then (s.giveCredits x).dropSector x.tag
      else if x.st = .granted then (s.giveCredits x).requeue x else s) s

/-- ANA state of a namespace: 0 not VALID, 1 Optimized, 2 Inaccessible (R364). -/
def State.ana (s : State) (n : Nat) : Nat :=
  let x := s.nsd n
  if !x.valid then 0
  else if x.extents.any (fun e => !s.hdaFenced (e.aAct / 2) || (x.mirror && !x.bRemote && !s.hdaFenced (e.bAct / 2))) then 1
  else 2

/-- The ANA states of every namespace. -/
def State.anaAll (s : State) : List Nat := (List.range 129).map s.ana

/-- A change of an ANA state gives its notice (R364). -/
def State.anaNotice (s : State) (before : List Nat) : State :=
  if before = s.anaAll then s else s.notice noticeAna

end Sys2Proof.Machine
end

