-- ==== Sys2Proof/Machine/SpnOps.lean ====
section
/-!
DEFINITION. A spindle controller (R227 to R256): drive, commutation, speed loop, ramps, HDA states, braking and bus
supervision, with the fence of an HDA in the stream engine.
-/

namespace Sys2Proof.Machine

def hdaAbsent : Nat := 0
def hdaStopped : Nat := 1
def hdaStarting : Nat := 2
def hdaSpinning : Nat := 3
def hdaTracking : Nat := 4
def hdaSlewing : Nat := 5
def hdaBraking : Nat := 6

def State.setSpn (s : State) (n : Nat) (x : SpnS) : State :=
  { s with spn := mset (fun _ => ({} : SpnS)) s.spn n x }

def State.hdaState (s : State) (n : Nat) : Nat := s.fld Reg.SPN_STAT_HDA_STATE n

/-- The HDA's state changes, with source 9 in the sequencers concerned and, on Absent and Stopped, an Attic record
(R229, R403, R493). -/
def State.hdaTo (s : State) (n st : Nat) : State :=
  let old := s.hdaState n
  if old = st then s
  else
    let s := s.setFld Reg.SPN_STAT_HDA_STATE n st
    let s := if st = hdaAbsent ∨ st = hdaStopped then
        s.atticEvent 29 [word n, word old, word st, s.rd Reg.SPN_STAT n 0] else s
    s.hdaEvent n

/-- Heads loaded: an engine of the HDA is in a state other than Unloaded and Fenced (R229). -/
def State.hdaLoaded (s : State) (n : Nat) : Bool := s.loaded (2 * n) || s.loaded (2 * n + 1)

/-- An HDA counts as fenced in the stream engine: its sectors, and the codewords of its format sequencers (R64, R130). -/
def State.stmFenceHda (s : State) (n : Nat) : State :=
  let ana := s.anaAll
  let s := [2 * n, 2 * n + 1].foldl (fun s q => s.cancelAll q) s
  (s.fenceActs [2 * n, 2 * n + 1]).anaNotice ana

/-! ## Figures -/

/-- Pole pairs. -/
def State.pp (s : State) (n : Nat) : Nat := max 1 (s.fld Reg.SPN_MOTOR_PP n)

/-- T_step: the mean of the accepted intervals, in ticks of link time (R233). -/
def SpnS.tStep (x : SpnS) : Rat :=
  if x.ints = [] then 0 else ((x.ints.foldl (· + ·) 0 : Nat) : Rat) / ((x.ints.length : Nat) : Rat)

/-- Speed in rpm of an edge interval: 6 × PP edges a revolution, 1.25 × 10^9 ticks a second. -/
def rpmOf (pp : Nat) (t : Rat) : Rat := if t = 0 then 0 else 12500000000 / (((pp : Nat) : Rat) * t)

/-- Counts per time-base tick of a speed in rpm (R228). -/
def countsOf (rpm : Rat) : Rat := rpm * 64 / 7200

/-- D_ff at a speed (R247). -/
def State.dff (s : State) (n : Nat) (rpm : Rat) : Rat :=
  let ke := s.fld Reg.SPN_MOTOR_KE n
  let v := s.fld Reg.SPN_VBUS_MV n
  if v = 0 then Config.dutyNoBus ke rpm else 65536 * ((ke : Nat) : Rat) * rpm / (1000 * ((v : Nat) : Rat))

/-- The present link time of a port, at its next frame (R41). -/
def State.linkNow (s : State) (n : Nat) : Nat := (s.hl n).frame * 64 % 2 ^ 32

/-- Signed difference of two link times. -/
def linkDiff (a b : Nat) : Int := signed 32 (a % 2 ^ 32 + 2 ^ 32 - b % 2 ^ 32)

/-! ## Drive (R231 to R235) -/

/-- Phase modes of a commutation step, and the edge that its floating phase shows: phase and rising (R231). -/
def stepModes (k : Nat) : Nat := [0x60, 0x48, 0x18, 0x90, 0x84, 0x24].getD k 0
def stepEdge (k : Nat) : Nat × Bool := [(2, false), (1, true), (0, false), (2, true), (1, false), (0, true)].getD k (2, false)

/-- The step whose floating phase shows an edge. -/
def edgeStep (phase : Nat) (rising : Bool) : Nat := ((List.range 6).find? fun k => stepEdge k == (phase, rising)).getD 0

/-- Shunt sample instants of a duty (R235). -/
def State.shuntA (s : State) (n duty : Nat) : Nat :=
  let on : Rat := ((duty * s.fld Reg.SPN_PWM_PERIOD n : Nat) : Rat) / 65536
  if on < ((s.fld Reg.SPN_PWM_MIN_ON n : Nat) : Rat) then 0xFFFF else (rnd (on / 2)).toNat
def State.shuntB (s : State) (n duty : Nat) : Nat :=
  let per : Rat := ((s.fld Reg.SPN_PWM_PERIOD n : Nat) : Rat)
  let on : Rat := ((duty : Nat) : Rat) * per / 65536
  if per - on < ((s.fld Reg.SPN_PWM_MIN_ON n : Nat) : Rat) then 0xFFFF else (qz 23 ((on + per) / 2)).toNat

/-- A SPINDLE block of the spindle class (R50, R234). -/
def State.drive (s : State) (n apply modes mode duty : Nat) : State :=
  s.sendCmd n 3 (spindleBlock (apply % 2 ^ 32) modes mode duty (s.fld Reg.SPN_PWM_PERIOD n) (s.shuntA n duty) (s.shuntB n duty))
    (.spindle n)

/-- Drive modes without phase modes: short brake, coast and regenerative braking, at once. -/
def State.shortBrake (s : State) (n : Nat) : State := s.drive n (s.linkNow n) 0 1 0
def State.coast (s : State) (n : Nat) : State := s.drive n (s.linkNow n) 0 2 0
def State.regen (s : State) (n : Nat) : State := s.drive n (s.linkNow n) 0 3 0

/-- A commutation step applied with a duty (R231, R234). -/
def State.phaseStep (s : State) (n apply k duty : Nat) : State :=
  (s.drive n apply (stepModes k) 0 duty).setFld Reg.SPN_DUTYNOW_D n duty

/-! ## Reference angle, ramps and anchors (R245, R251) -/

/-- theta_ref and omega_ref anchored to the time base (R245). -/
def State.anchor (s : State) (n : Nat) : State :=
  let k := s.fld Reg.SPN_TARGET_K n
  s.setSpn n { s.spnS n with omega := k * 2 ^ 32, theta := k * s.tick % 46080 * 2 ^ 32 }

/-- A ramp towards the target starts (R251). -/
def State.rampStart (s : State) (n : Nat) : State :=
  let s := s.setFld Reg.SPN_STAT_RAMP n 1
  s.setSpn n { s.spnS n with rampAt := none, rampK := s.fld Reg.SPN_TARGET_K n, trkRun := 0 }

/-- The ramp increment in force (R251). -/
def State.rampInc (s : State) (n : Nat) : Nat :=
  if s.hdaLoaded n then min (s.fld Reg.SPN_RAMP_LD_INC n) 13256 else s.fld Reg.SPN_RAMP_UL_INC n

/-! ## HDA states (R230, R250) -/

/-- The latest speed error is below 0.05% (R250). -/
def State.speedOk (s : State) (n : Nat) : Bool :=
  let x := s.spnS n
  let d : Int := (x.omega : Int) - (x.omegaM : Int) * 256
  decide (d.natAbs * 2000 < x.omega)

def State.following (s : State) (a : Nat) : Bool := s.srvState a == srvFollowing

/-- The moves of R230 that follow from the engines' states, the ramp and the speed error. -/
def State.spnPoll (s : State) (n : Nat) : State :=
  let st := s.hdaState n
  let x := s.spnS n
  let ramp := s.flag Reg.SPN_STAT_RAMP n
  let steady := !ramp && decide (s.fld Reg.SPN_PULL_TRK_N n ≤ x.trkRun)
  if st = hdaStarting then
    if s.fld Reg.SPN_STAT_PHASE n = 5 ∧ x.closed ∧ steady then
      ((s.setFld Reg.SPN_CTRL_START n 0).hdaTo n hdaSpinning).anchor n
    else s
  else if st = hdaSpinning ∧ s.hdaLoaded n then
    if ramp || !s.speedOk n then s.hdaTo n hdaSlewing
    else if s.following (2 * n) || s.following (2 * n + 1) then s.hdaTo n hdaTracking else s
  else if (st = hdaTracking ∨ st = hdaSlewing) ∧ ¬ s.hdaLoaded n then s.hdaTo n hdaSpinning
  else if st = hdaTracking ∧ (ramp || !s.speedOk n) then s.hdaTo n hdaSlewing
  else if st = hdaSlewing ∧ steady then s.hdaTo n hdaTracking
  else s

/-- One time-base tick of a controller (R245, R251). -/
def State.spnTick (s : State) (n : Nat) : State :=
  let x := s.spnS n
  let s := s.setSpn n { x with theta := (x.theta + x.omega) % (46080 * 2 ^ 32) }
  if s.flag Reg.SPN_STAT_RAMP n then
    let x := s.spnS n
    let goal := x.rampK * 2 ^ 32
    let inc := s.rampInc n
    let o := if x.omega < goal then min goal (x.omega + inc) else max goal (x.omega - inc)
    let s := s.setSpn n { x with omega := o }
    if o = goal then (s.setFld Reg.SPN_STAT_RAMP n 0).spnPoll n else s
  else s

/-! ## Braking (R239, R244, R253) -/

/-- Short braking starts, with the first interval of R239. -/
def State.brakeShort (s : State) (n : Nat) : State :=
  (s.setSpn n { s.spnS n with brake := 2, closed := false }).shortBrake n

/-- A listen window of R237 or R239 opens. -/
def State.listen (s : State) (n : Nat) : State := (s.setSpn n { s.spnS n with edges := [], closed := false }).coast n

/-- The unload wait is over: braking proper begins (R244, R253). -/
def State.brakeOn (s : State) (n : Nat) : State :=
  let x := s.spnS n
  if x.why = 1 then
    let s := s.sendCmd n 4 (configBlock 5 ([1] ++ beBytes 2 (s.fld Reg.SPNB_CHOP_ON_MV 0) ++ beBytes 2 (s.fld Reg.SPNB_CHOP_OFF_MV 0)))
      (.spindle n)
    let rpm : Rat := ((x.omegaM : Nat) : Rat) / 16777216 * 7200 / 64
    if ¬ s.flag Reg.SPN_CTRL_BRAKE n ∧ ((s.fld Reg.SPN_BRAKE_REGEN_MIN n : Nat) : Rat) < rpm then
      (s.setSpn n { s.spnS n with brake := 1, closed := false, lastEdge := none }).regen n
    else s.brakeShort n
  else s.brakeShort n

/-- Braking goes on once both engines are Unloaded or Fenced (R244, R253). -/
def State.brakePoll (s : State) (n : Nat) : State :=
  let x := s.spnS n
  if s.hdaState n = hdaBraking ∧ x.brake = 0 ∧ (x.why = 1 ∨ x.why = 2) ∧ s.hdaParked n then s.brakeOn n else s

/-- What a change of an engine's state brings about in its HDA. -/
def State.hdaSettle (s : State) (n : Nat) : State := (s.spnPoll n).brakePoll n

/-- The HDA goes to Braking for a reason (R230): both actuators are asked to unload. -/
def State.brakeFor (s : State) (n why : Nat) : State :=
  let s := s.setSpn n { s.spnS n with why := why, brake := 0, rampAt := none }
  let s := (s.setFld Reg.SPN_CTRL_START n 0).setFld Reg.SPN_STAT_RAMP n 0
  let s := s.hdaTo n hdaBraking
  (s.askUnload (2 * n)).askUnload (2 * n + 1)

/-- STOP (R253). A spindle at rest has nothing to stop. -/
def State.spnStop (s : State) (n : Nat) : State :=
  let st := s.hdaState n
  if st = hdaStarting ∨ st = hdaSpinning ∨ st = hdaTracking ∨ st = hdaSlewing then
    ((s.setFld Reg.SPN_CTRL_STOP n 1).brakeFor n 1).brakePoll n
  else if st = hdaBraking then s.setFld Reg.SPN_CTRL_STOP n 1
  else s.setFld Reg.SPN_CTRL_STOP n 0

/-- A contained fault of the spindle control: recorded, the control fenced and the HDA with it (R241, R244, R255, R484). -/
def State.spnFault (s : State) (n bit : Nat) (inj : Bool) : State :=
  if s.hasSrc (srcSPN n) && !s.gatedSrc (srcSPN n) then
    ((s.cause (srcSPN n) bit inj false).setFence (srcSPN n) true).stmFenceHda n |>.degrade
  else s

/-- Steps 2 to 4 of R244: coast, unload, and short braking after the unload. -/
def State.spnCoastDown (s : State) (n : Nat) : State :=
  let s := s.coast n
  ((s.setSpn n { s.spnS n with closed := false }).brakeFor n 2).brakePoll n

/-- Loss of synchronism (R244). -/
def State.syncLost (s : State) (n : Nat) : State :=
  ((s.bump Reg.SPN_CNT_LOS n 1).spnFault n 1 false).spnCoastDown n

/-- Judged stopped and still: the HDA is Stopped, with every phase open (R253). -/
def State.spnRest (s : State) (n : Nat) : State :=
  let s := s.coast n
  let s := s.setSpn n { s.spnS n with why := 0, brake := 0, closed := false }
  ((s.setFld Reg.SPN_CTRL_STOP n 0).setFld Reg.SPN_CTRL_START n 0).hdaTo n hdaStopped

/-! ## Starting (R237 to R242) -/

/-- A failed attempt: another one, or the fault "start failed" after START_TRIES (R241). -/
def State.attemptFailed (s : State) (n : Nat) : State :=
  let x := s.spnS n
  let s := s.setSpn n { x with tries := x.tries + 1, closed := false }
  if s.fld Reg.SPN_START2_START_TRIES n ≤ x.tries + 1 then
    (s.spnFault n 0 false).spnRest n
  else
    let s := (s.setFld Reg.SPN_STAT_PHASE n 1).setSpn n { s.spnS n with brake := 2 }
    s.shortBrake n

/-- Align begins (R237). -/
def State.align (s : State) (n : Nat) : State :=
  let s := (s.setFld Reg.SPN_STAT_PHASE n 3).bump Reg.SPN_CNT_START n 1
  let k := s.fld Reg.SPN_START2_ALIGN_STEP n
  (s.setSpn n { s.spnS n with step := k, brake := 0, blind := 0, blindOk := 0, edgeSeen := false, lastEdge := none, ints := [],
                              miss := 0 }).phaseStep n (s.linkNow n) k (s.fld Reg.SPN_START_ALIGN_DUTY n)

/-- t_n of the blind ramp in ticks of link time, rounded freely (R240). -/
def State.blindTime (s : State) (n k : Nat) : Nat :=
  let acc := max 1 (s.fld Reg.SPN_BLIND_BLIND_ACC n)
  qzSqrt 24 (((20 * k : Nat) : Rat) / ((s.pp n * acc : Nat) : Rat) * 1562500000000000000)

/-- r_ref of blind step `k` reaches a speed in rpm: exactly, by squares (R240). -/
def State.blindReaches (s : State) (n k rpm : Nat) : Bool :=
  decide (rpm * rpm * s.pp n ≤ 20 * k * s.fld Reg.SPN_BLIND_BLIND_ACC n)

/-- Duty of blind step `k`: BLIND_DUTY + D_ff(r_ref), held in 16 bits (R240). -/
def State.blindDuty (s : State) (n k : Nat) : Nat :=
  let v := s.fld Reg.SPN_VBUS_MV n
  let ke := s.fld Reg.SPN_MOTOR_KE n
  let r2 : Rat := ((20 * k * s.fld Reg.SPN_BLIND_BLIND_ACC n : Nat) : Rat) / ((s.pp n : Nat) : Rat)
  let ff := if v = 0 then (qz 25 (Config.dutyNoBus ke r2)).toNat
    else qzSqrt 25 (r2 * (65536 * ((ke : Nat) : Rat) / (1000 * ((v : Nat) : Rat))) ^ 2)
  min 65535 (s.fld Reg.SPN_BLIND_BLIND_DUTY n + ff)

/-- The loop starts at the measured speed with its states at zero (R242). -/
def State.closeLoop (s : State) (n : Nat) : State :=
  let x := s.spnS n
  let w := countsOf (rpmOf (s.pp n) x.tStep)
  let o := (qz 26 (w * 4294967296)).toNat
  let s := s.setSpn n { x with closed := true, omega := o, x1 := 0, s1 := 0, s2 := 0, lockRun := 0, trkRun := 0, devRun := 0, xchkRun := 0,
                               omegaM := (qz 27 (w * 16777216)).toNat, duty := (clampI 0 65535 (qz 28 (s.dff n (rpmOf (s.pp n) x.tStep)))).toNat,
                               w0 := none, w1 := none, wn := 0, miss := 0, rampK := s.fld Reg.SPN_TARGET_K n }
  ((s.setFld Reg.SPN_STAT_PHASE n 5).setFld Reg.SPN_STAT_RAMP n 1).setFld Reg.SPN_STAT_SRC n 0

/-! ## The speed loop (R246 to R250) -/

/-- An angle difference wrapped to ±23,040 counts (R247). -/
def wrapAngle (x : Rat) : Rat := x - 46080 * (((x + 23040) / 46080).floor : Rat)

/-- The angle of a wedge of an actuator in counts, with the odd actuator's offset (R228, R246). -/
def State.wedgeAngle (s : State) (a w : Nat) : Rat :=
  let base : Rat := ((w : Nat) : Rat) * 46080 / ((max 1 (s.fld Reg.SRV_FIELD_WEDGES a) : Nat) : Rat)
  if a % 2 = 1 then base + (s.spnS (a / 2)).actofs else base

/-- The actuator that the loop takes wedges from: the lower-numbered one that is Following (R246). -/
def State.wedgeSource (s : State) (n : Nat) : Option Nat :=
  if s.following (2 * n) then some (2 * n) else if s.following (2 * n + 1) then some (2 * n + 1) else none

/-- A wedge of an actuator for the loop, and the odd actuator's offset while both follow (R246). -/
def State.spnWedge (s : State) (a : Nat) : State :=
  let n := a / 2
  let v := s.sv a
  let x := s.spnS n
  let x := if s.wedgeSource n = some a then
      { x with w0 := (match x.w0 with | none => some (v.wtick, v.wnum) | some w => some w), w1 := some (v.wtick, v.wnum), wn := x.wn + 1 }
    else x
  let s := s.setSpn n x
  if a % 2 = 1 ∧ s.following a ∧ s.following (a - 1) then
    let e := s.sv (a - 1)
    let ang (w q : Nat) : Rat := ((w : Nat) : Rat) * 46080 / ((max 1 (s.fld Reg.SRV_FIELD_WEDGES q) : Nat) : Rat)
    let k : Rat := ((x.omega : Nat) : Rat) / 4294967296
    let d := wrapAngle (ang e.wnum (a - 1) + k * ((((v.wtick : Int) - (e.wtick : Int) : Int)) : Rat) / 256 - ang v.wnum a)
    let m := Config.meanStep x.actofs d
    (s.setSpn n { s.spnS n with actofs := m }).setFld Reg.SPN_ACTOFS_OFS n (unsigned 16 (qz 29 m))
  else s

/-- One update of the loop: the new duty (R246 to R249). -/
def State.spnUpdate (s : State) (n : Nat) : State × Nat :=
  let x := s.spnS n
  let src := s.wedgeSource n
  let om : Rat := ((x.omega : Nat) : Rat) / 4294967296
  let edgeW := countsOf (rpmOf (s.pp n) x.tStep)
  let two := match src, x.w0, x.w1 with
    | some a, some w0, some w1 => if 2 ≤ x.wn ∧ w0.1 < w1.1 then some (a, w0, w1) else none
    | _, _, _ => none
  let wm : Rat := match two with
    | some (a, w0, w1) =>
      let n := max 1 (s.fld Reg.SRV_FIELD_WEDGES a)
      let dw := (w1.2 + n - w0.2 % n) % n
      ((dw : Nat) : Rat) * 46080 / ((n : Nat) : Rat) * 256 / ((w1.1 - w0.1 : Nat) : Rat)
    | none => edgeW
  let phiOk := match two with | some (a, _, _) => 46080 % (max 1 (s.fld Reg.SRV_FIELD_WEDGES a)) == 0 | none => false
  let phi : Rat := match two with
    | some (a, _, w1) =>
      if phiOk then
        let th : Rat := ((x.theta : Nat) : Rat) / 4294967296 - om * (((s.tick * 256 : Nat) : Rat) - ((w1.1 : Nat) : Rat)) / 256
        wrapAngle (th - ((s.fld Reg.SPN_PHASE_OFFSET n : Nat) : Rat) - s.wedgeAngle a w1.2)
      else 0
    | none => 0
  let lockable := s.flag Reg.SPN_CTRL_PHLOCK n && s.fld Reg.TB_STAT_STATE 0 == 1 && phiOk
  let near := decide (phi ≤ ((s.fld Reg.SPN_PHASE_LOCK_WIN n : Nat) : Rat)) && decide (-((s.fld Reg.SPN_PHASE_LOCK_WIN n : Nat) : Rat) ≤ phi)
  let lockRun := if lockable && near then x.lockRun + 1 else 0
  let was := s.fld Reg.SPN_STAT_LOCK n
  let lock := if !lockable then 0 else if 16 ≤ lockRun ∨ (was = 2 ∧ near) then 2 else 1
  let pull : Rat := ((s.fld Reg.SPN_PULL_PULL_MAX n : Nat) : Rat) / 100000
  let c : Rat := if lock = 0 then 0 else max (-pull) (min pull (phi / 2 ^ (s.fld Reg.SPN_PHASE_KPH_E n + 16)))
  let rel : Rat := if om = 0 then Config.errNoRef wm else (om * (1 + c) - wm) / om
  let hi := decide (48 * 2 ^ 32 ≤ x.omega)
  let g (i : Nat) (h l : Fld) : Rat := ((signed 24 (s.fldJ (if hi then h else l) n i) : Int) : Rat) / 4194304
  let ks : Rat := ((s.fld (if hi then Reg.SPN_HI_KS_V else Reg.SPN_LO_KS_V) n : Nat) : Rat)
  let xq := satS 32 (qz 30 (rel * 16777216))
  let s1 := satS 32 (qz 31 (((xq : Int) : Rat) - g 0 Reg.SPN_HI_Z_V Reg.SPN_LO_Z_V * ((x.x1 : Int) : Rat)
    + g 0 Reg.SPN_HI_P_V Reg.SPN_LO_P_V * ((x.s1 : Int) : Rat)))
  let s2 := satS 32 (qz 32 (((s1 : Int) : Rat) - g 1 Reg.SPN_HI_Z_V Reg.SPN_LO_Z_V * ((x.s1 : Int) : Rat)
    + g 1 Reg.SPN_HI_P_V Reg.SPN_LO_P_V * ((x.s2 : Int) : Rat)))
  let d0 := rnd (s.dff n (om * 7200 / 64) + ks * ((s2 : Int) : Rat) / 16777216)
  let d := clampI (s.fld Reg.SPN_DUTY_DMIN n) (s.fld Reg.SPN_DUTY_DMAX n) d0
  let cutD : Int := qz 33 (((x.duty : Nat) : Rat) * 7 / 8)
  let d' := if x.cut then min d cutD else d
  let held := x.cut || decide (d ≠ d0)
  let err : Rat := if om = 0 then Config.errNoRef wm else (om - wm) / om
  let ok := decide (err < 1 / 2000) && decide (-(1 / 2000) < err)
  let x := { x with x1 := xq, s1 := if held then x.s1 else s1, s2 := if held then x.s2 else s2, set := hi, lockRun := lockRun,
                    trkRun := if ok then x.trkRun + 1 else 0, omegaM := (qz 34 (wm * 16777216)).toNat, duty := d'.toNat, cut := false,
                    w0 := if two.isSome then none else x.w0, w1 := if two.isSome then none else x.w1, wn := if two.isSome then 0 else x.wn }
  let s := s.setSpn n x
  let s := (s.wr Reg.SPN_SPEED n 0 (word x.omegaM)).setFld Reg.SPN_RPM_RPM n (qz 35 (wm * 7200 / 64)).toNat
  let s := (s.setFld Reg.SPN_PHERR_PHI n (unsigned 16 (qz 36 phi))).setFld Reg.SPN_STAT_LOCK n lock
  (s.setFld Reg.SPN_STAT_SRC n (bit01 two.isSome), d'.toNat)

/-! ## Commutation (R233, R234, R243) -/

/-- Edges of the speed checks of R243 that run over one revolution. -/
def State.observe (s : State) (n : Nat) : State :=
  let x := s.spnS n
  if !x.closed then s
  else
    let om : Rat := ((x.omega : Nat) : Rat) / 4294967296
    let we := countsOf (rpmOf (s.pp n) x.tStep)
    let wm : Rat := ((x.omegaM : Nat) : Rat) / 16777216
    let outside (a b : Rat) (pc : Nat) : Bool := decide (b * ((pc : Nat) : Rat) / 100 < a - b) || decide (b * ((pc : Nat) : Rat) / 100 < b - a)
    let dev := if outside we om (s.fld Reg.SPN_OBS_DEV n) then x.devRun + 1 else 0
    let xc := if s.hdaLoaded n && s.flag Reg.SPN_STAT_SRC n && outside we wm (s.fld Reg.SPN_OBS_XCHK n) then x.xchkRun + 1 else 0
    let s := s.setSpn n { x with devRun := dev, xchkRun := xc }
    let rev := 6 * s.pp n
    if rev ≤ dev ∨ rev ≤ xc then s.syncLost n else s

/-- The commutation after an edge, real or supposed, at link time `te` (R233, R234, R247). -/
def State.commutate (s : State) (n te : Nat) : State :=
  let x := s.spnS n
  let over' := decide (s.fld Reg.SPN_ILIM_ILIM n < x.peak)
  let s := s.setFld Reg.SPN_IPK_PK n x.peak
  let s := if over' then s.bump Reg.SPN_CNT_ILIM n 1 else s
  let s := s.setSpn n { x with cut := over' }
  let (s, duty) := s.spnUpdate n
  let x := s.spnS n
  let adv : Rat := ((s.fld Reg.SPN_COMM_ADV n : Nat) : Rat)
  let k := (x.step + 1) % 6
  let apply := unsigned 32 ((te : Int) + qz 37 (x.tStep * (30 - adv) / 60))
  let s := s.setSpn n { x with step := k, apply := apply, edgeSeen := false, lastEdge := some te, peak := 0 }
  ((s.phaseStep n apply k duty).observe n).spnPoll n

/-- The predicted instant of the present step's edge, the half width of its window and the end of blanking, in ticks from
APPLY of the step (R233, R240). -/
def State.edgeWindow (s : State) (n : Nat) : Rat × Rat × Rat :=
  let x := s.spnS n
  let t : Rat := if x.closed then x.tStep
    else (((s.blindTime n x.blind : Nat) : Rat) - ((s.blindTime n (x.blind - 1) : Nat) : Rat))
  let pred : Rat := match x.lastEdge with
    | some e => ((linkDiff e x.apply : Int) : Rat) + t
    | none => t / 2
  let win := t * ((s.fld Reg.SPN_OBS_WIN n : Nat) : Rat) / 100
  let blank := max (t * ((s.fld Reg.SPN_COMM_BLANK_PCT n : Nat) : Rat) / 100) (((s.fld Reg.SPN_COMM_BLANK_MIN n : Nat) : Rat) * 1250)
  (pred, win, blank)

/-- The end of the present step's window has been passed by the port's reports (R233). -/
def State.windowOver (s : State) (n : Nat) : Bool :=
  let x := s.spnS n
  let w := s.edgeWindow n
  decide (w.1 + w.2.1 < ((linkDiff x.linkNow x.apply : Int) : Rat))

/-- A comparator edge that a report brings (R233, R238, R240, R253). -/
def State.spnEdge (s : State) (n : Nat) (e : Edge) : State :=
  let x := s.spnS n
  let st := s.hdaState n
  let blindPh := st == hdaStarting && s.fld Reg.SPN_STAT_PHASE n == 4
  if x.closed || blindPh then
    let w := s.edgeWindow n
    let at' : Rat := ((linkDiff e.t x.apply : Int) : Rat)
    let hit := stepEdge x.step == (e.phase, e.rising) && !x.edgeSeen && decide (w.2.2 ≤ at')
      && decide (w.1 - w.2.1 ≤ at') && decide (at' ≤ w.1 + w.2.1)
    if hit then
      let iv := match x.lastEdge with | some l => if x.miss = 0 then some (linkDiff e.t l).toNat else none | none => none
      let bad := match iv with
        | some i => x.closed && !x.ints.isEmpty && (decide (2 * x.tStep < ((i : Nat) : Rat)) || decide (2 * ((i : Nat) : Rat) < x.tStep))
        | none => false
      let ints := match iv with | some i => (i :: x.ints).take 6 | none => x.ints
      let s := s.setSpn n { x with ints := ints, miss := 0, edgeSeen := true, lastEdge := some e.t }
      if bad then s.syncLost n
      else if x.closed then s.commutate n e.t
      else s.setSpn n { s.spnS n with blindOk := x.blindOk + 1 }
    else s
  else if st = hdaBraking ∧ x.brake = 1 then
    let slow := match x.lastEdge with
      | some l => decide (rpmOf (s.pp n) ((linkDiff e.t l : Int) : Rat) < ((s.fld Reg.SPN_BRAKE_REGEN_MIN n : Nat) : Rat))
      | none => false
    let s := s.setSpn n { x with lastEdge := some e.t }
    if slow then s.brakeShort n else s
  else if x.brake = 3 ∨ (st = hdaStarting ∧ s.fld Reg.SPN_STAT_PHASE n = 0) then
    s.setSpn n { x with edges := x.edges ++ [e] }
  else s

/-- A shunt sample: the offset from B samples, the phase currents and the step's peak from A samples (R235, R236). -/
def State.spnShunt (s : State) (n : Nat) (cur : Int) (t : Nat) : State :=
  let x := s.spnS n
  let per := max 1 (s.fld Reg.SPN_PWM_PERIOD n)
  let since := linkDiff t x.apply
  let w := s.edgeWindow n
  if since < 0 ∨ (((since : Int) : Rat) < w.2.2) then s
  else
    let ph := since.toNat % per
    let on : Rat := ((x.duty * per : Nat) : Rat) / 65536
    if ((ph : Nat) : Rat) < on then
      let v := cur - rnd x.shunt
      let c := [[v, -v, 0], [v, 0, -v], [0, v, -v], [-v, v, 0], [-v, 0, v], [0, -v, v]].getD x.step [0, 0, 0]
      s.setSpn n { x with cur := c, peak := max x.peak v.natAbs }
    else s.setSpn n { x with shunt := x.shunt + (((cur : Int) : Rat) - x.shunt) / 64 }

/-! ## Bus supervision (R254, R255) -/

/-- The HDAs of a bus group. -/
def State.busGroup (s : State) (n : Nat) : List Nat :=
  (List.range s.nHda).filter fun h => s.fld Reg.SPN_BUS_GROUP h == s.fld Reg.SPN_BUS_GROUP n

/-- Every INH bit of an HDA's combs set, and its engines' VCM held or released (R254). -/
def State.busHold (s : State) (h : Nat) (hold : Bool) : State :=
  [2 * h, 2 * h + 1].foldl (fun s a =>
    let s := s.setSv a { s.sv a with held := hold }
    if hold then s.inhAll a else s) s

/-- The OV1 action on an HDA: short brake, unload, and every loop stopped (R254). -/
def State.ov1Act (s : State) (h : Nat) : State :=
  let s := s.bump Reg.SPN_CNT_PROT h 1
  let s := s.setSpn h { s.spnS h with ov := 1 }
  let s := s.setFld Reg.SPN_STAT_PROT h 1
  if s.hdaState h = hdaAbsent then s
  else (((s.setFld Reg.SPN_STAT_LOCK h 0).brakeFor h 3).brakeShort h)

/-- The faults of an OV1 crossing over its group (R255). -/
def State.ov1Faults (s : State) (hs : List Nat) : State :=
  let hot := hs.filter fun h => (s.hdaState h == hdaBraking && (s.spnS h).brake == 1) || (s.hl h).flags.testBit 6
  if hot = [] then hs.foldl (fun s h => s.spnFault h 4 false) s
  else hs.foldl (fun s h => if hot.contains h then s.spnFault h 3 false else s.corrected (srcSPN h) 5) s

/-- The VBUS of a STATUS block of HDA `n` acts on its group (R254, R255). -/
def State.busSupervise (s : State) (n : Nat) : State :=
  let v := s.fld Reg.SPN_VBUS_MV n
  let hs := s.busGroup n
  let ov := (s.spnS n).ov
  let s := if ov = 0 ∧ s.fld Reg.SPNB_OV1_MV 0 < v then hs.foldl (fun s h => s.ov1Act h) (s.ov1Faults hs) else s
  let ov := (s.spnS n).ov
  let s := if ov = 1 ∧ s.fld Reg.SPNB_OV2_MV 0 < v then
      hs.foldl (fun s h => ((s.setSpn h { s.spnS h with ov := 2 }).coast h).busHold h true) s
    else if ov = 2 ∧ v < s.fld Reg.SPNB_OV_REL_MV 0 then
      hs.foldl (fun s h =>
        let s := (s.setSpn h { s.spnS h with ov := 1 }).busHold h false
        if s.hdaState h = hdaBraking then s.brakeShort h else s) s
    else s
  let s := if (s.spnS n).ov = 1 ∧ (s.busGroup n).all (fun h => decide (s.fld Reg.SPN_VBUS_MV h ≤ s.fld Reg.SPNB_OV1_MV 0)) then
      hs.foldl (fun s h => (s.setSpn h { s.spnS h with ov := 0 }).setFld Reg.SPN_STAT_PROT h 0) s
    else s
  if v < s.fld Reg.SPNB_UV_MV 0 then
    hs.foldl (fun s h => ((s.setSpn h { s.spnS h with uv := true }).inhAll (2 * h)).inhAll (2 * h + 1)) s
  else if s.fld Reg.SPNB_UV_MV 0 + 300 < v then hs.foldl (fun s h => s.setSpn h { s.spnS h with uv := false }) s
  else s

/-- The port of an HDA is Up again and its state Braking for the fence: a listen window opens (R230). -/
def State.spnPortUp (s : State) (n : Nat) : State :=
  if s.hdaState n = hdaBraking ∧ (s.spnS n).why = 4 then (s.setSpn n { s.spnS n with brake := 3 }).listen n else s

/-- The port is fenced: the HDA reports Braking until it can be observed again (R230). -/
def State.spnPortFenced (s : State) (n : Nat) : State :=
  if s.hdaState n = hdaAbsent then s
  else
    let s := s.setSpn n { s.spnS n with why := 4, brake := 0, closed := false, rampAt := none }
    ((s.setFld Reg.SPN_CTRL_START n 0).setFld Reg.SPN_STAT_RAMP n 0).hdaTo n hdaBraking

/-- The HDA becomes Absent (R65, R230). -/
def State.spnAbsent (s : State) (n : Nat) : State :=
  let s := s.setSpn n { s.spnS n with why := 0, brake := 0, closed := false, rampAt := none }
  (((s.setFld Reg.SPN_CTRL_START n 0).setFld Reg.SPN_CTRL_STOP n 0).setFld Reg.SPN_STAT_RAMP n 0).hdaTo n hdaAbsent

end Sys2Proof.Machine
end

