-- ==== Sys2Proof/Machine/HostOps.lean ====
section
/-!
DEFINITION. Commands withdrawn, and resets of controllers and host links (R360, R361, R371, R386).
-/

namespace Sys2Proof.Machine

/-- The sectors of a command. -/
def State.cmdSectors (s : State) (p k : Nat) : List Sector := s.stm.sectors.filter fun x => x.cmd == some (p, k)

/-- The command leaves every list in which it waits: pieces, closes, rebinds and zone resets (their effects stay). -/
def State.forgetCmd (s : State) (p k : Nat) : State :=
  let waiting := (List.range 8).foldl (fun m c =>
    mset (fun _ => ([] : List (Nat × Nat))) m c
      ((mget (fun _ => ([] : List (Nat × Nat))) m c).filter (· != (p, k)))) s.stm.waiting
  { s with stm := { s.stm with
      waiting := waiting
      closes := s.stm.closes.map fun x => if x.2 = (p, k) then (x.1, 2, 0) else x
      rebind := s.stm.rebind.map fun x => if (x.port, x.slot) = (p, k) then { x with port := 2, slot := 0 } else x
      zoneResets := s.stm.zoneResets.map fun x => if x.2 = (p, k) then (x.1, 2, 0) else x } }

/-- A sector of a withdrawn command: an ungranted one goes with its earmark, a granted or served one is discarded when it
ends (R361, R371). -/
def State.withdraw (s : State) (x : Sector) : State :=
  let handed := x.op = 0 ∧ x.st = .served ∧ x.cmd.isSome ∧
    ¬ (mget (fun _ => ([] : List Xfer)) s.hif.ready 0 ++ mget (fun _ => ([] : List Xfer)) s.hif.ready 1 ++ s.stm.ready).any fun f =>
      f.toHost && f.tag == slotK x.cls x.slot
  if x.st = .granted ∨ handed then s.setSector { x with dropped := true, cmd := none, stream := none }
  else
    let drop (m : List (Nat × List Xfer)) (q : Nat) : List (Nat × List Xfer) :=
      mset (fun _ => []) m q ((mget (fun _ => []) m q).filter fun f => f.tag != slotK x.cls x.slot)
    let s := { s with hif := { s.hif with ready := drop (drop s.hif.ready 0) 1 }
                      stm := { s.stm with ready := s.stm.ready.filter fun f => f.tag != slotK x.cls x.slot } }
    s.discard x

/-- A command is withdrawn: a write whose data lies wholly in buffer memory goes on to the medium, every other sector
of it is withdrawn (R361). -/
def State.withdrawCmd (s : State) (p k : Nat) : State :=
  match s.cmd p k with
  | none => s
  | some c =>
    let xs := s.cmdSectors p k
    let whole := xs.all (fun x => x.op == 1) && decide (0 < c.count) && decide (c.count ≤ c.arrived)
    let s := s.forgetCmd p k
    let s :=
      if whole then xs.foldl (fun s x => s.setSector { x with cmd := none }) s
      else xs.foldl (fun s x => match s.sector x.tag with | some y => s.withdraw y | none => s) s
    s.setCmd p k none

/-- A controller reset: its commands end, its queues and features are at their defaults (R361, R372, R375). -/
def State.ctrlReset (s : State) (p l : Nat) : State :=
  let mine := s.cmds.filter fun x => x.1 == p && x.2.2.link == l
  (mine.foldl (fun s x => s.withdrawCmd x.1 x.2.1) s).setCtrl p l {}

/-- A link goes down: a controller reset (R360, R387). -/
def State.linkDown (s : State) (p l : Nat) : State := (s.setLstat p l 0 0 0 0).ctrlReset p l

/-- Every host link goes down. -/
def State.linksDown (s : State) : State :=
  [(0, 0), (0, 1), (1, 0), (1, 1)].foldl (fun s pl => s.linkDown pl.1 pl.2) s

/-- The interrupt of a source has fallen: its next rise sends a message again (R386). -/
def State.fltSettle (s : State) (src : Nat) : State :=
  if s.fltHigh src then s else { s with hif := { s.hif with intr := s.hif.intr.filter (· != src) } }

/-! ## Commands (R368 to R370) -/

/-- The command in a slot, when it has not been decided yet and has one of the opcodes of a queue kind. -/
def State.newCmd (s : State) (p k : Nat) (admin : Bool) (ops : List Nat) : Option Cmd :=
  match s.cmd p k with
  | some c => if !c.begun && c.admin == admin && ops.contains c.opcode then some c else none
  | none => none

/-- A command's row: its effect on the command in the slot, nothing where the slot holds no such command. -/
def State.onCmd (s : State) (p k : Nat) (admin : Bool) (ops : List Nat) (f : Cmd → State) : State :=
  match s.newCmd p k admin ops with
  | some c => f c
  | none => s

/-- Bytes of ASCII text. -/
def ascii (t : String) : List Byte := t.toList.map fun c => BitVec.ofNat 8 c.toNat

/-- Text padded with spaces to a length. -/
def padded (n : Nat) (bs : List Byte) : List Byte := (bs ++ List.replicate n 0x20).take n

/-- Eight hexadecimal ASCII digits of a word (R440). -/
def hex8 (v : Nat) : List Byte :=
  ((List.range 8).map fun i => v / 16 ^ (7 - i) % 16).map fun d => BitVec.ofNat 8 (if d < 10 then 48 + d else 55 + d)

/-- Bytes with a field placed at an offset. -/
def putField (bs : List Byte) (o : Nat) (f : List Byte) : List Byte := bs.take o ++ f ++ bs.drop (o + f.length)

/-- Bytes of the flash from an address (R440). -/
def State.flashByte (s : State) (a : Nat) : Byte := mget (fun _ => (0xFF : Byte)) s.flash a
def State.flashRead (s : State) (a n : Nat) : List Byte := (List.range n).map fun i => s.flashByte (a + i)
def State.flashNat (s : State) (a n : Nat) : Nat := leNat (s.flashRead a n)
def State.putFlash (s : State) : Nat → List Byte → State
  | _, [] => s
  | a, b :: bs => State.putFlash { s with flash := mset (fun _ => (0xFF : Byte)) s.flash a b } (a + 1) bs

/-- Where an image slot of the flash begins (R440). -/
def flashSlot (k : Nat) : Nat := k * 0x01000000

end Sys2Proof.Machine
end

