-- ==== Sys2Proof/Machine/Operands.lean ====
section
/-!
DEFINITION. The operand forms of the microword (R391, R394) and the general registers they name (R389, R390).
-/

namespace Sys2Proof.Machine

/-- A microword. -/
abbrev Mw := BitVec 128

/-- Bits `hi` to `lo` of a microword. -/
def Mw.bits (w : Mw) (hi lo : Nat) : Nat := bitsOf w.toNat hi lo

def Mw.op (w : Mw) : Nat := w.bits 127 120
def Mw.cond (w : Mw) : Nat := w.bits 119 114
def Mw.pol (w : Mw) : Nat := w.bits 113 113
def Mw.nextA (w : Mw) : Nat := w.bits 112 98
def Mw.altA (w : Mw) : Nat := w.bits 97 83

/-! Form A -/
def Mw.aD (w : Mw) : Nat := w.bits 82 77
def Mw.aA (w : Mw) : Nat := w.bits 76 71
def Mw.aB (w : Mw) : Nat := w.bits 70 65
def Mw.aI (w : Mw) : Nat := w.bits 64 64
def Mw.aImm (w : Mw) : Nat := w.bits 63 32

/-! Form M -/
def Mw.mD (w : Mw) : Nat := w.bits 82 77
def Mw.mA (w : Mw) : Nat := w.bits 76 71
def Mw.mSize (w : Mw) : Nat := w.bits 70 69
def Mw.mOnce (w : Mw) : Bool := w.bits 68 68 == 1
def Mw.mSpace (w : Mw) : Nat := w.bits 67 67
def Mw.mWin (w : Mw) : Nat := w.bits 66 65
def Mw.mOfs (w : Mw) : Nat := w.bits 64 40

/-! Form D -/
def Mw.dHead (w : Mw) : Nat := w.bits 82 79
def Mw.dA (w : Mw) : Nat := w.bits 78 73
def Mw.dB (w : Mw) : Nat := w.bits 72 67
def Mw.dC (w : Mw) : Nat := w.bits 66 61
def Mw.dE (w : Mw) : Nat := w.bits 60 55

/-! Form F -/
def Mw.fAddr (w : Mw) : Nat := w.bits 82 68
def Mw.fA (w : Mw) : Nat := w.bits 67 62
def Mw.fSr (w : Mw) : Nat := w.bits 61 56
def Mw.fImm (w : Mw) : Nat := w.bits 55 24

/-- Bytes of an access of SIZE: 4, 8 or 64. -/
def sizeBytes (k : Nat) : Nat := if k = 0 then 4 else if k = 1 then 8 else 64

/-- The fast handler of sequencer `q` runs, so that the shadow bank takes the place of g48 to g63 (R389). -/
def State.inFast (s : State) (q : Nat) : Bool := s.flag Reg.SEQ_STAT_IN_FAST q

/-- General register `r` of sequencer `q`. -/
def State.gr (s : State) (q r : Nat) : Word :=
  if s.inFast q ∧ 48 ≤ r then mget (fun _ => (0 : Word)) (s.sq q).shadow (r - 48)
  else mget (fun _ => (0 : Word)) (s.sq q).g r

/-- General register `r` of sequencer `q` set. -/
def State.setGr (s : State) (q r : Nat) (v : Word) : State :=
  let x := s.sq q
  if s.inFast q ∧ 48 ≤ r then s.setSq q { x with shadow := mset (fun _ => (0 : Word)) x.shadow (r - 48) v }
  else s.setSq q { x with g := mset (fun _ => (0 : Word)) x.g r v }

/-- General register `r` of the bank of the fast handler, or of other code, set. -/
def State.setGrOf (s : State) (q : Nat) (fast : Bool) (r : Nat) (v : Word) : State :=
  let x := s.sq q
  if fast ∧ 48 ≤ r then s.setSq q { x with shadow := mset (fun _ => (0 : Word)) x.shadow (r - 48) v }
  else s.setSq q { x with g := mset (fun _ => (0 : Word)) x.g r v }

/-- Registers from `r` upward set to words, as far as there are registers. -/
def State.setGrs (s : State) (q : Nat) : Nat → List Word → State
  | _, [] => s
  | r, w :: ws => if r < 64 then State.setGrs (s.setGr q r w) q (r + 1) ws else s

/-- `n` registers from `r` upward. -/
def State.grs (s : State) (q r n : Nat) : List Word := (List.range n).map fun i => s.gr q (r + i)

/-- The pair of registers from `r`. -/
def State.gPair (s : State) (q r : Nat) : Nat := (s.gr q r).toNat + 2 ^ 32 * (s.gr q (r + 1)).toNat

/-- The second operand of form A: g[B] or IMM. -/
def State.opB (s : State) (q : Nat) (w : Mw) : Word := if w.aI = 1 then word w.aImm else s.gr q w.aB

end Sys2Proof.Machine
end

