-- ==== Sys2Proof/Machine/Flags.lean ====
section
/-!
DEFINITION. The flags of a sequencer (R390) and how the arithmetic opcodes set them (R395).
-/

namespace Sys2Proof.Machine

def flV : Nat := 0
def flC : Nat := 1
def flN : Nat := 2
def flZ : Nat := 3
def flRF : Nat := 4
def flMERR : Nat := 5

/-- A flag of sequencer `q`. -/
def State.fl (s : State) (q k : Nat) : Bool := bitOf (s.sq q).flags.toNat k

/-- A flag of sequencer `q` set to a value. -/
def State.setFl (s : State) (q k : Nat) (b : Bool) : State :=
  let x := s.sq q
  s.setSq q { x with flags := word (setBit x.flags.toNat k b) }

/-- The sign bit of a word. -/
def neg (w : Word) : Bool := decide (2 ^ 31 ≤ w.toNat)

/-- Z and N from a result. -/
def State.flagsZN (s : State) (q : Nat) (r : Word) : State := (s.setFl q flZ (r == 0)).setFl q flN (neg r)

/-- C and V set to values. -/
def State.flagsCV (s : State) (q : Nat) (c v : Bool) : State := (s.setFl q flC c).setFl q flV v

/-- Result, carry and overflow of A + B + carry in: the exact sums against the narrowed result. -/
def addFlags (a b : Word) (cin : Nat) : Word × Bool × Bool :=
  let t := a.toNat + b.toNat + cin
  let r := word t
  (r, decide (2 ^ 32 ≤ t), a.toInt + b.toInt + cin != r.toInt)

/-- Result, borrow and overflow of A − B − borrow in. -/
def subFlags (a b : Word) (bin : Nat) : Word × Bool × Bool :=
  let r := a - b - word bin
  (r, decide (a.toNat < b.toNat + bin), a.toInt - b.toInt - bin != r.toInt)

/-- A register takes a result whose exact arithmetic gives all four flags. -/
def State.putAll (s : State) (q d : Nat) (x : Word × Bool × Bool) : State :=
  ((s.setGr q d x.1).flagsZN q x.1).flagsCV q x.2.1 x.2.2

/-- A register takes a bitwise or shifted result: Z and N, with C and V cleared. -/
def State.putLogic (s : State) (q d : Nat) (r : Word) : State := ((s.setGr q d r).flagsZN q r).flagsCV q false false

/-- A register takes a result that gives Z and N only. -/
def State.putZN (s : State) (q d : Nat) (r : Word) : State := (s.setGr q d r).flagsZN q r

/-- RF says whether a request was refused; refusals are counted (R398, R416). -/
def State.setRF (s : State) (q : Nat) (refused : Bool) : State :=
  let s := s.setFl q flRF refused
  if refused then s.bump Reg.SEQ_CNT_RF q 1 else s

end Sys2Proof.Machine
end

