-- ==== Sys2Proof/Machine/SeqOps.lean ====
section
/-!
DEFINITION. How a sequencer issues a microword, stalls, tests its condition and flows (R392, R393, R396), its
special registers (R390), pending sources (R403 to R406) and dispatch (R404).
-/

namespace Sys2Proof.Machine

def seqEmpty : Nat := 0
def seqHalted : Nat := 1
def seqRunning : Nat := 2
def seqWaiting : Nat := 3
def seqSleeping : Nat := 4
def seqLoading : Nat := 5
def seqFenced : Nat := 6

def State.seqState (s : State) (q : Nat) : Nat := s.fld Reg.SEQ_STAT_STATE q

/-- Words of a control store (R388). -/
def storeWords (q : Nat) : Nat := if q < 32 then 8192 else 32768

/-- A word of the control store; an unlisted one is a TRAP word (R388, R434). -/
def State.storeWord (s : State) (q a : Nat) : Mw := mget (fun _ => (0 : BitVec 128)) (s.sq q).store a

/-- The word at the sequencer's address. -/
def State.mw (s : State) (q : Nat) : Mw := s.storeWord q (s.sq q).pc

/-- Registers of the bank in place that await load data (R389, R396). -/
def State.awaited (s : State) (q : Nat) : List Nat :=
  ((s.sq q).loads.map fun l =>
    ((List.range l.cnt).map fun i => l.dst + i).filter fun r => decide (r < 48) || l.fast == s.inFast q).flatten

/-- Registers from `r`, `n` of them. -/
def regSpan (r n : Nat) : List Nat := (List.range n).map fun i => r + i

/-- The general registers that a word reads (R395, R398). -/
def Mw.reads (w : Mw) : List Nat :=
  let op := w.op
  let b := if w.aI = 1 then [] else [w.aB]
  if op = 0x04 then [w.fA]
  else if op = 0x0A then [w.fA]
  else if op = 0x0D then regSpan w.fA 16
  else if 0x10 ≤ op ∧ op ≤ 0x1D then w.aA :: b
  else if op = 0x1E then [w.aA]
  else if op = 0x1F then [w.aA, w.aD]
  else if op = 0x28 then [w.mA]
  else if op = 0x29 then w.mA :: regSpan w.mD (sizeBytes w.mSize / 4)
  else if op = 0x2A then [w.mA]
  else if op = 0x2B then [w.mA, w.mD]
  else if op = 0x2C then [w.mA, w.mD + 1]
  else if op = 0x2D then [w.mD]
  else if op = 0x40 then [w.dA, w.dA + 1, w.dB, w.dC, w.dE]
  else if op = 0x41 then [w.dB, w.dC]
  else if op = 0x42 ∨ op = 0x44 then regSpan w.dA 16
  else if op = 0x43 then [w.dC]
  else if op = 0x45 then [w.dA]
  else if op = 0x46 then [w.dA, w.dA + 1, w.dB]
  else if op = 0x48 then (if w.bits 53 53 = 1 then [w.dA, w.dA + 1] else [])
  else if op = 0x49 then regSpan w.dA 4
  else if op = 0x4A then [w.dB, w.dE]
  else if op = 0x4C then [w.dC]
  else []

/-- Buffer address of a form M operand: window base, g[A] and OFS (R396). -/
def State.memAddr (s : State) (q : Nat) (w : Mw) : Nat :=
  if w.mSpace = 1 then (s.gr q w.mA).toNat + w.mOfs
  else
    let x := s.sq q
    let lo := (mget (fun _ => (0 : Word)) x.win (2 * w.mWin)).toNat
    let hi := (mget (fun _ => (0 : Word)) x.win (2 * w.mWin + 1)).toNat % 256
    (lo + 2 ^ 32 * hi + (s.gr q w.mA).toNat + w.mOfs) % 2 ^ 40

/-- Two ranges of bytes meet. -/
def meets (a n b m : Nat) : Bool := decide (a < b + m) && decide (b < a + n)

/-- The word stalls: it reads an awaited register, it is a fifth load, it stores where a load is outstanding, or
its cache operation still runs (R395, R396). -/
def State.stalled (s : State) (q : Nat) : Bool :=
  let x := s.sq q
  let w := s.mw q
  (w.reads.any fun r => (s.awaited q).contains r)
    || (w.op == 0x28 && decide (4 ≤ x.loads.length))
    || (w.op == 0x29 && x.loads.any fun l =>
          l.pantry == (w.mSpace == 1) && meets l.addr (4 * l.cnt) (s.memAddr q w) (sizeBytes w.mSize))
    || x.cmo

/-- The sequencer is about to issue a word of an opcode. -/
def State.canIssue (s : State) (q op : Nat) : Bool :=
  s.hasSeq q && s.seqState q == seqRunning && (s.mw q).op == op && !s.stalled q

/-- The word issues: PC and the count of words (R416). -/
def State.issue (s : State) (q : Nat) : State :=
  (s.setFld Reg.SEQ_STAT_PC q (s.sq q).pc).bump Reg.SEQ_CNT_WORDS q 1

/-! ## Conditions (R393) -/

/-- A claim covers sequencer `q`: the sequencer, its actuator or its HDA (R512, R513). -/
def State.claimed (s : State) (q : Nat) : Bool :=
  (List.range 32).any fun k =>
    let t := s.fldJ Reg.GLB_CLAIMT_TYPE 0 k
    let i := s.fldJ Reg.GLB_CLAIMT_INDEX 0 k
    s.fldJ Reg.GLB_CLAIMT_VALID 0 k == 1
      && ((t == 3 && i == q) || (decide (q < 32) && ((t == 1 && i == q) || (t == 2 && i == q / 2))))

/-- Levels of the four queues as bits 4 to 7 (R403). -/
def State.levelBits (s : State) (q : Nat) : Nat :=
  ((List.range 4).filter fun k => mget (fun _ => ([] : List (List Word))) (s.sq q).queues k != []).foldl
    (fun m k => m + 2 ^ (4 + k)) 0

/-- Pending sources, levels included. -/
def State.pendBits (s : State) (q : Nat) : Nat :=
  ((s.rd Reg.SEQ_EVC_PEND q 0).toNat ||| s.levelBits q) + 2 ^ 32 * (s.rd Reg.SEQ_EVC_PEND q 1).toNat

/-- Pending sources that are enabled. -/
def State.pendEnabled (s : State) (q : Nat) : Nat :=
  s.pendBits q &&& ((s.rd Reg.SEQ_EVC_EN q 0).toNat + 2 ^ 32 * (s.rd Reg.SEQ_EVC_EN q 1).toNat)

/-- The condition of a number for sequencer `q`. -/
def State.condTrue (s : State) (q k : Nat) : Bool :=
  let x := s.sq q
  if k = 0 then true
  else if k = 1 then s.fl q flZ
  else if k = 2 then s.fl q flN
  else if k = 3 then s.fl q flC
  else if k = 4 then s.fl q flV
  else if k = 5 then s.fl q flN != s.fl q flV
  else if k = 6 then s.fl q flZ || s.fl q flN != s.fl q flV
  else if k = 7 then s.fl q flC
  else if k = 8 then s.fl q flC || s.fl q flZ
  else if k = 9 then s.fl q flRF
  else if k = 10 then !x.loads.isEmpty
  else if k = 11 then s.fl q flMERR
  else if k < 16 then mget (fun _ => ([] : List (List Word))) x.queues (k - 12) != []
  else if k = 16 then s.pendEnabled q != 0
  else if k < 19 then (mget (fun _ => (0 : Word)) x.tmr (k - 17)).toNat % 2 ^ 31 == 0
  else if k = 19 then decide (q < 32) && s.fld Reg.SPN_STAT_HDA_STATE (q / 2) == 4
  else if k = 20 then decide (q < 32) && s.fld Reg.SRV_STAT_STATE q == 5
  else if k = 21 then s.claimed q
  else if k = 22 then s.flag Reg.SEQ_CTRL_RELOAD q
  else if k = 23 then decide (q < 32) && s.actFenced q
  else if 32 ≤ k then bitOf x.cf.toNat (k - 32)
  else false

/-- COND exclusive-or POL (R392). -/
def State.wordCond (s : State) (q : Nat) (w : Mw) : Bool := s.condTrue q w.cond != (w.pol == 1)

/-- The sequencer goes on at an address. -/
def State.goTo (s : State) (q a : Nat) : State := s.setSq q { s.sq q with pc := a, waited := 0 }

/-- ALT when the condition holds, otherwise NEXT, on the state that the word leaves (R392). -/
def State.flow (s : State) (q : Nat) (w : Mw) : State := s.goTo q (if s.wordCond q w then w.altA else w.nextA)

/-- A word of an opcode that does its work and flows under R392. -/
def State.plainWord (s : State) (q op : Nat) (f : State → Mw → State) : State :=
  if s.canIssue q op then (f (s.issue q) (s.mw q)).flow q (s.mw q) else s

/-! ## Access errors (R396) -/

/-- Every destination register takes ones, MERR is set and source 1 becomes pending. -/
def State.accessError (s : State) (q r n : Nat) : State :=
  ((s.setGrs q r (List.replicate n 0xFFFFFFFF)).setFl q flMERR true).seqEvent q 1

/-! ## Pending registers (R406) -/

/-- A read of PEND_LO or PEND_HI by any agent: the value, and the record of sets since the read cleared. -/
def State.pendRead (s : State) (q half : Nat) : State × Word :=
  let v := word (s.pendBits q / 2 ^ (32 * half))
  let x := s.sq q
  (s.setSq q (if half = 0 then { x with sinceLo := 0 } else { x with sinceHi := 0 }), v)

/-- A write of PEND_LO or PEND_HI: the value with every bit that hardware set since the last read. -/
def State.pendWrite (s : State) (q half : Nat) (v : Word) : State :=
  let x := s.sq q
  s.wr Reg.SEQ_EVC_PEND q half (v ||| (if half = 0 then x.sinceLo else x.sinceHi))

/-! ## Special registers (R390) -/

/-- The count of a timer at a read: it has fallen to some value above zero since it was written, unless it has
expired (log entry 28). -/
def State.timerRead (s : State) (q t : Nat) : State × Word :=
  let x := s.sq q
  let v := (mget (fun _ => (0 : Word)) x.tmr t).toNat
  let n := v % 2 ^ 31
  if n = 0 then (s, word v)
  else
    let (r, s) := s.fresh
    let v' := word (v - n + (r % n + 1))
    (s.setSq q { s.sq q with tmr := mset (fun _ => (0 : Word)) (s.sq q).tmr t v' }, v')

/-- The read of a special register. -/
def State.srRead (s : State) (q n : Nat) : State × Word :=
  let x := s.sq q
  let a := q
  let h := s.hl (a / 2)
  if n = 0x00 then (s, x.flags)
  else if n = 0x01 then (s, x.cf)
  else if n = 0x02 then (s, x.epcN)
  else if n = 0x03 then (s, x.eflN)
  else if n = 0x04 then (s, x.epcF)
  else if n = 0x05 then (s, x.eflF)
  else if n = 0x06 then (s, word x.stack.length)
  else if n = 0x07 then (s, word ((if q < 32 then 0 else 256) + q))
  else if n = 0x08 ∨ n = 0x09 then s.timerRead q (n - 8)
  else if n = 0x0B then (s, word s.tick)
  else if n = 0x0C then (s, word s.epoch)
  else if n = 0x0D then (s, word (s.fld Reg.SEQ_EVC_CTRL_GMASK q))
  else if n = 0x0E ∨ n = 0x0F then (s, s.rd Reg.SEQ_EVC_EN q (n - 0x0E))
  else if n = 0x10 ∨ n = 0x11 then s.pendRead q (n - 0x10)
  else if n = 0x12 ∨ n = 0x13 then (s, s.rd Reg.SEQ_EVC_CLASS q (n - 0x12))
  else if 0x14 ≤ n ∧ n ≤ 0x1B then (s, mget (fun _ => (0 : Word)) x.win (n - 0x14))
  else if n = 0x1C then (s, x.lparLo)
  else if n = 0x1D then (s, x.lparHi)
  else if n = 0x29 then (s, s.rd Reg.SEQ_MBOX q 0)
  else if 32 ≤ q then (s, 0)
  else if n = 0x20 then
    (s.setSq q { x with wcHi := word ((s.sv a).wc / 2 ^ 32 % 2 ^ 16), wnum := word (s.sv a).wnum,
                        wavg := word (qz 10 (s.wAvg a)).toNat },
     word (s.sv a).wc)
  else if n = 0x21 then (s, x.wcHi)
  else if n = 0x22 then (s, x.wnum)
  else if n = 0x23 then (s, x.wavg)
  else if n = 0x24 then (s, word (mget (fun _ => 4096) h.adcN (a % 2)))
  else if n = 0x25 then
    (s.setSq q { x with anchS := word (mget (fun _ => 0) h.anchor (a % 2)),
                        anchF := word (mget (fun _ => 0) h.frac (a % 2)) },
     word h.anchorT)
  else if n = 0x26 then (s, x.anchS)
  else if n = 0x27 then (s, x.anchF)
  else if n = 0x28 then
    (s, word (s.fld Reg.SRV_STAT_STATE a * 16 + s.fld Reg.SPN_STAT_HDA_STATE (a / 2)))
  else (s, 0)

/-- The write of a special register; one that only reads takes no write. -/
def State.srWrite (s : State) (q n : Nat) (v : Word) : State :=
  let x := s.sq q
  if n = 0x00 then s.setSq q { x with flags := word (v.toNat % 64) }
  else if n = 0x01 then s.setSq q { x with cf := v }
  else if n = 0x02 then s.setSq q { x with epcN := word (v.toNat % 2 ^ 15) }
  else if n = 0x03 then s.setSq q { x with eflN := word (v.toNat % 64) }
  else if n = 0x04 then s.setSq q { x with epcF := word (v.toNat % 2 ^ 15) }
  else if n = 0x05 then s.setSq q { x with eflF := word (v.toNat % 64) }
  else if n = 0x08 ∨ n = 0x09 then s.setSq q { x with tmr := mset (fun _ => (0 : Word)) x.tmr (n - 8) v }
  else if n = 0x0A then s.setSq q { x with wdogOnce := false }
  else if n = 0x0D then s.setFld Reg.SEQ_EVC_CTRL_GMASK q v.toNat
  else if n = 0x0E ∨ n = 0x0F then s.wr Reg.SEQ_EVC_EN q (n - 0x0E) v
  else if n = 0x10 ∨ n = 0x11 then s.pendWrite q (n - 0x10) v
  else if n = 0x12 ∨ n = 0x13 then s.wr Reg.SEQ_EVC_CLASS q (n - 0x12) v
  else if 0x14 ≤ n ∧ n ≤ 0x1B then
    s.setSq q { x with win := mset (fun _ => (0 : Word)) x.win (n - 0x14) (if n % 2 = 0 then v else word (v.toNat % 256)) }
  else s

/-! ## Dispatch (R404) -/

/-- The lowest source of a mask. -/
def lowest (m : Nat) : Option Nat := (List.range 64).find? fun i => m.testBit i

/-- The source that a boundary dispatches, and whether it is fast. -/
def State.dispatchOf (s : State) (q : Nat) : Option (Nat × Bool) :=
  if s.flag Reg.SEQ_EVC_CTRL_GMASK q then none
  else
    let m := s.pendEnabled q
    let cls := (s.rd Reg.SEQ_EVC_CLASS q 0).toNat + 2 ^ 32 * (s.rd Reg.SEQ_EVC_CLASS q 1).toNat
    let fast := if s.inFast q then none else lowest (m &&& cls)
    match fast with
    | some i => some (i, true)
    | none =>
      if s.inFast q || s.flag Reg.SEQ_STAT_IN_NORMAL q then none
      else (lowest (m - (m &&& cls))).map fun i => (i, false)

/-- A dispatch: the address and FLAGS saved, the pending bit cleared, the handler entered (R404). -/
def State.dispatch (s : State) (q i : Nat) (fast : Bool) : State :=
  let half := i / 32
  let m := word (2 ^ (i % 32))
  let s := s.wr Reg.SEQ_EVC_PEND q half (s.rd Reg.SEQ_EVC_PEND q half &&& ~~~m)
  let x := s.sq q
  let s := if fast then s.setSq q { x with epcF := word x.pc, eflF := x.flags }
    else s.setSq q { x with epcN := word x.pc, eflN := x.flags }
  let s := if fast then (s.setFld Reg.SEQ_STAT_IN_FAST q 1).bump Reg.SEQ_CNT_EVF q 1
    else (s.setFld Reg.SEQ_STAT_IN_NORMAL q 1).bump Reg.SEQ_CNT_EVN q 1
  (s.setFld Reg.SEQ_STAT_STATE q seqRunning).goTo q (s.fldJ Reg.SEQ_EVC_VEC_ADDR q i)

end Sys2Proof.Machine
end

