-- ==== Sys2Proof/Machine/Reactions.lean ====
section
/-!
DEFINITION. The reactions of fault causes (R484), fences of every kind (R64, R204, R325, R409, R466, R485), Sealed (R439)
and the device reset (R431 to R435).
-/

namespace Sys2Proof.Machine

/-! ## Head-link ports (R62, R64, R545) -/

/-- The safe pattern of a port starts or stops as R62 says; the spindle controller reports Braking while it is sent, and
listens when the port carries commands again (R230, R255). -/
def State.safeSettle (s : State) (n : Nat) : State :=
  if s.safeWanted n then
    if s.flag Reg.HLK_STAT_SAFE n then s else (s.startSafe n).spnPortFenced n
  else if s.flag Reg.HLK_STAT_SAFE n then
    let s := s.setFld Reg.HLK_STAT_SAFE n 0
    if s.canCommand n then s.spnPortUp n else s
  else s

/-- A servo engine whose port is fenced is Fenced without a profile (R204). -/
def State.engineFenced (s : State) (a : Nat) : State :=
  let s := (s.injStop a 4).unloadDone a
  (s.inhAll a).srvTo a srvFencedSt

/-- The port goes to a state in which no frame runs: its lanes, receiver, bursts and retrains are empty (R59, R64). -/
def State.portDown (s : State) (n st : Nat) : State :=
  let s := s.linkTo n st
  let x := s.hl n
  let s := if x.retrain.any LaneTrain.host then (s.setFld Reg.HLK_LANE_GO n 0).setFld Reg.HLK_LANE_RESULT n 2 else s
  let s := s.setHl n { x with
    rxq := [], bursts := [], opens := [], tx := none, retrain := [], laneMaps := [], statusSeen := false, aligned := 0
    laneSeen := [], laneMiss := [], winFrames := 0, winUnc := [], winCorr := [] }
  (s.setFld Reg.HLK_STAT_RX_LANES n 0).setFld Reg.HLK_STAT_TX_LANES n 0

/-- A port is fenced: safe pattern, everything received discarded, the HDA fenced in the stream engine (R64). -/
def State.hlkFence (s : State) (n : Nat) (byFault : Bool) : State :=
  let s := s.setFence (srcHLK n) byFault
  let s := ((s.portDown n linkFenced).safeSettle n).setFld Reg.HLK_CTRL_TRAIN n 0
  (((s.spnPortFenced n).engineFenced (2 * n)).engineFenced (2 * n + 1)).stmFenceHda n

/-- All receive lanes of a port lost their signal: fenced without BYFAULT, and the HDA Absent (R65, R485). -/
def State.signalLost (s : State) (n : Nat) : State :=
  ((s.hlkFence n false).setFld Reg.HLK_STAT_PRESENT n 0).spnAbsent n

/-! ## Actuators (R204) -/

/-- A fenced actuator is unloaded, and the stream engine treats its work as that of a fenced HDA (R204). -/
def State.fenceActuator (s : State) (a : Nat) : State :=
  (((s.beginUnload a).cancelAll a).fenceActs [a]).hdaSettle (a / 2)

/-- Actuator `a` fenced for writes (R148). -/
def State.writeFence (s : State) (a : Nat) : State :=
  let s := s.wr Reg.STM_WFENCE 0 0 (word (setBit (s.rd Reg.STM_WFENCE 0 0).toNat a true))
  let keys := s.stm.zones.filterMap fun e =>
    if e.1 / 256 = a ∧ e.2.valid ∧ e.2.shingled ∧ e.2.zstate = 0 then some e.1 else none
  let s := keys.foldl (fun s k => s.setZone k { s.zone k with zstate := 1 }) s
  { s with stm := { s.stm with wReturn := s.stm.wReturn.filter (· != a) } }.fenceWrites a

/-! ## Buffer channels (R325) -/

/-- A fenced channel receives no command (R325). -/
def State.bufFenceWork (s : State) (c : Nat) : State :=
  (s.setFld Reg.BUFC_STAT_STATE c chFenced).setBc c { s.bc c with copying := [], joining := false }

/-! ## Sequencers (R409) -/

/-- A sequencer stops in a state; the gates of a format sequencer end ABORT, its codewords ABANDONED, and the stream engine
treats its actuator's work as that of a fenced HDA (R409, R414). -/
def State.seqStopWork (s : State) (q st : Nat) : State :=
  let s := s.setFld Reg.SEQ_STAT_STATE q st
  let s := s.setSq q { s.sq q with waited := 0, loads := [], cmo := false }
  if q < 32 then
    let s := (List.range 10).foldl (fun s j => s.endHead (10 * q + j) 8) s
    (s.cancelAll q).fenceActs [q]
  else s

/-- A fenced sequencer (R409). -/
def State.seqFenceWork (s : State) (q : Nat) : State := s.seqStopWork q seqFenced

/-! ## Decoders and cipher engines (R131, R354) -/

/-- A fault found in a decoder: both its bits set, and its codewords reissued with their full budget (R131). -/
def State.decFault (s : State) (d : Nat) : State :=
  let on (r : Reg) (s : State) : State := s.wr r 0 (d / 32) (word (setBit (s.rd r 0 (d / 32)).toNat (d % 32) true))
  let s := on Reg.DEC_DFENCE (on Reg.DEC_DFAULT s)
  let x := s.decoder d
  let s := s.setDecoder d {}
  let s := { s with dec := { s.dec with returning := s.dec.returning.filter (· != d) } }
  let s := { s with cph := { s.cph with storeWait := s.cph.storeWait.filter (· != d) } }
  ((x.run.toList ++ x.next.toList).foldl (fun s w => s.reissueCw w true) s).decStat

/-- A parity fault of an engine: both its bits set, and its request reissued at its age (R354). -/
def State.engFault (s : State) (e : Nat) : State :=
  let on (r : Reg) (s : State) : State := s.wr r 0 (e / 32) (word (setBit (s.rd r 0 (e / 32)).toNat (e % 32) true))
  let s := on Reg.CPH_EFENCE (on Reg.CPH_EFAULT s)
  let s := { s with cph := { s.cph with returning := s.cph.returning.filter (· != e) } }
  match s.engJob e with
  | none => s
  | some j =>
    let put (l : List CphJob) : List CphJob :=
      l.filter (fun k => decide (k.age < j.age)) ++ [j] ++ l.filter (fun k => decide (j.age < k.age))
    let s := (s.setEng e none).bump Reg.CPH_CNT_REISSUE 0 1
    (if j.req.peer then { s with cph := { s.cph with peer := put s.cph.peer } }
     else { s with cph := { s.cph with media := put s.cph.media } }).cphStat

/-- A decoder fenced without a fault finishes its codeword; one that it has not begun goes to another decoder (R131). -/
def State.decHostFence (s : State) (d : Nat) : State :=
  let r := Reg.DEC_DFENCE
  let s := s.wr r 0 (d / 32) (word (setBit (s.rd r 0 (d / 32)).toNat (d % 32) true))
  let s := { s with dec := { s.dec with returning := s.dec.returning.filter (· != d) } }
  let x := s.decoder d
  let s := s.setDecoder d { x with next := none }
  (x.next.toList.foldl (fun s w => s.reissueCw w false) s).decStat

/-- A fenced decoder is to return at the next epoch boundary; refused while its fault bit stands (R131, R31). -/
def State.decReturn (s : State) (d : Nat) : State :=
  if s.decFenced d ∧ ¬ s.decFaulted d then
    let r := Reg.DEC_DFENCE
    let s := s.wr r 0 (d / 32) (word (setBit (s.rd r 0 (d / 32)).toNat (d % 32) false))
    { s with dec := { s.dec with returning := s.dec.returning ++ [d] } }
  else s

/-- An engine fenced without a fault takes no more after its present request (R355). -/
def State.engHostFence (s : State) (e : Nat) : State :=
  let r := Reg.CPH_EFENCE
  let s := s.wr r 0 (e / 32) (word (setBit (s.rd r 0 (e / 32)).toNat (e % 32) true))
  { s with cph := { s.cph with returning := s.cph.returning.filter (· != e) } }

/-- The fault bit of an engine. -/
def State.engFaulted (s : State) (e : Nat) : Bool := bitOf (s.rd Reg.CPH_EFAULT 0 (e / 32)).toNat (e % 32)

/-- A fenced engine is to return at the next epoch boundary; refused while its fault bit stands (R355). -/
def State.engReturn (s : State) (e : Nat) : State :=
  if s.engFenced e ∧ ¬ s.engFaulted e then
    let r := Reg.CPH_EFENCE
    let s := s.wr r 0 (e / 32) (word (setBit (s.rd r 0 (e / 32)).toNat (e % 32) false))
    { s with cph := { s.cph with returning := s.cph.returning ++ [e] } }
  else s

/-! ## Peers (R464, R466) -/

/-- A peer entry changes state, with its Attic record (R493). -/
def State.peerTo (s : State) (i st : Nat) : State :=
  let old := s.peerState i
  if old = st then s
  else
    let s := s.setFld Reg.PEER_CTL_STATE i st
    s.atticEvent 8 [word i, s.rd Reg.PEER_CTL i 0, word old, s.rd Reg.TB_STAT 0 0]

/-- The remote copy of a write counts as a fenced copy: the sector lives on in its local copy, or waits there when that
lies on a fenced unit, and is durable when its local copy is (R279, R460, R466). -/
def State.remoteWriteLost (s : State) (x : Sector) : State :=
  if !s.lastCopy x then s.dropSector x.tag
  else
    match (s.nsd x.nsid).extent x.lba with
    | none => s.writeEnds x false s.stm.sectors.length
    | some e =>
      if s.actOut e.aAct then
        let p := e.aP + (x.lba - e.lba)
        match s.slipMap (zoneKey e.aAct e.aZone) p with
        | (s, some (q, _)) =>
          s.setSector { x with remote := false, copyB := false, act := e.aAct, zone := e.aZone, p0 := p, p := q, st := .queued }
        | (s, none) => s.writeFailed x
      else s.writeEnds x (!s.stm.failed.contains (x.nsid, x.lba)) s.stm.sectors.length

/-- A request that the peer will not answer: its MWRITE counts as a fenced copy, its PREAD falls back to the local copy or
fails (R461, R466). -/
def State.peerReqLost (s : State) (r : PeerReq) : State :=
  match s.sector r.tag with
  | none => s
  | some x =>
    if !x.remote then s
    else if x.op = 1 then s.remoteWriteLost x
    else s.moveCopy x

/-- A peer is lost: its entry is FENCED and its outstanding work ends (R466). -/
def State.peerFence (s : State) (i : Nat) : State :=
  let x := s.pe i
  let s := (s.peerTo i peerFenced).setPe i { x with reqs := [], held := [], joining := false, reserved := 0, rebuild := [] }
  let s := s.wr Reg.PEER_OUT i 0 0
  ((x.reqs ++ x.held).foldl (fun s r => s.peerReqLost r) s).clsFree (s.fld Reg.PFB_CFG_RXCLASS 0)

/-! ## The wipe, Sealed and the device reset (R432 to R435, R439) -/

/-- What the wipe of R434 leaves zero: key slots, every on-chip memory and queue, and buffer memory; control stores hold
TRAP words, which is what an unlisted word is. -/
def State.wipeWork (s : State) : State :=
  let s := { s with
    mem := [], poison := [], pantry := [], cch := {}, cph := {}, dmv := {}, dec := {}, rch := [], land := [], seq := [],
    stm := { hwm := s.stm.hwm }, bufc := []
    hif := { perstHigh := s.hif.perstHigh, applied := s.hif.applied, heldDown := s.hif.heldDown, intr := s.hif.intr, out := s.hif.out }
    pfb := { s.pfb with peers := [] }
    glb := { s.glb with sramWipe := true, bufWipe := true, booting := false } }
  let s := ((List.range 40).filter s.hasSeq).foldl (fun s q => s.setFld Reg.SEQ_STAT_STATE q seqEmpty) s
  let s := (List.range s.nCh).foldl (fun s c => if s.fenced (srcBUFC c) then s else s.setFld Reg.BUFC_STAT_STATE c chTraining) s
  ((s.setFld Reg.GLB_MODE_WIPING 0 1).decStat).cphStat

/-- Sealed (R439). It does not wait for writes to become durable. -/
def State.enterSealed (s : State) : State :=
  if s.mode = modeSealed then s
  else
    let s := s.setMode modeSealed
    let s := (List.range s.nHda).foldl (fun s n => s.safeSettle n) s
    let s := s.linksDown
    let s := (List.range 2).foldl (fun s p => s.setFld Reg.PFBP_PSTAT_UP p 0) s
    (s.setFld Reg.OBS_STAT_PINS 0 0).wipeWork

/-- The openings that FUS_LC and OBS_STAT report: by the life-cycle state, or by a token; a closed OBS has no
selection (R442, R446, R538). -/
def State.lcSettle (s : State) : State :=
  let st := s.fld Reg.FUS_LC_STATE 0
  let free := st == 0 || st == 3
  let may := st == 1 || st == 2
  let o := bit01 (free || (may && s.fus.obsTok))
  let t := bit01 (free || (may && s.fus.tapTok))
  let s := (((s.setFld Reg.FUS_LC_OBS_OPEN 0 o).setFld Reg.FUS_LC_TAP_OPEN 0 t).setFld Reg.OBS_STAT_OPEN 0 o).setFld Reg.PRC_STAT_LC 0 st
  if o = 1 then s else (List.range 8).foldl (fun s k => s.wr Reg.OBS_SEL 0 k 0) s

/-- A new random nonce (R446). -/
def State.newNonce (s : State) : State :=
  let (v, s) := s.fresh
  s.setPair Reg.FUS_NONCE_LO Reg.FUS_NONCE_HI 0 0 (v % 2 ^ 64)

/-- Registers that lie in the HK domain and keep their values over a device reset: the Porch, the Attic, the fuses and the
housekeeping clock's status (R431, R481). -/
def keptAddr (addr : Nat) : Bool :=
  decide (0x00020000 ≤ addr ∧ addr < 0x00080000) || decide (0x00E00000 ≤ addr ∧ addr < 0x00F00000) || addr == 0x00010010

/-- Every domain but HK at its reset values; the Porch, the Attic, the fuses, the flash and the pins keep theirs (R431,
R481, R528). -/
def State.lowState (s : State) (glb : GlbS) : State :=
  let quiet := s.glb.quiet.filter fun e => e.1 == srcPRC || e.1 == srcATC || e.1 == srcFUS
  let s : State := {
    jd16 := s.jd16, regs := s.regs.filter fun e => keptAddr e.1, freeCtr := s.freeCtr
    glb := { glb with quiet := quiet }, atc := s.atc
    fus := { serial := s.fus.serial, ownerHash := s.fus.ownerHash, token := s.fus.token, burn := s.fus.burn }
    hif := { perstHigh := s.hif.perstHigh }, flash := s.flash, chain := s.chain
    pins := { trip := s.pins.trip, ir := s.pins.ir }, pending := s.pending }
  [srcPRC, srcATC, srcFUS].foldl (fun s src => s.setCauses src (s.causes src)) s

/-- The device reset runs: every domain but HK at its reset values, the wipe started (R431, R432, R434, R435, R481, R493). -/
def State.runReset (s : State) (cause : Nat) : State :=
  let old := if s.glb.dormant then 0 else s.mode
  let s := s.lowState { prevMode := old }
  let s := s.newNonce.lcSettle
  let s := (s.setFld Reg.PRC_STAT_MODE 0 modeQuiescent).setFld Reg.PRC_STAT_RAILS 0 1
  s.atticEvent 2 [word cause, word old, s.rd Reg.PRC_STAT 0 0, s.rd Reg.CLK_REF_STAT 0 0]

/-- Every PLL that the variant has is locked (R418, R448). -/
def State.pllsLocked (s : State) : Bool :=
  let m := if s.jd16 then 0x7F else 0x6F
  s.fld Reg.CLK_PLL_STAT_LOCKED 0 &&& m == m

/-! ## Reactions (R478, R484) -/

/-- Reference lost: every port fenced and in the safe pattern, every host link held down (R422). -/
def State.referenceLost (s : State) : State :=
  let s := s.setFld Reg.CLK_REF_STAT_SAFE 0 1
  let s := (List.range s.nHda).foldl (fun s n => s.hlkFence n true) s
  let s := s.linksDown
  { s with hif := { s.hif with heldDown := true } }.degrade

/-- The unit of a cause is already fenced: a contained cause is recorded and no more (R479). -/
def State.alreadyFenced (s : State) (src : Nat) : Bool := fenceable src && s.fenced src

/-- The reaction of a cause that has been recorded (R484). Where the group's units are not named by its instance (a
decoder, an engine, an actuator of the STM, a peer), `unit` names the one concerned. -/
def State.react (s : State) (src bit unit : Nat) : State :=
  if causeClass src bit = 3 then s.enterSealed
  else if src = srcCLK ∧ bit = 0 then s.referenceLost
  else if src = srcDEC ∧ bit = 0 then s.decFault unit
  else if src = srcSTM ∧ bit = 0 then s.writeFence unit
  else if src = srcCPH ∧ bit = 0 then s.engFault unit
  else if (src = srcPFB 0 ∨ src = srcPFB 1) ∧ bit = 1 then s.peerFence unit
  else if 16 ≤ src ∧ src < 32 then
    if bit < 3 then s.hlkFence (src - 16) true else if bit = 3 then s.signalLost (src - 16) else s
  else if 32 ≤ src ∧ src < 64 then
    if bit < 4 then (s.setFence src true).fenceActuator (src - 32) else s
  else if 64 ≤ src ∧ src < 80 then
    let n := src - 64
    if bit = 0 then ((s.setFence src true).stmFenceHda n).spnRest n
    else if bit = 1 ∨ bit = 2 then ((s.setFence src true).stmFenceHda n).spnCoastDown n
    else if bit = 3 ∨ bit = 4 then ((s.setFence src true).stmFenceHda n).ov1Act n
    else s.ov1Act n
  else if 80 ≤ src ∧ src < 88 then
    if bit = 5 ∨ bit = 6 then (s.setFence src true).bufFenceWork (src - 80) else s
  else if 88 ≤ src ∧ src < 128 then
    if bit < 6 then (s.setFence src true).seqFenceWork (src - 88) else s
  else s

/-- A cause occurs: it is recorded, its reaction runs unless the unit is already fenced, and the device degrades
(R477 to R479, R486). -/
def State.raise (s : State) (src bit unit : Nat) (inj : Bool) : State :=
  if s.hasSrc src && causeClass src bit != 0 && !s.gatedSrc src then
    let was := s.alreadyFenced src
    let s := s.cause src bit inj false
    (if was && causeClass src bit == 2 then s else s.react src bit unit).degrade
  else s

/-- A sequencer fault (R409). -/
def State.seqFault (s : State) (q bit : Nat) : State := s.raise (srcSEQ q) bit 0 false

/-- A fault of an actuator: following error, servo lost, load failed, servo set (R202 to R205, R211). -/
def State.srvFault (s : State) (a bit : Nat) : State := s.raise (srcSRV a) bit 0 false

/-- A fault of a head-link port. -/
def State.hlkFault (s : State) (n bit : Nat) : State := s.raise (srcHLK n) bit 0 false

/-- A fault of a buffer channel that fences it; a failed self-test also records the lost channel (R323, R325). -/
def State.bufFault (s : State) (c bit : Nat) : State := s.raise (srcBUFC c) bit 0 false

end Sys2Proof.Machine
end

