-- ==== Sys2Proof/Machine/RegWrite.lean ====
section
/-!
DEFINITION. What a write does to the stored bits of a register: its access masks (R8) and the ranges of its parameter
fields (R12). What a write starts stands with the unit that it starts.
-/

namespace Sys2Proof.Machine

/-- The parameter fields with a range narrower than their encoding, with their least and greatest values (R12). -/
def ranges : List (Fld × Nat × Nat) :=
  [(Reg.SRV_APPLY_DELAY, 1024, 8191), (Reg.SRV_SAM_SAM_ERR, 0, 3), (Reg.SRV_THR1_WR_N, 1, 15),
   (Reg.SRV_THR1_RD_N, 1, 15), (Reg.SRV_THR2_MISS_MAX, 1, 255), (Reg.SRV_FE_FE_TIME, 1, 65535),
   (Reg.SRV_FE_SEEK_MAX, 1, 65535), (Reg.SRV_INJ_CTRL_SIGNAL, 0, 2), (Reg.SRV_INJ_STEP_HOLD, 1, 255),
   (Reg.SPN_PHASE_OFFSET, 0, 46079), (Reg.SPN_RAMP_LD_INC, 1, 16777215), (Reg.SPN_RAMP_UL_INC, 1, 16777215),
   (Reg.SPN_PWM_PERIOD, 13021, 52083), (Reg.SPN_MOTOR_PP, 1, 8), (Reg.SPN_COMM_ADV, 0, 15), (Reg.SPN_START2_ALIGN_STEP, 0, 5),
   (Reg.SPN_BLIND_BLIND_ACC, 1, 65535)] ++
  [(Reg.RCH_PHASE_ZPS_LEN, 0, 64), (Reg.STM_CLS_RING_LOG2, 6, 15), (Reg.CCH_ECC_WAY_TH, 1, 65535),
   (Reg.DMV_CH_CFG_RSIZE, 2, 15), (Reg.BUF_SCRUB_INTERVAL, 1, 65535), (Reg.PFB_CFG_RX_WIN, 1, 1024),
   (Reg.HIF_PCFG_MAXGEN, 1, 6), (Reg.CCH_CTRL_PANTRY_WAYS, 0, 8)]

/-- Fields whose values are multiples of 8 bits. -/
def octets : List Fld := [Reg.RCH_PHASE_ZPS_LEN, Reg.RCH_PHASE_ACQ_LEN]

/-- A value places every parameter field of the register at `addr` inside its range; INDEX of STM_MAP_CMD has the range of its
KIND (R12, R289). -/
def rangeOk (jd16 : Bool) (addr : Nat) (v : Word) : Bool :=
  match regAt jd16 addr with
  | some (_, i, j, _) =>
    (ranges.all fun r => r.1.reg.addr i j != addr || (decide (r.2.1 ≤ r.1.get v) && decide (r.1.get v ≤ r.2.2)))
      && octets.all (fun f => f.reg.addr i j != addr || f.get v % 8 == 0)
      && (Reg.STM_MAP_CMD.addr i j != addr || Reg.STM_MAP_CMD_KIND.get v == 1
        || (decide (1 ≤ Reg.STM_MAP_CMD_INDEX.get v) && decide (Reg.STM_MAP_CMD_INDEX.get v ≤ 128)))
  | none => true

/-- The stored value after a write: read-write bits take the value, written ones clear the bits of W1C (R8). -/
def RegDef.after (d : RegDef) (old v : Word) : Word :=
  let rw := word d.rw
  let c := word d.w1c
  ((old &&& ~~~rw) ||| (v &&& rw)) &&& ~~~(v &&& c)

/-- The stored bits after a write; a value out of range leaves the whole register unchanged (R12). -/
def State.plainWrite (s : State) (addr : Nat) (v : Word) : State :=
  match regAt s.jd16 addr with
  | some (d, _, _, true) => if rangeOk s.jd16 addr v then s.wrA addr (d.after (s.rdA addr) v) else s
  | _ => s

/-- A write of entry `j` of instance `i` of a register. -/
def State.store (s : State) (r : Reg) (i j : Nat) (v : Word) : State := s.plainWrite (r.addr i j) v

/-- The write of a register lies in range, so that what it asks for happens (R12). -/
def State.regWritable (s : State) (r : Reg) (i j : Nat) (v : Word) : Bool :=
  (match regAt s.jd16 (r.addr i j) with | some (_, _, _, true) => true | _ => false) && rangeOk s.jd16 (r.addr i j) v

end Sys2Proof.Machine
end

