-- ==== Sys2Proof/Machine/Buffer.lean ====
section
/-!
DEFINITION. The commands of buffer memory: accesses with their findings, remap and retirement, scrub, retrain, resilver,
segments and the self-test (R309 to R326).
-/

namespace Sys2Proof.Machine

/-! ## Groups (R311, R317, R318) -/

/-- Groups of each device. -/
def State.nGroups (s : State) : Nat := if s.fld Reg.BUF_CAP_DENSITY 0 = 24 then 3145728 else 2097152

/-- 32 MiB units that a segment takes from every channel (R310). -/
def State.segUnits (s : State) (duplex : Bool) : Nat := (if duplex then 16 else 8) / s.nCh

/-- Pages of 4 KiB whose buffer addresses a channel-local range of bytes holds, as address bits [39:12] (R310, R318). -/
def State.pagesOf (s : State) (c l n : Nat) : List Nat :=
  let page (a : Nat) : List Nat :=
    (List.range 128).filterMap fun k =>
      let dup := s.fldJ Reg.BUF_SEG_DUPLEX 0 k = 1
      let base := s.fldJ Reg.BUF_SEG_DOFS 0 k * 2 ^ 25
      if s.fldJ Reg.BUF_SEG_VALID 0 k = 1 ∧ base ≤ a ∧ a < base + s.segUnits dup * 2 ^ 25 then
        let lu := (a - base) / 1024
        let u := if dup then lu * (s.nCh / 2) + c % (s.nCh / 2) else lu * s.nCh + c
        some ((k * 2 ^ 28 + u * 1024) / 4096)
      else none
  (page l ++ page (l + n - 1)).eraseDups

/-- A hard group that cannot be remapped is retired (R318). `data` is the group whose data it holds. -/
def State.retire (s : State) (c g data : Nat) : State :=
  let i := s.fld Reg.BUF_RLOG_WP_WP 0
  let s := if s.fldJ Reg.BUF_RLOG0_VALID 0 i = 1 then s.bump Reg.BUF_CNT_RLOST 0 1 else s
  let ps := s.pagesOf c (data * 960) 960
  let w (k : Nat) : Word := match ps[k]? with | some p => word (2 ^ 31 + p) | none => 0
  let s := s.wr Reg.BUF_RLOG0 0 i (word (2 ^ 31 + c * 2 ^ 28 + g))
  let s := ((s.wr Reg.BUF_RLOG1 0 i (w 0)).wr Reg.BUF_RLOG2 0 i (w 1)).wr Reg.BUF_RLOG3 0 i (word s.epoch)
  let s := (s.setFld Reg.BUF_RLOG_WP_WP 0 ((i + 1) % 32)).corrected (srcBUFC c) 1
  let n := (s.bc c).retired + 1
  let s := s.setBc c { s.bc c with retired := n }
  if n = 8 then s.bufFault c 2 else s

/-- The remap entry of a group. -/
def State.remapOf (s : State) (c g : Nat) : Option Nat :=
  (List.range 16).find? fun i => s.rd Reg.BUFC_REMAP c i == word (2 ^ 31 + g)

/-- A hard group: its corrected copy into a spare begins, or it is retired (R317, R318). -/
def State.hardGroup (s : State) (c g : Nat) : State :=
  let x := s.bc c
  match s.remapOf c g with
  | some i => s.retire c (s.nGroups - 16 + i) g
  | none =>
    if x.copying.any fun e => e.1 == g then s
    else
      match (List.range 16).find? fun i => s.fldJ Reg.BUFC_REMAP_VALID c i == 0 && !x.copying.any fun e => e.2 == i with
      | some i => if s.jd16 then s.setBc c { x with copying := x.copying ++ [(g, i)] } else s.retire c g g
      | none => s.retire c g g

/-! ## Retrain (R324) -/

/-- A retrain of a channel that serves starts. -/
def State.startRetrain (s : State) (c : Nat) : State :=
  if s.chState c = chUp ∧ ¬ s.fenced (srcBUFC c) then
    ((s.setFld Reg.BUFC_STAT_STATE c chRetraining).setFld Reg.BUFC_CTRL_RETRAIN c 1).setFld Reg.BUFC_CTRL_RETRAIN_FAIL c 0
  else s

/-! ## Findings on a block (R314 to R320) -/

/-- Burst repeats by EDC (R314). -/
def State.edcRepeats (s : State) (c n : Nat) : State :=
  let k := min 3 n
  if k = 0 then s
  else
    let x := s.bc c
    let s := (s.bump Reg.BUFC_CNT_EDC c k).setBc c { x with edc := x.edc + k }
    if s.fld Reg.BUFC_CTRL_EDC_TH c ≤ x.edc + k then s.startRetrain c else s

/-- A corrected block (R315, R316, R319). -/
def State.blockCorrected (s : State) (c g : Nat) (hard : Bool) : State :=
  let s := s.bump Reg.BUFC_CNT_CORR c 1
  if s.flag Reg.BUF_CTRL_COMPAT 0 then s.corrected (srcBUFC c) 0
  else
    let n := s.fld Reg.BUFC_STAT_LB_COUNT c + 1
    let s := if s.fld Reg.BUF_LB_TH 0 < n then (s.setFld Reg.BUFC_STAT_LB_COUNT c 0).corrected (srcBUFC c) 0
      else s.setFld Reg.BUFC_STAT_LB_COUNT c n
    if hard then s.hardGroup c g else s

/-- The finding on a block of a copy: true when it delivers good data. -/
def State.blockFound (s : State) (cl : Nat × Nat) (o : BlockOutcome) : State × Bool :=
  let c := cl.1
  let s := s.edcRepeats c o.edc
  if s.poison.contains (locKey c (cl.2 / 64)) ∨ 4 ≤ o.edc then (s, false)
  else
    match o.res with
    | .good => (s, true)
    | .corrected hard => (s.blockCorrected c (cl.2 / 64 / 15) hard, true)
    | .lost => (s, false)

/-- A block that reads poisoned from now on, or not. -/
def State.setPoison (s : State) (cl : Nat × Nat) (on : Bool) : State :=
  let k := locKey cl.1 (cl.2 / 64)
  { s with poison := if on then (if s.poison.contains k then s.poison else s.poison ++ [k]) else s.poison.filter (· != k) }

/-- The bytes of a block copied from one copy to the other (R320). -/
def State.copyBlock (s : State) (src dst : Nat × Nat) : State :=
  (List.range 64).foldl (fun s i =>
    let b := s.byteAt (src.1, src.2 / 64 * 64 + i)
    { s with mem := mset (fun _ => (0 : Byte)) s.mem (locKey dst.1 (dst.2 / 64 * 64 + i)) b }) s

/-- A block that cannot be corrected: lost, or repaired from its other copy (R320). -/
def State.blockLost (s : State) (cl : Nat × Nat) (other : Option (Nat × Nat)) (o : BlockOutcome) : State :=
  let s := s.bump Reg.BUFC_CNT_UNC cl.1 1
  let lost (s : State) : State := (s.setPoison cl true).bufFault cl.1 3
  match other with
  | none => lost s
  | some d =>
    if !s.chReads d.1 then lost s
    else
      match s.blockFound d o with
      | (s, true) => ((s.copyBlock d cl).setPoison cl false).corrected (srcBUFC cl.1) 4
      | (s, false) => lost ((s.bump Reg.BUFC_CNT_UNC d.1 1).setPoison d true)

/-- A read of a block: the first copy that serves, and the other one when it fails (R320, R325). -/
def State.blockRead (s : State) (a : BufAcc) : State :=
  match (s.locs a.addr).filter fun cl => s.chReads cl.1 with
  | [] => s.noteUnmapped a.addr a.len
  | cl :: rest =>
    match s.blockFound cl a.first with
    | (s, true) => s
    | (s, false) => s.blockLost cl rest.head? a.second

/-- A write of bytes of a block; one whose third repeat fails leaves that copy uncorrectable (R314, R325). -/
def State.blockWrite (s : State) (a : BufAcc) (bs : List Byte) : State :=
  let ls := s.writable a.addr
  let (s, ok) := s.bufWrite a.addr bs
  if !ok then s
  else
    (ls.zip [a.first, a.second]).foldl (fun s e =>
      let s := s.edcRepeats e.1.1 e.2.edc
      if 4 ≤ e.2.edc then (s.bump Reg.BUFC_CNT_UNC e.1.1 1).setPoison e.1 true else s) s

/-- BUFFER_ACCESS (R310, R313): one access inside a block. -/
def execBufferAccess (acc : BufAcc) (s : State) : Host.Outcome State Fault Refusal := s.powered fun s =>
  let ok := decide (0 < acc.len) && decide (acc.addr % 64 + acc.len ≤ 64) && decide (acc.addr < 2 ^ 40)
    && (match acc.data with | some bs => bs.length == acc.len | none => true)
  .next (
    if !ok then s
    else match acc.data with
      | none => s.blockRead acc
      | some bs => s.blockWrite acc bs)

/-- REMAP_COPY_END (R317): the oldest copy of a channel ends, and accesses go to the spare. -/
def execRemapCopyEnd (c : Nat) (s : State) : Host.Outcome State Fault Refusal := s.powered fun s =>
  .next (match (s.bc c).copying with
    | (g, i) :: rest =>
      let s := (s.setBc c { s.bc c with copying := rest }).wr Reg.BUFC_REMAP c i (word (2 ^ 31 + g))
      s.setFld Reg.BUFC_STAT_REMAPS c ((List.range 16).filter fun i => s.fldJ Reg.BUFC_REMAP_VALID c i == 1).length
    | [] => s)

/-- SCRUB_INTERVAL (R322): the next group is read; the finding is that of its first data block. -/
def execScrubInterval (c : Nat) (out : BlockOutcome) (s : State) : Host.Outcome State Fault Refusal := s.powered fun s =>
  .next (
    if ¬ (c < s.nCh ∧ s.flag Reg.BUF_CTRL_SCRUB_EN 0 ∧ s.chState c = chUp) ∨ s.fenced (srcBUFC c) then s
    else
      let g := (s.bc c).scrub
      let cl : Nat × Nat := (c, g * 960)
      let s := (s.setBc c { s.bc c with scrub := (g + 1) % s.nGroups }).bump Reg.BUFC_CNT_SCRUB c 1
      let dup := (List.range 128).any fun k =>
        s.fldJ Reg.BUF_SEG_VALID 0 k == 1 && s.fldJ Reg.BUF_SEG_DUPLEX 0 k == 1
          && decide (s.fldJ Reg.BUF_SEG_DOFS 0 k * 2 ^ 25 ≤ cl.2)
          && decide (cl.2 < s.fldJ Reg.BUF_SEG_DOFS 0 k * 2 ^ 25 + s.segUnits true * 2 ^ 25)
      let other := if dup then some ((c + s.nCh / 2) % s.nCh, cl.2) else none
      match s.blockFound cl out with
      | (s, true) => s
      | (s, false) => s.blockLost cl other { edc := 0, res := .good })

/-- CHANNEL_RETRAIN (R324): a write of BUF_CH_CTRL with RETRAIN set. -/
def execChannelRetrain (c : Nat) (v : Word) (s : State) : Host.Outcome State Fault Refusal := s.powered fun s =>
  .next (if s.regWritable Reg.BUFC_CTRL c 0 v ∧ Reg.BUFC_CTRL_RETRAIN.get v = 1 then (s.store Reg.BUFC_CTRL c 0 v).startRetrain c
    else s)

/-- RETRAIN_STEP_END (R324, R325): the retrain's last step ends, or a step fails. -/
def execRetrainStepEnd (c : Nat) (ok : Bool) (s : State) : Host.Outcome State Fault Refusal := s.powered fun s =>
  .next (
    if c < s.nCh ∧ s.chState c = chRetraining then
      let s := s.setFld Reg.BUFC_CTRL_RETRAIN c 0
      if ok then s.setFld Reg.BUFC_STAT_STATE c chUp
      else (s.setFld Reg.BUFC_CTRL_RETRAIN_FAIL c 1).bufFault c 6
    else s)

/-- What a channel holds once it has resilvered: zeros in its simplex parts, the partner's duplex blocks (R326). -/
def State.resilver (s : State) (c : Nat) : State :=
  let p := (c + s.nCh / 2) % s.nCh
  let dup (l : Nat) : Bool := (List.range 128).any fun k =>
    s.fldJ Reg.BUF_SEG_VALID 0 k == 1 && s.fldJ Reg.BUF_SEG_DUPLEX 0 k == 1
      && decide (s.fldJ Reg.BUF_SEG_DOFS 0 k * 2 ^ 25 ≤ l)
      && decide (l < s.fldJ Reg.BUF_SEG_DOFS 0 k * 2 ^ 25 + s.segUnits true * 2 ^ 25)
  let m := s.mem.filter fun e => e.1 / 2 ^ 34 != c
  let from_ := s.mem.filter fun e => e.1 / 2 ^ 34 == p && dup (e.1 % 2 ^ 34)
  let bad := s.poison.filter fun k => k / 2 ^ 34 == p && dup (k % 2 ^ 34 * 64)
  { s with
    mem := from_.foldl (fun m e => mset (fun _ => (0 : Byte)) m (locKey c (e.1 % 2 ^ 34)) e.2) m
    poison := (s.poison.filter fun k => k / 2 ^ 34 != c) ++ bad.map fun k => locKey c (k % 2 ^ 34) }

/-- RESILVER_END (R326): the channel joins at the next epoch boundary. -/
def execResilverEnd (c : Nat) (s : State) : Host.Outcome State Fault Refusal := s.powered fun s =>
  .next (
    if c < s.nCh ∧ s.chState c = chResilvering ∧ ¬ (s.bc c).joining ∧ s.chReads ((c + s.nCh / 2) % s.nCh) then
      let s := s.resilver c
      s.setBc c { s.bc c with joining := true }
    else s)

/-- SEGMENT_WRITE (R310, R338). -/
def execSegmentWrite (k : Nat) (v : Word) (s : State) : Host.Outcome State Fault Refusal := s.powered fun s =>
  let first := Reg.BUF_SEG_DOFS.get v
  let units := s.segUnits (Reg.BUF_SEG_DUPLEX.get v = 1)
  let meet (j : Nat) : Bool :=
    j != k && s.fldJ Reg.BUF_SEG_VALID 0 j == 1
      && decide (first < s.fldJ Reg.BUF_SEG_DOFS 0 j + s.segUnits (s.fldJ Reg.BUF_SEG_DUPLEX 0 j = 1))
      && decide (s.fldJ Reg.BUF_SEG_DOFS 0 j < first + units)
  let bad := Reg.BUF_SEG_VALID.get v = 1 ∧ (s.fld Reg.BUF_CAP_UNITS 0 < first + units ∨ (List.range 128).any meet)
  let held := s.fldJ Reg.BUF_SEG_VALID 0 k = 1 ∧ s.mode ≠ modeQuiescent ∧ s.rd Reg.BUF_SEG 0 k ≠ v
  .next (
    if ¬ s.regWritable Reg.BUF_SEG 0 k v then s
    else if bad ∨ held then s.setFld Reg.BUF_STAT_SEG_REFUSED 0 1
    else s.store Reg.BUF_SEG 0 k v)

/-- BUFFER_SELF_TEST_END (R323): bit c of `failed` says that channel c failed a step. -/
def execBufferSelfTestEnd (failed : Nat) (s : State) : Host.Outcome State Fault Refusal := s.powered fun s =>
  .next (
    if s.glb.bufWipe then
      let s := { s with glb := { s.glb with bufWipe := false } }
      let s := (List.range s.nCh).foldl (fun s c =>
        if s.chState c = chTraining then
          if failed.testBit c then (s.bufFault c 5).bufFault c 6 else s.setFld Reg.BUFC_STAT_STATE c chUp
        else s) s
      s.setFld Reg.BUF_CTRL_EN 0 1
    else s)

/-- REFRESH (R309): requests of the channel wait while it refreshes; no state is left by it. -/
def execRefresh (_ : Nat) (s : State) : Host.Outcome State Fault Refusal := .next s

end Sys2Proof.Machine
end

