-- ==== Sys2Proof/Machine/CacheOps.lean ====
section
/-!
DEFINITION. Requests, fills, maintenance operations and failing ways of the context cache (R294 to R307).
-/

namespace Sys2Proof.Machine

/-! ## Failing ways (R306, R307) -/

/-- The lines that a way of a bank holds, by set. -/
def State.waySets (s : State) (bank way : Nat) : List Nat :=
  (s.cch.lines.filter fun e => e.1 / 512 == bank * 16 + way && e.2.valid).map fun e => e.1 % 512

/-- A way of a bank is disabled, unless a set would keep fewer than two eligible ways (R307). -/
def State.disableWay (s : State) (bank way : Nat) : State :=
  if s.wayDis bank way then s
  else if (List.range 512).any fun st => decide (((s.eligibleWays bank st).filter (· != way)).length < 2) then
    s.raise srcCCH 2 0 false
  else
    let s := (s.waySets bank way).foldl (fun s st =>
      let locked := (s.cline bank way st).locked
      let s := (s.writeBack bank way st).setCline bank way st {}
      if locked then s.bump Reg.CCH_CNT_LOCKLOST 0 1 else s) s
    let r := s.rd Reg.CCH_WAY_DIS 0 (bank / 2)
    (s.wr Reg.CCH_WAY_DIS 0 (bank / 2) (word (setBit r.toNat (bank % 2 * 16 + way) true))).bump Reg.CCH_CNT_DIS 0 1

/-- A single-bit error corrected, counted against its bank and way; a Pantry way is never disabled (R306, R307). -/
def State.eccSingle (s : State) (bank way : Nat) (pantry : Bool) : State :=
  let k := bank * 16 + way
  let n := mget (fun _ => 0) s.cch.ecc k + 1
  let s := ({ s with cch := { s.cch with ecc := mset (fun _ => 0) s.cch.ecc k n } }).bump Reg.CCH_CNT_CORR 0 1
  let s := s.corrected srcCCH 0
  if !pantry ∧ s.fld Reg.CCH_ECC_WAY_TH 0 ≤ n then s.disableWay bank way else s

/-! ## Requests (R292, R294) -/

/-- The answer to a request. -/
def State.cacheAnswer (s : State) (r : CacheReq) (d : Option (List Byte)) : State :=
  { s with cch := { s.cch with out := { who := r.who, addr := r.addr, data := d } :: s.cch.out } }

/-- A request served from the line that a way holds. -/
def State.cacheServe (s : State) (r : CacheReq) (way : Nat) : State :=
  let b := lineBank r.addr
  let st := lineSet r.addr
  let l := s.cline b way st
  match r.data with
  | some bs => (s.setCline b way st { l with data := mergeBytes l.data (r.addr % 64) bs, dirty := true }).cacheAnswer r (some [])
  | none => s.cacheAnswer r (some ((l.data.drop (r.addr % 64)).take r.len))

/-- A request past the cache. -/
def State.cacheBypass (s : State) (r : CacheReq) : State :=
  match r.data with
  | some bs =>
    match s.bufWrite r.addr bs with
    | (s, true) => s.cacheAnswer r (some [])
    | (s, false) => s.cacheAnswer r none
  | none =>
    match s.bufFetch r.addr r.len with
    | (s, d) => s.cacheAnswer r d

def State.cmiss (s : State) (bank : Nat) : Option CMiss := mget (fun _ => none) s.cch.miss bank
def State.setCmiss (s : State) (bank : Nat) (m : Option CMiss) : State :=
  let s := { s with cch := { s.cch with miss := mset (fun _ => none) s.cch.miss bank m } }
  s.setFld Reg.CCH_STAT_MISS_BUSY 0 (setBit (s.fld Reg.CCH_STAT_MISS_BUSY 0) bank m.isSome)

/-- The request joins those that wait. -/
def State.cacheWait (s : State) (r : CacheReq) : State := { s with cch := { s.cch with waiting := s.cch.waiting ++ [r] } }

/-- The running range operation covers the line of an address (R302). -/
def State.opCovers (s : State) (addr : Nat) : Bool :=
  match s.cch.op with
  | some o => o.range && decide (o.op ≤ 3) && decide (addr / 64 * 64 < o.addr + o.len) && decide (o.addr < addr / 64 * 64 + 64)
      && decide (0 < o.len)
  | none => false

/-- A request that no hit serves: it waits on the bank's miss, or becomes it (R294, R302). -/
def State.cacheMiss (s : State) (r : CacheReq) : State :=
  let b := lineBank r.addr
  match s.cmiss b with
  | some m => if m.line = r.addr / 64 then s.setCmiss b (some { m with reqs := m.reqs ++ [r] }) else s.cacheWait r
  | none =>
    if s.opCovers r.addr then s.cacheWait r
    else (s.setCmiss b (some { line := r.addr / 64, reqs := [r] })).bump Reg.CCH_CNT_MISS 0 1

/-- A request as its bank takes it (R294, R306). -/
def State.cacheReq (s : State) (r : CacheReq) : State :=
  let b := lineBank r.addr
  let st := lineSet r.addr
  if !s.cached r.addr then s.cacheBypass r
  else if s.cch.waiting.any fun w => lineBank w.addr == b && !s.opCovers w.addr then s.cacheWait r
  else
    match s.hitWay r.addr with
    | none => s.cacheMiss r
    | some w =>
      match r.ecc with
      | .double =>
        if (s.cline b w st).dirty then
          let s := (s.setCline b w st {}).raise srcCCH 1 0 false
          (s.disableWay b w).cacheAnswer r none
        else
          let s := (s.setCline b w st {}).corrected srcCCH 0
          (s.disableWay b w).cacheMiss { r with ecc := .good }
      | e =>
        let s := ((s.bump Reg.CCH_CNT_HIT 0 1).touch b w st r.once).cacheServe r w
        if e = .single then s.eccSingle b w false else s

/-- The waiting requests of a bank are taken again, in arrival order. -/
def State.cacheResume (s : State) (bank : Nat) : State :=
  let xs := s.cch.waiting.filter fun r => lineBank r.addr == bank
  let s := { s with cch := { s.cch with waiting := s.cch.waiting.filter fun r => lineBank r.addr != bank } }
  xs.foldl (fun s r => s.cacheReq r) s

/-- The fill of a bank's miss returns (R294, R296, R301). -/
def State.cacheFill (s : State) (bank : Nat) : State :=
  match s.cmiss bank with
  | none => s
  | some m =>
    let a := m.line * 64
    let s := s.setCmiss bank none
    match s.bufFetch a 64 with
    | (s, none) => (m.reqs.foldl (fun s r => s.cacheAnswer r none) s).cacheResume bank
    | (s, some bs) =>
      match m.reqs with
      | [] => s.cacheResume bank
      | r :: rest =>
        if m.poisoned then
          let s := match r.data with
            | some d => match s.bufWrite r.addr d with
              | (s, true) => s.cacheAnswer r (some [])
              | (s, false) => s.cacheAnswer r none
            | none => s.cacheAnswer r (some ((bs.drop (r.addr % 64)).take r.len))
          (rest.foldl (fun s r => s.cacheMiss r) s).cacheResume bank
        else
          let s := if (s.hitWay a).isSome then s else s.install a bs r.once
          let s := m.reqs.foldl (fun s r =>
            match s.hitWay r.addr with
            | some w => s.cacheServe r w
            | none => s.cacheBypass r) s
          s.cacheResume bank

/-! ## Maintenance operations (R297 to R302) -/

/-- Indices of the valid lines that an operation covers, with the bytes in their addresses. -/
def State.opLines (s : State) (o : COp) : List (Nat × Nat × Nat) :=
  let ls := s.cch.lines.filter fun e =>
    let bank := e.1 / 8192
    let way := e.1 / 512 % 16
    let a := lineAddr bank (e.1 % 512) e.2.tag
    e.2.valid && decide (way < 16 - s.pantryWays)
      && (if o.range then decide (a < o.addr + o.len) && decide (o.addr < a + 64) && decide (0 < o.len)
          else a == o.addr / 64 * 64)
  ls.map fun e => (e.1 / 8192, e.1 / 512 % 16, e.1 % 512)

/-- A fill under way for a line that the operation covers is poisoned (R301). -/
def State.opPoison (s : State) (o : COp) : State × COp :=
  (List.range 16).foldl (fun acc b =>
    match acc.1.cmiss b with
    | none => acc
    | some m =>
      let a := m.line * 64
      let hit := if o.range then decide (a < o.addr + o.len) && decide (o.addr < a + 64) && decide (0 < o.len)
        else a == o.addr / 64 * 64
      if hit && !m.poisoned then (acc.1.setCmiss b (some { m with poisoned := true }), { acc.2 with poison := acc.2.poison + 1 })
      else acc) (s, o)

/-- INVAL, CLEAN or FLUSH on one line (R298, R300). -/
def State.opLine (s : State) (o : COp) (l : Nat × Nat × Nat) : State × COp :=
  let b := l.1
  let w := l.2.1
  let st := l.2.2
  let x := s.cline b w st
  let pass := o.range && x.locked && !o.incl
  let wb := x.dirty && (o.op != 1 || pass)
  let s := if wb then s.writeBack b w st else s
  let o := if wb then { o with wb := o.wb + 1 } else o
  if o.op = 2 then (s, o)
  else if pass then (s.setCline b w st { s.cline b w st with stale := true }, { o with stale := o.stale + 1 })
  else (s.setCline b w st {}, { o with inval := o.inval + 1 })

/-- The effect of an operation; its result waits for CACHE_OP_COMPLETE (R302). -/
def State.opRun (s : State) (o : COp) : State :=
  let set (p : State × COp) : State := { p.1 with cch := { p.1.cch with op := some p.2 } }
  let b := lineBank o.addr
  let st := lineSet o.addr
  if o.op = 1 ∨ o.op = 2 ∨ o.op = 3 then
    set ((s.opLines o).foldl (fun acc l => acc.1.opLine acc.2 l) (s.opPoison o))
  else if o.op = 4 then
    let refuse := set (s, { o with refused := true })
    match s.hitWay o.addr with
    | some w =>
      if (s.cline b w st).locked then set (s, o)
      else if (s.eligibleWays b st).length < 3 ∧ s.wayUsable b w then refuse
      else set (s.setCline b w st { s.cline b w st with locked := true }, o)
    | none =>
      if (s.eligibleWays b st).length < 3 then refuse
      else
        match s.bufFetch (o.addr / 64 * 64) 64 with
        | (s, none) => set (s, { o with refused := true })
        | (s, some bs) =>
          let s := s.install o.addr bs false
          match s.hitWay o.addr with
          | some w => set (s.setCline b w st { s.cline b w st with locked := true }, o)
          | none => set (s, { o with refused := true })
  else if o.op = 5 then
    match s.hitWay o.addr with
    | some w =>
      let x := s.cline b w st
      if x.locked && x.stale then set (s.setCline b w st {}, { o with inval := 1 })
      else set (s.setCline b w st { x with locked := false }, o)
    | none => set (s, o)
  else
    match s.hitWay o.addr with
    | some w =>
      let x := s.cline b w st
      set (s, { o with look := 2 ^ 31 + bit01 x.dirty * 2 ^ 30 + bit01 x.locked * 2 ^ 29 + bit01 x.stale * 2 ^ 28 + x.age * 2 ^ 26 + w })
    | none => set (s, o)

/-- The operation that the registers name (R308). -/
def State.opOfRegs (s : State) : COp :=
  { op := s.fld Reg.CCH_OP_OP 0, addr := s.pair Reg.CCH_OP_ADDR_LO Reg.CCH_OP_ADDR_HI 0 0,
    len := s.pair Reg.CCH_OP_LEN_LO Reg.CCH_OP_LEN_HI 0 0,
    range := s.flag Reg.CCH_OP_RANGE 0 && decide (s.fld Reg.CCH_OP_OP 0 ≤ 3), incl := s.flag Reg.CCH_OP_INCL_LOCKED 0, who := none }

/-- A write of CCH_OP: GO starts an operation, or is ignored while one runs; an OP of no operation is REFUSED (R298,
R308). -/
def State.cacheOpWrite (s : State) (v : Word) : State :=
  if s.regWritable Reg.CCH_OP 0 0 v then
    if Reg.CCH_OP_GO.get v = 1 then
      if s.cch.op.isSome then s
      else
        let s := s.store Reg.CCH_OP 0 0 v
        let o := s.opOfRegs
        if o.op = 0 ∨ 6 < o.op then (s.setFld Reg.CCH_OP_RESULT 0 2).setFld Reg.CCH_OP_GO 0 0
        else ((s.setFld Reg.CCH_OP_GO 0 1).setFld Reg.CCH_OP_RESULT 0 0).opRun o
    else s.store Reg.CCH_OP 0 0 v
  else s

/-- The words that an operation leaves in CCH_OP_RES0 and CCH_OP_RES1 (R308). -/
def COp.results (o : COp) : Word × Word :=
  (word (min 65535 o.inval * 65536 + min 65535 o.stale),
   if o.op = 6 then word o.look else word (min 65535 o.poison * 65536 + min 65535 o.wb))

/-- The running operation ends; the next one of microcode starts (R298, R302). -/
def State.opDone (s : State) : State :=
  match s.cch.op with
  | none => s
  | some o =>
    let s := { s with cch := { s.cch with op := none } }
    let s := (s.wr Reg.CCH_OP_RES0 0 0 o.results.1).wr Reg.CCH_OP_RES1 0 0 o.results.2
    let s := if o.who.isNone then (s.setFld Reg.CCH_OP_RESULT 0 (if o.refused then 2 else 1)).setFld Reg.CCH_OP_GO 0 0 else s
    let s := (List.range 16).foldl (fun s b => s.cacheResume b) s
    match s.cch.opq with
    | [] => s
    | n :: rest => ({ s with cch := { s.cch with opq := rest } }).opRun n

/-! ## The Pantry's ways (R303 to R305) -/

/-- A write of CCH_CTRL (R305, R308). -/
def State.cchCtrlWrite (s : State) (v : Word) : State :=
  if !s.regWritable Reg.CCH_CTRL 0 0 v then s
  else
    let old := s.pantryWays
    let new := Reg.CCH_CTRL_PANTRY_WAYS.get v
    let ways := (List.range 16).filter fun w => decide (16 - new ≤ w) && decide (w < 16 - old)
    let sets := (List.range 16).flatMap fun b => ways.flatMap fun w => (s.waySets b w).map fun st => (b, w, st)
    if sets.any fun l => (s.cline l.1 l.2.1 l.2.2).locked then s.setFld Reg.CCH_STAT_PW_REFUSED 0 1
    else
      let s := sets.foldl (fun s l => (s.writeBack l.1 l.2.1 l.2.2).setCline l.1 l.2.1 l.2.2 {}) s
      { s.store Reg.CCH_CTRL 0 0 v with pantry := s.pantry.filter fun c => c.1 < new * 2 ^ 19 }

/-- An access to the Pantry window: its bytes, or none after a double-bit error (R304, R306). -/
def State.pantryAcc (s : State) (a : PantryAcc) : State :=
  let way := 15 - a.offset / 2 ^ 19
  let bank := a.offset / 64 % 16
  let r : CacheReq := { who := a.who, addr := a.offset, len := a.len, data := a.data, once := false, ecc := a.ecc }
  if s.pantrySize ≤ a.offset then
    (match a.data with | some bs => s.pantryWrite a.offset bs | none => (s.pantryRead a.offset a.len).1).cacheAnswer r
      (some (if a.data.isSome then [] else List.replicate a.len 0))
  else
    match a.ecc with
    | .double => (s.raise srcCCH 1 0 false).cacheAnswer r none
    | e =>
      let s := match a.data with
        | some bs => (s.pantryWrite a.offset bs).cacheAnswer r (some [])
        | none => match s.pantryRead a.offset a.len with | (s, bs) => s.cacheAnswer r (some bs)
      if e = .single then s.eccSingle bank way true else s

end Sys2Proof.Machine
end

