-- ==== Sys2Proof/Machine/Cache.lean ====
section
/-!
DEFINITION. The commands of the context cache and the Pantry (R294 to R307).
-/

namespace Sys2Proof.Machine

/-- A request is one that the cache can take: the STM or a sequencer asks for 4 to 64 bytes inside one line (R292). -/
def cacheReqOk (r : CacheReq) (s : State) : Bool :=
  (match r.who with | .stm => true | .seq q => s.hasSeq q | _ => false)
    && decide (4 ≤ r.len) && decide (r.addr % 64 + r.len ≤ 64) && decide (r.addr < 2 ^ 40)
    && (match r.data with | some bs => bs.length == r.len | none => true)

/-- CACHE_REQUEST (R294). -/
def execCacheRequest (r : CacheReq) (s : State) : Host.Outcome State Fault Refusal := s.powered fun s =>
  .next (if cacheReqOk r s then s.cacheReq r else s)

/-- CACHE_FILL_RETURN (R301). -/
def execCacheFillReturn (bank : Nat) (s : State) : Host.Outcome State Fault Refusal := s.powered fun s =>
  .next (if bank < 16 then s.cacheFill bank else s)

/-- A cache operation asked for by a write of CCH_OP or by a CMO word (R298, R398): a word stalls until the operation has
completed, and waits its turn while another runs. -/
def State.cacheOp (s : State) (op : Nat) (src : CmoSrc) : State :=
  match src with
  | .reg v => if Reg.CCH_OP_OP.get v = op ∧ Reg.CCH_OP_GO.get v = 1 then s.cacheOpWrite v else s
  | .seq q =>
    let w := s.mw q
    if 32 ≤ q ∧ s.canIssue q 0x2C ∧ w.mOfs % 16 = op then
      let o : COp :=
        { op := op, addr := s.memAddr q w, len := (s.gr q (w.mD + 1)).toNat, range := bitOf w.mOfs 4 && decide (op ≤ 3),
          incl := bitOf w.mOfs 5, who := some q }
      let s := s.issue q
      let s := s.setSq q { s.sq q with cmo := true }
      if s.cch.op.isSome then { s with cch := { s.cch with opq := s.cch.opq ++ [o] } } else s.opRun o
    else s

/-- INVAL (R298). -/
def execInval (src : CmoSrc) (s : State) : Host.Outcome State Fault Refusal := s.powered fun s => .next (s.cacheOp 1 src)

/-- CLEAN (R298). -/
def execClean (src : CmoSrc) (s : State) : Host.Outcome State Fault Refusal := s.powered fun s => .next (s.cacheOp 2 src)

/-- CACHE_FLUSH (R298). -/
def execCacheFlush (src : CmoSrc) (s : State) : Host.Outcome State Fault Refusal := s.powered fun s => .next (s.cacheOp 3 src)

/-- LOCK (R297). -/
def execLock (src : CmoSrc) (s : State) : Host.Outcome State Fault Refusal := s.powered fun s => .next (s.cacheOp 4 src)

/-- UNLOCK (R297). -/
def execUnlock (src : CmoSrc) (s : State) : Host.Outcome State Fault Refusal := s.powered fun s => .next (s.cacheOp 5 src)

/-- LOOKUP (R298). -/
def execLookup (src : CmoSrc) (s : State) : Host.Outcome State Fault Refusal := s.powered fun s => .next (s.cacheOp 6 src)

/-- CACHE_OP_COMPLETE (R302): a CMO word that waited takes the counts into g[D] and g[D+1] and flows on (R398). -/
def execCacheOpComplete (s : State) : Host.Outcome State Fault Refusal := s.powered fun s =>
  .next (match s.cch.op with
    | none => s
    | some o =>
      let s := s.opDone
      match o.who with
      | none => s
      | some q =>
        let w := s.mw q
        if (s.sq q).cmo then
          let s := s.setSq q { s.sq q with cmo := false }
          if s.seqState q = seqRunning then (s.setGrs q w.mD [o.results.1, o.results.2]).flow q w else s
        else s)

/-- PANTRY_WAYS_CHANGE (R305). -/
def execPantryWaysChange (v : Word) (s : State) : Host.Outcome State Fault Refusal := s.powered fun s =>
  .next (if Reg.CCH_CTRL_PANTRY_WAYS.get v = s.pantryWays then s else s.cchCtrlWrite v)

/-- PANTRY_ACCESS (R304). -/
def execPantryAccess (acc : PantryAcc) (s : State) : Host.Outcome State Fault Refusal := s.powered fun s =>
  let ok := (acc.len == 4 || acc.len == 8 || acc.len == 64) && acc.offset % acc.len == 0
    && (match acc.data with | some bs => bs.length == acc.len | none => true)
  .next (if ok then s.pantryAcc acc else s)

end Sys2Proof.Machine
end

