-- ==== Sys2Proof/Machine/GateOps.lean ====
section
/-!
DEFINITION. Clock gating (R428 to R430).
-/

namespace Sys2Proof.Machine

/-- The unit of CLK_GATE exists on the variant (R428). -/
def State.gateUnit (s : State) (t i : Nat) : Bool :=
  if t = 0 ∨ t = 2 then decide (i < s.nHda)
  else if t = 1 then decide (i < s.nAct)
  else if t = 3 then decide (i < s.nDec)
  else if t = 4 then decide (i < s.nEng / 32)
  else if t = 5 then decide (i < s.nCh)
  else if t = 6 then s.hasSeq i
  else t == 7 && decide (i < s.nPeerPort)

/-- Its clock may be gated: it is fenced, or a sequencer that is Empty or Halted; a peer port is never fenced (R428,
R544). -/
def State.gateMay (s : State) (t i : Nat) : Bool :=
  if t = 0 then s.fenced (srcHLK i)
  else if t = 1 then s.fenced (srcSRV i)
  else if t = 2 then s.fenced (srcSPN i)
  else if t = 3 then s.decFenced i
  else if t = 4 then (List.range 32).all fun k => s.engFenced (32 * i + k)
  else if t = 5 then s.fenced (srcBUFC i)
  else if t = 6 then s.fenced (srcSEQ i) || s.seqState i == seqEmpty || s.seqState i == seqHalted
  else false

/-- A transaction of the unit runs: a set load, a codeword, a request, a load of microcode (R429). -/
def State.gateBusy (s : State) (t i : Nat) : Bool :=
  if t = 1 then (s.sv i).load.isSome
  else if t = 3 then (s.decoder i).run.isSome || (s.decoder i).next.isSome || (s.decoder i).hold.isSome
  else if t = 4 then (List.range 32).any fun k => (s.engJob (32 * i + k)).isSome
  else if t = 6 then (s.sq i).loads != [] || (s.sq i).cmo
  else false

/-- The gated unit whose registers hold an address: units with registers of their own (R428, R540). -/
def gateOf (addr : Nat) : Option (Nat × Nat) :=
  let at_ (t base stride n : Nat) : Option (Nat × Nat) :=
    if base ≤ addr ∧ addr < base + stride * n then some (t, (addr - base) / stride) else none
  [at_ 0 0x00100000 0x1000 16, at_ 1 0x00400000 0x1000 32, at_ 2 0x00500000 0x800 16, at_ 2 0x00580000 0x1000 16,
   at_ 5 0x00910000 0x1000 8, at_ 6 0x00B00000 0x1000 40, at_ 7 0x00D01000 0x1000 2].findSome? id

/-- An address lies in a gated unit (R430). -/
def State.gatedAddr (s : State) (addr : Nat) : Bool :=
  match gateOf addr with
  | some u => s.clk.gated.contains u
  | none => false

/-- The gate operation ends with its result; requests that it held stay in `held` (R448). -/
def State.gateEnd (s : State) (r : Nat) : State :=
  { (s.setFld Reg.CLK_GATE_RESULT 0 r).setFld Reg.CLK_GATE_GO 0 0 with clk := { s.clk with gateWait := none } }

/-- The clock of a unit stops; requests held meanwhile find it gated (R429, R430). -/
def State.gateOn (s : State) (u : Nat × Nat) : State :=
  let n := s.clk.held.length
  let s := { s with clk := { s.clk with gated := s.clk.gated.filter (· != u) ++ [u], held := [] } }
  (List.range n).foldl (fun s _ => s.corrected srcCLK 3) (s.gateEnd 1)

/-- A gate request that waits: refused when the unit is no longer fenced, engaged when it has gone idle (R429, R430). -/
def State.gateSettle (s : State) : State :=
  match s.clk.gateWait with
  | none => s
  | some u =>
    if ¬ s.gateMay u.1 u.2 then s.gateEnd 4
    else if s.gateBusy u.1 u.2 then s
    else s.gateOn u

/-- The write of CLK_GATE (R428 to R430, R448); ignored while a request waits. -/
def State.gateWrite (s : State) (v : Word) : State :=
  if s.clk.gateWait.isSome then s
  else
    let s := s.store Reg.CLK_GATE 0 0 v
    if Reg.CLK_GATE_GO.get v = 0 then s
    else
      let t := Reg.CLK_GATE_TYPE.get v
      let i := Reg.CLK_GATE_INDEX.get v
      if ¬ s.gateUnit t i then s.gateEnd 5
      else if Reg.CLK_GATE_OP.get v = 1 then
        { s with clk := { s.clk with gated := s.clk.gated.filter (· != (t, i)) } }.gateEnd 2
      else if s.clk.gated.contains (t, i) then s.gateEnd 1
      else if ¬ s.gateMay t i then s.gateEnd 4
      else
        let s := (s.setFld Reg.CLK_GATE_GO 0 1).setFld Reg.CLK_GATE_RESULT 0 0
        { s with clk := { s.clk with gateWait := some (t, i) } }.gateSettle

end Sys2Proof.Machine
end

