-- ==== Sys2Proof/Machine/DriveOps.lean ====
section
/-!
DEFINITION. Loading and starting: the requests of a servo engine's and a spindle controller's registers (R205, R206, R210,
R217, R221, R227, R230, R251, R253), the HDA idle policy (R376, R377) and the device's power state (R374, R375).
-/

namespace Sys2Proof.Machine

/-! ## Servo engine (R205, R206) -/

/-- What an engine's change of state brings about in its HDA. -/
def State.engineSettle (s : State) (a : Nat) : State := s.hdaSettle (a / 2)

/-- SRV_CTRL.LOAD: the load profile starts, or the request is ignored or refused (R205, R437). -/
def State.servoLoad (s : State) (a : Nat) : State :=
  let h := s.hdaState (a / 2)
  if s.flag Reg.SRV_CTRL_EN a && s.srvState a == srvUnloaded && (h == hdaSpinning || h == hdaTracking)
      && s.mode != modeQuiescent && !s.actFenced a && !s.glb.rejoin.contains (srcSRV a) then
    let p := s.profStep a true 0
    if p.2 = 0 then s.corrected (srcSRV a) 4
    else
      let x := (s.sv a).mapHeads fun _ h => { h with lastSam := none, lastY := none, lastW := none, done := false, missRun := 0 }
      let s := s.setSv a { x with prof := some (true, 0), acq := 0, cmiss := 0, ebar := none, ymean := none, ints := [],
                                  feRun := false, unloadReq := false, parking := false }
      (((s.setFld Reg.SRV_CTRL_LOAD a 1).srvTo a srvLoading).profileCode a p.1).engineSettle a
  else s

/-- An unload requested of an engine; SRV_CTRL.UNLOAD reads 1 until it is Unloaded (R206). -/
def State.servoUnload (s : State) (a : Nat) : State :=
  let st := s.srvState a
  if st = srvUnloaded ∨ st = srvFencedSt then s
  else ((s.setFld Reg.SRV_CTRL_UNLOAD a 1).askUnload a).engineSettle a

/-- The write of SRV_CTRL: an unload before a load; EN cleared while loaded unloads first (R205, R206, R212). -/
def State.srvCtrlWrite (s : State) (a : Nat) (v : Word) : State :=
  if s.regWritable Reg.SRV_CTRL a 0 v then
    let was := s.flag Reg.SRV_CTRL_EN a
    let s := s.store Reg.SRV_CTRL a 0 v
    let s := if (was && !s.flag Reg.SRV_CTRL_EN a) || Reg.SRV_CTRL_UNLOAD.get v == 1 then s.servoUnload a else s
    if Reg.SRV_CTRL_LOAD.get v = 1 then s.servoLoad a else s
  else s

/-! ## Coefficient sets (R210, R211) -/

/-- The parts mask of SRV_LOAD. -/
def setMask (v : Word) : Nat := v.toNat % 4096

/-- The write of SRV_LOAD. A host load while a band load runs is overtaken by it. -/
def State.srvLoadWrite (s : State) (a : Nat) (v : Word) : State :=
  if s.regWritable Reg.SRV_LOAD a 0 v then
    let busy := s.flag Reg.SRV_LOAD_GO a
    let s := s.store Reg.SRV_LOAD a 0 v
    if Reg.SRV_LOAD_GO.get v = 1 ∧ ¬ busy then
      let mode := Reg.SRV_LOAD_MODE.get v
      let band := Reg.SRV_LOAD_BAND.get v
      if mode = 0 ∧ band ≠ s.fld Reg.SRV_STAT_BAND a then s.setFld Reg.SRV_LOAD_RESULT a 5
      else
        match (s.sv a).load with
        | some _ => s.setFld Reg.SRV_LOAD_RESULT a 4
        | none =>
          let l : SetLoad := { mask := setMask v, band := s.fld Reg.SRV_STAT_BAND a, host := true, mode := mode }
          let s := (s.setFld Reg.SRV_LOAD_GO a 1).setFld Reg.SRV_LOAD_RESULT a 0
          s.setSv a { s.sv a with load := some l }
    else s
  else s

/-- The buffer address of the image that a load reads (R209, R210). -/
def State.setAddr (s : State) (a : Nat) (l : SetLoad) : Nat :=
  if l.mode = 1 then s.pair Reg.SRV_LOAD_ADDR_LO Reg.SRV_LOAD_ADDR_HI a 0
  else s.pair Reg.SRV_SET_BASE_LO Reg.SRV_SET_BASE_HI a 0 + (a * 8 + l.band) * 4096

/-- The end of a set load: the image read and checked (R210, R211). A word that the buffer does not deliver fails the
check (log entry 23). -/
def State.setLoadEnd (s : State) (a : Nat) : State :=
  match (s.sv a).load with
  | none => s
  | some l =>
    let (s, ws) := s.bufWords (s.setAddr a l) 768
    let ws := ws.getD []
    let r := setResult ws l.band
    let x := s.sv a
    let s := s.setSv a { x with load := none }
    let s := if l.host then (s.setFld Reg.SRV_LOAD_RESULT a r).setFld Reg.SRV_LOAD_GO a 0 else s
    if r = 1 then s.setSv a { s.sv a with loading := mergeSet l.mask ws x.active, switch := some l }
    else if l.host then s
    else s.srvFault a 3

/-- A change of servo band: the new band's set is loaded, whatever host load has not switched is superseded, and a run
ends STOPPED (R208, R211, R218). -/
def State.bandChange (s : State) (a b : Nat) : State :=
  let s := s.injStop a 4
  let x := s.sv a
  let hostPending := (match x.load with | some l => l.host | none => false) || (match x.switch with | some l => l.host | none => false)
  let s := if hostPending then (s.setFld Reg.SRV_LOAD_RESULT a 4).setFld Reg.SRV_LOAD_GO a 0 else s
  let l : SetLoad := { mask := 0xFFF, band := b, host := false, mode := 0 }
  (s.setFld Reg.SRV_STAT_BAND a b).setSv a { s.sv a with load := some l, switch := none }

/-- A good set becomes active; a run whose point's part it replaces ends STOPPED (R210, R218, R219). -/
def State.setSwitch (s : State) (a : Nat) : State :=
  match (s.sv a).switch with
  | none => s
  | some l =>
    let hit := match (s.sv a).inj with
      | some r => bitOf l.mask 11 || ((r.point == 1 || r.point == 2) && bitOf l.mask r.head)
      | none => false
    let s := if hit then s.injStop a 4 else s
    let x := s.sv a
    (s.setSv a { x with active := x.loading, loading := [], switch := none }).setFld Reg.SRV_STAT_BANK a
      (1 - s.fld Reg.SRV_STAT_BANK a)

/-! ## Injection and capture (R217, R218, R221) -/

/-- The largest AMP of a point (R217). -/
def State.ampMax (s : State) (a point head : Nat) : Nat :=
  if point = 2 then (s.sv a).cf (129 + 64 * head) 31 16 / 4
  else if point = 4 then (s.sv a).cf 23 15 0 / 4
  else 0x400

/-- The reasons to refuse a run (R217). The tests of the target head concern the microactuator points. -/
def State.injRefused (s : State) (a : Nat) : Bool :=
  let p := s.fld Reg.SRV_INJ_CTRL_POINT a
  let j := s.fld Reg.SRV_INJ_CTRL_HEAD a
  s.srvState a != srvFollowing || s.hdaState (a / 2) != hdaTracking || decide (5 ≤ p) || decide (9 < j)
    || ((p == 1 || p == 2) && (s.fldJ Reg.SRV_HFLAG_VALID a j == 0 || s.fldJ Reg.SRV_HFLAG_REACH_LOST a j == 1
          || s.fldJ Reg.SRV_HFLAG_SAT a j == 1))
    || decide (s.ampMax a p j < s.fld Reg.SRV_INJ_AMP_AMP a) || (s.sv a).inj.isSome

/-- SRV_INJ_CTRL.GO (R217). -/
def State.injGo (s : State) (a : Nat) : State :=
  if s.injRefused a then s.setFld Reg.SRV_INJ_CTRL_RESULT a 2
  else
    let r : InjRun :=
      { point := s.fld Reg.SRV_INJ_CTRL_POINT a, head := s.fld Reg.SRV_INJ_CTRL_HEAD a, signal := s.fld Reg.SRV_INJ_CTRL_SIGNAL a,
        inc := s.fld Reg.SRV_INJ_FREQ_INC_START a }
    let s := s.setSv a { s.sv a with inj := some r }
    let s := (s.setFld Reg.SRV_INJ_CTRL_GO a 1).setFld Reg.SRV_INJ_CTRL_RESULT a 0
    s.wr Reg.SRV_INJ_STAT a 0 0

/-- The write of SRV_INJ_CTRL: STOP ends a run as HOST unless its last wedge has completed (R218, R219); then GO. -/
def State.injCtrlWrite (s : State) (a : Nat) (v : Word) : State :=
  if s.regWritable Reg.SRV_INJ_CTRL a 0 v then
    let s := s.store Reg.SRV_INJ_CTRL a 0 v
    let s := if Reg.SRV_INJ_CTRL_STOP.get v = 1 ∧ (s.sv a).inj.isSome then
        if s.injDue a then s.injStepEnd a else s.injEnd a 5
      else s
    if Reg.SRV_INJ_CTRL_GO.get v = 1 then s.injGo a else s
  else s

/-- The write of SRV_CAP_CTRL: ARM arms a capture that is idle or done (R221). -/
def State.capCtrlWrite (s : State) (a : Nat) (v : Word) : State :=
  if s.regWritable Reg.SRV_CAP_CTRL a 0 v then
    let busy := s.flag Reg.SRV_CAP_CTRL_ARM a
    let s := s.store Reg.SRV_CAP_CTRL a 0 v
    if Reg.SRV_CAP_CTRL_ARM.get v = 1 ∧ ¬ busy then
      ((s.setFld Reg.SRV_CAP_CTRL_ARM a 1).setFld Reg.SRV_CAP_CTRL_STATE a 1).setSv a { s.sv a with cap := 0 }
    else s
  else s

/-! ## Spindle controller (R227, R230, R245, R251, R253) -/

/-- A START of SPN_CTRL, ignored where R230, R254 and R437 say so: the Listen phase begins (R237). -/
def State.spnStart (s : State) (n : Nat) : State :=
  if s.hdaState n = hdaStopped ∧ s.flag Reg.SPN_CTRL_EN n ∧ ¬ s.fenced (srcSPN n) ∧ s.mode ≠ modeQuiescent
      ∧ (s.busGroup n).all (fun h => (s.spnS h).ov == 0) then
    let s := ((s.setFld Reg.SPN_CTRL_START n 1).setFld Reg.SPN_STAT_PHASE n 0).hdaTo n hdaStarting
    (s.setSpn n { s.spnS n with tries := 0, brake := 0, why := 0 }).listen n
  else s

/-- The spindle turns under the controller (R230). -/
def State.turning (s : State) (n : Nat) : Bool :=
  let st := s.hdaState n
  st == hdaStarting || st == hdaSpinning || st == hdaTracking || st == hdaSlewing

/-- The write of SPN_CTRL: STOP wins over START (R230); EN set anchors, EN cleared while turning stops first (R245, R256). -/
def State.spnCtrlWrite (s : State) (n : Nat) (v : Word) : State :=
  if s.regWritable Reg.SPN_CTRL n 0 v then
    let was := s.flag Reg.SPN_CTRL_EN n
    let s := s.store Reg.SPN_CTRL n 0 v
    let en := s.flag Reg.SPN_CTRL_EN n
    let s := if en && !was then s.anchor n else s
    let s := if Reg.SPN_CTRL_RESYNC.get v = 1 then s.setFld Reg.SPN_CTRL_RESYNC n 1 else s
    if Reg.SPN_CTRL_STOP.get v = 1 ∨ (was && !en && s.turning n) then s.spnStop n
    else if Reg.SPN_CTRL_START.get v = 1 then s.spnStart n
    else s
  else s

/-- The highest K that the power state allows (R374). -/
def State.kLimit (s : State) : Nat := if s.hif.ps = 1 then 48 else if s.hif.ps = 2 then 32 else 64

/-- The write of SPN_TARGET: K clamped, and the ramp set for its epoch boundary (R227, R251, R374). -/
def State.spnTargetWrite (s : State) (n : Nat) (v : Word) : State :=
  if s.regWritable Reg.SPN_TARGET n 0 v then
    let k := Reg.SPN_TARGET_K.get v
    let k' := max 32 (min s.kLimit k)
    let s := ((s.store Reg.SPN_TARGET n 0 v).setFld Reg.SPN_TARGET_K n k').setFld Reg.SPN_STAT_CLAMP n (bit01 (k' != k))
    let s := s.setFld Reg.SPN_STAT_AT_LATE n 0
    let st := s.hdaState n
    if st = hdaStarting then
      if s.fld Reg.SPN_STAT_PHASE n = 5 then s.rampStart n else s
    else if st = hdaAbsent ∨ st = hdaStopped ∨ st = hdaBraking then s
    else if Reg.SPN_TARGET_AT.get v = 0 then s.setSpn n { s.spnS n with rampAt := some none }
    else
      let e := Reg.SPN_TARGET_EPOCH.get v
      let d : Int := signed 16 ((e + 2 ^ 16 - s.epoch % 2 ^ 16) % 2 ^ 16)
      if 0 < d then s.setSpn n { s.spnS n with rampAt := some (some e) }
      else (s.setFld Reg.SPN_STAT_AT_LATE n 1).setSpn n { s.spnS n with rampAt := some none }
  else s

/-- A target written by the device itself, for the next boundary. -/
def State.setTarget (s : State) (n k : Nat) : State :=
  if s.fld Reg.SPN_TARGET_K n = k then s else s.spnTargetWrite n (word k)

/-! ## HDA idle policy (R376, R377, R382) -/

/-- Two HDAs hold the copies of a half-turn mirror: phase lock on both, offsets half a turn apart, and a namespace with its
copies on them (R252, R377). -/
def State.halfTurn (s : State) (n h : Nat) : Bool :=
  n != h && s.flag Reg.SPN_CTRL_PHLOCK n && s.flag Reg.SPN_CTRL_PHLOCK h
    && (s.fld Reg.SPN_PHASE_OFFSET n + 23040) % 46080 == s.fld Reg.SPN_PHASE_OFFSET h % 46080
    && s.stm.ns.any fun e => e.2.valid && e.2.mirror && !e.2.bRemote && e.2.extents.any fun x =>
        (x.aAct / 2 == n && x.bAct / 2 == h) || (x.aAct / 2 == h && x.bAct / 2 == n)

/-- The HDA and its half-turn partners. -/
def State.idlePair (s : State) (n : Nat) : List Nat := n :: (List.range s.nHda).filter fun h => s.halfTurn n h

/-- The next deeper idle state whose enable bit is set, with its timer in seconds (R376, R378). -/
def IdleS.deeper (x : IdleS) : Option (Nat × Nat) :=
  [(1, x.unloadT), (2, x.slowT), (3, x.stopT)].find? fun e => decide (x.state < e.1) && x.en.testBit (e.1 - 1)

/-- Seconds of the timer of the next state have passed since the last grant. -/
def State.idleDue (s : State) (n : Nat) : Option Nat :=
  let x := s.idle n
  if x.waking.isSome || x.stopping then none
  else match x.deeper with
    | some (d, t) => if t * 86400 ≤ s.tick - x.last then some d else none
    | none => none

/-- An idle state is entered: through SRV_CTRL.UNLOAD, SPN_TARGET or SPN_CTRL.STOP (R376). -/
def State.idleEnter (s : State) (n d : Nat) : State :=
  let x := s.idle n
  let k := if x.state = 2 then x.wakeK else s.fld Reg.SPN_TARGET_K n
  let s := s.setIdle n { x with state := if d = 3 then x.state else d, stopping := decide (d = 3), wakeK := k,
                                entries := min (2 ^ 32 - 1) (x.entries + 1) }
  let s := if d = 3 then s else (s.servoUnload (2 * n)).servoUnload (2 * n + 1)
  if d = 2 then s.setTarget n (max 32 x.slowK)
  else if d = 3 then s.spnStop n
  else s

/-- A wake begins: the HDA is Active again, and the exit latency runs (R377, R382). -/
def State.idleWake (s : State) (n : Nat) : State :=
  let x := s.idle n
  let src := if x.stopping then 3 else x.state
  if src = 0 ∨ s.hif.ps = 3 then s
  else s.setIdle n { x with state := 0, stopping := false, waking := some (src, s.tick), wakeStep := 0, last := s.tick }

/-- What the idle policy does once the HDA has come to a state: Stopped entered, and the steps of a wake (R376, R377). -/
def State.idlePoll (s : State) (n : Nat) : State :=
  let x := s.idle n
  let st := s.hdaState n
  if x.stopping then
    if st = hdaStopped then s.setIdle n { x with state := 3, stopping := false } else s
  else
    match x.waking with
    | none => s
    | some (src, t) =>
      if s.hdaFenced n || st == hdaAbsent then s.setIdle n { x with waking := none, wakeStep := 0 }
      else if x.wakeStep = 0 then
        if st = hdaStopped then ((s.setTarget n x.wakeK).spnStart n).setIdle n { x with wakeStep := 1 }
        else if st = hdaSpinning ∧ ¬ s.hdaLoaded n then (s.setTarget n x.wakeK).setIdle n { x with wakeStep := 1 }
        else s
      else if x.wakeStep = 1 then
        if st = hdaSpinning ∧ (s.spnS n).rampAt = none ∧ ¬ s.flag Reg.SPN_STAT_RAMP n then
          ((s.setIdle n { x with wakeStep := 2 }).servoLoad (2 * n)).servoLoad (2 * n + 1)
        else s
      else if st = hdaTracking then
        let ms := (s.tick - t) * 1000 / 86400
        let same := x.exits.filter fun e => e.1 == src
        let rest := x.exits.filter fun e => e.1 != src
        s.setIdle n { x with waking := none, wakeStep := 0, exits := (src, ms) :: same.take 15 ++ rest }
      else s

/-- What follows a change of an engine's or a spindle's state: the HDA's own moves, then the idle policy's. -/
def State.driveSettle (s : State) (n : Nat) : State := (s.hdaSettle n).idlePoll n

/-- Wakes an idle HDA and its half-turn partners (R377). -/
def State.hdaWake (s : State) (n : Nat) : State :=
  (s.idlePair n).foldl (fun s h => (s.idleWake h).idlePoll h) s

/-! ## Power states (R374, R375) -/

/-- The power state that the controllers ask for (R375). -/
def State.wantedPs (s : State) : Nat :=
  let on := (s.hif.ctrl.filter fun e => e.2.en).map fun e => e.2.ps
  match on with
  | [] => 0
  | p :: ps => ps.foldl min p

/-- No write waits to become durable. -/
def State.writesDone (s : State) : Bool := s.stm.sectors.all fun x => x.op != 1

/-- In PS3 every HDA stops once every write is durable (R374). -/
def State.psPoll (s : State) : State :=
  if s.hif.ps = 3 && s.writesDone then
    (List.range s.nHda).foldl (fun s n =>
      if s.turning n then
        let x := s.idle n
        let k := if x.state = 2 then x.wakeK else s.fld Reg.SPN_TARGET_K n
        (s.setIdle n { x with stopping := true, wakeK := k, waking := none, wakeStep := 0 }).spnStop n
      else s.idlePoll n) s
  else s

/-- The device applies a power state: limits of speed, fences of PS2 in the upper half of the decoders and engines, and
on leaving PS3 the HDAs start and load again (R374, R375). -/
def State.psApply (s : State) : State :=
  let p := s.wantedPs
  let old := s.hif.ps
  if p = old then s
  else
    let s := { s with hif := { s.hif with ps := p } }
    let s := if p = 1 ∨ p = 2 then
        (List.range s.nHda).foldl (fun s n =>
          if s.kLimit < s.fld Reg.SPN_TARGET_K n then s.setTarget n s.kLimit else s) s
      else s
    let s := if p = 2 then
        let ds := (List.range s.nDec).filter fun (d : Nat) => decide (s.nDec / 2 ≤ d) && !s.decOut d
        let es := (List.range s.nEng).filter fun (e : Nat) => decide (s.nEng / 2 ≤ e) && !s.engOut e
        let s := es.foldl (fun s e => s.engHostFence e) (ds.foldl (fun s d => s.decHostFence d) s)
        { s with hif := { s.hif with psDec := ds, psEng := es } }
      else if old = 2 then
        let s := s.hif.psEng.foldl (fun s e => s.engReturn e) (s.hif.psDec.foldl (fun s d => s.decReturn d) s)
        { s with hif := { s.hif with psDec := [], psEng := [] } }
      else s
    let s := if old = 3 then (List.range s.nHda).foldl (fun s n => (s.idleWake n).idlePoll n) s else s
    s.psPoll

end Sys2Proof.Machine
end

