-- ==== Sys2Proof/Machine/AdmitOps.lean ====
section
/-!
DEFINITION. Admission of pieces and of read-ahead, transfers of write data, and the ends of a Flush (R266 to R269,
R20, R22, R548).
-/

namespace Sys2Proof.Machine

/-! ## Waiting commands (R268) -/

/-- Commands of a class whose pieces wait, oldest first. -/
def State.waitingOf (s : State) (cls : Nat) : List (Nat × Nat) := mget (fun _ => ([] : List (Nat × Nat))) s.stm.waiting cls
def State.setWaiting (s : State) (cls : Nat) (l : List (Nat × Nat)) : State :=
  { s with stm := { s.stm with waiting := mset (fun _ => ([] : List (Nat × Nat))) s.stm.waiting cls l } }

/-- A command's sectors begin to wait for admission in a class. -/
def State.queueCmd (s : State) (p k cls : Nat) (c : Cmd) : State :=
  (s.setCmd p k (some { c with begun := true })).setWaiting cls (s.waitingOf cls ++ [(p, k)])

/-- Ranges of LBAs with one in common. -/
def overlap (a n b m : Nat) : Bool := decide (a < b + m) && decide (b < a + n)

/-- A write fetched before a sequence number has sectors of the range that are not admitted (R23). -/
def State.writeFirst (s : State) (seqno nsid lba n : Nat) : Bool :=
  s.cmds.any fun x =>
    let w := x.2.2
    w.writes && decide (w.seqno < seqno) && (w.nsidField == nsid)
      && (if w.begun then decide (w.admitted < w.count) && overlap (w.slba + w.admitted) (w.count - w.admitted) lba n
          else overlap w.lbaField (if w.opcode = 0x7D then (s.nsd nsid).zsze else w.nlb) lba n)

/-! ## Deadlines (R265, R266) -/

/-- The deadline of a stream's read sector. -/
def dueAt (ws : List Word) (lba : Nat) : Nat :=
  let d : Int := (lba : Int) - (cw64 ws 2 : Nat)
  unsigned 32 (((ws.getD 11 0).toNat : Int) + qz 40 (((d : Int) : Rat) * ((ws.getD 10 0).toNat : Rat) / 65536))

/-- The deadline of a command's sector; `ws` is the context of a stream command. -/
def State.cmdDeadline (s : State) (c : Cmd) (cls lba : Nat) (ws : Option (List Word)) : Nat :=
  let rdl := (s.rd Reg.STM_CLS_RDL 0 cls).toNat
  let wdl := (s.rd Reg.STM_CLS_WDL 0 cls).toNat
  match ws with
  | none => (c.tick + (if c.writes then wdl else rdl)) % 2 ^ 32
  | some ws =>
    if c.writes then (s.tick + wdl) % 2 ^ 32
    else if (ws.getD 10 0).toNat = 0 then (c.tick + rdl) % 2 ^ 32
    else dueAt ws lba

/-! ## One sector (R267, R268) -/

/-- A remote copy of a write whose data is present: the mirror write goes to its peer, or the copy counts as fenced
(R279, R458). -/
def State.sendRemote (s : State) (x : Sector) : State :=
  match s.remoteOf (s.nsd x.nsid) with
  | none => s.remoteWriteLost x
  | some i =>
    let we := s.epoch % 2 ^ 24
    let x := { x with wepoch := we }
    let bs := (s.bufRead (s.slotAddr x.cls x.slot) 4096).getD (List.replicate 4096 0)
    (s.setSector x).peerRequest i 0x10 (bit01 x.fua * 64) 0 x.tag
      (mwritePayload x.nsid x.keyGen x.lba we (x.stream.getD 0xFFFFF) bs)

/-- The write data of a slot is present (R20, R334). -/
def State.slotArrived (s : State) (key : Nat) : State :=
  let xs := (s.slotSectors key).filter fun x => x.op == 1 && !x.data
  let s := xs.foldl (fun s x => match s.sector x.tag with | some y => s.writeArrived y | none => s) s
  (xs.filter fun x => x.remote).foldl (fun s x => match s.sector x.tag with | some y => s.sendRemote y | none => s) s

/-- The write data of a slot did not come: its LBA fails for the command with the status (R335). -/
def State.slotLost (s : State) (key status : Nat) : State :=
  let xs := (s.slotSectors key).filter fun x => x.op == 1 && !x.data
  match xs with
  | [] => s
  | x :: _ =>
    let reads := xs.flatMap fun w => (s.mergedInto w.tag).filter fun y => y.op == 0
    let s := reads.foldl (fun s y => match s.sector y.tag with | some y => s.readFailed y 1 scPath | none => s) s
    let s := xs.foldl (fun s y => (s.dropSector y.tag).freeSlot y) s
    let s := match x.stream with | some i => (s.fetchWrite i).streamSettle i | none => s
    match x.cmd with
    | some pk => (s.cmdEnd pk status).cmdPoll pk.1 pk.2
    | none => s

/-- Read-ahead of an LBA that a write replaces is dropped, so that a later stream read returns the write's data (R23,
R272). -/
def State.staleAhead (s : State) (nsid lba : Nat) : State :=
  let xs := s.stm.sectors.filter fun x => x.op == 0 && x.stream.isSome && x.cmd.isNone && x.nsid == nsid && x.lba == lba
  xs.foldl (fun s x =>
    let s := match x.stream with | some i => s.streamRing i lba 0 0 0 | none => s
    match s.sector x.tag with
    | some y => s.withdraw y
    | none => s) s

/-- HDAs that an admission wakes: for twins not the one whose other copy's HDA is Active (R377). -/
def State.wakeFor (s : State) (write : Bool) (acts : List Nat) : State :=
  let hs := acts.map (· / 2)
  let wake := if !write && hs.length == 2 then
      hs.filter fun h => !(hs.any fun g => g != h && (s.idle g).state == 0 && !(s.idle g).stopping)
    else hs
  wake.foldl (fun s h => s.hdaWake h) s

/-- One LBA of a command admitted under an earmark (R268). -/
def State.admitLba (s : State) (p k cls msel lba : Nat) (ws : Option (List Word)) : State :=
  match s.cmd p k, s.lowSlot cls with
  | some c, some slot =>
    let x := s.nsd c.nsid
    if (x.extent lba).isNone then (s.cmdEnd (p, k) scRange).cmdPoll p k
    else
      let acts := s.actsOf c.nsid lba c.writes msel
      let proto : Sector :=
        { tag := 0, op := bit01 c.writes, nsid := c.nsid, lba := lba, copyB := false, act := 0, zone := 0, p0 := 0, p := 0,
          cls := cls, slot := slot, deadline := s.cmdDeadline c cls lba ws, cmd := some (p, k), ctrl := some (p * 2 + c.link),
          stream := c.stream, seqno := c.seqno, fua := c.through,
          keySlot := match ws with | some ws => cw ws 1 20 8 | none => x.keySlot }
      let s := s.setSlot cls slot 1
      let s :=
        if c.writes then
          let s := (s.staleAhead c.nsid lba).admitWrite proto
          if c.opcode = 0x08 then
            match s.bufWrite (s.slotAddr cls slot) (List.replicate 4096 0) with
            | (s, true) => s.slotArrived (slotK cls slot)
            | (s, false) => s.slotLost (slotK cls slot) scInternal
          else if s.slotSectors (slotK cls slot) = [] then s
          else
            s.addReady p c.stream.isSome
              { toHost := false, len := 4096, host := c.prps.getD (lba - c.slba) 0, buf := s.slotAddr cls slot, p0 := 0x2000,
                p1 := 0, tag := slotK cls slot }
        else
          let s := match c.stream with | some i => s.streamRing i lba 1 0 slot | none => s
          s.admitRead proto msel
      s.wakeFor c.writes acts
  | _, _ => s

/-! ## A piece (R268) -/

/-- The LBAs of a command that are still to be admitted. -/
def Cmd.todo (c : Cmd) : List Nat :=
  ((List.range (c.count - c.admitted)).map fun i => c.slba + c.admitted + i).filter fun l => !c.skip.contains l

/-- An admission is refused: it counts for the device, its actuators and a waiting stream (R264, R286). -/
def State.refuseAdmit (s : State) (acts : List Nat) (demand : Option Nat) : State :=
  let s := s.bump Reg.STM_CNT_WAIT 0 1
  let s := acts.eraseDups.foldl (fun s a => s.setAct a { s.act a with waits := (s.act a).waits + 1 }) s
  match demand with
  | some i => s.ctxUpd i fun ws =>
      if ctxState ws = ctxOpen ∨ ctxState ws = ctxRunning then cwPut ws 0 31 28 ctxWaiting else ws
  | none => s

/-- Admission is allowed: the engine is on (R289). -/
def State.admitOn (s : State) : Bool := s.flag Reg.STM_CTRL_EN 0 && s.flag Reg.STM_CTRL_ADMIT 0 && s.mode != modeQuiescent

/-- The next piece of the command at the head of a class's line, whole or not at all (R268, R275). -/
def State.admitPiece (s : State) (cls : Nat) : State :=
  match s.waitingOf cls with
  | [] => s
  | (p, k) :: rest =>
    match s.cmd p k with
    | none => s.setWaiting cls rest
    | some c =>
      let (s, ws) : State × Option (List Word) := match c.stream with | some i => s.ctxRead i | none => (s, none)
      if c.stream.isSome ∧ ws.isNone then s
      else
        let msel := match ws with | some ws => cw ws 1 1 0 | none => 0
        let todo := c.todo
        let piece := todo.take 64
        let acts := piece.flatMap fun l => s.actsOf c.nsid l c.writes msel
        if !c.writes && piece.any (fun l => s.writeFirst c.seqno c.nsid l 1) then s
        else if s.clsSlots cls < 64 ∨ s.freeSlots cls < piece.length ∨ ¬ s.queueRoom acts then s.refuseAdmit acts c.stream
        else
          let next := match todo[64]? with | some l => l - c.slba | none => c.count
          let s := s.setCmd p k (some { c with admitted := next })
          let s := if next = c.count then s.setWaiting cls rest else s
          let s := match c.stream with
            | some i => if piece = [] then s else s.ctxUpd i fun ws =>
                if ctxState ws = ctxOpen ∨ ctxState ws = ctxWaiting then cwPut ws 0 31 28 ctxRunning else ws
            | none => s
          let s := piece.foldl (fun s l => s.admitLba p k cls msel l ws) s
          let s := match c.stream with | some i => s.streamSettle i | none => s
          s.cmdPoll p k

/-! ## Read-ahead (R269) -/

/-- The LBA that read-ahead would admit next: FETCH_LBA, past those that the stream holds already. -/
def State.aheadLba (s : State) (i : Nat) (ws : List Word) : Option Nat :=
  let next := cw64 ws 2
  let fetch := max next (cw64 ws 4)
  let limit := min (cw64 ws 6) (next + cw ws 8 31 16)
  ((List.range (limit - fetch)).map (fetch + ·)).find? fun l =>
    !(s.stm.sectors.any fun x => x.stream == some i && x.lba == l && !x.dropped)
      && !(s.stm.ringFailed.any fun f => f.1 == i && f.2.1 == l)

/-- One read-ahead sector admitted, or refused (R269). -/
def State.admitAhead (s : State) (i : Nat) : State :=
  match s.ctxRead i with
  | (s, none) => s
  | (s, some ws) =>
    let st := ctxState ws
    if ctxWrites ws ∨ ¬ (st = ctxOpen ∨ st = ctxRunning ∨ st = ctxWaiting) then s
    else
      match s.aheadLba i ws with
      | none => s
      | some l =>
        let cls := ctxCls ws
        let ns := ctxNs ws
        let x := s.nsd ns
        let msel := cw ws 1 1 0
        let acts := s.actsOf ns l false msel
        if ¬ x.valid ∨ x.size ≤ l ∨ (x.extent l).isNone then s
        else if s.writeFirst s.hif.seqno ns l 1 then s
        else if s.clsSlots cls < 64 ∨ s.freeSlots cls < 65 ∨ ¬ s.queueRoom acts then s.refuseAdmit acts none
        else
          match s.lowSlot cls with
          | none => s
          | some slot =>
            let tps := (ws.getD 10 0).toNat
            let due := if tps = 0 then (s.tick + (s.rd Reg.STM_CLS_RDL 0 cls).toNat) % 2 ^ 32 else dueAt ws l
            let proto : Sector :=
              { tag := 0, op := 0, nsid := ns, lba := l, copyB := false, act := 0, zone := 0, p0 := 0, p := 0, cls := cls,
                slot := slot, deadline := due, stream := some i, seqno := s.hif.seqno, keySlot := cw ws 1 20 8 }
            let s := s.ctxWrite i (cwPut64 (cwPut ws 0 31 28 ctxRunning) 4 (l + 1))
            let s := (s.setSlot cls slot 1).streamRing i l 1 0 slot
            ((s.admitRead proto msel).wakeFor false acts).streamSettle i

/-! ## Flush (R22, R548) -/

/-- A write waits for a fenced HDA or actuator: its place, the copy of the slip entry it depends on, or the write that took
over its media work (R154, R155, R159, R548). -/
def State.fenceWait (s : State) (x : Sector) : Nat → Bool
  | 0 => false
  | n + 1 =>
    match x.st with
    | .merged t => match s.sector t with | some y => State.fenceWait s y n | none => false
    | _ =>
      if x.remote then false
      else
        let out (a : Nat) : Bool := s.actOut a || s.wFenced a
        let z := s.zone (zoneKey x.act x.zone)
        out x.act || (x.verified && (out (x.act / 2 * 2 + z.metaA / 2 ^ 33 % 2)
          || out (x.act / 2 * 2 + z.metaB / 2 ^ 33 % 2)))

/-- The writes that a Flush depends on and that have not ended (R22). -/
def State.flushSectors (s : State) (c : Cmd) : List Sector :=
  s.stm.sectors.filter fun x =>
    x.op == 1 && x.slipOf == none && x.ctrl.isSome && decide (x.seqno < c.seqno)
      && (c.nsidField == 0xFFFFFFFF || c.nsidField == x.nsid)

/-- Writes fetched before the Flush whose sectors are not all admitted. -/
def State.flushAhead (s : State) (c : Cmd) : Bool :=
  s.cmds.any fun x =>
    let w := x.2.2
    w.writes && decide (w.seqno < c.seqno) && (c.nsidField == 0xFFFFFFFF || c.nsidField == w.nsidField)
      && (!w.begun || decide (w.admitted < w.count))

/-- A Flush ends when everything it depends on is durable, has failed or waits on a fence (R548). -/
def State.flushEnd (s : State) (p k : Nat) (c : Cmd) : State :=
  let xs := s.flushSectors c
  if s.flushAhead c ∨ ¬ xs.all (fun x => s.fenceWait x s.stm.sectors.length) then s
  else s.complete p k (if c.flushFail then scWriteFault else if xs ≠ [] then scPath else scOk) 0

end Sys2Proof.Machine
end

