-- ==== Sys2Proof/Machine/StreamOps.lean ====
section
/-!
DEFINITION. What the stream commands and the context commands do to a stream (R262 to R285).
-/

namespace Sys2Proof.Machine

/-! ## Statuses (R282) -/

def scStream : Nat := 0x7C0
def scNoContext : Nat := 0x7C1
def scClass : Nat := 0x7C2
def scBroken : Nat := 0x7C3
def scOrder : Nat := 0x7C4
def scDirection : Nat := 0x7C5
def scBeyond : Nat := 0x7C6

/-! ## Handles -/

/-- Dword 13 of a stream command as a handle: index and generation; its reserved bits (R379). -/
def Cmd.index (c : Cmd) : Nat := bitsOf (c.cdw 13) 19 0
def Cmd.gen (c : Cmd) : Nat := bitsOf (c.cdw 13) 27 20
def Cmd.handleRsv (c : Cmd) : Nat := bitsOf (c.cdw 13) 31 28

/-- The stream of a command carried out: a status when the command is refused, else its effect on the stream's context
(R264, R282). `close` says that a BROKEN stream takes the command, `anyNs` that NSID names another namespace. -/
def State.onStream (s : State) (p k : Nat) (c : Cmd) (rsv : Bool) (close anyNs : Bool) (f : State → List Word → State) : State :=
  let i := c.index
  let s :=
    if s.mode = modeQuiescent then s.complete p k scNotReady 0
    else if rsv || c.handleRsv != 0 then s.complete p k scField 0
    else if ¬ s.stm.opened.contains i then s.complete p k scStream 0
    else
      match s.ctxRead i with
      | (s, none) =>
        if close then
          { s.setCmd p k (some { c with begun := true }) with stm := { s.stm with closes := s.stm.closes ++ [(i, p, k)] } }
        else s.complete p k scBroken 0
      | (s, some ws) =>
        let st := ctxState ws
        let late := st = ctxClosing ∧ ¬ s.stm.closes.any fun x =>
          x.1 == i && (match s.cmd x.2.1 x.2.2 with | some y => decide (c.seqno < y.seqno) | none => false)
        if cw ws 0 7 0 ≠ c.gen ∨ st = ctxFree ∨ late then s.complete p k scStream 0
        else if st = ctxBroken ∧ ¬ close then s.complete p k scBroken 0
        else if c.nsidField ≠ ctxNs ws ∧ ¬ anyNs then s.complete p k scBadNs 0
        else f s ws
  if s.stm.opened.contains i then s.streamSettle i else s

/-! ## Read-ahead dropped (R272, R281) -/

/-- Read-ahead of a stream outside the LBAs to keep is dropped, with its failed entries. -/
def State.dropAhead (s : State) (i : Nat) (ungranted : Bool) (keep : Nat → Bool) : State :=
  let xs := s.stm.sectors.filter fun x =>
    x.op == 0 && x.stream == some i && x.cmd.isNone && !keep x.lba && !(ungranted && x.st != .queued)
  let s := xs.foldl (fun s x =>
    let s := s.streamRing i x.lba 0 0 0
    match s.sector x.tag with
    | some y => s.withdraw y
    | none => s) s
  if ungranted then s
  else
    let gone := s.stm.ringFailed.filter fun f => f.1 == i && !keep f.2.1
    let s := gone.foldl (fun s f => s.streamRing i f.2.1 0 0 0) s
    { s with stm := { s.stm with ringFailed := s.stm.ringFailed.filter fun f => !(f.1 == i && !keep f.2.1) } }

/-- WIN_EFF computed anew; when it falls, ungranted read-ahead beyond the window goes (R270). -/
def State.windowSet (s : State) (i : Nat) (ws : List Word) : State :=
  let ws' := s.winEff ws
  let edge := cw64 ws' 2 + cw ws' 8 31 16
  let old := cw ws 8 31 16
  let s := s.ctxWrite i ws'
  if cw ws' 8 31 16 < old then
    let s := s.dropAhead i true fun l => decide (l < edge)
    s.ctxUpd i fun w => cwPut64 w 4 (max (cw64 w 2) (min (cw64 w 4) edge))
  else s

/-- RATE set, with its TPS (R265). -/
def cwRate (ws : List Word) (rate : Nat) : List Word := (ws.set 9 (word rate)).set 10 (word (tpsOf rate))

/-- DUE of a stream whose read starts anew: now and the class's read deadline (R280, R281). -/
def State.dueNow (s : State) (cls : Nat) : Word := word (s.tick + (s.rd Reg.STM_CLS_RDL 0 cls).toNat)

/-- A class can serve streams: 64 slots or more, and rings (R282). -/
def State.clsOk (s : State) (cls : Nat) : Bool :=
  decide (64 ≤ s.clsSlots cls) && decide (0 < s.fldJ Reg.STM_CLS_RING_COUNT 0 cls)

/-- The lowest free ring of a class. -/
def State.freeRing (s : State) (cls : Nat) : Option Nat :=
  (List.range (min (s.fldJ Reg.STM_CLS_RING_COUNT 0 cls) (s.stm.rings.length + 1))).find? fun r =>
    !(s.stm.rings.any fun x => (x.1, x.2.1) == (cls, r))

/-! ## Reads and writes of a stream (R280, R281, R283) -/

/-- The sectors of a range that the stream holds or has failed pass to the command: the LBAs that need no admission. -/
def State.attach (s : State) (p k : Nat) (c : Cmd) (i : Nat) : State :=
  let lbas := (List.range c.count).map (c.slba + ·)
  let held := lbas.filter fun l => !s.writeFirst c.seqno c.nsid l 1
    && s.stm.sectors.any fun x => x.op == 0 && x.stream == some i && x.cmd.isNone && x.lba == l && !x.dropped
  let bad := s.stm.ringFailed.filter fun f => f.1 == i && decide (c.slba ≤ f.2.1) && decide (f.2.1 < c.slba + c.count)
    && !held.contains f.2.1
  let s := { s with stm := { s.stm with ringFailed := s.stm.ringFailed.filter fun f => !bad.contains f } }
  let c := { c with skip := held ++ bad.map fun f => f.2.1 }
  let s := s.setCmd p k (some c)
  let s := bad.foldl (fun s f =>
    (s.streamRing i f.2.1 0 0 0).cmdEnd (p, k) (if f.2.2 = 0 then scUnrecovered else if f.2.2 = 1 then scPath else scAborted)) s
  let s := (s.dropAhead i false fun l => !(lbas.contains l && !held.contains l))
  held.foldl (fun s l =>
    let xs := s.stm.sectors.filter fun x => x.op == 0 && x.stream == some i && x.cmd.isNone && x.lba == l && !x.dropped
    xs.foldl (fun s x =>
      match s.sector x.tag with
      | none => s
      | some y =>
        let y := { y with cmd := some (p, k), ctrl := some (p * 2 + c.link), seqno := c.seqno }
        let s := s.setSector y
        if y.st = .served then s.handRead y else s) s) s

/-- A stream Read that is accepted. -/
def State.streamReadGo (s : State) (p k : Nat) (c : Cmd) (ws : List Word) : State :=
  let i := c.index
  let lba := c.lbaField
  let n := c.nlb
  let cls := ctxCls ws
  let (s, ws) : State × List Word :=
    if lba = cw64 ws 2 then (s, ws)
    else
      let s := s.dropAhead i false fun l => decide (lba ≤ l) && decide (l < lba + cw ws 8 31 16)
      (s, (cwPut64 (cwPut64 ws 2 lba) 4 lba).set 11 (s.dueNow cls))
  let due := word (unsigned 32 (((ws.getD 11 0).toNat : Int) + qz 39 (((n : Nat) : Rat) * ((ws.getD 10 0).toNat : Rat) / 65536)))
  let ws := (cwPut64 (cwPut64 ws 2 (lba + n)) 4 (max (cw64 ws 4) (lba + n))).set 11 due
  let s := s.ctxWrite i ws
  let c := { c with begun := true, nsid := ctxNs ws, slba := lba, count := n, stream := some i }
  let s := s.attach p k c i
  match s.cmd p k with
  | none => s
  | some c =>
    if c.todo = [] then
      ((s.setCmd p k (some { c with admitted := c.count })).cmdPoll p k).streamSettle i
    else s.queueCmd p k cls c

/-- A stream Write that is accepted. -/
def State.streamWriteGo (s : State) (p k : Nat) (c : Cmd) (ws : List Word) : State :=
  let i := c.index
  let n := c.nlb
  let s := s.ctxWrite i (cwPut64 ws 2 (cw64 ws 2 + n))
  let s := s.advanceWp (ctxNs ws) c.lbaField n
  s.queueCmd p k (ctxCls ws) { c with nsid := ctxNs ws, slba := c.lbaField, count := n, stream := some i }

/-! ## Open, Rebind and breaking -/

/-- A stream Open that is accepted: the lowest FREE index and a free ring (R280). -/
def State.streamOpenGo (s : State) (p k : Nat) (c : Cmd) : State :=
  let cls := bitsOf (c.cdw 10) 26 24
  match (List.range (min 1048576 (s.stm.opened.length + 1))).find? fun i => !s.stm.opened.contains i, s.freeRing cls with
  | some i, some r =>
    match s.ctxRead i with
    | (s, none) => s.complete p k scInternal 0
    | (s, some old) =>
      let gen := (cw old 0 7 0 + 1) % 256
      let start := c.cdw 12 + 2 ^ 32 * c.cdw 13
      let w0 := ctxOpen * 2 ^ 28 + bitsOf (c.cdw 10) 31 31 * 2 ^ 27 + cls * 2 ^ 24 + c.nsidField * 2 ^ 16 + gen
      let w1 := p * 2 ^ 31 + (s.nsd c.nsidField).keySlot * 2 ^ 8 + bitsOf (c.cdw 10) 17 16
      let ws : List Word := [word w0, word w1] ++ List.replicate 6 0 ++ [word (bitsOf (c.cdw 10) 15 0), 0, 0, s.dueNow cls,
        word s.tick, 0, 0, word r]
      let ws := cwRate (cwPut64 (cwPut64 (cwPut64 ws 2 start) 4 start) 6 (c.cdw 14 + 2 ^ 32 * c.cdw 15)) (c.cdw 11)
      let s := { s with stm := { s.stm with rings := s.stm.rings ++ [(cls, r, i)] } }
      let s := (s.ctxWrite i (s.winEff ws)).openCount i true
      s.complete p k scOk (gen * 2 ^ 20 + i)
  | _, _ => s.complete p k scNoContext 0

/-- A Rebind at its epoch boundary (R280): without a free ring of the new class nothing changes. -/
def State.rebindNow (s : State) (r : Rebind) : State :=
  match s.ctxRead r.stream with
  | (s, none) => s.complete r.port r.slot scInternal 0
  | (s, some ws) =>
    let st := ctxState ws
    if st = ctxBroken then s.complete r.port r.slot scBroken 0
    else if st = ctxFree ∨ st = ctxClosing then s.complete r.port r.slot scStream 0
    else
      let rest := { s with stm := { s.stm with rings := s.stm.rings.filter fun x => x.2.2 != r.stream } }
      match rest.freeRing r.cls with
      | none => s.complete r.port r.slot scNoContext 0
      | some g =>
        let s := s.dropAhead r.stream false fun _ => false
        match s.ctxRead r.stream with
        | (s, none) => s.complete r.port r.slot scInternal 0
        | (s, some ws) =>
          let s := { s with stm := { s.stm with rings := s.stm.rings.filter (fun (x : Nat × Nat × Nat) => x.2.2 != r.stream) ++ [(r.cls, g, r.stream)] } }
          let ws := cwPut (cwPut (cwPut ws 0 26 24 r.cls) 0 23 16 r.nsid) 1 20 8 (s.nsd r.nsid).keySlot
          let ws := cwPut (cwPut64 (cwPut64 ws 2 r.lba) 4 r.lba) 15 19 0 g
          let s := (s.ctxWrite r.stream (s.winEff ws)).streamSettle r.stream
          s.complete r.port r.slot scOk 0

/-- Streams that meet a condition become BROKEN (R264). -/
def State.breakStreams (s : State) (f : List Word → Bool) : State :=
  s.stm.opened.foldl (fun s i =>
    match s.ctxRead i with
    | (s, some ws) => if f ws then (s.ctxWrite i (cwPut ws 0 31 28 ctxBroken)).streamSettle i else s
    | (s, none) => s) s

/-! ## The context commands (R285) -/

/-- A context operation ends with a result. -/
def State.ctxResult (s : State) (r : Nat) : State :=
  (s.setFld Reg.STM_CTX_CMD_RESULT 0 r).setFld Reg.STM_CTX_CMD_GO 0 0

/-- STM_CTX_CMD with GO set. -/
def State.ctxCommand (s : State) : State :=
  let i := s.fld Reg.STM_CTX_CMD_INDEX 0
  if ¬ s.stm.opened.contains i then s.ctxResult 2
  else
    match s.ctxRead i with
    | (s, none) => s.ctxResult 4
    | (s, some ws) =>
      if s.fld Reg.STM_CTX_CMD_OP 0 = 0 then
        (((List.range 16).foldl (fun s k => s.wr Reg.STM_CTX_MBX 0 k (ws.getD k 0)) s)).ctxResult 1
      else
        let mask := s.fld Reg.STM_CTX_MASK_MASK 0
        let mb (k : Nat) : Nat := (s.rd Reg.STM_CTX_MBX 0 k).toNat
        let on (k : Nat) : Bool := bitOf mask k
        if bitsOf (mb 0) 7 0 ≠ cw ws 0 7 0 then s.ctxResult 3
        else if ¬ (List.range 16).all (fun k => !on k || [1, 6, 7, 8, 9, 11].contains k) then s.ctxResult 4
        else
          let ws := if on 1 then cwPut ws 1 1 0 (bitsOf (mb 1) 1 0) else ws
          let ws := if on 6 then ws.set 6 (word (mb 6)) else ws
          let ws := if on 7 then ws.set 7 (word (mb 7)) else ws
          let ws := if on 9 then cwRate ws (mb 9) else ws
          let ws := if on 11 then ws.set 11 (word (mb 11)) else ws
          let s := s.ctxWrite i ws
          let s := if on 8 then s.windowSet i (cwPut ws 8 15 0 (bitsOf (mb 8) 15 0)) else s
          s.ctxResult 1

/-! ## Map commits (R257 to R260, R373) -/

/-- A 16-word entry's words sum to zero. -/
def sumZero (ws : List Word) : Bool := (ws.foldl (fun n w => n + w.toNat) 0) % 2 ^ 32 == 0

/-- The zone entry of 16 words, when it passes the check. -/
def State.zoneEntry (s : State) (zk : Nat) (ws : List Word) : Option Zone :=
  let z : Zone :=
    { valid := true, shingled := bitOf (ws.getD 0 0).toNat 30, firstCyl := cw ws 0 23 0, ncyl := cw ws 1 31 16,
      spt := cw ws 1 15 0, dataP := cw ws 2 24 0, rsvBase := cw ws 3 24 0, ang0 := cw ws 4 31 16, slip := cw64 ws 5,
      metaA := cw64 ws 7, metaB := cw64 ws 9, nextP := cw ws 11 24 0 }
  let zero := cw ws 0 29 24 == 0 && cw ws 2 31 25 == 0 && cw ws 3 31 25 == 0 && cw ws 4 15 0 == 0 && cw ws 11 31 25 == 0
    && [12, 13, 14].all fun k => ws.getD k 0 == 0
  let ranges := cw ws 0 31 31 == 1 && decide (0 < z.ncyl) && decide (0 < z.spt) && decide (z.ang0 < 46080)
    && decide (z.slip < 2 ^ 40) && z.slip % 8 == 0 && decide (z.metaA < 2 ^ 34) && decide (z.metaB < 2 ^ 34)
  let room := decide (z.dataP ≤ z.rsvBase) && decide (z.rsvBase + 64 ≤ z.ncyl * z.spt * 10)
  let gap := !z.shingled || z.dataP == 0 || decide (z.cyl (z.dataP - 1) + 2 ≤ z.cyl z.rsvBase)
  if decide (zk < s.nAct * 256) && sumZero ws && zero && ranges && room && gap then some z else none

/-- An extent entry of 8 words, when its fields are in range (R258). -/
def State.extentEntry (s : State) (mirror remote : Bool) (ws : List Word) : Option Extent :=
  let act (k : Nat) : Nat := cw ws k 13 10 * 2 + cw ws k 9 9
  let e : Extent :=
    { lba := cw64 ws 0, count := cw ws 2 31 0, aAct := act 3, aZone := cw ws 3 7 0, aP := cw ws 4 24 0, bAct := act 5,
      bZone := cw ws 5 7 0, bP := cw ws 6 24 0 }
  let zero (k : Nat) : Bool := cw ws k 30 14 == 0 && cw ws k 8 8 == 0 && cw ws (k + 1) 31 25 == 0
  let fits (a z p : Nat) : Bool :=
    let x := s.zone (zoneKey a z)
    decide (a < s.nAct) && x.valid && decide (p + e.count ≤ x.dataP)
  let okA := cw ws 3 31 31 == 1 && zero 3 && fits e.aAct e.aZone e.aP
  let okB := if cw ws 5 31 31 = 1 then mirror && zero 5 && (remote || fits e.bAct e.bZone e.bP)
    else !mirror && ws.getD 5 0 == 0 && ws.getD 6 0 == 0
  if okA && okB && ws.getD 7 0 == 0 then some e else none

/-- The local places that an extent takes: actuator, zone, first P and count. -/
def Extent.spans (e : Extent) (mirror remote : Bool) : List (Nat × Nat × Nat × Nat) :=
  [(e.aAct, e.aZone, e.aP, e.count)] ++ (if mirror && !remote then [(e.bAct, e.bZone, e.bP, e.count)] else [])

/-- No two spans hold the same P. -/
def spansApart : List (Nat × Nat × Nat × Nat) → Bool
  | [] => true
  | x :: xs =>
    xs.all (fun y => !(x.1 == y.1 && x.2.1 == y.2.1 && overlap x.2.2.1 x.2.2.2 y.2.2.1 y.2.2.2)) && spansApart xs

/-- Extents sorted, disjoint and at or below SIZE (R260). -/
def extentsOk (size : Nat) : Nat → List Extent → Bool
  | _, [] => true
  | at0, e :: es => decide (at0 ≤ e.lba) && decide (e.lba + e.count ≤ size) && extentsOk size (e.lba + e.count) es

/-- The namespace descriptor of 16 words and its extent table, when they pass the check. -/
def State.nsEntry (s : State) (n : Nat) (ws : List Word) : State × Option Ns :=
  let x : Ns :=
    { valid := bitOf (ws.getD 0 0).toNat 31, zoned := bitOf (ws.getD 0 0).toNat 30, mirror := bitOf (ws.getD 0 0).toNat 29,
      profile := cw ws 0 28 25, keySlot := cw ws 0 24 12, keyGen := cw ws 0 7 0, size := cw64 ws 4, peer := cw ws 6 31 16,
      bRemote := bitOf (ws.getD 6 0).toNat 0 }
  let zero := cw ws 0 11 8 == 0 && cw ws 1 31 16 == 0 && cw ws 6 15 1 == 0
    && [7, 8, 9, 10, 11, 12, 13, 14].all fun k => ws.getD k 0 == 0
  let ext := cw64 ws 2
  let head := decide (1 ≤ n) && decide (n ≤ 128) && sumZero ws && zero && ext % 32 == 0 && decide (ext < 2 ^ 40)
  if !head then (s, none)
  else if !x.valid then (s, some {})
  else
    match s.cWords ext (cw ws 1 15 0 * 8) false with
    | (s, none) => (s, none)
    | (s, some tw) =>
      let rows := (List.range (cw ws 1 15 0)).map fun i => (tw.drop (8 * i)).take 8
      let rows := if x.zoned then rows else rows.filter fun r => cw r 2 31 0 != 0
      let es := rows.map (s.extentEntry x.mirror x.bRemote)
      let xs := es.filterMap id
      let x := { x with extents := xs }
      let zones := !x.zoned || (xs.zip (List.range xs.length)).all fun e =>
        e.1.aP == 0 && e.1.count == (s.zone (zoneKey e.1.aAct e.1.aZone)).dataP && e.1.lba == e.2 * x.zsze
          && (!x.mirror || x.bRemote || (e.1.bP == 0 && e.1.count == (s.zone (zoneKey e.1.bAct e.1.bZone)).dataP))
      let ok := es.all Option.isSome && extentsOk x.size 0 xs && zones
        && spansApart (xs.flatMap fun e => e.spans x.mirror x.bRemote)
      (s, if ok then some x else none)

/-- A commit ends with a result (R289). -/
def State.mapResult (s : State) (r : Nat) : State :=
  (s.setFld Reg.STM_MAP_CMD_RESULT 0 r).setFld Reg.STM_MAP_CMD_GO 0 0

/-- The entry that STM_MAP_CMD names is read and checked; one that passes waits for the epoch boundary (R260). -/
def State.mapGo (s : State) : State :=
  let k := s.fld Reg.STM_MAP_CMD_INDEX 0
  let zoneKind := s.fld Reg.STM_MAP_CMD_KIND 0 = 1
  let base := if zoneKind then s.pair Reg.STM_ZONE_BASE_LO Reg.STM_ZONE_BASE_HI 0 0 + k * 64
    else s.pair Reg.STM_NS_BASE_LO Reg.STM_NS_BASE_HI 0 0 + (k - 1) * 64
  match s.cWords base 16 false with
  | (s, none) => s.mapResult 2
  | (s, some ws) =>
    let (s, r) : State × Option MapPend :=
      if zoneKind then (s, (s.zoneEntry k ws).map fun z => .zone k z)
      else match s.nsEntry k ws with | (s, x) => (s, x.map fun x => .ns k x)
    match r with
    | none => s.mapResult 2
    | some m => { s with stm := { s.stm with mapPend := some m } }

/-- An admitted sector maps through what a commit removes or moves (R260). -/
def State.mapBusy (s : State) : MapPend → Bool
  | .ns n x =>
    s.stm.sectors.any fun y => y.nsid == n && y.slipOf == none &&
      (match (s.nsd n).extent y.lba, x.extent y.lba with
       | some a, some b => !(x.valid && x.mirror == (s.nsd n).mirror && x.bRemote == (s.nsd n).bRemote
          && a.place y.copyB y.lba == b.place y.copyB y.lba)
       | _, _ => true)
  | .zone k z =>
    let o := s.zone k
    let same := decide ({ o with nextP := 0, zstate := 0, zopen := 0, wp := 0 } = { z with nextP := 0 })
    !same && s.stm.sectors.any fun y => !y.remote && zoneKey y.act y.zone == k

/-- A commit at the epoch boundary (R260, R264). A zone whose geometry stays keeps its write pointer and state. -/
def State.mapCommit (s : State) : State :=
  match s.stm.mapPend with
  | none => s
  | some m =>
    let s := { s with stm := { s.stm with mapPend := none } }
    if s.mapBusy m then s.mapResult 3
    else
      match m with
      | .zone k z =>
        let o := s.zone k
        let same := decide ({ o with nextP := 0, zstate := 0, zopen := 0, wp := 0, slip := 0, metaA := 0, metaB := 0 }
          = { z with nextP := 0, slip := 0, metaA := 0, metaB := 0 })
        let z := if same then { z with nextP := o.nextP, zstate := o.zstate, zopen := o.zopen, wp := o.wp } else z
        (s.setZone k z).mapResult 1
      | .ns n x =>
        let before := s.anaAll
        let s := s.setNsd n x
        let s := if x.valid then s else s.breakStreams fun ws => ctxNs ws == n
        let s := (s.anaNotice before).notice noticeNs
        s.mapResult 1

end Sys2Proof.Machine
end

