-- ==== Sys2Proof/Machine/Cipher.lean ====
section
/-!
DEFINITION. The commands of the cipher: slot commands, requests, engines and their results (R341 to R356, R546).
-/

namespace Sys2Proof.Machine

/-! ## Results (R346, R350, R353) -/

/-- A media read sector's text, or its failure, comes back from the cipher (R128, R321, R346). -/
def State.cphRead (s : State) (x : Sector) (addr result : Nat) (out : List Byte) : State :=
  if x.dropped then s.discard x
  else if result = 0 then
    match s.bufWrite addr out with
    | (s, true) => s.readServed x
    | (s, false) => s.readFailed x 1 scPath
  else if result = 1 ∨ result = 2 then (s.corrected srcCPH 1).readFailed x 0 scUnrecovered
  else s.readFailed x 1 scPath

/-- A media write sector's ciphertext comes back to its encoder; an error fails the sector (R109, R321, R346). -/
def State.cphWrite (s : State) (tag result : Nat) (out : List Byte) : State :=
  let s := s.encCipher tag out result
  if result = 0 then s
  else
    let s := if result = 1 ∨ result = 2 then s.corrected srcCPH 1 else s
    match s.sector tag with
    | some x => s.writeFailed x
    | none => s

/-- A request ends with a result (R353): its output goes to its destination and its place in the store is free. -/
def State.cphEnd (s : State) (r : CipherReq) (result : Nat) (out : List Byte) : State :=
  let s := s.bump Reg.CPH_CNT_REQ 0 1
  let s := if result = 1 then s.bump Reg.CPH_CNT_NOKEY 0 1 else if result = 4 then s.bump Reg.CPH_CNT_AUTH 0 1 else s
  let s := if r.peer then s else { s with cph := { s.cph with store := s.cph.store - 1 } }
  let note (s : State) (result : Nat) : State :=
    { s with cph := { s.cph with done := { tag := r.tag, result := result, out := out } :: s.cph.done } }
  match r.dst with
  | .encoder => s.cphWrite r.tag result out
  | .frame => note s result
  | .buffer addr =>
    match (if r.peer then none else s.sector r.tag) with
    | some x => if x.op ≠ 1 then s.cphRead x addr result out else note s result
    | none =>
      if result = 0 ∨ result = 4 then
        match s.bufWrite addr out with
        | (s, true) => note s result
        | (s, false) => note s 6
      else note s result

/-- Queued requests that name removed keys end NO_KEY; those that an engine had started keep theirs (R345, R354). -/
def State.cphPurge (s : State) (hit : CipherReq → Bool) : State :=
  let gone := (s.cph.media ++ s.cph.peer).filter fun j => j.key.isNone && hit j.req
  let keep (l : List CphJob) : List CphJob := l.filter fun j => !(j.key.isNone && hit j.req)
  let s := { s with cph := { s.cph with media := keep s.cph.media, peer := keep s.cph.peer } }
  (gone.foldl (fun s j => s.cphEnd j.req 1 []) s).cphStat

/-! ## Slot commands (R343 to R347, R356) -/

/-- A slot command of an OP is written with GO while none runs: the register takes the write and the command acts. -/
def State.slotCmd (s : State) (op : Nat) (v : Word) (f : State → Nat → Nat → State) : State :=
  if s.regWritable Reg.CPH_SLOT_CMD 0 0 v ∧ Reg.CPH_SLOT_CMD_GO.get v = 1 ∧ Reg.CPH_SLOT_CMD_OP.get v = op
      ∧ ¬ s.flag Reg.CPH_SLOT_CMD_GO 0 then
    let s := ((s.store Reg.CPH_SLOT_CMD 0 0 v).setFld Reg.CPH_SLOT_CMD_GO 0 1).setFld Reg.CPH_SLOT_CMD_RESULT 0 0
    f s (Reg.CPH_SLOT_CMD_SLOT.get v) (Reg.CPH_SLOT_CMD_GEN.get v)
  else s

/-- KEY_LOAD (R343, R344). -/
def execKeyLoad (v : Word) (s : State) : Host.Outcome State Fault Refusal := s.powered fun s =>
  .next (s.slotCmd 1 v fun s k gen =>
    let x := s.kslot k
    let kind := s.fld Reg.CPH_SLOT_CMD_MODE 0 + 1
    let key := s.stagedKey (if kind = 1 then 64 else 32)
    if x.kind ≠ 0 ∧ x.kind ≠ kind then s.slotDone 4
    else if (x.find gen).isSome then s.slotDone 2
    else if x.a.isSome ∧ x.b.isSome then s.slotDone 3
    else if kind = 1 ∧ key.take 32 = key.drop 32 then s.slotDone 5
    else
      let g : KeyGen := if kind = 1 then { gen := gen, key := key }
        else { gen := gen, key := key, h := Config.aes256 key (List.replicate 16 0), salt := s.stagedSalt }
      let y : KeySlot := if x.a.isNone then { x with kind := kind, a := some g } else { x with kind := kind, b := some g }
      (s.setKslot k y).slotDone 1)

/-- KEY_DROP (R344, R345). -/
def execKeyDrop (v : Word) (s : State) : Host.Outcome State Fault Refusal := s.powered fun s =>
  .next (s.slotCmd 2 v fun s k gen =>
    let x := s.kslot k
    if (x.find gen).isNone then s.slotDone 6
    else
      let s := (s.setKslot k (x.drop gen)).cphPurge fun r => r.slot == k && r.gen == gen
      ({ s with cph := { s.cph with cmd := some { slot := k, gen := some gen } } }).slotCmdPoll)

/-- The streams whose sectors name a slot, or whose namespace does, become BROKEN (R264, R346). -/
def State.breakSlot (s : State) (k : Nat) : State :=
  s.breakStreams fun ws => cw ws 1 20 8 == k || (s.nsd (ctxNs ws)).keySlot == k

/-- KEY_WIPE (R344, R345, R346). -/
def execKeyWipe (v : Word) (s : State) : Host.Outcome State Fault Refusal := s.powered fun s =>
  .next (s.slotCmd 3 v fun s k _ =>
    let s := ((s.setKslot k {}).cphPurge fun r => r.slot == k).breakSlot k
    ({ s with cph := { s.cph with cmd := some { slot := k, gen := none } } }).slotCmdPoll)

/-- KEY_QUERY (R344, R356). -/
def execKeyQuery (v : Word) (s : State) : Host.Outcome State Fault Refusal := s.powered fun s =>
  .next (s.slotCmd 4 v fun s k gen =>
    let x := s.kslot k
    let half (h : Option KeyGen) : Nat := match h with | some g => g.gen | none => 0
    let st := x.kind * 2 ^ 30 + bit01 x.a.isSome * 2 ^ 29 + bit01 x.b.isSome * 2 ^ 28 + half x.a * 2 ^ 16 + half x.b * 2 ^ 8
    let c := match x.find gen with | some g => g.ctr | none => 0
    let s := s.wr Reg.CPH_SLOT_STAT 0 0 (word st)
    ((s.wr Reg.CPH_SLOT_CTR_LO 0 0 (word c)).wr Reg.CPH_SLOT_CTR_HI 0 0 (word (c / 2 ^ 32))).slotDone 1)

/-- SLOT_BADOP (R356): an OP of no command. -/
def execSlotBadop (v : Word) (s : State) : Host.Outcome State Fault Refusal := s.powered fun s =>
  let op := Reg.CPH_SLOT_CMD_OP.get v
  .next (if op = 0 ∨ 4 < op then s.slotCmd op v fun s _ _ => s.slotDone 7 else s)

/-- WIPE_ALL (R347): every slot is wiped; WIPING stays until the requests that engines have started end. -/
def execWipeAll (v : Word) (s : State) : Host.Outcome State Fault Refusal := s.powered fun s =>
  .next (
    if s.regWritable Reg.CPH_CTRL 0 0 v ∧ Reg.CPH_CTRL_WIPE_ALL.get v = 1 then
      let s := ((s.store Reg.CPH_CTRL 0 0 v).setFld Reg.CPH_CTRL_WIPE_ALL 0 1).setFld Reg.CPH_STAT_WIPING 0 1
      let s := { s with cph := { s.cph with slots := [] } }
      ((s.cphPurge fun _ => true).breakStreams fun _ => true).slotCmdPoll
    else s)

/-! ## Requests and engines (R348 to R355) -/

/-- CIPHER_REQUEST (R348, R351): a media request takes a place of the store; without one it waits at its requester. -/
def execCipherRequest (r : CipherReq) (s : State) : Host.Outcome State Fault Refusal := s.powered fun s =>
  let ok := decide (r.slot < 8192) && decide (r.gen < 256) && decide (r.len < 65536) && decide (r.aad.length < 256)
    && (!r.gcm || !r.decrypt || r.iv.length == 12)
  .next (
    if !ok ∨ (¬ r.peer ∧ s.storeSize ≤ s.cph.store) then s
    else
      (if r.peer then s else { s with cph := { s.cph with store := s.cph.store + 1 } }).cphEnqueue r)

/-- ENGINE_TAKE (R351, R546): the lowest-numbered free engine takes the oldest media request, else the oldest peer
request; a request that fails a check ends at once. -/
def execEngineTake (e : Nat) (s : State) : Host.Outcome State Fault Refusal := s.powered fun s =>
  let free (i : Nat) : Bool := (s.engJob i).isNone && !s.engOut i
  .next (
    if ¬ s.flag Reg.CPH_CTRL_EN 0 ∨ (List.range s.nEng).find? free ≠ some e then s
    else
      match s.cph.media ++ s.cph.peer with
      | [] => s
      | j :: _ =>
        let s := { s with cph := { s.cph with media := s.cph.media.filter fun k => k.age != j.age
                                              peer := s.cph.peer.filter fun k => k.age != j.age } }
        if j.key.isSome then (s.setEng e (some j)).cphStat
        else
          let r := s.cphCheck j.req
          let k := s.kslot j.req.slot
          match k.find j.req.gen with
          | none => ((s.cphEnd j.req (if r = 0 then 1 else r) []).slotCmdPoll).cphStat
          | some g =>
            if r ≠ 0 then ((s.cphEnd j.req r []).slotCmdPoll).cphStat
            else if j.req.gcm ∧ ¬ j.req.decrypt then
              let iv := g.nextIv
              (((s.setKslot j.req.slot (k.put iv.2)).setEng e (some { j with iv := some iv.1, key := some g }))).cphStat
            else (s.setEng e (some { j with iv := if j.req.gcm then some j.req.iv else none, key := some g })).cphStat)

/-- The result and the output of a started request (R339, R340, R349, R350). -/
def cphCompute (j : CphJob) (g : KeyGen) (text : List Byte) : Nat × List Byte :=
  let r := j.req
  if r.gcm then
    let iv := j.iv.getD r.iv
    if r.decrypt then
      let c := text.take r.len
      if gcmTag g.key g.h iv r.aad c = (text.drop r.len).take 16 then (0, gcmText g.key iv c) else (4, List.replicate r.len 0)
    else
      let c := gcmText g.key iv (text.take r.len)
      (0, c ++ gcmTag g.key g.h iv r.aad c)
  else (0, if r.len = 0 then [] else xts r.decrypt g.key (text.take r.len) r.nsid r.lba)

/-- CIPHER_RESULT (R353): an engine's request ends with its result. -/
def execCipherResult (e : Nat) (s : State) : Host.Outcome State Fault Refusal := s.powered fun s =>
  .next (match s.engJob e with
    | none => s
    | some j =>
      let n := j.req.len + (if j.req.gcm && j.req.decrypt then 16 else 0)
      let (s, text) : State × Option (List Byte) := match j.req.src with
        | .bytes bs => (s, some ((bs ++ List.replicate n 0).take n))
        | .buffer a => s.bufFetch a n
      let s := s.setEng e none
      let s := match text, j.key with
        | some t, some g => let p := cphCompute j g t; s.cphEnd j.req p.1 p.2
        | none, _ => s.cphEnd j.req 6 []
        | _, none => s.cphEnd j.req 1 []
      (s.slotCmdPoll).cphStat.gateSettle)

/-- ENGINE_PARITY_FAULT (R354). -/
def execEngineParityFault (e : Nat) (s : State) : Host.Outcome State Fault Refusal := s.powered fun s =>
  .next (if e < s.nEng ∧ (s.engJob e).isSome then s.raise srcCPH 0 e false else s)

/-- ENGINE_FENCE_WRITE (R355): a write of CPH_EFENCE register `j`. -/
def execEngineFenceWrite (j : Nat) (v : Word) (s : State) : Host.Outcome State Fault Refusal := s.powered fun s =>
  .next (if j < 8 then
    (List.range 32).foldl (fun s k =>
      let e := 32 * j + k
      if s.nEng ≤ e then s
      else if bitOf v.toNat k then s.engHostFence e
      else s.engReturn e) s
    else s)

end Sys2Proof.Machine
end

