-- ==== Sys2Proof/Machine/Codewords.lean ====
section
/-!
DEFINITION. The commands of the decoder pool and the encoders (R109, R117, R120 to R132, R351, R398).
-/

namespace Sys2Proof.Machine

/-! ## Requests (R120, R398) -/

/-- CWREQ (R120, R121): RF while the pool is off or its queue full, and for the reserved KIND. -/
def execCwreq (q : Nat) (s : State) : Out := s.powered fun s =>
  .next (s.plainWord q 0x42 fun s w =>
    let c := s.cwOf q (s.grs q w.dA 16)
    if q < 32 ∧ w.dHead ≤ 9 ∧ s.flag Reg.DEC_CTRL_EN 0 ∧ s.dec.queue.length < s.nDcred ∧ c.kind ≠ 3 then
      let s := { s with dec := { s.dec with age := s.dec.age + 1 } }
      ((s.enqueueCw c).decStat).setRF q false
    else s.setRF q true)

/-- CWCAN (R130, R398). -/
def execCwcan (q : Nat) (s : State) : Out := s.powered fun s =>
  .next (s.plainWord q 0x43 fun s w =>
    if q < 32 ∧ w.dHead ≤ 9 then ((s.cancelCw (s.gr q w.dC).toNat).setRF q false) else s.setRF q true)

/-- ENCODE (R109): the sector's encryption is requested; RF while the pool is off or the cipher's media store is full. -/
def execEncode (q : Nat) (s : State) : Out := s.powered fun s =>
  .next (s.plainWord q 0x44 fun s w =>
    if q < 32 ∧ w.dHead ≤ 9 ∧ s.flag Reg.DEC_CTRL_EN 0 ∧ s.cph.store < s.storeSize then
      let b := s.grs q w.dA 16
      let j : EncJob := { q := q, block := b }
      let s := { s with dec := { s.dec with encq := s.dec.encq ++ [j] } }
      let s := { s with cph := { s.cph with store := s.cph.store + 1 } }
      (s.cphEnqueue (encodeRequest b)).setRF q false
    else s.setRF q true)

/-! ## Encoders (R109, R117) -/

/-- ENCODER_START (R109): a free encoder takes the oldest work whose ciphertext has come. -/
def execEncoderStart (e : Nat) (s : State) : Out := s.powered fun s =>
  .next (
    if e < s.nEnc ∧ (s.encJob e).isNone ∧ (List.range e).all (fun k => (s.encJob k).isSome) then
      match s.dec.encq.findIdx? fun j => j.cipher.isSome with
      | some i =>
        match s.dec.encq[i]? with
        | some j => ({ s with dec := { s.dec with encq := s.dec.encq.eraseIdx i } }).setEnc e (some j)
        | none => s
      | none => s
    else s)

/-- The encoded bits of a sector stand in bytes 24,032 to 28,671 of its soft slot (R117). -/
def State.putEncoded (s : State) (slot : Nat) (bits : List Nat) : State :=
  if slot < s.nSoft then s.putLand (softKey slot 24032) (bytesMsb 4640 bits) else s

/-- The encoded bits in a soft slot (R117). -/
def State.encodedBits (s : State) (slot : Nat) : List Nat := bitsMsb (s.landBytes (softKey slot 24032) 4640)

/-- The result of encoder work in its record: 0 built, 1 buffer error, 2 key error (R346, R400). -/
def encResult (r : Nat) : Nat := if r = 0 then 0 else if r = 1 ∨ r = 2 then 2 else 1

/-- ENCODE_DONE (R109, R117, R400): the sector stands complete in its slot, and its record goes out. -/
def execEncodeDone (e : Nat) (s : State) : Out := s.powered fun s =>
  .next (
    match s.encJob e with
    | none => s
    | some j =>
      let w (i : Nat) : Nat := (j.block.getD i 0).toNat
      let slot := bitsOf (w 0) 9 0
      let s := s.setEnc e none
      let s := if j.result = 0 then s.bump Reg.DEC_CNT_ENC 0 1 else s
      let s := if j.result = 0 then s.putEncoded slot (buildSector (j.cipher.getD []) (blockTag j.block)) else s
      s.sendRec j.q 1 [word (4 * 2 ^ 28 + encResult j.result * 2 ^ 24), word (w 1), 0, 0, 0, word slot])

/-! ## Decoders (R122 to R126, R351) -/

/-- DECODER_DISPATCH (R122): a decoder that can begin an intake, no lower one being free, takes the next codeword. -/
def execDecoderDispatch (d : Nat) (s : State) : Out := s.powered fun s =>
  .next (
    if d < s.nDec ∧ s.decFree d ∧ (List.range d).all (fun k => !s.decFree k) then
      match s.nextCw with
      | none => s
      | some c =>
        let input := s.intake c
        let w : DecWork := { cw := c, input := input, post := input, unsat := unsatCount (hardBits input) }
        let x := s.decoder d
        let s := s.setDecQueue (s.dec.queue.filter fun y => y.age != c.age)
        (s.setDecoder d (if x.run.isNone then { x with run := some w } else { x with next := some w })).decStat
    else s)

/-- The buffer of a decoder that is being filled: 0 the one it decodes next, 1 its other one. -/
def Decoder.filling (x : Decoder) : Option (Nat × DecWork) :=
  match x.run, x.next with
  | some w, n => if !w.taken then some (0, w) else match n with | some v => if v.taken then none else some (1, v) | none => none
  | none, _ => none

/-- CODEWORD_TAKEN (R125): all soft values have been read; the landing credit of priorities 0 to 2 is released. A
priority-3 codeword that may not begin its iterations is parked at once (R123). -/
def execCodewordTaken (d : Nat) (s : State) : Out := s.powered fun s =>
  .next (
    match (s.decoder d).filling with
    | none => s
    | some (k, w) =>
      let w' := { w with taken := true }
      let x := s.decoder d
      let busy := s.extBusy
      let s := s.setDecoder d (if k = 0 then { x with run := some w' } else { x with next := some w' })
      let s := if w.cw.pri = 3 then s else s.releaseSoft w.cw.slot w.cw.tag
      if k = 0 ∧ s.extStopped w.cw busy then s.parkCw d w' else s.decStat)

/-- DECODE_ITERATION_END (R123, R124, R126). -/
def execDecodeIterationEnd (d : Nat) (s : State) : Out := s.powered fun s => .next (if d < s.nDec then (s.iterate d).gateSettle else s)

/-- STORE_PLACE_RESERVED (R351): the first decoder that waits takes the place that freed, and its result goes out. -/
def execStorePlaceReserved (d : Nat) (s : State) : Out := s.powered fun s =>
  .next (
    match s.cph.storeWait, (s.decoder d).run, (s.decoder d).hold with
    | k :: rest, some w, some r =>
      if k = d ∧ s.cph.store < s.storeSize then
        let s := { s with cph := { s.cph with store := s.cph.store + 1, storeWait := rest } }
        let bits := hardBits w.post
        let s := s.endCw w.cw 0 w.taken 0 (flipCount bits w.input) (infoTag (infoBytes bits))
        ((s.cphEnqueue r).decNext d).gateSettle
      else s
    | _, _, _ => s)

/-! ## Fences (R131, R132) -/

/-- DECODER_FENCE_WRITE (R131, R132): a write of DEC_DFENCE register `j`. -/
def execDecoderFenceWrite (j : Nat) (v : Word) (s : State) : Out := s.powered fun s =>
  .next (if j < 2 then
    (List.range 32).foldl (fun s k =>
      let d := 32 * j + k
      if s.nDec ≤ d then s else if bitOf v.toNat k then s.decHostFence d else s.decReturn d) s
    else s)

/-- DECODER_FAULT (R131). -/
def execDecoderFault (d : Nat) (s : State) : Out := s.powered fun s => .next (if d < s.nDec then s.raise srcDEC 0 d false else s)

end Sys2Proof.Machine
end

