-- ==== Sys2Proof/Machine/Gates.lean ====
section
/-!
DEFINITION. The commands of the head pipelines: read gates, replays, raw slots and parameter banks (R67 to R100,
R114, R115, R164, R169, R170, R398, R399).
-/

namespace Sys2Proof.Machine

/-! ## Read gates (R69 to R72) -/

/-- The request of a GATE word (R398); ACC 3 adds nothing (log entry 60). -/
def State.gateReq (s : State) (q : Nat) (w : Mw) : GateReq :=
  let e := (s.gr q w.dE).toNat
  let acc := w.bits 45 44
  { start := s.gPair q w.dA % 2 ^ 48, exp := w.bits 54 47, bank := w.bits 46 46, slot := (s.gr q w.dB).toNat % 1024,
    tag := (s.gr q w.dC).toNat, splitAt := bitsOf e 31 16, splitLen := bitsOf e 15 0,
    acc := if acc = 3 then 0 else acc }

/-- The sample at which the last queued or open gate of a head is to end, in 1/256 sample (R70). -/
def State.lastEnd (s : State) (h : Nat) : Option Nat :=
  let x := s.rc h
  match x.queue.getLast?, x.live with
  | some g, _ => some (gateEndAt g (s.ratio (h / 10) ((x.bank g.bank).getD [])))
  | none, some c => some (gateEndAt c.req (((c.rho : Nat) : Rat) / ((2 ^ 24 : Nat) : Rat)))
  | none, none => none

/-- A gate whose split lies outside its limits, or that starts before the previous one ends (R70, R399). -/
def State.gateOverlaps (s : State) (h : Nat) (g : GateReq) : Bool :=
  (g.splitAt != 0 && (decide (g.splitAt < 240) || decide (37384 ≤ g.splitAt)))
    || (match s.lastEnd h with | some e => decide (g.start < e) | none => false)

/-- GATE (R69, R70, R398): a request that the input takes is queued or ends with OVERLAP; RF above head 9, with
the pipeline disabled, and with four gates queued. -/
def execGate (q : Nat) (s : State) : Out := s.powered fun s =>
  .next (s.plainWord q 0x40 fun s w =>
    let h := 10 * q + w.dHead
    if q < 32 ∧ w.dHead ≤ 9 ∧ s.flag Reg.RCH_CTRL_EN h ∧ (s.rc h).queue.length < 4 then
      let g := s.gateReq q w
      let s := s.setRF q false
      if s.gateOverlaps h g then s.refuseGate h 6 g
      else (s.setRc h { s.rc h with queue := (s.rc h).queue ++ [g] }).rchStat h
    else s.setRF q true)

/-- A raw slot is taken for the capture of a gate: a replay that reads it ends GONE (R93, R115). -/
def State.takeRaw (s : State) (h : Nat) (k : Option Nat) : State :=
  match k with
  | none => s
  | some k =>
    let reads := match (s.rc h).replay with
      | some c => (match c.replay with | some r => r.raw == k && r.passes.isNone | none => false)
      | none => false
    let s := if reads then s.endCtx h true 9 else s
    let x := s.rc h
    s.setRc h (x.setRaw k { x.rawRec k with used := false, cut := false, age := x.gates + 1 })

/-- The accumulator of R170 takes both raw slots at its first pass. -/
def State.takeAcc (s : State) (h : Nat) (g : GateReq) : State :=
  if g.acc = 0 then s
  else
    let s := if (s.rc h).accOn then s else (s.takeRaw h (some 0)).takeRaw h (some 1)
    let x := s.rc h
    s.setRc h { x with accOn := true, raw0 := { x.raw0 with exp := g.exp, bank := g.bank, start := g.start } }

/-- GATE_OPEN (R80, R93, R96): the oldest queued gate opens, or is refused with NOPARAM, RATE or LATE. -/
def execGateOpen (h : Nat) (s : State) : Out := s.powered fun s =>
  .next (
    let x := s.rc h
    match x.queue, x.live with
    | g :: rest, none =>
      if x.fifo.any fun e => decide (g.start / 256 ≤ e.1) then
        let s := (s.setRc h { x with queue := rest }).rchStat h
        match x.bank g.bank with
        | none => s.refuseGate h 7 g
        | some ws =>
          let rho := s.ratio (h / 10) ws
          if rho < 104 / 100 ∨ 225 / 100 < rho then s.refuseGate h 4 g
          else if (match x.fifo with | e :: _ => decide (g.start / 256 < e.1) | [] => true) then s.refuseGate h 5 g
          else
            let s := s.takeAcc h g
            let k := if g.acc = 0 then (s.rc h).captureSlot else none
            let s := s.takeRaw h k
            let r := (qz 11 (rho * ((2 ^ 24 : Nat) : Rat))).toNat
            let c := s.openCtx h g ws r k none []
            ((s.setRc h { s.rc h with live := some c, gates := (s.rc h).gates + 1 }).feedLive h).rchStat h
      else s
    | _, _ => s)

/-- GATE_PHASE_CHANGE (R82): a context whose bit count has reached the end of its phase goes on to the next. -/
def execGatePhaseChange (h : Nat) (s : State) : Out := s.powered fun s =>
  .next (
    match (s.rc h).live, (s.rc h).replay with
    | some c, r =>
      if c.phaseDue then (s.setRc h { s.rc h with live := some (s.nextPhase c) }).runLive h
      else
        match r with
        | some c => if c.phaseDue then (s.setRc h { s.rc h with replay := some (s.nextPhase c) }).runReplay h else s
        | none => s
    | none, some c => if c.phaseDue then (s.setRc h { s.rc h with replay := some (s.nextPhase c) }).runReplay h else s
    | none, none => s)

/-- RAW_CAPTURE_PARTIAL (R115): the samples of an open gate exceed its raw slot. -/
def execRawCapturePartial (h : Nat) (s : State) : Out := s.powered fun s =>
  .next (
    let x := s.rc h
    match x.live with
    | some c =>
      match c.raw with
      | some k =>
        if rawMax < c.captureList.length then s.setRc h (x.setRaw k { x.rawRec k with cut := true }) else s
      | none => s
    | none => s)

/-- GATE_END (R71, R72): a context that has run all its bits ends with its status; the replay that reads the
accumulator gives the raw slots back (R170). -/
def execGateEnd (h : Nat) (replay : Bool) (s : State) : Out := s.powered fun s =>
  .next (
    let x := s.rc h
    match (if replay then x.replay else x.live) with
    | some c =>
      if c.finished then
        let acc := match c.replay with | some r => r.passes.isSome | none => false
        let s := s.endCtx h replay c.status
        if acc then s.setRc h { s.rc h with accOn := false } else s
      else s
    | none => s)

/-! ## Replays (R94, R170) -/

/-- The request of a REPLAY word (R398). -/
def State.replayReq (s : State) (q : Nat) (w : Mw) : ReplayReq :=
  { raw := w.bits 54 54, slot := (s.gr q w.dB).toNat % 1024, tag := (s.gr q w.dC).toNat, cand := w.bits 53 52,
    ofs := if w.bits 51 51 = 1 then some (signed 8 (w.bits 50 43)) else none,
    bank := if w.bits 42 42 = 1 then some (w.bits 41 41) else none,
    passes := if w.bits 40 40 = 1 then some (w.bits 39 35) else none }

/-- The request's overrides lie in their ranges (R94, R398). -/
def ReplayReq.ok (r : ReplayReq) : Bool :=
  decide (r.cand ≤ 2)
    && (match r.ofs with | some o => decide (-64 ≤ o) && decide (o ≤ 64) | none => true)
    && (match r.passes with | some p => decide (2 ≤ p) && decide (p ≤ 16) | none => true)

/-- The context of a replay on the accumulator: its values divided by the pass count, ready for the detector (R170). -/
def State.accCtx (s : State) (h : Nat) (c : GateCtx) (passes : Nat) : GateCtx :=
  let lead := c.req.exp + 48
  let vals := (List.range 37120).map fun n => ((s.accVal h n : Int) : Rat) / ((passes : Nat) : Rat)
  { c with phase := 3, z := List.replicate lead 0 ++ vals ++ List.replicate 88 0, frame := some lead, status := 0 }

/-- A replay starts, or ends at once with GONE or NOPARAM (R94, R115). -/
def State.startReplay (s : State) (h : Nat) (r : ReplayReq) : State :=
  let x := s.rc h
  let rec' := x.rawRec (if r.passes.isSome then 0 else r.raw)
  let b := r.bank.getD rec'.bank
  let g : GateReq := { start := rec'.start, exp := rec'.exp, bank := b, slot := r.slot, tag := r.tag,
                       splitAt := rec'.splitAt, splitLen := rec'.splitLen }
  let fail (st : Nat) : State :=
    (s.gateTally h st r.tag r.slot 0 false).gateRecord h st true false false false false 0 r.tag r.slot []
  let held := if r.passes.isSome then x.accOn else rec'.used && !rec'.cut && !x.accOn
  if !held then fail 9
  else
    match x.bank b with
    | none => fail 7
    | some ws =>
      let c := s.openCtx h g ws rec'.rho none (some r) (if r.passes.isSome then [] else s.rawSamples h r.raw)
      match r.passes with
      | some p =>
        let (s, c) := s.writeSoft (s.accCtx h c p)
        (s.setRc h { s.rc h with replay := some c }).rchStat h
      | none => ((s.setRc h { s.rc h with replay := some c }).runReplay h).rchStat h

/-- REPLAY (R94, R398): RF above head 9, with the pipeline disabled, while a replay runs, and for overrides out of range. -/
def execReplay (q : Nat) (s : State) : Out := s.powered fun s =>
  .next (s.plainWord q 0x41 fun s w =>
    let h := 10 * q + w.dHead
    let r := s.replayReq q w
    if q < 32 ∧ w.dHead ≤ 9 ∧ s.flag Reg.RCH_CTRL_EN h ∧ (s.rc h).replay.isNone ∧ r.ok then
      (s.setRF q false).startReplay h r
    else s.setRF q true)

/-! ## Banks (R96, R169) -/

/-- The write of RCH_LOAD: its parameters, and with GO the load and its result (R96, R100). -/
def State.rchLoadWrite (s : State) (h : Nat) (v : Word) : State :=
  if s.regWritable Reg.RCH_LOAD h 0 v then
    let s := s.store Reg.RCH_LOAD h 0 v
    if Reg.RCH_LOAD_GO.get v = 1 then
      let zone := Reg.RCH_LOAD_ZONE.get v
      let reader := Reg.RCH_LOAD_READER.get v
      let band := Reg.RCH_LOAD_BAND.get v
      let (s, r) := s.loadEntry h (Reg.RCH_LOAD_BANK.get v) (s.entryAddr h zone reader band) zone reader band
      s.setFld Reg.RCH_LOAD_RESULT h r
    else s
  else s

/-- RCH_LOAD (R96): a write with GO set. -/
def execRchLoad (h : Nat) (v : Word) (s : State) : Out := s.powered fun s =>
  .next (if h < s.nHead ∧ Reg.RCH_LOAD_GO.get v = 1 then s.rchLoadWrite h v else s)

/-- BLOAD (R96, R169, R398): MODE 0 loads as RCH_LOAD does; MODE 1 loads an alternate set into the bank that no
gate names and is refused while gates name both. The result stands in RCH_LOAD.RESULT (log entry 61). -/
def execBload (q : Nat) (s : State) : Out := s.powered fun s =>
  .next (s.plainWord q 0x48 fun s w =>
    let h := 10 * q + w.dHead
    let b := w.bits 54 54
    let alt := w.bits 53 53 == 1
    let zone := w.bits 52 45
    let band := w.bits 43 43
    let x := s.rc h
    let b := if alt ∧ x.bankBusy b then 1 - b else b
    if q < 32 ∧ w.dHead ≤ 9 ∧ ¬ (alt ∧ x.bankBusy b) then
      let s := s.setRF q false
      let reader := if alt then 0 else w.bits 44 44
      let addr := if alt then s.gPair q w.dA % 2 ^ 40 else s.entryAddr h zone reader band
      let (s, r) := s.loadEntry h b addr zone reader band
      s.setFld Reg.RCH_LOAD_RESULT h r
    else s.setRF q true)

/-- The write of RCH_CTRL: clearing EN ends the open gates with ABORT (R100). -/
def State.rchCtrlWrite (s : State) (h : Nat) (v : Word) : State :=
  let s := s.store Reg.RCH_CTRL h 0 v
  if s.flag Reg.RCH_CTRL_EN h then s else s.endHead h 8

/-- PIPELINE_DISABLE (R100). -/
def execPipelineDisable (h : Nat) (v : Word) (s : State) : Out := s.powered fun s =>
  .next (if h < s.nHead ∧ Reg.RCH_CTRL_EN.get v = 0 then s.rchCtrlWrite h v else s)

/-- PIN (R164, R398). -/
def execPin (q : Nat) (s : State) : Out := s.powered fun s =>
  .next (s.plainWord q 0x47 fun s w =>
    let h := 10 * q + w.dHead
    let k := w.bits 54 54
    if q < 32 ∧ w.dHead ≤ 9 then
      let x := s.rc h
      (s.setRc h (x.setRaw k { x.rawRec k with pin := w.bits 53 53 == 1 })).setRF q false
    else s.setRF q true)

end Sys2Proof.Machine
end

