-- ==== Sys2Proof/Machine/Media.lean ====
section
/-!
DEFINITION. The I/O commands of the NVM and Zoned command sets (R19 to R23, R370, R373, R548), and their admission, choice
and grant (R25, R268, R275).
-/

namespace Sys2Proof.Machine

/-! ## Commands on LBAs -/

/-- A command that reads or writes LBAs: refused with the first status that applies, or its sectors wait for admission
(R370, R268). -/
def State.lbaCmd (s : State) (p k : Nat) (c : Cmd) (lba : Nat) (mdts : Bool) : State :=
  let n := c.nlb
  let e := s.rangeCheck c.nsidField lba n c.writes mdts
  let e := if e = scOk ∧ c.writes then s.zoneWriteCheck c.nsidField lba n else e
  if e ≠ scOk then s.complete p k e 0
  else
    let s := if c.writes then s.advanceWp c.nsidField lba n else s
    let c := { c with nsid := c.nsidField, slba := lba, count := n, result := if c.opcode = 0x7D then lba else 0 }
    s.queueCmd p k 0 c

/-- READ (R19, R370). -/
def execRead (p slot : Nat) (s : State) : Host.Outcome State Fault Refusal := s.powered fun s =>
  .next (s.onCmd p slot false [0x02] fun c => s.lbaCmd p slot c c.lbaField true)

/-- WRITE (R20, R21). -/
def execWrite (p slot : Nat) (s : State) : Host.Outcome State Fault Refusal := s.powered fun s =>
  .next (s.onCmd p slot false [0x01] fun c => s.lbaCmd p slot c c.lbaField true)

/-- VERIFY (R370): a Read without data. -/
def execVerify (p slot : Nat) (s : State) : Host.Outcome State Fault Refusal := s.powered fun s =>
  .next (s.onCmd p slot false [0x0C] fun c => s.lbaCmd p slot c c.lbaField false)

/-- WRITE_ZEROES (R370): not a command of zoned namespaces. -/
def execWriteZeroes (p slot : Nat) (s : State) : Host.Outcome State Fault Refusal := s.powered fun s =>
  .next (s.onCmd p slot false [0x08] fun c =>
    if (s.nsd c.nsidField).valid ∧ (s.nsd c.nsidField).zoned ∧ c.nsidField ≤ 128 ∧ s.mode ≠ modeQuiescent then
      s.complete p slot scOpcode 0
    else s.lbaCmd p slot c c.lbaField false)

/-- ZONE_APPEND (R373): writes at the zone's write pointer and returns the LBA taken. -/
def execZoneAppend (p slot : Nat) (s : State) : Host.Outcome State Fault Refusal := s.powered fun s =>
  .next (s.onCmd p slot false [0x7D] fun c =>
    let x := s.nsd c.nsidField
    if s.mode = modeQuiescent then s.complete p slot scNotReady 0
    else if ¬ (1 ≤ c.nsidField ∧ c.nsidField ≤ 128 ∧ x.valid) then s.complete p slot scBadNs 0
    else if ¬ x.zoned then s.complete p slot scOpcode 0
    else if x.size ≤ c.lbaField then s.complete p slot scRange 0
    else
      match x.extents[x.zoneOf c.lbaField]? with
      | none => s.complete p slot scZoneBoundary 0
      | some e =>
        if c.lbaField ≠ e.lba then s.complete p slot scField 0
        else
          let z := s.zone (zoneKey e.aAct e.aZone)
          if zoneShown z e.count = 2 then s.complete p slot scZoneFull 0
          else if e.count < z.wp + c.nlb then s.complete p slot scZoneBoundary 0
          else s.lbaCmd p slot c (e.lba + z.wp) true)

/-- FLUSH (R22): it waits in its slot until FLUSH_COMPLETION; a failure that no Flush has reported is its to report
(R153). -/
def execFlush (p slot : Nat) (s : State) : Host.Outcome State Fault Refusal := s.powered fun s =>
  .next (s.onCmd p slot false [0x00] fun c =>
    let all := c.nsidField == 0xFFFFFFFF
    if s.mode = modeQuiescent then s.complete p slot scNotReady 0
    else if ¬ all ∧ ¬ (1 ≤ c.nsidField ∧ c.nsidField ≤ 128 ∧ (s.nsd c.nsidField).valid) then s.complete p slot scBadNs 0
    else
      let mine := s.stm.owed.filter fun n => all || n == c.nsidField
      let s := { s with stm := { s.stm with owed := s.stm.owed.filter fun n => !mine.contains n } }
      s.setCmd p slot (some { c with begun := true, flushFail := c.flushFail || !mine.isEmpty }))

/-- FLUSH_COMPLETION (R548). -/
def execFlushCompletion (p slot : Nat) (s : State) : Host.Outcome State Fault Refusal := s.powered fun s =>
  .next (match s.cmd p slot with
    | some c => if c.begun ∧ ¬ c.admin ∧ c.opcode = 0 then s.flushEnd p slot c else s
    | none => s)

/-! ## Zones (R157, R373) -/

/-- State code of a zone as a Zone Management Receive reports it (log entry 52). -/
def zoneCode (z : Zone) (cap : Nat) : Nat :=
  match zoneShown z cap with
  | 4 => 0xF
  | 3 => 0xD
  | 2 => 0xE
  | _ => if z.zopen = 1 then 3 else if z.zopen = 2 then 4 else if z.wp = 0 then 1 else 2

/-- A Zone Reset: the zone is empty, its slip table is clear and both copies are to be written (R157, R154). -/
def State.resetZone (s : State) (zk : Nat) : State :=
  let z := s.zone zk
  let s := s.setZone zk { z with wp := 0, zstate := 0, zopen := 0, nextP := 0 }
  let s := (s.cWrite z.slip (List.replicate 512 0) false).1
  let s := (s.cWrite (s.pair Reg.STM_ZONE_BASE_LO Reg.STM_ZONE_BASE_HI 0 0 + zk * 64 + 44) (leBytes 4 0) false).1
  ({ s with stm := { s.stm with slipOk := s.stm.slipOk.filter fun e => e / 256 != zk } }).slipChanged zk

/-- What a Zone Send Action makes of a zone: none when its state does not allow it (log entry 52). -/
def zoneAction (za code : Nat) (z : Zone) : Option Zone :=
  if za = 1 then (if code = 2 ∨ code = 3 ∨ code = 4 then some { z with zopen := 2 } else none)
  else if za = 2 then (if code ≤ 4 ∨ code = 0xE then some { z with zstate := 2, zopen := 0 } else none)
  else if za = 3 then (if code ≤ 4 then some { z with zopen := 1 } else none)
  else if za = 5 then (if code = 0xD ∨ code = 0xF then some { z with zstate := 3 } else none)
  else none

/-- The states that Select All takes in, for each action (log entry 52). -/
def zoneAll (za code : Nat) : Bool :=
  match za with
  | 1 => code == 2 || code == 3
  | 2 => code == 2 || code == 3 || code == 4
  | 3 => code == 4
  | 4 => code == 2 || code == 3 || code == 4 || code == 0xE
  | 5 => code == 0xD
  | _ => false

/-- ZONE_MANAGEMENT_SEND (R373, R157). -/
def execZoneManagementSend (p slot : Nat) (s : State) : Host.Outcome State Fault Refusal := s.powered fun s =>
  .next (s.onCmd p slot false [0x79] fun c =>
    let x := s.nsd c.nsidField
    let za := bitsOf (c.cdw 13) 7 0
    let all := bitOf (c.cdw 13) 8
    if s.mode = modeQuiescent then s.complete p slot scNotReady 0
    else if ¬ (1 ≤ c.nsidField ∧ c.nsidField ≤ 128 ∧ x.valid) then s.complete p slot scBadNs 0
    else if ¬ x.zoned then s.complete p slot scOpcode 0
    else if za = 0 ∨ 5 < za then s.complete p slot scField 0
    else if ¬ all ∧ x.size ≤ c.lbaField then s.complete p slot scRange 0
    else
      let code (e : Extent) : Nat := zoneCode (s.zone (zoneKey e.aAct e.aZone)) e.count
      let es := if all then x.extents.filter fun e => zoneAll za (code e)
        else (x.extents[x.zoneOf c.lbaField]?).toList.filter fun e => e.lba == c.lbaField
      if es = [] then s.complete p slot (if all then scOk else scField) 0
      else if za = 4 then
        if es.any fun e => code e == 0xD || code e == 0xF then s.complete p slot scZoneState 0
        else
          let s := s.setCmd p slot (some { c with begun := true })
          es.foldl (fun s e =>
            let zk := zoneKey e.aAct e.aZone
            let s := s.resetZone zk
            { s with stm := { s.stm with zoneResets := s.stm.zoneResets ++ [(zk, p, slot)] } }) s
      else
        let ys := es.map fun e =>
          let zk := zoneKey e.aAct e.aZone
          (zk, zoneAction za (code e) (s.zone zk))
        if ys.any fun y => y.2.isNone then s.complete p slot scZoneState 0
        else
          let s := ys.foldl (fun s y => match y.2 with | some z => s.setZone y.1 z | none => s) s
          s.complete p slot scOk 0)

/-- The 64-byte descriptor of a zone in a report (log entry 52). -/
def zoneDescriptor (e : Extent) (z : Zone) : List Byte :=
  let code := zoneCode z e.count
  let wp := if code = 0xE ∨ code = 0xD ∨ code = 0xF then 2 ^ 64 - 1 else e.lba + z.wp
  [0x02, BitVec.ofNat 8 (code * 16)] ++ List.replicate 6 0 ++ leBytes 8 e.count ++ leBytes 8 e.lba ++ leBytes 8 wp
    ++ List.replicate 32 0

/-- ZONE_MANAGEMENT_RECEIVE (R373): Report Zones; zone descriptor extensions are not supported. -/
def execZoneManagementReceive (p slot : Nat) (s : State) : Host.Outcome State Fault Refusal := s.powered fun s =>
  .next (s.onCmd p slot false [0x7A] fun c =>
    let x := s.nsd c.nsidField
    let len := (c.cdw 12 + 1) * 4
    let sel := bitsOf (c.cdw 13) 15 8
    if s.mode = modeQuiescent then s.complete p slot scNotReady 0
    else if ¬ (1 ≤ c.nsidField ∧ c.nsidField ≤ 128 ∧ x.valid) then s.complete p slot scBadNs 0
    else if ¬ x.zoned then s.complete p slot scOpcode 0
    else if bitsOf (c.cdw 13) 7 0 ≠ 0 ∨ 7 < sel ∨ 2 ^ 21 < len then s.complete p slot scField 0
    else if x.size ≤ c.lbaField then s.complete p slot scRange 0
    else
      let want := [0, 1, 2, 3, 4, 0xE, 0xD, 0xF].getD sel 0
      let es := (x.extents.drop (x.zoneOf c.lbaField)).filter fun e =>
        sel == 0 || zoneCode (s.zone (zoneKey e.aAct e.aZone)) e.count == want
      let fit := es.take (len / 64 - 1)
      let count := if bitOf (c.cdw 13) 16 then fit.length else es.length
      let body := (leBytes 8 count ++ List.replicate 56 0)
        ++ (fit.map fun e => zoneDescriptor e (s.zone (zoneKey e.aAct e.aZone))).flatten
      s.completeData p slot ((body ++ List.replicate (len - body.length) 0).take len))

/-! ## Admission, choice and grant -/

/-- PIECE_ADMISSION (R268). -/
def execPieceAdmission (cls : Nat) (s : State) : Host.Outcome State Fault Refusal := s.powered fun s =>
  .next (if cls < 8 ∧ s.admitOn then s.admitPiece cls else s)

/-- READ_AHEAD_ADMISSION (R269). -/
def execReadAheadAdmission (stream : Nat) (s : State) : Host.Outcome State Fault Refusal := s.powered fun s =>
  .next (if s.stm.opened.contains stream ∧ s.admitOn then s.admitAhead stream else s)

/-- SCHEDULER_EVALUATION (R275): the comb is free at this tick. -/
def execSchedulerEvaluation (a : Nat) (s : State) : Host.Outcome State Fault Refusal := s.powered fun s =>
  let st := s.hdaState (a / 2)
  .next (
    if ¬ (a < s.nAct ∧ s.flag Reg.STM_CTRL_EN 0) ∨ s.actOut a ∨ ¬ (st = hdaTracking ∨ st = hdaSlewing)
        ∨ (s.spnS (a / 2)).omega = 0 then s
    else
      match s.chooseStripe a with
      | (s, none) => s.setAct a { s.act a with stripe := none }
      | (s, some zs) => (s.setAct a { s.act a with stripe := some zs }).withdrawTwins a zs)

/-- GRANT (R25, R273): a sector of the chosen stripe takes its credits, all or none. -/
def execGrant (tag : Nat) (s : State) : Host.Outcome State Fault Refusal := s.powered fun s =>
  .next (match s.sector tag with
    | none => s
    | some x =>
      if ¬ s.flag Reg.STM_CTRL_EN 0 ∨ (s.act x.act).stripe ≠ some (x.zone, x.p / 10) ∨ ¬ s.candidate x then s
      else
        match s.takeCredits with
        | (s, none) => s
        | (s, some soft) =>
          let s := s.grantSector x soft
          match x.twin with
          | some t =>
            match s.sector t with
            | some y => if x.op = 0 ∧ y.st = .queued then
                let s := (s.dropSector t).bump Reg.STM_CNT_TWIN 0 1
                match s.sector tag with | some x => s.setSector { x with twin := none } | none => s
              else s
            | none => s
          | none => s)

/-- WRITE_FENCE_CLEAR (R148): a clear of STM_WFENCE bits is refused while STM cause 0 is set; an accepted one acts at the
next epoch boundary. -/
def execWriteFenceClear (v : Word) (s : State) : Host.Outcome State Fault Refusal := s.powered fun s =>
  .next (
    if bitOf (s.causes srcSTM) 0 then s
    else
      let on := (List.range s.nAct).filter fun a => bitOf v.toNat a && s.wFenced a && !s.stm.wReturn.contains a
      let w := on.foldl (fun w a => setBit w a false) (s.rd Reg.STM_WFENCE 0 0).toNat
      { s with stm := { s.stm with wReturn := s.stm.wReturn ++ on } }.wr Reg.STM_WFENCE 0 0 (word w))

end Sys2Proof.Machine
end

