-- ==== Sys2Proof/Machine/DmvOps.lean ====
section
/-!
DEFINITION. The data mover's channels: rings, checks, chunks, completion and stops (R327 to R336).
-/

namespace Sys2Proof.Machine

def dmvOk : Nat := 0
def dmvLength : Nat := 1
def dmvRegion : Nat := 2
def dmvInvalid : Nat := 3
def dmvBuffer : Nat := 4
def dmvHost : Nat := 5
def dmvAborted : Nat := 6

def State.dch (s : State) (ch : Nat) : DmvCh := mget (fun _ => ({} : DmvCh)) s.dmv.ch ch
def State.setDch (s : State) (ch : Nat) (x : DmvCh) : State :=
  { s with dmv := { s.dmv with ch := mset (fun _ => ({} : DmvCh)) s.dmv.ch ch x } }

/-! ## Descriptors (R328, R329) -/

/-- Fields of a descriptor's words. -/
def dOp (ws : List Word) : Nat := cw ws 0 31 28
def dBar (ws : List Word) : Bool := cw ws 0 27 27 == 1
def dWb (ws : List Word) : Bool := cw ws 0 25 25 == 1
def dPort (ws : List Word) : Nat := cw ws 0 24 24
def dRegion (ws : List Word) : Nat := cw ws 0 23 16
def dLink (ws : List Word) : Nat := cw ws 0 6 6
def dLen (ws : List Word) : Nat := cw ws 1 31 0
def dHost (ws : List Word) : Nat := cw64 ws 2
def dBofs (ws : List Word) : Nat := cw ws 4 31 0 + 2 ^ 32 * cw ws 5 7 0
def dP0 (ws : List Word) : Nat := cw ws 6 15 0
def dP1 (ws : List Word) : Nat := cw ws 6 31 16
def dTag (ws : List Word) : Nat := cw ws 7 31 0

/-- Ring address of descriptor `n` of a channel. -/
def State.dmvEntry (s : State) (ch n : Nat) : Nat :=
  s.pair Reg.DMV_CH_RING_LO Reg.DMV_CH_RING_HI 0 ch + n % 2 ^ s.fldJ Reg.DMV_CH_CFG_RSIZE 0 ch * 32

/-- The ring lies in the Pantry. -/
def State.dmvPantry (s : State) (ch : Nat) : Bool := s.fldJ Reg.DMV_CH_CFG_SPACE 0 ch == 1

/-- The words of descriptor `n`; none where its memory does not deliver them. -/
def State.dmvWords (s : State) (ch n : Nat) : State × Option (List Word) :=
  let a := s.dmvEntry ch n
  let words (bs : List Byte) : List Word := (List.range 8).map fun k => word (leNat ((bs.drop (4 * k)).take 4))
  if s.dmvPantry ch then match s.pantryRead a 32 with | (s, bs) => (s, some (words bs))
  else match s.bufFetch a 32 with
    | (s, some bs) => (s, some (words bs))
    | (s, none) => (s, none)

/-- Words written into a ring entry. -/
def State.dmvPut (s : State) (ch n : Nat) (ws : List Word) : State :=
  let a := s.dmvEntry ch n
  if s.dmvPantry ch then s.pantryWrite a (wordBytes ws) else (s.bufWrite a (wordBytes ws)).1

/-- A pulse's target is valid, and its index lies in the target's range (R334). -/
def State.pulseOk (s : State) (p : Nat) : Bool :=
  let t := p / 4096
  let i := p % 4096
  if t ≤ 2 then i == 0
  else if t ≤ 4 then true
  else if t = 5 then decide (16 ≤ i % 64) && s.hasSeq (i / 64)
  else if t ≤ 7 then decide (i < 2048)
  else false

/-- First check that a descriptor fails; OK when it passes all (R330). -/
def State.dmvCheck (s : State) (ch : Nat) (ws : List Word) : Nat :=
  let op := dOp ws
  let r := dRegion ws
  let mask := (s.rd Reg.DMV_CH_RGN_LO 0 ch).toNat + 2 ^ 32 * (s.rd Reg.DMV_CH_RGN_HI 0 ch).toNat
  let size := (s.rd Reg.DMV_RGN_SIZE_LO 0 r).toNat + 2 ^ 32 * s.fldJ Reg.DMV_RGN_SIZE_HI_SIZE 0 r
  if ¬ (1 ≤ op ∧ op ≤ 4) ∨ ¬ s.pulseOk (dP0 ws) ∨ ¬ s.pulseOk (dP1 ws) ∨ cw ws 0 5 0 ≠ 0 ∨ cw ws 5 31 8 ≠ 0 then dmvInvalid
  else if 63 < r ∨ ¬ mask.testBit r then dmvRegion
  else if size < dBofs ws + dLen ws ∨ (op = 3 ∧ size < dHost ws + dLen ws) then dmvLength
  else dmvOk

/-- First buffer address of a region. -/
def State.dmvBase (s : State) (r : Nat) : Nat := s.pair Reg.DMV_RGN_BASE_LO Reg.DMV_RGN_BASE_HI 0 r

/-! ## Chunks (R331) -/

/-- A chunk of a descriptor from an offset: at most 4 KiB, cut at the 4 KiB boundaries of the host address, or for COPY and
FILL of the buffer address. -/
def State.dmvCut (s : State) (ws : List Word) (off : Nat) : Chunk :=
  let a := if dOp ws ≤ 2 then dHost ws + off else s.dmvBase (dRegion ws) + dBofs ws + off
  { off := off, len := min (dLen ws - off) (4096 - a % 4096) }

/-- Engines at work: read engines write buffer memory, write engines read it; staging in units of 64 KiB (R337). -/
def State.dmvStat (s : State) : State :=
  let runs := s.dmv.ch.flatMap fun e => e.2.runs
  let wr := (runs.filter fun r => dOp r.words == 1).foldl (fun n r => n + r.flight.length) 0
  let rd := (runs.filter fun r => dOp r.words != 1).foldl (fun n r => n + r.flight.length) 0
  let bytes := runs.foldl (fun n r => r.flight.foldl (fun n c => n + c.len) n) 0
  ((s.setFld Reg.DMV_STAT_RBUSY 0 (min 16 rd)).setFld Reg.DMV_STAT_WBUSY 0 (min 16 wr)).setFld Reg.DMV_STAT_STAGING 0
    ((bytes + 65535) / 65536)

/-- Chunks in flight of a channel. -/
def DmvCh.inFlight (x : DmvCh) : Nat := x.runs.foldl (fun n r => n + r.flight.length) 0

/-- The started descriptors of a channel cut one more chunk where one is left, oldest first. -/
def State.dmvCutOne (s : State) : List DmvRun → List DmvRun
  | [] => []
  | r :: rs =>
    if r.cut < dLen r.words then
      let c := s.dmvCut r.words r.cut
      { r with cut := r.cut + c.len, flight := r.flight ++ [c] } :: rs
    else r :: State.dmvCutOne s rs

/-- Engines take chunks of a channel up to its 16 in flight (R331). -/
def State.dmvTake (s : State) (ch : Nat) : Nat → State
  | 0 => s
  | n + 1 =>
    let x := s.dch ch
    if s.flag Reg.DMV_CTRL_EN 0 ∧ s.fldJ Reg.DMV_CH_CFG_EN 0 ch = 1 ∧ ¬ x.ending ∧ x.inFlight < 16 then
      State.dmvTake (s.setDch ch { x with runs := s.dmvCutOne x.runs }) ch n
    else s

/-! ## Completion and stops (R332, R335, R336) -/

/-- The pulses of a descriptor go to their consumers. -/
def State.dmvPulses (s : State) (ws : List Word) (error : Bool) : State :=
  let mk (p : Nat) : Pulse := { target := p / 4096, index := p % 4096, tag := dTag ws, error := error }
  let ps := ([dP0 ws, dP1 ws].filter fun p => p / 4096 != 0).map mk
  { s with dmv := { s.dmv with pulses := s.dmv.pulses ++ ps } }

/-- Word 0 written back with a status (R329). -/
def State.dmvBack (s : State) (ch n status : Nat) (ws : List Word) : State :=
  if dWb ws then s.dmvPut ch n [word (putBits (ws.getD 0 0).toNat 15 7 (status * 2 + 1))] else s

/-- The oldest descriptor completes: its pulses, its word 0, and CI (R332). -/
def State.dmvComplete (s : State) (ch : Nat) : State :=
  let x := s.dch ch
  match x.runs with
  | r :: rest =>
    if r.moved = dLen r.words then
      let s := (s.dmvPulses r.words false).dmvBack ch r.index dmvOk r.words
      (s.setFldJ Reg.DMV_CH_CI_CI 0 ch ((r.index + 1) % 65536)).setDch ch { x with runs := rest }
    else s
  | [] => s

/-- Descriptors that have reached their destination before the one at fault complete first. -/
def State.dmvDrain (s : State) (ch : Nat) : Nat → State
  | 0 => s
  | n + 1 =>
    match (s.dch ch).runs with
    | r :: _ => if r.moved = dLen r.words then State.dmvDrain (s.dmvComplete ch) ch n else s
    | [] => s

/-- The channel stops at a descriptor with a status and the bytes it moved. -/
def State.dmvStop (s : State) (ch index status moved : Nat) : State :=
  let s := s.setFldJ Reg.DMV_CH_STAT_STATUS 0 ch status
  let s := (s.setFldJ Reg.DMV_CH_STAT_STOPPED 0 ch 1).setFldJ Reg.DMV_CH_STAT_INDEX 0 ch index
  let s := s.wr Reg.DMV_CH_MOVED 0 ch (word moved)
  (s.setDch ch { runs := [], next := s.fldJ Reg.DMV_CH_CI_CI 0 ch, ending := false }).dmvStat

/-- The channel's oldest unfinished descriptor fails (R335). -/
def State.dmvFail (s : State) (ch status : Nat) : State :=
  let s := s.dmvDrain ch (s.dch ch).runs.length
  match (s.dch ch).runs with
  | [] => s
  | r :: _ =>
    let s := (s.dmvPulses r.words true).dmvBack ch r.index status r.words
    s.dmvStop ch r.index status r.moved

/-- A disabled channel whose chunks have all finished: its running descriptors end ABORTED (R336). -/
def State.dmvEnding (s : State) (ch : Nat) : State :=
  let x := s.dch ch
  if x.ending ∧ x.inFlight = 0 then
    let s := s.dmvDrain ch x.runs.length
    match (s.dch ch).runs with
    | [] => (s.setDch ch { s.dch ch with ending := false, next := s.fldJ Reg.DMV_CH_CI_CI 0 ch }).dmvStat
    | r :: rest =>
      let s := (r :: rest).foldl (fun s y => (s.dmvPulses y.words true).dmvBack ch y.index dmvAborted y.words) s
      s.dmvStop ch r.index dmvAborted r.moved
  else s

/-! ## Moving a chunk (R331, R332) -/

/-- The port and link whose function carries a descriptor's TLPs (R329). -/
def State.dmvLink (s : State) (ch : Nat) (ws : List Word) : Nat × Nat :=
  let own := s.fldJ Reg.DMV_CH_CFG_OWNER 0 ch
  let p := if own = 1 then 0 else if own = 2 then 1 else dPort ws
  let ctrl := ((s.slotSectors (dTag ws)).filterMap fun x => x.ctrl).head?
  let l := match ctrl with
    | some c => if own = 1 ∨ own = 2 ∨ own = 3 then c % 2 else dLink ws
    | none => dLink ws
  (p, if s.split p then l else 0)

/-- The bytes of one chunk move from source to destination; the second result is the status. -/
def State.dmvMove (s : State) (ch : Nat) (ws : List Word) (c : Chunk) (data : List Byte) (hostError : Bool) : State × Nat :=
  let dst := s.dmvBase (dRegion ws) + dBofs ws + c.off
  let put (s : State) (bs : List Byte) : State × Nat :=
    match s.bufWrite dst bs with
    | (s, true) => (s, dmvOk)
    | (s, false) => (s, dmvBuffer)
  match dOp ws with
  | 1 =>
    match s.bufFetch dst c.len with
    | (s, none) => (s, dmvBuffer)
    | (s, some bs) =>
      if hostError then (s, dmvHost)
      else
        let pl := s.dmvLink ch ws
        let own := s.fldJ Reg.DMV_CH_CFG_OWNER 0 ch
        let go := if own = 1 ∨ own = 2 ∨ own = 3 then s.ctrlOn pl.1 pl.2 else s.linkIsUp pl.1 pl.2
        (if go then s.send (.data pl.1 pl.2 (dHost ws + c.off) bs) else s, dmvOk)
  | 2 => if hostError then (s, dmvHost) else put s ((data ++ List.replicate c.len 0).take c.len)
  | 3 =>
    match s.bufFetch (s.dmvBase (dRegion ws) + dHost ws + c.off) c.len with
    | (s, none) => (s, dmvBuffer)
    | (s, some bs) => put s bs
  | _ =>
    let pat := leBytes 4 (cw ws 2 31 0)
    put s ((List.range c.len).map fun i => pat.getD ((c.off + i) % 4) 0)

/-- The oldest chunk in flight of a channel ends. -/
def State.dmvChunk (s : State) (ch : Nat) (data : List Byte) (hostError : Bool) : State :=
  let x := s.dch ch
  let done := x.runs.takeWhile fun r => r.flight == []
  match x.runs.drop done.length with
  | [] => s
  | r :: rest =>
    match r.flight with
    | [] => s
    | c :: more =>
      match s.dmvMove ch r.words c data hostError with
      | (s, st) =>
        if st ≠ dmvOk then s.dmvFail ch st
        else
          let s := s.setDch ch { x with runs := done ++ { r with flight := more, moved := r.moved + c.len } :: rest }
          ((s.dmvTake ch 16).dmvEnding ch).dmvStat

/-! ## Registers of a channel -/

/-- A write of DMV_CH_CFG: OWNER, RSIZE and SPACE change only while EN is clear and PI equals CI (R337); clearing EN ends
the running descriptors (R336). -/
def State.dmvCfgWrite (s : State) (ch : Nat) (v : Word) : State :=
  if s.regWritable Reg.DMV_CH_CFG 0 ch v then
    let on := s.fldJ Reg.DMV_CH_CFG_EN 0 ch = 1
    let idle := s.fldJ Reg.DMV_CH_PI_PI 0 ch = s.fldJ Reg.DMV_CH_CI_CI 0 ch
    let en := Reg.DMV_CH_CFG_EN.get v
    let s := if ¬ on ∧ idle then s.store Reg.DMV_CH_CFG 0 ch v else s.setFldJ Reg.DMV_CH_CFG_EN 0 ch en
    if on ∧ en = 0 then (s.setDch ch { s.dch ch with ending := true }).dmvEnding ch else s.dmvTake ch 16
  else s

/-- A write of a ring address, taken only while EN is clear and PI equals CI (R337). -/
def State.dmvRingWrite (s : State) (r : Reg) (ch : Nat) (v : Word) : State :=
  if s.fldJ Reg.DMV_CH_CFG_EN 0 ch = 0 ∧ s.fldJ Reg.DMV_CH_PI_PI 0 ch = s.fldJ Reg.DMV_CH_CI_CI 0 ch then s.store r 0 ch v
  else s

/-- The owner of a channel, as the agent that may write its producer index (R327). -/
def State.dmvOwner (s : State) (ch : Nat) (ag : Agent) : Bool :=
  match ag, s.fldJ Reg.DMV_CH_CFG_OWNER 0 ch with
  | .port _, 0 => true
  | .hif 0, 1 => true
  | .hif 1, 2 => true
  | .stm, 3 => true
  | .seq _, 4 => true
  | _, _ => false

/-- A write of a producer index (R328). -/
def State.dmvPi (s : State) (ag : Agent) (ch : Nat) (v : Word) : State :=
  let pi := v.toNat % 65536
  if ¬ (ch < 64 ∧ s.dmvOwner ch ag) then s
  else if 2 ^ s.fldJ Reg.DMV_CH_CFG_RSIZE 0 ch < (pi + 65536 - s.fldJ Reg.DMV_CH_CI_CI 0 ch) % 65536 then s.corrected srcDMV 0
  else s.setFldJ Reg.DMV_CH_PI_PI 0 ch pi

/-- The descriptor of a transfer that a unit has ready: the lowest region of the channel's mask that holds its buffer
addresses, no flags, and the transfer's pulses and TAG. -/
def State.dmvXfer (s : State) (ch : Nat) (x : Xfer) : List Word :=
  let mask := (s.rd Reg.DMV_CH_RGN_LO 0 ch).toNat + 2 ^ 32 * (s.rd Reg.DMV_CH_RGN_HI 0 ch).toNat
  let size (r : Nat) : Nat := (s.rd Reg.DMV_RGN_SIZE_LO 0 r).toNat + 2 ^ 32 * s.fldJ Reg.DMV_RGN_SIZE_HI_SIZE 0 r
  let r := ((List.range 64).find? fun r =>
    mask.testBit r && decide (s.dmvBase r ≤ x.buf) && decide (x.buf + x.len ≤ s.dmvBase r + size r)).getD 0
  let o := x.buf - s.dmvBase r
  [word ((if x.toHost then 1 else 2) * 2 ^ 28 + x.port * 2 ^ 24 + r * 2 ^ 16), word x.len, word x.host, word (x.host / 2 ^ 32),
   word o, word (o / 2 ^ 32 % 256), word (x.p1 * 65536 + x.p0), word x.tag]

/-- The host interface or the stream engine places the descriptors of its oldest transfers and advances the producer
index past them. -/
def State.dmvPlace (s : State) (ch n : Nat) (xs : List Xfer) : State :=
  let pi := s.fldJ Reg.DMV_CH_PI_PI 0 ch
  ((xs.take n).zip (List.range n)).foldl (fun s e => s.dmvPut ch ((pi + e.2) % 65536) (s.dmvXfer ch e.1)) s

/-- A descriptor is checked and starts, or stops the channel (R330, R331, R333). -/
def State.dmvStart (s : State) (ch : Nat) : State :=
  let x := s.dch ch
  if ¬ (ch < 64 ∧ s.flag Reg.DMV_CTRL_EN 0 ∧ s.fldJ Reg.DMV_CH_CFG_EN 0 ch = 1) ∨ s.fldJ Reg.DMV_CH_STAT_STOPPED 0 ch = 1
      ∨ x.ending ∨ x.next = s.fldJ Reg.DMV_CH_PI_PI 0 ch then s
  else
    match s.dmvWords ch x.next with
    | (s, none) => (s.dmvDrain ch x.runs.length).dmvStop ch x.next dmvBuffer 0
    | (s, some ws) =>
      let e := s.dmvCheck ch ws
      if (dBar ws ∨ e ≠ dmvOk) ∧ x.runs ≠ [] then s
      else if e ≠ dmvOk then s.dmvStop ch x.next e 0
      else
        let run : DmvRun := { index := x.next, words := ws }
        let s := s.setDch ch { x with runs := x.runs ++ [run], next := (x.next + 1) % 65536 }
        let own := s.fldJ Reg.DMV_CH_CFG_OWNER 0 ch
        let s := if own = 1 ∨ own = 2 ∨ own = 3 then
            match ((s.slotSectors (dTag ws)).filterMap fun y => y.cmd).head? with
            | some (p, k) =>
              match s.cmd p k with
              | some c => s.setCmd p k (some { c with moving := true })
              | none => s
            | none => s
          else s
        (s.dmvTake ch 16).dmvStat

/-- A stopped channel runs again from CI, or past it (R335). -/
def State.dmvRerun (s : State) (ch : Nat) (skip : Bool) : State :=
  if ch < 64 ∧ s.fldJ Reg.DMV_CH_STAT_STOPPED 0 ch = 1 then
    let ci := (s.fldJ Reg.DMV_CH_CI_CI 0 ch + bit01 skip) % 65536
    let s := (s.setFldJ Reg.DMV_CH_CI_CI 0 ch ci).setFldJ Reg.DMV_CH_STAT_STOPPED 0 ch 0
    s.setDch ch { runs := [], next := ci, ending := false }
  else s

/-! ## Pulses (R334, R335) -/

/-- The oldest pulse that goes to one of the targets leaves the list. -/
def State.takePulse (s : State) (targets : List Nat) (f : State → Pulse → State) : State :=
  match s.dmv.pulses.find? fun p => targets.contains p.target with
  | none => s
  | some p => f { s with dmv := { s.dmv with pulses := s.dmv.pulses.erase p } } p

/-- CREDIT: the buffer credit of a slot comes back; an error pulse means that its sector failed on the way to the host. -/
def State.creditOf (s : State) (p : Pulse) : State :=
  let xs := (s.slotSectors p.tag).filter fun x => x.op == 0 && x.st == .served
  xs.foldl (fun s x =>
    match s.sector x.tag with
    | none => s
    | some x =>
      let s := (s.dropSector x.tag).freeSlot x
      let s := match x.stream with
        | some i =>
          let s := if p.error then (s.streamRing i x.lba 3 1 0).ctxUpd i fun ws => cwPut ws 0 12 12 1
            else s.streamRing i x.lba 0 0 0
          s.streamSettle i
        | none => s
      match x.cmd with
      | none => s
      | some (q, k) =>
        match s.cmd q k with
        | none => s
        | some c =>
          let s := if p.error ∧ c.fail = 0 then s.setCmd q k (some { c with fail := scTransfer }) else s
          s.cmdPoll q k) s

end Sys2Proof.Machine
end

