-- ==== Sys2Proof/Machine/Mover.lean ====
section
/-!
DEFINITION. The data mover's commands (R328 to R336) and the pulses that its consumers act on (R334).
-/

namespace Sys2Proof.Machine

/-- PI_WRITE (R328): ignored from any agent but the owner; the host interface and the stream engine advance the index by
the descriptors of transfers that they have ready. -/
def execPiWrite (ag : Agent) (ch : Nat) (v : Word) (s : State) : Host.Outcome State Fault Refusal := s.powered fun s =>
  let pi := s.fldJ Reg.DMV_CH_PI_PI 0 ch
  let n := (v.toNat % 65536 + 65536 - pi) % 65536
  .next (match ag with
    | .hif p =>
      let xs := mget (fun _ => ([] : List Xfer)) s.hif.ready p
      if ch < 64 ∧ s.dmvOwner ch ag ∧ n ≤ xs.length then
        let t := s.dmvPi ag ch v
        if t.fldJ Reg.DMV_CH_PI_PI 0 ch = pi then t
        else
          let t := (s.dmvPlace ch n xs).dmvPi ag ch v
          { t with hif := { t.hif with ready := mset (fun _ => []) t.hif.ready p (xs.drop n) } }
      else s
    | .stm =>
      let xs := s.stm.ready
      if ch < 64 ∧ s.dmvOwner ch ag ∧ n ≤ xs.length then
        let t := s.dmvPi ag ch v
        if t.fldJ Reg.DMV_CH_PI_PI 0 ch = pi then t
        else
          let t := (s.dmvPlace ch n xs).dmvPi ag ch v
          { t with stm := { t.stm with ready := xs.drop n } }
      else s
    | _ => s.dmvPi ag ch v)

/-- DESCRIPTOR_START (R330, R331). -/
def execDescriptorStart (ch : Nat) (s : State) : Host.Outcome State Fault Refusal := s.powered fun s => .next (s.dmvStart ch)

/-- CHUNK_END (R331): the channel's oldest chunk in flight ends. -/
def execChunkEnd (ch : Nat) (c : ChunkIn) (s : State) : Host.Outcome State Fault Refusal := s.powered fun s =>
  .next (s.dmvChunk ch c.data c.hostError)

/-- DESCRIPTOR_COMPLETE (R332). -/
def execDescriptorComplete (ch : Nat) (s : State) : Host.Outcome State Fault Refusal := s.powered fun s =>
  .next (if (s.dch ch).ending then s else (s.dmvComplete ch).dmvTake ch 16)

/-- CHANNEL_RESUME (R335). -/
def execChannelResume (ch : Nat) (v : Word) (s : State) : Host.Outcome State Fault Refusal := s.powered fun s =>
  .next (if Reg.DMV_CH_CTRL_RESUME.get v = 1 then s.dmvRerun ch (Reg.DMV_CH_CTRL_SKIP.get v = 1) else s)

/-- CHANNEL_SKIP (R335). -/
def execChannelSkip (ch : Nat) (v : Word) (s : State) : Host.Outcome State Fault Refusal := s.powered fun s =>
  .next (if Reg.DMV_CH_CTRL_SKIP.get v = 1 then s.dmvRerun ch true else s)

/-- CHANNEL_DISABLE (R336). -/
def execChannelDisable (ch : Nat) (v : Word) (s : State) : Host.Outcome State Fault Refusal := s.powered fun s =>
  .next (if ch < 64 ∧ Reg.DMV_CH_CFG_EN.get v = 0 then s.dmvCfgWrite ch v else s)

/-- COMPLETION_TIMEOUT (R335): of a read of host memory by the channel's oldest chunk in flight. -/
def execCompletionTimeout (ch : Nat) (s : State) : Host.Outcome State Fault Refusal := s.powered fun s =>
  .next (match (s.dch ch).runs.find? fun r => r.flight != [] with
    | some r => if dOp r.words = 2 then s.dmvChunk ch [] true else s
    | none => s)

/-- CREDIT_PULSE (R334). -/
def execCreditPulse (s : State) : Host.Outcome State Fault Refusal := s.powered fun s =>
  .next (s.takePulse [1] fun s p => s.creditOf p)

/-- ARRIVED_PULSE (R334, R335). -/
def execArrivedPulse (s : State) : Host.Outcome State Fault Refusal := s.powered fun s =>
  .next (s.takePulse [2] fun s p => if p.error then s.slotLost p.tag scTransfer else s.slotArrived p.tag)

/-- HIF_PULSE (R334, R335): the completion of the command in the slot, with Data Transfer Error for an error pulse. -/
def execHifPulse (s : State) : Host.Outcome State Fault Refusal := s.powered fun s =>
  .next (s.takePulse [3, 4] fun s p =>
    match s.cmd (p.target - 3) p.index with
    | some c => s.complete (p.target - 3) p.index (if c.fail = 0 ∧ p.error then scTransfer else c.fail) c.result
    | none => s)

/-- SEQ_PULSE (R334). -/
def execSeqPulse (s : State) : Host.Outcome State Fault Refusal := s.powered fun s =>
  .next (s.takePulse [5] fun s p => s.seqEvent (p.index / 64) (p.index % 64))

/-- MSIX_PULSE (R334, R384): on a split port bit 10 selects link 1. -/
def execMsixPulse (s : State) : Host.Outcome State Fault Refusal := s.powered fun s =>
  .next (s.takePulse [6, 7] fun s p =>
    let port := p.target - 6
    if s.split port then s.msix port (p.index / 1024 % 2) (p.index % 1024) else s.msix port 0 p.index)

end Sys2Proof.Machine
end

