-- ==== Sys2Proof/Machine/SeqFlow.lean ====
section
/-!
DEFINITION. The flow and system words of a sequencer, its events, timers and watchdog (R389, R390, R392, R395, R400,
R403 to R409).
-/

namespace Sys2Proof.Machine

/-- The sequencer goes on at an address that was computed at run time; one beyond its store is a fault (R392, R409). -/
def State.goChecked (s : State) (q a : Nat) : State := if a < storeWords q then s.goTo q a else s.seqFault q 1

/-- TRAP (R395, R409). -/
def execTrap (q : Nat) (s : State) : Out := s.powered fun s => .next (if s.canIssue q 0x00 then (s.issue q).seqFault q 0 else s)

/-- NOP (R395). -/
def execNop (q : Nat) (s : State) : Out := s.powered fun s => .next (s.plainWord q 0x01 fun s _ => s)

/-- CALL (R395): a ninth push is a fault. -/
def execCall (q : Nat) (s : State) : Out := s.powered fun s =>
  .next (
    if s.canIssue q 0x02 ∧ 8 ≤ (s.sq q).stack.length then (s.issue q).seqFault q 2
    else s.plainWord q 0x02 fun s w => s.setSq q { s.sq q with stack := w.fAddr :: (s.sq q).stack })

/-- RET (R395): with its condition true it pops, and an empty stack is a fault. -/
def execRet (q : Nat) (s : State) : Out := s.powered fun s =>
  .next (
    if s.canIssue q 0x03 then
      let w := s.mw q
      let t := s.wordCond q w
      let s := s.issue q
      if t then
        match (s.sq q).stack with
        | a :: r => (s.setSq q { s.sq q with stack := r }).goChecked q a
        | [] => s.seqFault q 2
      else s.goTo q w.nextA
    else s)

/-- JIND (R395): with its condition false it goes to g[A] + IMM. -/
def execJind (q : Nat) (s : State) : Out := s.powered fun s =>
  .next (
    if s.canIssue q 0x04 then
      let w := s.mw q
      let s := s.issue q
      if s.wordCond q w then s.goTo q w.altA
      else s.goChecked q (((s.gr q w.fA).toNat % 2 ^ 15 + w.fImm % 2 ^ 15) % 2 ^ 15)
    else s)

/-- The sequencer waits at a WAIT word. -/
def State.waits (s : State) (q : Nat) : Bool := s.hasSeq q && s.seqState q == seqWaiting && (s.mw q).op == 0x05

/-- WAIT (R13, R395): one cycle of it; the condition wins over the count. -/
def execWait (q : Nat) (s : State) : Out := s.powered fun s =>
  .next (
    if s.canIssue q 0x05 ∨ s.waits q then
      let w := s.mw q
      let s := if s.seqState q = seqRunning then s.issue q else s
      let k := (s.sq q).waited + 1
      if s.wordCond q w then (s.setFld Reg.SEQ_STAT_STATE q seqRunning).goTo q w.altA
      else if w.fImm ≠ 0 ∧ w.fImm ≤ k then (s.setFld Reg.SEQ_STAT_STATE q seqRunning).goTo q w.nextA
      else (s.setFld Reg.SEQ_STAT_STATE q seqWaiting).setSq q { s.sq q with waited := k }
    else s)

/-- SLEEP (R395, R405): the sequencer stops at the word. -/
def execSleep (q : Nat) (s : State) : Out := s.powered fun s =>
  .next (if s.canIssue q 0x06 then (s.issue q).setFld Reg.SEQ_STAT_STATE q seqSleeping else s)

/-- The event controller dispatches what stands first at a boundary; a vector beyond the store is a fault (R392, R404). -/
def State.dispatchNow (s : State) (q : Nat) : State :=
  match s.dispatchOf q with
  | none => s
  | some (i, fast) =>
    let s := s.dispatch q i fast
    if (s.sq q).pc < storeWords q then s else s.seqFault q 1

/-- SEQ_WAKE (R405): an enabled pending source wakes the sequencer, masked or not; it dispatches, or goes on at NEXT. -/
def execSeqWake (q : Nat) (s : State) : Out := s.powered fun s =>
  .next (
    if s.hasSeq q ∧ s.seqState q = seqSleeping ∧ s.pendEnabled q ≠ 0 then
      let s := s.setFld Reg.SEQ_STAT_STATE q seqRunning
      if (s.dispatchOf q).isSome then s.dispatchNow q else s.goTo q (s.mw q).nextA
    else s)

/-- EVENT_DISPATCH (R404, R396): at a boundary of a sequencer that runs or waits, and not while a word stalls. -/
def execEventDispatch (q : Nat) (s : State) : Out := s.powered fun s =>
  .next (
    if s.hasSeq q ∧ ((s.seqState q = seqRunning ∧ ¬ s.stalled q) ∨ s.seqState q = seqWaiting) then s.dispatchNow q else s)

/-- The sequencer is Halted: FORCE reads zero (R395, R416). -/
def State.halted (s : State) (q : Nat) : State := (s.setFld Reg.SEQ_STAT_STATE q seqHalted).setFld Reg.SEQ_CTRL_FORCE q 0

/-- HALT (R395). -/
def execHalt (q : Nat) (s : State) : Out := s.powered fun s => .next (if s.canIssue q 0x07 then (s.issue q).halted q else s)

/-- EVRET (R404): address, flags and bank restored; with no handler active it is a fault. -/
def execEvret (q : Nat) (s : State) : Out := s.powered fun s =>
  .next (
    if s.canIssue q 0x08 then
      let s := s.issue q
      let x := s.sq q
      if s.inFast q then
        ((s.setFld Reg.SEQ_STAT_IN_FAST q 0).setSq q { x with flags := x.eflF }).goChecked q (x.epcF.toNat % 2 ^ 15)
      else if s.flag Reg.SEQ_STAT_IN_NORMAL q then
        ((s.setFld Reg.SEQ_STAT_IN_NORMAL q 0).setSq q { x with flags := x.eflN }).goChecked q (x.epcN.toNat % 2 ^ 15)
      else s.seqFault q 3
    else s)

/-- MFS (R390). -/
def execMfs (q : Nat) (s : State) : Out := s.powered fun s =>
  .next (s.plainWord q 0x09 fun s w =>
    let (s, v) := s.srRead q w.fSr
    s.setGr q w.fA v)

/-- MTS (R390). -/
def execMts (q : Nat) (s : State) : Out := s.powered fun s => .next (s.plainWord q 0x0A fun s w => s.srWrite q w.fSr (s.gr q w.fA))

/-- MTSI (R390). -/
def execMtsi (q : Nat) (s : State) : Out := s.powered fun s => .next (s.plainWord q 0x0B fun s w => s.srWrite q w.fSr (word w.fImm))

/-- SIGNAL (R395): a soft source in the target. -/
def execSignal (q : Nat) (s : State) : Out := s.powered fun s =>
  .next (s.plainWord q 0x0C fun s w =>
    let t := bitsOf w.fImm 13 8
    if s.hasSeq t then (s.seqEvent t (48 + w.fImm % 16)).setRF q false else s.setRF q true)

/-- Records in an inbound queue (R388). -/
def State.seqQueue (s : State) (q k : Nat) : List (List Word) := mget (fun _ => ([] : List (List Word))) (s.sq q).queues k

def State.setSeqQueue (s : State) (q k : Nat) (rs : List (List Word)) : State :=
  s.setSq q { s.sq q with queues := mset (fun _ => ([] : List (List Word))) (s.sq q).queues k rs }

/-- SEND (R395, R400): a record of kind 0xA that carries the sender's number. -/
def execSend (q : Nat) (s : State) : Out := s.powered fun s =>
  .next (s.plainWord q 0x0D fun s w =>
    let t := bitsOf w.fImm 13 8
    let k := w.fImm % 4
    if s.hasSeq t ∧ (s.seqQueue t k).length < 64 then
      let r := s.grs q w.fA 16
      let w0 := word (0xA * 2 ^ 28 + q * 2 ^ 22 + (r.headD 0).toNat % 2 ^ 22)
      (s.setSeqQueue t k (s.seqQueue t k ++ [w0 :: r.tail])).setRF q false
    else s.setRF q true)

/-- POP (R395): the oldest record of a queue; an empty queue gives zeros and sets RF. -/
def execPop (q : Nat) (s : State) : Out := s.powered fun s =>
  .next (s.plainWord q 0x2E fun s w =>
    let k := w.mOfs % 4
    match s.seqQueue q k with
    | r :: rs => ((s.setSeqQueue q k rs).setGrs q w.mD r).setRF q false
    | [] => (s.setGrs q w.mD (List.replicate 16 0)).setRF q true)

/-- SEQUENCER_RECORD (R400): the oldest record on its way enters its queue, when that has room. -/
def execSequencerRecord (q : Nat) (s : State) : Out := s.powered fun s =>
  .next (
    match (s.sq q).inbound with
    | (k, r) :: rest =>
      if (s.seqQueue q k).length < 64 then
        (s.setSq q { s.sq q with inbound := rest }).setSeqQueue q k (s.seqQueue q k ++ [r])
      else s
    | [] => s)

/-- The sequencer's code is active: its watchdog and timers count. -/
def State.seqActive (s : State) (q : Nat) : Bool :=
  s.hasSeq q && (s.seqState q == seqRunning || s.seqState q == seqWaiting || s.seqState q == seqSleeping)

/-- WATCHDOG_EXPIRY (R408): source 0 the first time, a fault the second. -/
def execWatchdogExpiry (q : Nat) (s : State) : Out := s.powered fun s =>
  .next (
    if s.seqActive q ∧ s.rd Reg.SEQ_WDOG q 0 ≠ 0 then
      if (s.sq q).wdogOnce then (s.setSq q { s.sq q with wdogOnce := false }).seqFault q 4
      else (s.setSq q { s.sq q with wdogOnce := true }).seqEvent q 0
    else s)

/-- SEQ_TIMER_EXPIRY (R390): the count reaches zero and stops, and its source becomes pending. -/
def execSeqTimerExpiry (q t : Nat) (s : State) : Out := s.powered fun s =>
  .next (
    let v := mget (fun _ => (0 : Word)) (s.sq q).tmr t
    if s.hasSeq q ∧ t < 2 ∧ v.toNat % 2 ^ 31 ≠ 0 then
      let v' := word (v.toNat / 2 ^ 31 * 2 ^ 31)
      (s.setSq q { s.sq q with tmr := mset (fun _ => (0 : Word)) (s.sq q).tmr t v' }).seqEvent q (2 + t)
    else s)

/-! ## Memory words (R396) -/

/-- LD (R396): an aligned load is outstanding until its data arrives; a misaligned one is an access error. -/
def execLd (q : Nat) (s : State) : Out := s.powered fun s =>
  .next (s.plainWord q 0x28 fun s w =>
    let a := s.memAddr q w
    let n := sizeBytes w.mSize
    if a % n ≠ 0 then s.accessError q w.mD (n / 4)
    else
      let l : SeqLoad := { dst := w.mD, fast := s.inFast q, cnt := n / 4, pantry := w.mSpace == 1, addr := a, once := w.mOnce }
      s.setSq q { s.sq q with loads := (s.sq q).loads ++ [l] })

/-- The registers of a load, in the bank of the code that issued it. -/
def State.putLoad (s : State) (q : Nat) (l : SeqLoad) (ws : List Word) : State :=
  ((List.range l.cnt).zip ws).foldl (fun s e => if l.dst + e.1 < 64 then s.setGrOf q l.fast (l.dst + e.1) e.2 else s) s

/-- The words of little-endian bytes. -/
def bytesWords (n : Nat) (bs : List Byte) : List Word := (List.range n).map fun k => word (leNat ((bs.drop (4 * k)).take 4))

/-- LOAD_DATA_ARRIVAL (R396): the oldest load returns, or ends as an access error. -/
def execLoadDataArrival (q : Nat) (s : State) : Out := s.powered fun s =>
  .next (
    match (s.sq q).loads with
    | [] => s
    | l :: rest =>
      let s := s.setSq q { s.sq q with loads := rest }
      let (s, r) : State × Option (List Byte) :=
        if l.pantry then
          let (s, bs) := s.pantryRead l.addr (4 * l.cnt)
          (s, some bs)
        else s.cRead l.addr (4 * l.cnt) l.once
      (match r with
       | some bs => s.putLoad q l (bytesWords l.cnt bs)
       | none => ((s.putLoad q l (List.replicate l.cnt 0xFFFFFFFF)).setFl q flMERR true).seqEvent q 1).gateSettle)

/-- ST (R396): an aligned store; a misaligned one, or one that the buffer does not take, is an access error. -/
def execSt (q : Nat) (s : State) : Out := s.powered fun s =>
  .next (s.plainWord q 0x29 fun s w =>
    let a := s.memAddr q w
    let n := sizeBytes w.mSize
    let bs := wordBytes (s.grs q w.mD (n / 4))
    if a % n ≠ 0 then s.accessError q 0 0
    else if w.mSpace = 1 then s.pantryWrite a bs
    else
      match s.cWrite a bs w.mOnce with
      | (s, true) => s
      | (s, false) => s.accessError q 0 0)

/-! ## Control by the host (R403, R406, R414, R415) -/

/-- A Halted sequencer starts at ENTRY with its registers zero (R389, R409, R412, R415). -/
def State.seqStart (s : State) (q : Nat) : State :=
  if s.seqState q = seqHalted then
    let x := s.sq q
    let s := s.setSq q { x with
      g := [], shadow := [], stack := [], flags := 0, pc := x.entry, waited := 0, loads := [], cmo := false, wdogOnce := false
      lparLo := s.rd Reg.SEQ_LPAR_LO q 0, lparHi := s.rd Reg.SEQ_LPAR_HI q 0 }
    let s := (s.setFld Reg.SEQ_STAT_IN_FAST q 0).setFld Reg.SEQ_STAT_IN_NORMAL q 0
    let s := (s.setFld Reg.SEQ_CTRL_RELOAD q 0).setFld Reg.SEQ_STAT_STATE q seqRunning
    if s.fenced (srcSEQ q) then
      let s := (s.setFld (Reg.FLT_FENCE_FENCE.flt (srcSEQ q)) 0 0).setFld (Reg.FLT_FENCE_BYFAULT.flt (srcSEQ q)) 0 0
      ({ s with glb := { s.glb with rejoin := s.glb.rejoin ++ [srcSEQ q] } }).fenceEvent (srcSEQ q)
    else s
  else s

/-- The write of SEQ_CTRL: RELOAD, FORCE and RUN (R414, R415). -/
def State.seqCtrlWrite (s : State) (q : Nat) (v : Word) : State :=
  let s := if Reg.SEQ_CTRL_RELOAD.get v = 1 then (s.setFld Reg.SEQ_CTRL_RELOAD q 1).seqEvent q 12 else s
  let s := if Reg.SEQ_CTRL_FORCE.get v = 1 ∧ s.seqActive q then (s.seqStopWork q seqHalted).halted q else s
  if Reg.SEQ_CTRL_RUN.get v = 1 then s.seqStart q else s

/-- SEQ_RUN (R415). -/
def execSeqRun (q : Nat) (v : Word) (s : State) : Out := s.powered fun s =>
  .next (if s.hasSeq q ∧ Reg.SEQ_CTRL_RUN.get v = 1 then s.seqCtrlWrite q v else s)

/-- SEQ_RELOAD (R414). -/
def execSeqReload (q : Nat) (v : Word) (s : State) : Out := s.powered fun s =>
  .next (if s.hasSeq q ∧ Reg.SEQ_CTRL_RELOAD.get v = 1 then s.seqCtrlWrite q v else s)

/-- SEQ_FORCE (R414). -/
def execSeqForce (q : Nat) (v : Word) (s : State) : Out := s.powered fun s =>
  .next (if s.hasSeq q ∧ Reg.SEQ_CTRL_FORCE.get v = 1 then s.seqCtrlWrite q v else s)

/-- SEQ_SOFT (R403, R416). -/
def execSeqSoft (q : Nat) (v : Word) (s : State) : Out := s.powered fun s =>
  .next (if s.hasSeq q then (setBitsList v.toNat 16).foldl (fun s k => s.seqEvent q (48 + k)) s else s)

/-- SEQ_MBOX (R390, R403). -/
def execSeqMbox (q : Nat) (v : Word) (s : State) : Out := s.powered fun s =>
  .next (if s.hasSeq q then (s.wr Reg.SEQ_MBOX q 0 v).seqEvent q 14 else s)

/-- EVC_PEND_WRITE (R406). -/
def execEvcPendWrite (q half : Nat) (v : Word) (s : State) : Out := s.powered fun s =>
  .next (if s.hasSeq q ∧ half < 2 then s.pendWrite q half v else s)

/-- EVC_PEND_READ (R406). -/
def execEvcPendRead (q half : Nat) (s : State) : Out := s.powered fun s =>
  .next (if s.hasSeq q ∧ half < 2 then (s.pendRead q half).1 else s)

end Sys2Proof.Machine
end

