-- ==== Sys2Proof/Machine/ImageOps.lean ====
section
/-!
DEFINITION. Microcode images: their layout, the checks of a load and what it writes (R391 to R395, R410, R411), and the
commands of the loader (R416).
-/

namespace Sys2Proof.Machine

/-! ## What the loader admits in a word (R391 to R395, R411) -/

/-- The opcodes of R395; stewards alone have 0x2C, format sequencers alone the device requests. -/
def opAllowed (steward : Bool) (op : Nat) : Bool :=
  decide (op ≤ 0x0D) || (decide (0x10 ≤ op) && decide (op ≤ 0x20)) || (decide (0x28 ≤ op) && decide (op ≤ 0x2E) && (op != 0x2C || steward))
    || (decide (0x40 ≤ op) && decide (op ≤ 0x4C) && !steward)

/-- The special registers of R390. -/
def srDefined (n : Nat) : Bool := decide (n ≤ 0x1D) || (decide (0x20 ≤ n) && decide (n ≤ 0x29))

/-- Low bits of form D that an opcode leaves unused (R394, R398). -/
def dUnused (op : Nat) : Nat :=
  if op = 0x40 then 44 else if op = 0x41 then 35 else if op = 0x45 then 38 else if op = 0x46 ∨ op = 0x49 then 47
  else if op = 0x47 then 53 else if op = 0x48 then 43 else if op = 0x4C then 51 else 55

/-- Bits that the form of the word does not use are zero (R394). -/
def Mw.unusedZero (w : Mw) : Bool :=
  let op := w.op
  if op ≤ 0x0D then w.toNat % 2 ^ 24 == 0
  else if op ≤ 0x20 then w.toNat % 2 ^ 32 == 0
  else if op ≤ 0x2E then w.toNat % 2 ^ 40 == 0
  else w.toNat % 2 ^ dUnused op == 0

/-- Register groups start at a multiple of their size (R394). -/
def Mw.aligned (w : Mw) : Bool :=
  let op := w.op
  if op = 0x0D then w.fA % 16 == 0
  else if op = 0x28 ∨ op = 0x29 then w.mSize != 3 && w.mD % (sizeBytes w.mSize / 4) == 0
  else if op = 0x2C then w.mD % 2 == 0
  else if op = 0x2E then w.mD % 16 == 0
  else if op = 0x40 ∨ op = 0x46 ∨ op = 0x48 then w.dA % 2 == 0
  else if op = 0x42 ∨ op = 0x44 then w.dA % 16 == 0
  else if op = 0x49 then w.dA % 4 == 0
  else true

/-- The special register, immediate and address operands of the word are allowed (R390, R395, R411). -/
def Mw.operandsOk (w : Mw) (size : Nat) : Bool :=
  let op := w.op
  (if op = 0x09 ∨ op = 0x0A ∨ op = 0x0B then srDefined w.fSr else true)
    && (if op = 0x02 then decide (w.fAddr < size) else true)
    && (if op = 0x1E ∨ op = 0x1F ∨ op = 0x20 then w.aI == 1 else true)
    && (if op = 0x1E ∨ op = 0x1F then decide (1 ≤ bitsOf w.aImm 13 8) && decide (bitsOf w.aImm 13 8 ≤ 32) else true)

/-- The loader admits the word in a store of a kind. -/
def Mw.ok (w : Mw) (steward : Bool) : Bool :=
  let size := if steward then 32768 else 8192
  opAllowed steward w.op && !(decide (24 ≤ w.cond) && decide (w.cond ≤ 31)) && decide (w.nextA < size) && decide (w.altA < size)
    && w.unusedZero && w.aligned && w.operandsOk size

/-! ## Images (R410) -/

def imgNat (bs : List Byte) (i n : Nat) : Nat := leNat ((bs.drop i).take n)

/-- Word `i` of an image. -/
def imgWord (bs : List Byte) (i : Nat) : Mw := BitVec.ofNat 128 (imgNat bs (272 + 16 * i) 16)

def imgWords (bs : List Byte) : Nat := imgNat bs 8 4
def imgSteward (bs : List Byte) : Bool := imgNat bs 6 1 == 1

/-- MAGIC, FORMAT, reserved bytes and WORDS (R411, check 1). -/
def imgHeader (bs : List Byte) : Bool :=
  let k := imgNat bs 6 1
  imgNat bs 0 4 == 0x47594150 && imgNat bs 4 2 == 1 && decide (k ≤ 1) && imgNat bs 7 1 == 0 && imgNat bs 14 2 == 0
    && imgNat bs 261 11 == 0 && decide (1 ≤ imgWords bs) && decide (imgWords bs ≤ if k = 1 then 32768 else 8192)

/-- The key of an image or slot is accepted in the present state of the life cycle (R411, R442). -/
def State.keyOk (s : State) (key : List Byte) : Bool :=
  let st := s.fld Reg.FUS_LC_STATE 0
  let h := Config.sha384 key
  (decide (st ≤ 3) && h == Config.streltanHash) || ((st == 1 || st == 2) && h == s.fus.ownerHash)

/-- The signature of the bytes before `n` by the key stands at `n` (R410, R440). -/
def sigOk (bs : List Byte) (n : Nat) (key : List Byte) : Bool :=
  Config.ecdsaP384 key (Config.sha384 (bs.take n)) ((bs.drop n).take 96)

/-- The first word that the loader refuses; ENTRY and VEC count as word 0 (log entry 63). -/
def imgBadWord (bs : List Byte) : Option Nat :=
  let size := if imgSteward bs then 32768 else 8192
  let vec := (List.range 64).all fun i => decide (imgNat bs (36 + 2 * i) 2 < size)
  if !(decide (imgNat bs 12 2 < size) && vec) then some 0
  else (List.range (imgWords bs)).find? fun i => !(imgWord bs i).ok (imgSteward bs)

/-- The result of the checks of R411 on an image for targets, and the word index of a BADWORD. -/
def State.imageResult (s : State) (bs : List Byte) (targets : List Nat) : Nat × Nat :=
  let key := (bs.drop 164).take 97
  if !imgHeader bs then (2, 0)
  else if !targets.all (fun q => decide (32 ≤ q) == imgSteward bs) then (3, 0)
  else if !s.keyOk key then (4, 0)
  else if !sigOk bs (272 + 16 * imgWords bs) key then (5, 0)
  else
    match imgBadWord bs with
    | some i => (6, i)
    | none =>
      if targets.all fun q => s.seqState q == seqEmpty || s.seqState q == seqHalted || s.seqState q == seqFenced then (1, 0)
      else (7, 0)

/-- A checked image enters a control store; the target is Halted (R411). -/
def State.putImage (s : State) (bs : List Byte) (q : Nat) : State :=
  let ws := (List.range (imgWords bs)).map fun i => (i, imgWord bs i)
  let s := s.setSq q { s.sq q with
    store := ws.filter fun e => e.2 != 0
    entry := imgNat bs 12 2, loaded := true, sinceLo := 0, sinceHi := 0, loads := [], cmo := false }
  let s := s.wr Reg.SEQ_IMGVER q 0 (word (imgNat bs 16 4))
  let s := (s.wr Reg.SEQ_EVC_CLASS q 0 (word (imgNat bs 20 4))).wr Reg.SEQ_EVC_CLASS q 1 (word (imgNat bs 24 4))
  let s := (s.wr Reg.SEQ_EVC_EN q 0 (word (imgNat bs 28 4))).wr Reg.SEQ_EVC_EN q 1 (word (imgNat bs 32 4))
  let s := (s.wr Reg.SEQ_EVC_PEND q 0 0).wr Reg.SEQ_EVC_PEND q 1 0
  let s := (List.range 64).foldl (fun s i => s.setFldJ Reg.SEQ_EVC_VEC_ADDR q i (imgNat bs (36 + 2 * i) 2)) s
  s.setFld Reg.SEQ_STAT_STATE q seqHalted

/-- A load of an image for targets: the result, and with `write` the stores written. A target whose load fails has a last
load that did not end done (R411, R438). -/
def State.loadImage (s : State) (bs : List Byte) (targets : List Nat) (write : Bool) : State × Nat × Nat :=
  let r := s.imageResult bs targets
  if !write then (s, r)
  else if r.1 = 1 then (targets.foldl (fun s q => s.putImage bs q) s, r)
  else (targets.foldl (fun s q => s.setSq q { s.sq q with loaded := false }) s, r)

/-- An image in buffer memory at an address; with a header that the buffer does not deliver, nothing (log entry 23). -/
def State.imageAt (s : State) (addr : Nat) : List Byte :=
  match s.bufRead addr 272 with
  | none => []
  | some h =>
    if !imgHeader h then h
    else (s.bufRead addr (272 + 16 * imgWords h + 96)).getD []

/-- The write of SEQ_LD_CTRL (R411, R416). -/
def State.loaderWrite (s : State) (v : Word) : State :=
  let s := s.store Reg.LDR_CTRL 0 0 v
  if Reg.LDR_CTRL_GO.get v = 0 then s
  else
    let m := s.pair Reg.LDR_MASK_LO Reg.LDR_MASK_HI 0 0
    let targets := (setBitsList m 40).filter s.hasSeq
    let bs := s.imageAt (s.pair Reg.LDR_ADDR_LO Reg.LDR_ADDR_HI 0 0)
    let (s, r) := s.loadImage bs targets (s.flag Reg.LDR_CTRL_MODE 0)
    let s := if r.1 = 6 then s.setFld Reg.LDR_ERR_INDEX 0 r.2 else s
    s.setFld Reg.LDR_CTRL_RESULT 0 r.1

/-- IMAGE_CHECK (R411): GO with MODE 0. -/
def execImageCheck (v : Word) (s : State) : Out := s.powered fun s =>
  .next (if Reg.LDR_CTRL_GO.get v = 1 ∧ Reg.LDR_CTRL_MODE.get v = 0 then s.loaderWrite v else s)

/-- IMAGE_LOAD (R411): GO with MODE 1. -/
def execImageLoad (v : Word) (s : State) : Out := s.powered fun s =>
  .next (if Reg.LDR_CTRL_GO.get v = 1 ∧ Reg.LDR_CTRL_MODE.get v = 1 then s.loaderWrite v else s)

end Sys2Proof.Machine
end

