-- ==== Sys2Proof/Machine/Clocks.lean ====
section
/-!
DEFINITION. Reference supervision, resets, the wipe and the modes (R417 to R438, R528, R530, R531).
-/

namespace Sys2Proof.Machine

/-! ## The reference and its PLLs (R417 to R424) -/

/-- A source of REF is good (R419). -/
def State.refGood (s : State) (src : Nat) : Bool := bitOf (s.fld Reg.CLK_REF_STAT_GOOD 0) src

/-- The PLLs that REF feeds: CORE, SRV, MEM, PF0 and PF1 (R32, R448). -/
def refPlls : Nat := 0x1F

/-- The PLL exists on the variant (R2). -/
def State.hasPll (s : State) (i : Nat) : Bool := decide (i < 7) && (s.jd16 || i != 4)

/-- The multiplexer selects a source; the PLLs lock to it under R418. -/
def State.refTo (s : State) (src : Nat) : State := s.setFld Reg.CLK_REF_STAT_ACTIVE 0 src

/-- The PLLs fed from REF enter holdover, with its Attic record (R420, R493). -/
def State.holdover (s : State) : State :=
  if s.flag Reg.CLK_REF_STAT_HOLD 0 then s
  else
    let s := s.atticEvent 6 [s.rd Reg.CLK_REF_STAT 0 0, s.rd Reg.CLK_PLL_STAT 0 0, s.rd Reg.CLK_HOLD_MS 0 0]
    let l := s.fld Reg.CLK_PLL_STAT_LOCKED 0
    let s := (s.setFld Reg.CLK_REF_STAT_HOLD 0 1).setFld Reg.CLK_PLL_STAT_LOCKED 0 (l - (l &&& refPlls))
    { s with clk := { s.clk with holdTicks := 0, acted := false } }.wr Reg.CLK_HOLD_MS 0 0 0

/-- The holdover action, once in a holdover: the cause "reference lost" (R422). -/
def State.holdAct (s : State) : State :=
  if s.flag Reg.CLK_REF_STAT_HOLD 0 ∧ ¬ s.clk.acted then
    { s with clk := { s.clk with acted := true } }.raise srcCLK 0 0 false
  else s

/-- The write of CLK_REF_CTRL: a selection of a source that is not good is refused (R417, R448). -/
def State.refCtrlWrite (s : State) (v : Word) : State :=
  let s := s.setFld Reg.CLK_REF_CTRL_AUTOSW 0 (Reg.CLK_REF_CTRL_AUTOSW.get v)
  let src := Reg.CLK_REF_CTRL_SEL.get v
  if src < 3 ∧ s.refGood src then (s.setFld Reg.CLK_REF_CTRL_SEL 0 src).refTo src
  else s.setFld Reg.CLK_REF_STAT_SEL_REFUSED 0 1

/-- The first good source in the order crystal, peer 0, peer 1, but for one (R420). -/
def State.nextRef (s : State) (but : Nat) : Option Nat := [0, 1, 2].find? fun k => k != but && s.refGood k

/-- REF_SELECT (R417). -/
def execRefSelect (v : Word) (s : State) : Out := .next (if s.glb.dormant then s else s.refCtrlWrite v)

/-- REF_SOURCE_FAIL (R420, R422): holdover, the automatic switch, and the action at once when no source is good. -/
def execRefSourceFail (src : Nat) (s : State) : Out :=
  .next (
    if s.glb.dormant ∨ ¬ (src < 3 ∧ s.refGood src) then s
    else
      let active := s.fld Reg.CLK_REF_STAT_ACTIVE 0 = src
      let was := s
      let s := s.setFld Reg.CLK_REF_STAT_GOOD 0 (setBit (s.fld Reg.CLK_REF_STAT_GOOD 0) src false)
      if ¬ active then s
      else
        let s := (was.holdover).setFld Reg.CLK_REF_STAT_GOOD 0 (s.fld Reg.CLK_REF_STAT_GOOD 0)
        match s.nextRef src with
        | some k => if s.flag Reg.CLK_REF_CTRL_AUTOSW 0 then s.refTo k else s
        | none => s.holdAct)

/-- REF_SOURCE_GOOD (R419, R423): the source is good again; after R422 has acted CLK selects it when AUTOSW is set. Without
a good source before, the same holds of any holdover. -/
def execRefSourceGood (src : Nat) (s : State) : Out :=
  .next (
    if s.glb.dormant ∨ s.refGood src ∨ ¬ (src < 1 + s.nPeerPort) then s
    else
      let s := s.setFld Reg.CLK_REF_STAT_GOOD 0 (setBit (s.fld Reg.CLK_REF_STAT_GOOD 0) src true)
      if s.flag Reg.CLK_REF_STAT_HOLD 0 ∧ s.clk.acted ∧ s.flag Reg.CLK_REF_CTRL_AUTOSW 0
          ∧ ¬ s.refGood (s.fld Reg.CLK_REF_STAT_ACTIVE 0) then s.refTo src
      else s)

/-- HOLDOVER_TIMEOUT (R422): 20 ms have passed in holdover. -/
def execHoldoverTimeout (s : State) : Out := .next (if s.glb.dormant then s else s.holdAct)

/-- PLL_LOCK (R418, R420, R423): the PLL locks; once every PLL is locked the holdover has ended, and host links may train. -/
def execPllLock (i : Nat) (s : State) : Out :=
  .next (
    let ready := i = 5 ∨ i = 6 ∨ s.refGood (s.fld Reg.CLK_REF_STAT_ACTIVE 0)
    let l := s.fld Reg.CLK_PLL_STAT_LOCKED 0
    if s.glb.dormant ∨ ¬ s.hasPll i ∨ ¬ ready ∨ bitOf l i then s
    else
      let s := s.setFld Reg.CLK_PLL_STAT_LOCKED 0 (setBit l i true)
      let l := s.fld Reg.CLK_PLL_STAT_LOCKED 0
      let want := if s.jd16 then refPlls else 0x0F
      if s.flag Reg.CLK_REF_STAT_HOLD 0 ∧ l &&& want = want then
        let s := s.setFld Reg.CLK_REF_STAT_HOLD 0 0
        let s := { s with hif := { s.hif with heldDown := false } }
        (List.range s.nHda).foldl (fun s n => s.safeSettle n) s
      else s)

/-- PLL_LOCK_LOST (R424): with a good reference, a fatal fault. -/
def execPllLockLost (i : Nat) (s : State) : Out :=
  .next (
    let l := s.fld Reg.CLK_PLL_STAT_LOCKED 0
    let free := s.flag Reg.CLK_REF_STAT_HOLD 0 && bitOf refPlls i
    if s.glb.dormant ∨ ¬ bitOf l i ∨ free then s
    else (s.setFld Reg.CLK_PLL_STAT_LOCKED 0 (setBit l i false)).raise srcCLK 1 0 false)

/-! ## Domain resets (R421, R425) -/

/-- The reset of the REF domain: the time base at its reset values, but for the count, which comes from its CORE-domain
copy (R421). -/
def State.refReset (s : State) : State :=
  let t := s.tick
  let regs := s.regs.filter fun e => !(decide (0x00D08000 ≤ e.1 ∧ e.1 < 0x00D08030))
  let stat := s.fld Reg.TB_STAT_STATE 0
  let s := { s with regs := regs, pfb := { s.pfb with ports := [], frac := 0, adj := 0, integ := 0, okRun := 0, wasValid := false } }
  let s := (s.setPair Reg.TB_SEC_LO Reg.TB_SEC_HI 0 0 (t / 86400)).setPair Reg.TB_TICK_LO Reg.TB_TICK_HI 0 0 t
  let s := s.wr Reg.TB_NS 0 0 (word ((t % 86400 * 312500 + 26) / 27))
  if stat = 0 then s
  else s.atticEvent 9 [s.rd Reg.TB_STAT 0 0, s.rd Reg.TB_OFS 0 0, s.rd Reg.TB_TICK_LO 0 0, s.rd Reg.TB_TICK_HI 0 0]

/-- Registers of the Porch that a reset of the HK domain returns to their reset values (R425, R473, R498, R449). -/
def porchReg (addr : Nat) : Bool :=
  (decide (0x00020000 < addr ∧ addr < 0x00040000) && addr != 0x00030008 && addr != 0x0003000C)
    || addr == 0x00E00010 || addr == 0x00E00014 || (decide (0x00E00F00 ≤ addr ∧ addr < 0x00E01000))

/-- The reset of the HK domain keeps the unit address, the Attic records and the fuse state (R425, R431, R481). -/
def State.hkReset (s : State) : State :=
  let s := { s with regs := s.regs.filter (fun e => !porchReg e.1), fus := { s.fus with token := [] } }
  let s := { s with glb := { s.glb with quiet := s.glb.quiet.filter fun e => e.1 != srcPRC && e.1 != srcATC && e.1 != srcFUS } }
  ((s.setCauses srcPRC 0).setCauses srcATC 0).setCauses srcFUS 0

/-- HK's source, as CLK_HK_STAT and PRC_STAT report it (R448, R473). -/
def State.hkTo (s : State) (src : Nat) : State :=
  (s.setFld Reg.CLK_HK_STAT_SRC 0 src).setFld Reg.PRC_STAT_HK_SRC 0 src

/-- A corrected cause of CLK; without main rails CLK has no power. -/
def State.clkCorrected (s : State) (bit : Nat) : State := if s.glb.dormant then s else s.corrected srcCLK bit

/-- The forced switch of HK to the internal oscillator (R421, R425). -/
def State.hkForced (s : State) : State :=
  (((s.hkTo 0).setFld Reg.CLK_HK_STAT_FORCED 0 1).hkReset).clkCorrected 2

/-- FORCED_SWITCH (R421): domain 0 is REF, whose old source has stopped; 1 is HK. -/
def execForcedSwitch (dom : Nat) (s : State) : Out :=
  .next (
    if dom = 0 then
      if ¬ s.glb.dormant ∧ s.flag Reg.CLK_REF_STAT_HOLD 0 ∧ s.refGood (s.fld Reg.CLK_REF_STAT_ACTIVE 0) then
        ((s.setFld Reg.CLK_REF_STAT_FORCED 0 1).refReset).clkCorrected 2
      else s
    else if s.flag Reg.CLK_HK_STAT_SRC 0 then s.hkForced
    else s)

/-- CHAIN_CLOCK_LOSS (R425). -/
def execChainClockLoss (s : State) : Out := .next (if s.flag Reg.CLK_HK_STAT_SRC 0 then s.hkForced else s)

/-- CHAIN_CLOCK_RETURN (R425): a switch between running sources. -/
def execChainClockReturn (s : State) : Out := .next (if s.flag Reg.CLK_HK_STAT_SRC 0 then s else s.hkTo 1)

/-! ## Resets and power (R431 to R433, R437, R528) -/

/-- PORCH_POWER_ON (R431, R489, R497): the HK domain at its reset values; without main rails all power had gone, and the
Attic and the unit address with it. -/
def execPorchPowerOn (s : State) : Out :=
  .next (
    let s := (s.hkTo 0).setFld Reg.CLK_HK_STAT_FORCED 0 0
    let s := s.hkReset
    let s :=
      if s.glb.dormant then
        let s := { s with atc := { pend := [] } }
        ((s.wr Reg.ATC_WSEQ 0 0 0).wr Reg.ATC_OSEQ 0 0 0).wr Reg.PRC_STAT 0 0 0
      else s
    let s := { s with chain := {} }.lcSettle
    s.atticEvent 1 [s.rd Reg.PRC_STAT 0 0, s.rd Reg.CLK_HK_STAT 0 0])

/-- A device reset is asked for: held while a fuse burn runs, with the safe pattern on every port (R62, R431, R433). -/
def State.resetAsk (s : State) (cause : Nat) : State :=
  if s.flag Reg.FUS_LC_LC_BUSY 0 then
    let s := { s with glb := { s.glb with rstPend := some cause } }.setFld Reg.GLB_RST_BUSY 0 1
    (List.range s.nHda).foldl (fun s n => s.safeSettle n) s
  else s.runReset cause

/-- The write of GLB_RST (R447). -/
def State.rstWrite (s : State) (v : Word) : State :=
  if Reg.GLB_RST_KEY.get v = 0xC1EA ∧ Reg.GLB_RST_DEVICE.get v = 1 then s.resetAsk 1 else s

/-- DEVICE_RESET (R431, R432, R493): by the main rails, by GLB_RST, by the chain, or in Retired. -/
def execDeviceReset (cause : Nat) (s : State) : Out :=
  .next (
    let ok :=
      if cause = 0 then s.glb.dormant
      else if cause < 3 then !s.glb.dormant
      else !s.glb.dormant && cause == 3 && s.fld Reg.FUS_LC_STATE 0 == 4
    if ok then s.resetAsk cause else s)

/-- SRAM_WIPE_END (R432): the boot engine starts, unless the device is Sealed. -/
def execSramWipeEnd (s : State) : Out :=
  .next (
    if s.glb.sramWipe ∧ s.pllsLocked ∧ ¬ s.glb.dormant then
      { s with glb := { s.glb with sramWipe := false, booting := s.mode == modeQuiescent } }
    else s)

/-- WIPE_END (R432, R439, R442, R484): WIPING falls; after a device reset that is the entry into Quiescent, and in Retired
or with a standing fuse sense error the way into Sealed. -/
def execWipeEnd (s : State) : Out :=
  .next (
    if ¬ s.flag Reg.GLB_MODE_WIPING 0 ∨ s.glb.sramWipe ∨ s.glb.bufWipe ∨ s.glb.dormant then s
    else
      let s := s.setFld Reg.GLB_MODE_WIPING 0 0
      if s.mode = modeSealed then s
      else
        let s := s.atticEvent 3 ([word s.glb.prevMode, word modeQuiescent]
          ++ ((List.range 5).map fun k => s.rd Reg.GLB_FSUM 0 k) ++ [s.rd Reg.CLK_REF_STAT 0 0])
        if s.fld Reg.FUS_LC_STATE 0 = 4 ∨ bitOf (s.causes srcFUS) 1 then s.enterSealed else s)

/-- The burn has ended, or has been cut off, with the row that reads `st`; the owner's hash is fused with Provisioned
(R443, R444). -/
def State.burned (s : State) (st : Nat) : State :=
  let hash := ((List.range 12).map fun k => leBytes 4 (s.rd Reg.FUS_KEYHASH 0 k).toNat).flatten
  let s := if s.fld Reg.FUS_LC_STATE 0 = 0 ∧ st = 1 then { s with fus := { s.fus with ownerHash := hash } } else s
  let s := ((s.setFld Reg.FUS_LC_STATE 0 st).setFld Reg.FUS_LC_LC_BUSY 0 0)
  { s with fus := { s.fus with burn := none } }.lcSettle

/-- MAIN_RAIL_FAIL (R437, R444, R528): Dormant; of a burn that ran, either the row has been burned once or it has not. -/
def execMainRailFail (s : State) : Out :=
  .next (
    if s.glb.dormant then s
    else
      let s := s.atticEvent 3 ([word s.mode, 0] ++ ((List.range 5).map fun k => s.rd Reg.GLB_FSUM 0 k)
        ++ [s.rd Reg.CLK_REF_STAT 0 0])
      let (s, st) :=
        match s.fus.burn with
        | some t => let (v, s) := s.fresh; (s, if v % 2 = 1 then t else s.fld Reg.FUS_LC_STATE 0)
        | none => (s, s.fld Reg.FUS_LC_STATE 0)
      let s := s.burned st
      let s := (s.lowState { dormant := true }).lcSettle
      let s := { s with pins := { s.pins with trip := false } }
      (s.setFld Reg.PRC_STAT_MODE 0 0).setFld Reg.PRC_STAT_RAILS 0 0)

/-! ## Modes (R437, R438) -/

/-- Why a Service request is refused; 0 when it is not (R438). -/
def State.serviceRefused (s : State) : Nat :=
  if s.mode ≠ modeQuiescent ∨ s.flag Reg.GLB_MODE_WIPING 0 then 1
  else if ¬ s.pllsLocked ∨ s.flag Reg.CLK_REF_STAT_HOLD 0 then 2
  else if (List.range s.nCh).any fun c => s.chState c != chUp then 3
  else if (List.range 40).any fun q => s.hasSeq q && (!(s.sq q).loaded || s.fenced (srcSEQ q)) then 4
  else 0

/-- The write of GLB_MODE (R437, R438, R447). -/
def State.modeWrite (s : State) (v : Word) : State :=
  if Reg.GLB_MODE_SVC_REQ.get v = 0 then s
  else
    let r := s.serviceRefused
    (s.setFld Reg.GLB_MODE_REFUSE 0 r).setFld Reg.GLB_MODE_SVC_REQ 0 (bit01 (r == 0))

/-- SERVICE_REQUEST (R438). -/
def execServiceRequest (v : Word) (s : State) : Out := .next (if s.glb.dormant then s else s.modeWrite v)

/-- TEMPERATURE_SAMPLE (R530, R531): readings in kelvin; 125 °C is 398 K. -/
def execTemperatureSample (readings : List Nat) (s : State) : Out :=
  .next (
    if s.glb.dormant then s
    else
      let t := min 511 (readings.foldl max 0)
      let s := (s.setFld Reg.GLB_TEMP_COMP 0 t).setFld Reg.GLB_TEMP_PEAK 0 (max t (s.fld Reg.GLB_TEMP_PEAK 0))
      if 398 ≤ t then { s with pins := { s.pins with trip := true } } else s)

end Sys2Proof.Machine
end

