-- ==== Sys2Proof/Machine/LifeCycle.lean ====
section
/-!
DEFINITION. The Attic's records, the life cycle and its tokens, observation and the test access port (R442 to R446, R490 to
R497, R537 to R539).
-/

namespace Sys2Proof.Machine

/-! ## The Attic (R490 to R497) -/

/-- A record's bytes 10 and 11: TRIG with INJ, CAUSE with LOSS and class (R490). -/
def AtticRec.trigByte (r : AtticRec) : Nat := r.trig % 32 + bit01 r.inj * 128
def AtticRec.causeByte (r : AtticRec) : Nat := r.cause % 32 + bit01 r.loss * 32 + r.cls % 4 * 64

/-- The 64 bytes of a record (R490). -/
def AtticRec.bytes (r : AtticRec) : List Byte :=
  leBytes 4 r.seq ++ leBytes 6 r.tick ++ leBytes 1 r.trigByte ++ leBytes 1 r.causeByte ++ leBytes 2 r.source ++ leBytes 2 r.rep
    ++ ((r.snaps ++ List.replicate 12 0).take 12).flatMap fun (w : Word) => leBytes 4 w.toNat

/-- The record in a slot; an empty slot holds zeros (R489). -/
def State.atticSlot (s : State) (k : Nat) : AtticRec := mget (fun _ => ({} : AtticRec)) s.atc.recs k

/-- A word of the Attic window at an offset; an empty slot reads zero (R489). -/
def State.atticWord (s : State) (ofs : Nat) : Word :=
  let r := s.atticSlot (ofs / 64)
  if r.seq = 0 then 0 else word (leNat ((r.bytes.drop (ofs % 64 / 4 * 4)).take 4))

/-- A trigger matches the newest stored record (R495). -/
def AtticRec.same (a b : AtticRec) : Bool :=
  a.trigByte == b.trigByte && a.cls == b.cls && a.cause == b.cause && a.source == b.source && a.snaps == b.snaps

/-- A record is stored under the next number (R489, R494, R496). -/
def State.atticStore (s : State) (r : AtticRec) : State :=
  let n := s.atc.last + 1
  let r := { r with seq := n, loss := s.atc.loss }
  let s := { s with atc := { s.atc with
    recs := mset (fun _ => ({} : AtticRec)) s.atc.recs (n % 4096) r, last := n, loss := false } }
  let old := (s.rd Reg.ATC_OSEQ 0 0).toNat
  let s := s.wr Reg.ATC_WSEQ 0 0 (word n)
  s.wr Reg.ATC_OSEQ 0 0 (word (if old = 0 then n else if 4096 ≤ n - old then n - 4095 else old))

/-- ATTIC_RECORD_STORE (R494, R495): the oldest pending trigger becomes a record, or counts with the newest one. -/
def execAtticRecordStore (s : State) : Out :=
  .next (
    match s.atc.pend with
    | [] => s
    | r :: rest =>
      let s := { s with atc := { s.atc with pend := rest } }
      let n := s.atc.last
      let old := s.atticSlot (n % 4096)
      if old.seq = n ∧ n ≠ 0 ∧ r.same old then
        if old.rep < 65535 then
          { s with atc := { s.atc with recs := mset (fun _ => ({} : AtticRec)) s.atc.recs (n % 4096) { old with rep := old.rep + 1 } } }
        else s.bump Reg.ATC_CNT_REP 0 1
      else s.atticStore r)

/-- The write of ATC_NOTE (R493). -/
def State.noteWrite (s : State) (v : Word) : State := s.atticEvent 31 [v, s.rd Reg.GLB_MODE 0 0]

/-- ATTIC_NOTE (R493). -/
def execAtticNote (v : Word) (s : State) : Out := .next (s.noteWrite v)

/-- The Attic is cleared: pending records are dropped and counted, every slot emptied, and a CLEAR record written
(R497). -/
def State.atticClear (s : State) (hash : List Word) : State :=
  let wseq := s.rd Reg.ATC_WSEQ 0 0
  let gone := (List.range 4096).filter fun k => (s.atticSlot k).seq != 0
  let s := s.bump Reg.ATC_CNT_DROP 0 s.atc.pend.length
  let r : AtticRec := { tick := s.tick, source := 0xFFFF,
                        snaps := ([wseq, word gone.length, s.rd Reg.FUS_LC 0 0, s.rd Reg.FUS_AUTH 0 0] ++ hash).take 12 }
  let s := { s with atc := { s.atc with recs := [], pend := [] } }
  (s.wr Reg.ATC_OSEQ 0 0 0).atticStore r

/-! ## The life cycle (R442 to R444) -/

/-- A transition: Sealed is entered, with its wipe, and the burn of the target state's row starts (R435, R444, R493). -/
def State.transition (s : State) (t : Nat) : State :=
  let s := s.atticEvent 4 [word (s.fld Reg.FUS_LC_STATE 0), word t, s.rd Reg.FUS_LC 0 0]
  let s := if s.glb.dormant then s else if s.mode = modeSealed then s.wipeWork else s.enterSealed
  { s with fus := { s.fus with burn := some t } }.setFld Reg.FUS_LC_LC_BUSY 0 1

/-- The write of FUS_PROV (R443, R449). -/
def State.provWrite (s : State) (v : Word) : State :=
  if Reg.FUS_PROV_GO.get v = 0 then s
  else if s.fld Reg.FUS_LC_STATE 0 ≠ 0 ∨ s.fus.burn.isSome then s.setFld Reg.FUS_PROV_RESULT 0 7
  else (s.setFld Reg.FUS_PROV_RESULT 0 1).transition 1

/-- PROVISION (R443). -/
def execProvision (v : Word) (s : State) : Out := .next (s.provWrite v)

/-- FUSE_BURN_END (R433, R444): FUS_LC shows the state, and a held device reset runs. -/
def execFuseBurnEnd (s : State) : Out :=
  .next (
    match s.fus.burn with
    | none => s
    | some t =>
      let s := s.burned t
      match s.glb.rstPend with
      | some c => s.runReset c
      | none => s)

/-! ## Tokens (R445, R446) -/

/-- The staged token (R445). -/
def State.tokenBytes (s : State) : List Byte :=
  (List.range 64).flatMap fun k => leBytes 4 (mget (fun _ => (0 : Word)) s.fus.token k).toNat

def tokKey (bs : List Byte) : List Byte := (bs.drop 40).take 97
def tokAction (bs : List Byte) : Nat := leNat ((bs.drop 6).take 1)

/-- The ACTIONs of a token (R445). -/
def tokActions : List Nat := [0x01, 0x02, 0x03, 0x10, 0x11, 0x12, 0x20]

/-- The ACTION is allowed in the present state of the life cycle (R442, R443, R497). -/
def State.actionOk (s : State) (a : Nat) : Bool :=
  let st := s.fld Reg.FUS_LC_STATE 0
  if a < 0x10 then st != 4
  else if a = 0x20 then true
  else !s.fus.burn.isSome
    && (if a = 0x10 then st == 1 else if a = 0x11 then st == 1 || st == 2 else st != 4)

/-- The result of the checks of a token, in the order of the codes (R446, R449). -/
def State.tokenResult (s : State) (bs : List Byte) : Nat :=
  let part (i n : Nat) : List Byte := (bs.drop i).take n
  let st := s.fld Reg.FUS_LC_STATE 0
  let zero (l : List Byte) : Bool := l.all (· == 0)
  let signer := if st = 1 ∨ st = 2 then s.fus.ownerHash else Config.streltanHash
  if leNat (part 0 4) ≠ 0x5455414A ∨ leNat (part 4 2) ≠ 1 ∨ ¬ tokActions.contains (tokAction bs)
      ∨ ¬ (zero (part 7 1) && zero (part 36 4) && zero (part 137 7) && zero (part 240 16)) then 2
  else if part 16 20 ≠ s.fus.serial then 3
  else if leNat (part 8 8) ≠ s.pair Reg.FUS_NONCE_LO Reg.FUS_NONCE_HI 0 0 then 4
  else if Config.sha384 (tokKey bs) ≠ signer then 5
  else if ¬ Config.ecdsaP384 (tokKey bs) (Config.sha384 (bs.take 144)) (part 144 96) then 6
  else if ¬ s.actionOk (tokAction bs) then 7
  else 1

/-- After a check the token is zeroed and the nonce renewed (R446, R449). -/
def State.tokenDone (s : State) : State := { s with fus := { s.fus with token := [] } }.newNonce

/-- What an accepted token does (R443, R446, R497). -/
def State.tokenAct (s : State) (a : Nat) (hash : List Word) : State :=
  if a = 0x20 then s.atticClear hash
  else if a = 0x10 then s.transition 2
  else if a = 0x11 then s.transition 3
  else if a = 0x12 then s.transition 4
  else
    { s with fus := { s.fus with obsTok := s.fus.obsTok || bitOf a 0, tapTok := s.fus.tapTok || bitOf a 1 } }.lcSettle

/-- FUS_AUTH.GO: the check of the staged token, and its action when every check passes (R446, R493). -/
def State.authGo (s : State) : State :=
  let bs := s.tokenBytes
  let r := s.tokenResult bs
  let a := tokAction bs
  let s := (s.setFld Reg.FUS_AUTH_RESULT 0 r).setFld Reg.FUS_AUTH_ACTION 0 a
  let s :=
    if r = 1 then
      let h := Config.sha384 (tokKey bs)
      let hash := (List.range 8).map fun k => word (leNat ((h.drop (4 * k)).take 4))
      let s := s.atticEvent 5 ([word a, s.rd Reg.FUS_NONCE_LO 0 0, s.rd Reg.FUS_NONCE_HI 0 0] ++ hash)
      s.tokenAct a hash
    else s.corrected srcFUS 0
  s.tokenDone

/-- FUS_AUTH.CLOSE: the openings by token end (R446, R538). -/
def State.authCloseWork (s : State) : State :=
  { s with fus := { s.fus with obsTok := false, tapTok := false } }.lcSettle

/-- The write of FUS_AUTH (R449). -/
def State.authWrite (s : State) (v : Word) : State :=
  let s := if Reg.FUS_AUTH_GO.get v = 1 then s.authGo else s
  if Reg.FUS_AUTH_CLOSE.get v = 1 then s.authCloseWork else s

/-- GO on a staged token that passes every check, with the ACTION of the row. -/
def State.tokenWith (s : State) (a : Nat) : State :=
  let bs := s.tokenBytes
  if s.tokenResult bs = 1 ∧ tokAction bs = a then s.authGo else s

/-- TOKEN_OPEN_OBS (R446). -/
def execTokenOpenObs (s : State) : Out := .next (s.tokenWith 0x01)
/-- TOKEN_OPEN_TAP (R446). -/
def execTokenOpenTap (s : State) : Out := .next (s.tokenWith 0x02)
/-- TOKEN_OPEN_BOTH (R446). -/
def execTokenOpenBoth (s : State) : Out := .next (s.tokenWith 0x03)
/-- TOKEN_DEPLOY (R443). -/
def execTokenDeploy (s : State) : Out := .next (s.tokenWith 0x10)
/-- TOKEN_RETURN (R443). -/
def execTokenReturn (s : State) : Out := .next (s.tokenWith 0x11)
/-- TOKEN_RETIRE (R443). -/
def execTokenRetire (s : State) : Out := .next (s.tokenWith 0x12)
/-- TOKEN_CLEAR_ATTIC (R497). -/
def execTokenClearAttic (s : State) : Out := .next (s.tokenWith 0x20)
/-- TOKEN_REFUSED (R446): GO on a staged token that fails a check. -/
def execTokenRefused (s : State) : Out := .next (if s.tokenResult s.tokenBytes = 1 then s else s.authGo)
/-- AUTH_CLOSE (R446). -/
def execAuthClose (v : Word) (s : State) : Out := .next (if Reg.FUS_AUTH_CLOSE.get v = 1 then s.authWrite v else s)

/-! ## Observation (R538, R539) -/

/-- INDEX names an instance of the signal that the variant has; reserved signals have none (R539). -/
def State.obsIndexOk (s : State) (sig i : Nat) : Bool :=
  if sig = 0x01 then decide (i < s.nAct)
  else if 0x02 ≤ sig ∧ sig ≤ 0x05 then decide (i < s.nHead)
  else if sig = 0x06 ∨ sig = 0x09 then decide (i < s.nHda)
  else if sig = 0x07 ∨ sig = 0x08 then true
  else if sig = 0x0A then decide (i < s.nDec)
  else if sig = 0x0B then s.hasSeq i
  else if sig = 0x0C then s.hasSrc i
  else if sig = 0x0D then decide (i < 4)
  else if sig = 0x0E then s.hasPll i
  else false

/-- The write of an OBS_SEL register (R538). -/
def State.obsWrite (s : State) (k : Nat) (v : Word) : State :=
  let sig := Reg.OBS_SEL_SIGNAL.get v
  if sig ≠ 0 ∧ ¬ (s.flag Reg.FUS_LC_OBS_OPEN 0 ∧ s.obsIndexOk sig (Reg.OBS_SEL_INDEX.get v)) then s.corrected srcOBS 0
  else s.store Reg.OBS_SEL 0 k v

/-- OBS_SELECT (R538). -/
def execObsSelect (k : Nat) (v : Word) (s : State) : Out := s.powered fun s => .next (s.obsWrite k v)

/-- The level of an OBS pin; between events a pulse signal is low, and the phase of a divided clock is free (R538,
R539). -/
def State.obsPin (s : State) (k : Nat) : Bool × State :=
  let sig := s.fldJ Reg.OBS_SEL_SIGNAL 0 k
  let i := s.fldJ Reg.OBS_SEL_INDEX 0 k
  if s.mode = modeSealed then (false, s)
  else if sig = 0x03 then (((s.sv (i / 10)).head (i % 10)).inh, s)
  else if sig = 0x04 then ((s.rc i).live.isSome, s)
  else if sig = 0x05 then ((s.hl (i / 20)).bursts.any fun b => b.head == i % 20, s)
  else if sig = 0x0A then ((s.decoder i).run.isSome, s)
  else if sig = 0x0C then (s.fltHigh i, s)
  else if sig = 0x0D then let (v, s) := s.fresh; (v % 2 == 1, s)
  else if sig = 0x0E then (bitOf (s.fld Reg.CLK_PLL_STAT_LOCKED 0) i, s)
  else (false, s)

/-- OBS_STAT with the pins as they stand. -/
def State.obsPins (s : State) : State :=
  let (m, s) := (List.range 8).foldl (fun ms k =>
    let (b, s) := ms.2.obsPin k
    (ms.1 + bit01 b * 2 ^ k, s)) (0, s)
  s.setFld Reg.OBS_STAT_PINS 0 m

/-! ## The test access port (R431, R537) -/

/-- TEST_RESET (R431): the port's reset loads IDCODE (log entry 8). -/
def execTestReset (s : State) : Out := .next { s with pins := { s.pins with ir := 1 } }

/-- TAP_INSTRUCTION (R537): 0 BYPASS, 1 IDCODE and 2 SAMPLE/PRELOAD always work; 3 EXTEST, 4 EXTEST_PULSE, 5 EXTEST_TRAIN,
6 CLAMP and 7 HIGHZ act as BYPASS unless TAP_OPEN is set in Quiescent. -/
def execTapInstruction (ir : Nat) (s : State) : Out :=
  let ok := ir < 3 ∨ (ir < 8 ∧ s.flag Reg.FUS_LC_TAP_OPEN 0 ∧ s.mode = modeQuiescent ∧ ¬ s.glb.dormant)
  .next { s with pins := { s.pins with ir := if ok then ir else 0 } }

end Sys2Proof.Machine
end

