-- ==== Sys2Proof/Machine/LinkOps.lean ====
section
/-!
DEFINITION. What the commands of a head-link port share: frames and their CRC (R37, R38), alignment and lane retrains
(R39, R60, R61), bring-up (R59), WRITE blocks (R48, R134, R135) and the blocks received (R42 to R47).
-/

namespace Sys2Proof.Machine

/-! ## Frames (R37, R38) -/

/-- One bit of the IEEE 802.3 CRC-32, most significant bit of the register first. -/
def crc32Bit (r b : Nat) : Nat :=
  let top := r / 2 ^ 31 % 2
  let r' := r * 2 % 2 ^ 32
  if top = b then r' else r' ^^^ 0x04C11DB7

/-- The CRC-32 of bits in transmission order (log entry 62). -/
def crc32 (bs : List Nat) : Nat := (2 ^ 32 - 1) - bs.foldl crc32Bit (2 ^ 32 - 1)

/-- `n` bits of a number, most significant first. -/
def msbBits (n v : Nat) : List Nat := (List.range n).map fun i => v / 2 ^ (n - 1 - i) % 2

/-- The number of bits, most significant first. -/
def bitsNat (bs : List Nat) : Nat := bs.foldl (fun n b => 2 * n + b) 0

/-- Blocks of a frame on 8 or 7 lanes. -/
def frameBlocks (lanes : Nat) : Nat := if lanes = 8 then 80 else 69

/-- The marker of a lane. -/
def marker (lane : Nat) : Nat := 0x2E8 + lane

/-- Groups of `n` elements. -/
def chunks {α : Type} (n : Nat) : Nat → List α → List (List α)
  | 0, _ => []
  | f + 1, xs => if xs.isEmpty then [] else xs.take n :: chunks n f (xs.drop n)

/-- The message symbols of every active lane of a frame (R37, R38). -/
def frameLanes (lanes : List Nat) (seq : Nat) (blocks : List (List Byte)) : List (Nat × List Nat) :=
  let l := lanes.length
  let body := blocks.flatMap bitsMsb
  let fill := List.replicate (5140 * l - (10 * l + 72) - body.length) 0
  let head := msbBits 16 seq ++ msbBits 8 1 ++ msbBits 16 0
  let crc := crc32 (head ++ body ++ fill)
  let bits := lanes.flatMap (fun k => msbBits 10 (marker k)) ++ head ++ msbBits 32 crc ++ body ++ fill
  let syms := (chunks 10 (514 * l) bits).map bitsNat
  let per := chunks l 514 syms
  (List.range l).map fun i => (lanes.getD i 0, per.map fun r => r.getD i 0)

/-- The blocks of a received frame, when its CRC holds and it is a data frame (R37, R38). -/
def frameParse (f : RxFrame) : Option (List (List Byte)) :=
  let l := f.lanes.length
  let bits := (List.range 514).flatMap fun r => f.lanes.flatMap fun x => msbBits 10 (x.syms.getD r 0)
  let rest := bits.drop (10 * l)
  let crc := bitsNat ((rest.drop 40).take 32)
  let body := rest.drop 72
  if crc32 (rest.take 40 ++ body) ≠ crc then none
  else if bitsNat ((rest.drop 16).take 8) ≠ 1 then some []
  else some ((chunks 512 (frameBlocks l) body).map (bytesMsb 64))

/-! ## Lane retrains (R60, R61) -/

/-- Active lanes of a direction, 0 receive, 1 transmit. -/
def State.dirLanes (s : State) (n dir : Nat) : Nat :=
  s.fld (if dir = 0 then Reg.HLK_STAT_RX_LANES else Reg.HLK_STAT_TX_LANES) n

/-- Lanes of a direction once every LANE_MAP that waits has taken effect. -/
def State.dirNext (s : State) (n dir : Nat) : Nat :=
  match (s.hl n).laneMaps.getLast? with
  | some m => if dir = 0 then m.rx else m.tx
  | none => s.dirLanes n dir

/-- LANE_MAP is sent for a frame at least 8 frames ahead (R51, R60). -/
def State.sendLaneMap (s : State) (n rx tx : Nat) : State :=
  let f := ((s.hl n).frame + 8) % 2 ^ 26
  let s := s.sendCmd n 4 (configBlock 6 ([BitVec.ofNat 8 rx, BitVec.ofNat 8 tx] ++ beBytes 4 f)) .link
  let x := s.hl n
  let m : LaneMap := { tx := tx, rx := rx, frame := f }
  s.setHl n { x with laneMaps := x.laneMaps ++ [m] }

/-- A lane is dropped from its direction and retrains alone (R60). -/
def State.retrainLane (s : State) (n dir lane : Nat) (host : Bool) : State :=
  let rx := s.dirNext n 0
  let tx := s.dirNext n 1
  let s := if dir = 0 then s.sendLaneMap n (setBit rx lane false) tx else s.sendLaneMap n rx (setBit tx lane false)
  let x := s.hl n
  let r : LaneTrain := { dir := dir, lane := lane, host := host }
  s.setHl n { x with retrain := x.retrain ++ [r] }

/-- A lane fails in a direction: a retrain, or with another lane out the port goes down (R60, R61). -/
def State.laneFails (s : State) (n dir lane : Nat) : State :=
  if laneCount (s.dirNext n dir) = 8 then s.retrainLane n dir lane false
  else if bitOf (s.dirNext n dir) lane then s.hlkFault n 1
  else s

/-! ## Bring-up (R54, R59) -/

/-- Bring-up starts in Detect: every class's CSEQ is zero. -/
def State.bringUp (s : State) (n : Nat) : State :=
  let s := s.portDown n linkDetect
  let x := s.hl n
  s.setHl n { x with cseq := [], bseq := [], epochBit := [], info := [], flags := 0 }

/-- The companion's identity word has been read on an Up port: the HDA is there, and joins at the next epoch boundary
(R65). -/
def State.identity (s : State) (n : Nat) : State :=
  if s.flag Reg.HLK_STAT_PRESENT n ∨ ¬ (s.linkState n = linkUp ∨ s.linkState n = linkUp7) ∨ (mget (fun _ => (none : Option Word)) (s.hl n).info 0).isNone then s
  else
    let s := s.setFld Reg.HLK_STAT_PRESENT n 1
    let s := { s with glb := { s.glb with rejoin := s.glb.rejoin.filter (· != srcHLK n) ++ [srcHLK n] } }
    if s.hdaState n = hdaAbsent then s.hdaTo n hdaStopped else s

/-- The write of HLK_CTRL (R59, R62, R66). -/
def State.hlkCtrlWrite (s : State) (n : Nat) (v : Word) : State :=
  let train := Reg.HLK_CTRL_TRAIN.get v == 1 && Reg.HLK_CTRL_EN.get v == 1
  let s := (s.store Reg.HLK_CTRL n 0 v).safeSettle n
  if s.fenced (srcHLK n) then s
  else if !s.flag Reg.HLK_CTRL_EN n then
    if s.linkState n = linkOff then s
    else
      let up := s.linkState n = linkUp ∨ s.linkState n = linkUp7
      let s := (s.portDown n linkOff).setFld Reg.HLK_CTRL_TRAIN n 0
      if up then s.spnPortFenced n else s
  else if train then
    let up := s.linkState n = linkUp ∨ s.linkState n = linkUp7
    let s := (s.bringUp n).setFld Reg.HLK_CTRL_TRAIN n 1
    let s := s.setHl n { s.hl n with attempts := 0 }
    if up then s.spnPortFenced n else s
  else s

/-- The write of HLK_LANE: a retrain, or its refusal while a lane of that direction is out (R60, R66). -/
def State.hlkLaneWrite (s : State) (n : Nat) (v : Word) : State :=
  let s := s.store Reg.HLK_LANE n 0 v
  if Reg.HLK_LANE_GO.get v = 0 then s
  else
    let dir := s.fld Reg.HLK_LANE_DIR n
    if ¬ s.canCommand n then s.setFld Reg.HLK_LANE_RESULT n 2
    else if laneCount (s.dirNext n dir) ≠ 8 then s.setFld Reg.HLK_LANE_RESULT n 3
    else ((s.setFld Reg.HLK_LANE_RESULT n 0).setFld Reg.HLK_LANE_GO n 1).retrainLane n dir (s.fld Reg.HLK_LANE_LANE n) true

/-! ## WRITE blocks (R48, R101, R134, R135) -/

/-- The precompensation code of bit `k` of a burst. -/
def preComp (b : List Nat) (k : Nat) : Nat :=
  let bit (i : Nat) : Nat := if i = 0 then 0 else b.getD (min (i - 1) (b.length - 1)) 0
  let t (i : Nat) : Bool := i != 0 && bit i != bit (i - 1)
  if !t (k + 1) then 0 else if t k then (if t (k + 2) then 3 else 1) else if t (k + 2) then 2 else 0

/-- The WRITE blocks of a burst of a link head. -/
def writeBlocks (head : Nat) (b : List Nat) : List (List Byte) :=
  (List.range ((b.length + 159) / 160)).map fun w =>
    let tr := (List.range 160).flatMap fun i =>
      let k := 160 * w + i
      if k < b.length then b.getD k 0 :: msbBits 2 (preComp b k) else [0, 0, 0]
    [0x11, BitVec.ofNat 8 (head * 8)] ++ beBytes 2 w ++ bytesMsb 60 tr

/-- Channel bits of an encoded sector (R101). -/
def State.channelBits (s : State) (code : List Nat) : List Nat :=
  (List.replicate 48 [1, 1, 0, 0]).flatten ++ (List.range 48).map s.markBit ++ code ++ (List.replicate 6 [1, 1, 0, 0]).flatten

/-- Channel bits that the writer of a burst has written at a time in 1/256 tick (R140). -/
def Burst.written (b : Burst) (now : Nat) : Nat :=
  match b.gate with
  | none => 0
  | some (start, period) =>
    let d := signed 40 (now % 2 ^ 40 + 2 ^ 40 - start % 2 ^ 40)
    if d ≤ 0 ∨ period = 0 then 0 else d.toNat * 800 * 2 ^ 22 / (256 * period)

/-- The oldest burst of every head. -/
def firstBursts : List Nat → List Burst → List Burst
  | _, [] => []
  | seen, b :: bs => if seen.contains b.head then firstBursts seen bs else b :: firstBursts (b.head :: seen) bs

/-- Every head's oldest burst takes the oldest WRITE_OPEN that no burst has taken. -/
def HlkS.bindOpens (x : HlkS) : HlkS :=
  (firstBursts [] x.bursts).foldl (fun x b =>
    if b.gate.isSome then x
    else
      let os := mget (fun _ => ([] : List WriteOpen)) x.opens b.head
      match os.reverse.find? fun o => !o.used with
      | none => x
      | some o =>
        let os' := os.map fun p => if p == o then { p with used := true } else p
        let b' : Burst := { b with gate := some (o.start, o.period) }
        { x with opens := mset (fun _ => ([] : List WriteOpen)) x.opens b.head os'
                 bursts := x.bursts.map fun c => if c == b then b' else c }) x

/-- The next WRITE block: of the head that has been sent least, not more than 8,192 bits ahead of its writer (R140). -/
def HlkS.takeWrite (x : HlkS) (now : Nat) : HlkS × Option (List Byte) :=
  let ok := (firstBursts [] x.bursts).filter fun b => decide (b.sent + 160 ≤ b.written now + 8192)
  let best := ok.foldl (fun (m : Option Burst) b => match m with
    | some c => if b.sent < c.sent then some b else m
    | none => some b) none
  match best with
  | none => (x, none)
  | some b =>
    let b' : Burst := { b with blocks := b.blocks.tail, sent := b.sent + 160 }
    let bs := if b'.blocks.isEmpty then x.bursts.erase b else x.bursts.map fun c => if c == b then b' else c
    (({ x with bursts := bs } : HlkS).bindOpens, b.blocks.head?)

/-- Up to `k` WRITE blocks of a frame. -/
def HlkS.takeWrites (now : Nat) : Nat → HlkS → HlkS × List (List Byte)
  | 0, x => (x, [])
  | k + 1, x =>
    match x.takeWrite now with
    | (x, some b) =>
      let r := HlkS.takeWrites now k x
      (r.1, b :: r.2)
    | (x, none) => (x, [])

/-! ## Blocks received (R42 to R47) -/

/-- The front block of the receiver, when it is of a type. -/
def State.rxBlock (s : State) (n type : Nat) : Option (List Byte) :=
  match (s.hl n).rxq with
  | b :: _ => if blkByte b 0 = type then some b else none
  | [] => none

def State.rxDrop (s : State) (n : Nat) : State := s.setHl n { s.hl n with rxq := (s.hl n).rxq.tail }

/-- The block number in 96 samples that a head of a port stands at: near its last block, or another head's of its
actuator, or the anchor (R42, R43, R47). -/
def HlkS.blockNow (x : HlkS) (h : Nat) : Nat :=
  let own := mget (fun _ => 0) x.bseq h
  let all := ((List.range 10).map fun j => mget (fun _ => 0) x.bseq (h / 10 * 10 + j)).foldl max 0
  if 0 < own then own - 1 else if 0 < all then all - 1 else mget (fun _ => 0) x.anchor (h / 10) / 96

/-- An ADC rate change of actuator `a` shows: open gates end EPOCH, stored wedge intervals scale (R71, R81). -/
def State.epochToggle (s : State) (a : Nat) : State :=
  let n := a / 2
  let x := s.hl n
  let old := mget (fun _ => 4096) x.adcN (a % 2)
  let new := mget (fun _ => 4096) x.adcNext (a % 2)
  let s := s.setHl n { x with adcN := mset (fun _ => 4096) x.adcN (a % 2) new }
  let v := s.sv a
  let s := s.setSv a { v with ints := v.ints.map fun i => (qz 41 (((i * new : Nat) : Rat) / ((max 1 old : Nat) : Rat))).toNat }
  (List.range 10).foldl (fun s j => s.endCtx (10 * a + j) false 3) s

/-- The samples of a block, earliest first (R42). -/
def blockSamples (b : List Byte) : List Int :=
  (chunks 5 96 (bitsMsb (b.drop 4))).map fun c => signed 5 (bitsNat c)

/-- A SAMPLE block of link head `h` taken (R42, R44, R45, R81). -/
def State.takeSample (s : State) (n : Nat) (b : List Byte) : State :=
  let x := s.hl n
  let h := blkByte b 1 / 8
  if 20 ≤ h then s.bump Reg.HLK_CNT_BLK n 1
  else
    let own := mget (fun _ => 0) x.bseq h
    let k := nearest 16 (x.blockNow h) (blkNat b 2 2)
    if 0 < own ∧ k < own then s.bump Reg.HLK_CNT_BLK n 1
    else
      let a := 2 * n + h / 10
      let ctl := 20 * n + h
      let eb := blkByte b 1 / 2 % 2
      let was := mget (fun _ => 2) x.epochBit (h / 10)
      let s := s.setHl n { x with bseq := mset (fun _ => 0) x.bseq h (k + 1)
                                  epochBit := mset (fun _ => 2) x.epochBit (h / 10) eb }
      let s := if was ≠ 2 ∧ was ≠ eb then s.epochToggle a else s
      let s := if 0 < own ∧ own < k then
          let s := s.bump Reg.HLK_CNT_GAP n (96 * (k - own))
          let s := s.endCtx ctl false 2
          let s := s.setRc ctl { s.rc ctl with fifo := [] }
          s.gapWindow a (h % 10) (96 * own) (96 * k)
        else s
      let r := s.rc ctl
      let new := (List.range 96).zip (blockSamples b) |>.map fun e => (96 * k + e.1, e.2)
      let all := r.fifo ++ new
      (s.setRc ctl { r with fifo := all.drop (all.length - 1024) }).feedLive ctl

/-- A link time of 20 bits extended near the port's present frame (R46). -/
def State.stamp20 (s : State) (n v : Nat) : Nat := nearest 20 (s.linkNow n) v % 2 ^ 32

/-- The records of a SPINDLE_RPT block in the order of their link times (R46). -/
def State.spinEvents (s : State) (n : Nat) (b : List Byte) : List (Nat × Sum Int (Nat × Bool)) :=
  let c := blkByte b 2
  let sh := (List.range (min 8 (c / 16))).map fun i =>
    let w := blkNat b (4 + 4 * i) 4
    (s.stamp20 n (w % 2 ^ 20), (Sum.inl (signed 12 (w / 2 ^ 20)) : Sum Int (Nat × Bool)))
  let ed := (List.range (min 8 (c % 16))).map fun i =>
    let w := blkNat b (36 + 3 * i) 3
    (s.stamp20 n (w % 2 ^ 20), (Sum.inr (w / 2 ^ 22, w / 2 ^ 21 % 2 == 1) : Sum Int (Nat × Bool)))
  (sh ++ ed).mergeSort fun x y => decide (linkDiff x.1 y.1 ≤ 0)

/-- The heads whose write gate is open at a link time: the burst that the fault of a STATUS block concerns (R148). -/
def HlkS.writing (x : HlkS) (odd now : Nat) : List (Nat × WriteOpen) :=
  (List.range 10).filterMap fun j =>
    let h := 10 * odd + j
    let os := mget (fun _ => ([] : List WriteOpen)) x.opens h
    (os.find? fun o => decide (0 ≤ signed 40 (now % 2 ^ 40 + 2 ^ 40 - o.start % 2 ^ 40))).map fun o => (h, o)

/-- A companion write fault of an actuator: the run of faulted bursts of each head that writes, and the third in a row
(R148). -/
def State.headFaults (s : State) (n odd : Nat) : State :=
  let x := s.hl n
  let a := 2 * n + odd
  let hit := (x.writing odd (x.frame * 64 * 256)).filter fun e => !e.2.fault
  let s := hit.foldl (fun s e =>
    let x := s.hl n
    let os := (mget (fun _ => ([] : List WriteOpen)) x.opens e.1).map fun o => if o == e.2 then { o with fault := true } else o
    let s := s.setHl n { x with opens := mset (fun _ => ([] : List WriteOpen)) x.opens e.1 os }
    let k := 20 * n + e.1
    { s with stm := { s.stm with wfRun := mset (fun _ => 0) s.stm.wfRun k (mget (fun _ => 0) s.stm.wfRun k + 1) } }) s
  if hit.any fun e => decide (3 ≤ mget (fun _ => 0) s.stm.wfRun (20 * n + e.1)) then
    let s := hit.foldl (fun s e => { s with stm := { s.stm with wfRun := mset (fun _ => 0) s.stm.wfRun (20 * n + e.1) 0 } }) s
    s.raise srcSTM 0 a false
  else s

/-- A write gate is opened: a head whose last burst ended without a fault starts a new run (R148). -/
def State.pushOpen (s : State) (n h : Nat) (o : WriteOpen) : State :=
  let x := s.hl n
  let os := mget (fun _ => ([] : List WriteOpen)) x.opens h
  let clean := match os with | p :: _ => !p.fault | [] => false
  let s := if clean then { s with stm := { s.stm with wfRun := mset (fun _ => 0) s.stm.wfRun (20 * n + h) 0 } } else s
  s.setHl n ({ x with opens := mset (fun _ => ([] : List WriteOpen)) x.opens h ((o :: os).take 4) } : HlkS).bindOpens

/-- An acknowledgement record (R55 to R58). -/
def State.ack (s : State) (n : Nat) (r : List Byte) : State :=
  let cls := blkByte r 0 / 16
  let res := blkByte r 0 % 16
  let c := blkNat r 2 2
  let x := s.hl n
  match x.cmds.findIdx? fun d => d.cls == cls && d.cseq == c && decide (0 < d.sends) with
  | none => s
  | some i =>
    match x.cmds[i]? with
    | none => s
    | some d =>
      let old := (x.cmds.take i).filter fun e => !(decide (cls ≤ 2) && decide (res ≤ 1) && e.cls == cls)
      let s := s.setHl n { x with cmds := old ++ x.cmds.drop (i + 1) }
      if 4 ≤ res ∧ res ≤ 6 then (s.cmdFailed n cls c res d.issuer).corrected (srcHLK n) 4 else s

/-- A STATUS block taken (R47, R55, R65, R148, R244, R254). -/
def State.takeStatus (s : State) (n : Nat) (b : List Byte) : State :=
  let x := s.hl n
  let fl := blkNat b 2 2
  let rose (k : Nat) : Bool := bitOf fl k && !bitOf x.flags k
  let s := s.setHl n { x with
    statusSeen := true, flags := fl, anchorT := blkNat b 12 4
    anchor := mset (fun _ => 0) (mset (fun _ => 0) x.anchor 0 (blkNat b 16 4)) 1 (blkNat b 20 4)
    frac := mset (fun _ => 0) (mset (fun _ => 0) x.frac 0 (blkByte b 24)) 1 (blkByte b 25)
    badRx := blkNat b 26 2, info := mset (fun _ => (none : Option Word)) x.info (blkByte b 6) (some (word (blkNat b 8 4))) }
  let s := s.setFld Reg.HLK_STAT_PARKED n (bit01 (bitOf fl 15))
  let s := s.setSpn n { s.spnS n with linkNow := blkNat b 12 4 }
  let s := (List.range 9).foldl (fun s i => s.ack n ((b.drop (28 + 4 * i)).take 4)) s
  let s := s.identity n
  let s := if rose 5 then s.corrected (srcHLK n) 6 else s
  let s := if bitOf fl 12 then s.headFaults n 0 else s
  let s := if bitOf fl 11 then s.headFaults n 1 else s
  let s := (s.setFld Reg.SPN_VBUS_MV n (blkNat b 4 2)).busSupervise n
  let s := if rose 7 then s.raise (srcSPN n) 2 0 false else s
  if bitOf fl 15 ∧ s.canCommand n ∧ ¬ (s.hl n).cmds.any (fun c => c.cls == 4 && blkByte c.block 1 == 9) then
    s.sendCmd n 4 (configBlock 9 []) .link
  else s

end Sys2Proof.Machine
end

