-- ==== Sys2Proof/Machine/RegOps.lean ====
section
/-!
DEFINITION. What writes of the fault groups, the claim registers and the peer entries start (R465, R481 to R485, R512 to R516).
-/

namespace Sys2Proof.Machine

/-! ## Fault groups (R481 to R485) -/

/-- The write of FLT_CLR: fatal causes stay (R481). -/
def State.fltClear (s : State) (src : Nat) (v : Word) : State :=
  let m := v.toNat &&& (classMask src 1 ||| classMask src 2)
  let c := s.causes src
  let q := mget (fun _ => 0) s.glb.quiet src
  let s := { s with glb := { s.glb with quiet := mset (fun _ => 0) s.glb.quiet src (q - (q &&& m)) } }
  (s.setCauses src (c - (c &&& m))).fltSettle src

/-- What a fence that host software sets stops (R64, R204, R325, R409, R485). -/
def State.hostFence (s : State) (src : Nat) : State :=
  if s.fenced src then s
  else if src < 32 then s.hlkFence (src - 16) false
  else if src < 64 then (s.setFence src false).fenceActuator (src - 32)
  else if src < 80 then (s.setFence src false).stmFenceHda (src - 64)
  else if src < 88 then ((s.setFence src false).bufFenceWork (src - 80)).raise src 6 0 false
  else (s.setFence src false).seqFenceWork (src - 88)

/-- What the clearing of a fence starts (R65, R204, R326). -/
def State.fenceLeft (s : State) (src : Nat) : State :=
  if src < 32 then
    let n := src - 16
    let s := if s.flag Reg.HLK_CTRL_EN n then s.bringUp n else s.portDown n linkOff
    let s := s.safeSettle n
    [2 * n, 2 * n + 1].foldl (fun s a =>
      if s.srvState a = srvFencedSt ∧ ¬ s.fenced (srcSRV a) then s.srvTo a srvUnloaded else s) s
  else if src < 64 then
    let a := src - 32
    if s.srvState a = srvFencedSt ∧ ¬ s.fenced (srcHLK (a / 2)) then s.srvTo a srvUnloaded else s
  else if 80 ≤ src ∧ src < 88 then s.setFld Reg.BUFC_STAT_STATE (src - 80) chResilvering
  else s

/-- A clear of FENCE is refused: a contained cause stands, or the sequencer is Fenced and leaves only by a load and RUN
(R409, R485). -/
def State.fenceHeld (s : State) (src : Nat) : Bool :=
  s.causes src &&& classMask src 2 != 0 || (decide (88 ≤ src) && s.seqState (src - 88) == seqFenced)

/-- The write of FLT_FENCE (R485). -/
def State.fenceWrite (s : State) (src : Nat) (v : Word) : State :=
  if ¬ (fenceable src ∧ s.hasSrc src) then s
  else if Reg.FLT_FENCE_FENCE.get v = 1 then s.hostFence src
  else if ¬ s.fenced src ∨ s.fenceHeld src then s
  else
    let s := (s.setFld (Reg.FLT_FENCE_FENCE.flt src) 0 0).setFld (Reg.FLT_FENCE_BYFAULT.flt src) 0 0
    let s := { s with glb := { s.glb with rejoin := s.glb.rejoin.filter (· != src) ++ [src] } }
    (s.fenceLeft src).gateSettle

/-- An injection is refused (R482, R483). -/
def State.injectRefused (s : State) (ag : Agent) (src mode bit : Nat) : Bool :=
  let cls := causeClass src bit
  let st := s.fld Reg.FUS_LC_STATE 0
  cls == 0 || mode == 3 || (mode == 2 && !(decide (88 ≤ src ∧ src < 128) && decide (16 ≤ bit)))
    || (mode == 1 && cls == 3 && !(st == 0 || st == 3))
    || (match ag with | .seq q => !(src == srcSEQ q && mode == 2) | _ => false)

/-- The unit that an injected reaction takes, where the group's cause names none: a free choice among those that the
group covers. -/
def State.injectUnit (s : State) (src : Nat) : State × Nat :=
  let (v, s) := s.fresh
  let pick (l : List Nat) : Nat := l.getD (v % max 1 l.length) 0
  if src = srcDEC then (s, pick (List.range s.nDec))
  else if src = srcSTM then (s, pick (List.range s.nAct))
  else if src = srcCPH then (s, pick (List.range s.nEng))
  else (s, pick ((List.range 64).filter fun i => s.fld Reg.PEER_CTL_PORT i == src - 13))

/-- The write of FLT_INJ (R482). -/
def State.injectWrite (s : State) (ag : Agent) (src : Nat) (v : Word) : State :=
  let f (x : Fld) : Fld := x.flt src
  let mode := Reg.FLT_INJ_MODE.get v
  let bit := Reg.FLT_INJ_CAUSE.get v
  let seq : Bool := match ag with | .seq _ => true | _ => false
  if ¬ s.hasSrc src then s
  else if seq ∧ s.injectRefused ag src mode bit then s.setFld (f Reg.FLT_INJ_RESULT) 0 2
  else
    let s := (s.setFld (f Reg.FLT_INJ_MODE) 0 mode).setFld (f Reg.FLT_INJ_CAUSE) 0 bit
    if Reg.FLT_INJ_GO.get v = 0 then s
    else if s.injectRefused ag src mode bit then s.setFld (f Reg.FLT_INJ_RESULT) 0 2
    else
      let s := s.setFld (f Reg.FLT_INJ_RESULT) 0 1
      if mode = 0 then s.cause src bit true true
      else if mode = 2 then s.corrected src bit
      else
        let (s, u) := s.injectUnit src
        let s := s.raise src bit u true
        if src = srcCLK ∧ bit = 2 then s.refReset else s

/-! ## Claims (R512 to R516) -/

/-- The unit of a claim exists on the variant (R512). -/
def State.claimUnit (s : State) (t i : Nat) : Bool :=
  if t = 0 then decide (i < s.nHead)
  else if t = 1 then decide (i < s.nAct)
  else if t = 2 ∨ t = 8 then decide (i < s.nHda)
  else if t = 3 then s.hasSeq i
  else if t = 4 then decide (i < s.nDec)
  else if t = 5 then decide (i < s.nEng)
  else if t = 6 then decide (i < s.nCh)
  else t == 7 && decide (i < s.nPeerPort)

/-- The unit counts as fenced (R544). -/
def State.unitFenced (s : State) (t i : Nat) : Bool :=
  if t = 0 then s.actFenced (i / 10)
  else if t = 1 then s.actFenced i
  else if t = 2 then s.hdaFenced i
  else if t = 3 then s.fenced (srcSEQ i)
  else if t = 4 then s.decFenced i
  else if t = 5 then s.engFenced i
  else if t = 6 then s.fenced (srcBUFC i)
  else if t = 8 then s.fenced (srcHLK i)
  else false

/-- The sequencers that a claim covers (R512, R513). -/
def claimSeqs (t i : Nat) : List Nat :=
  if t = 1 ∨ t = 3 then [i] else if t = 2 then [2 * i, 2 * i + 1] else []

/-- The number of an agent for its claims (R515, R516). -/
def claimAgent : Agent → Option Nat
  | .port p => some p
  | .seq q => if 32 ≤ q then some 2 else none
  | .chain => some 3
  | _ => none

/-- The valid entries of the claim table that name a unit; of one agent, or of any. -/
def State.claimRows (s : State) (ag : Option Nat) (t i : Nat) : List Nat :=
  (List.range 32).filter fun k =>
    s.fldJ Reg.GLB_CLAIMT_VALID 0 k == 1 && s.fldJ Reg.GLB_CLAIMT_TYPE 0 k == t && s.fldJ Reg.GLB_CLAIMT_INDEX 0 k == i
      && (match ag with | some a => s.fldJ Reg.GLB_CLAIMT_AGENT 0 k == a | none => true)

/-- The result of a claim operation: the first cause of R514 that holds. -/
def State.claimResult (s : State) (a : Nat) (release force : Bool) (t i : Nat) : Nat :=
  if ¬ s.claimUnit t i then 7
  else if ¬ (s.mode = modeService ∨ s.mode = modeMaintenance ∨ s.mode = modeDegraded) then 6
  else if release then (if s.claimRows (if force then none else some a) t i = [] then 3 else 1)
  else if s.unitFenced t i then 4
  else if s.claimRows (some a) t i ≠ [] then 2
  else if (List.range 32).all fun k => s.fldJ Reg.GLB_CLAIMT_VALID 0 k == 1 then 5
  else 1

/-- The mode with or without claims: at once between Service and Maintenance (R34, R437). -/
def State.claimMode (s : State) : State :=
  if s.mode = modeService ∧ s.anyClaim then s.setMode modeMaintenance
  else if s.mode = modeMaintenance ∧ ¬ s.anyClaim then s.setMode modeService
  else s

/-- The write of GLB_CLAIMk by an agent: ignored in another agent's register (R513 to R516). -/
def State.claimWrite (s : State) (ag : Agent) (k : Nat) (v : Word) : State :=
  if claimAgent ag ≠ some k then s
  else
    let s := s.store Reg.GLB_CLAIM 0 k v
    if Reg.GLB_CLAIM_GO.get v = 0 then s
    else
      let release := Reg.GLB_CLAIM_OP.get v == 1
      let force := Reg.GLB_CLAIM_FORCE.get v == 1 && decide (k < 2)
      let t := Reg.GLB_CLAIM_TYPE.get v
      let i := Reg.GLB_CLAIM_INDEX.get v
      let r := s.claimResult k release force t i
      let s := s.setFldJ Reg.GLB_CLAIM_RESULT 0 k r
      if r ≠ 1 then s
      else
        let rows := s.claimRows (if force then none else some k) t i
        let slot := ((List.range 32).find? fun j => s.fldJ Reg.GLB_CLAIMT_VALID 0 j == 0).getD 0
        let entry := word (2 ^ 31 + k * 2 ^ 29 + t * 2 ^ 20 + i)
        let s :=
          if release then rows.foldl (fun s j => s.wr Reg.GLB_CLAIMT 0 j 0) s
          else s.wr Reg.GLB_CLAIMT 0 slot entry
        let n := if release then rows.length else 1
        let s := (List.range n).foldl (fun s _ => s.atticEvent 30 [s.rd Reg.GLB_CLAIM 0 k, s.rd Reg.GLB_MODE 0 0]) s
        (s.seqEvents (claimSeqs t i) 11).claimMode

/-! ## Peer entries (R465) -/

/-- The slots of RXCLASS that an activation reserves can be had (R460, R465). -/
def State.peerJoinOk (s : State) (i : Nat) : Bool :=
  let g := s.fld Reg.PEER_KGEN_KGEN i
  let has (k : Nat) : Bool := ((s.kslot k).find g).isSome && (s.kslot k).kind == 2
  s.peerState i == peerSeen && has (s.fld Reg.PEER_KEYS_RXSLOT i) && has (s.fld Reg.PEER_KEYS_TXSLOT i)
    && s.fld Reg.TB_STAT_STATE 0 == 1
    && decide (s.fld Reg.PFB_CFG_RX_WIN 0 ≤ s.fldJ Reg.STM_CLS_FREE_FREE 0 (s.fld Reg.PFB_CFG_RXCLASS 0))

/-- The last outstanding request has been answered, or the second has passed: DOWN (R465). -/
def State.leaveDone (s : State) (i : Nat) : State :=
  let x := s.pe i
  let s := (s.peerTo i peerDown).setPe i { x with reqs := [], held := [], joining := false, reserved := 0, rebuild := [] }
  let s := s.wr Reg.PEER_OUT i 0 0
  let s := (s.setFld Reg.PEER_CTL_LEAVE i 0).setFld Reg.PEER_CTL_RESULT i 1
  ((x.reqs ++ x.held).foldl (fun s r => s.peerReqLost r) s).clsFree (s.fld Reg.PFB_CFG_RXCLASS 0)

/-- The write of word 0 of a peer entry (R464, R465, R474); a FENCED entry without FENCED's cause is cleared by host
software through it. -/
def State.peerCtlWrite (s : State) (i : Nat) (v : Word) : State :=
  let s := s.store Reg.PEER_CTL i 0 v
  let s :=
    if Reg.PEER_CTL_LEAVE.get v = 1 ∧ (s.peerState i = peerActive) then
      let s := (s.setFld Reg.PEER_CTL_LEAVE i 1).setFld Reg.PEER_CTL_RESULT i 0
      let s := s.peerTo i peerLeaving
      if (s.pe i).reqs = [] ∧ (s.pe i).held = [] then s.leaveDone i else s
    else if Reg.PEER_CTL_LEAVE.get v = 1 ∧ (s.peerState i = peerFenced) then
      (s.peerTo i peerDown).setFld Reg.PEER_CTL_RESULT i 1
    else s
  if Reg.PEER_CTL_JOIN.get v = 1 then
    let s := (s.setFld Reg.PEER_CTL_JOIN i 1).setFld Reg.PEER_CTL_RESULT i 0
    s.setPe i { s.pe i with joining := true }
  else s

/-! ## Their rows -/

/-- FAULT_CLEAR (R481). -/
def execFaultClear (src : Nat) (v : Word) (s : State) : Out := .next (if s.hasSrc src then s.fltClear src v else s)

/-- INJECT_RECORD (R482). -/
def execInjectRecord (ag : Agent) (src : Nat) (v : Word) (s : State) : Out :=
  .next (if Reg.FLT_INJ_GO.get v = 1 ∧ Reg.FLT_INJ_MODE.get v = 0 then s.injectWrite ag src v else s)

/-- INJECT_REACT (R482). -/
def execInjectReact (ag : Agent) (src : Nat) (v : Word) (s : State) : Out :=
  .next (if Reg.FLT_INJ_GO.get v = 1 ∧ Reg.FLT_INJ_MODE.get v = 1 then s.injectWrite ag src v else s)

/-- INJECT_RAISE (R482, R483). -/
def execInjectRaise (ag : Agent) (src : Nat) (v : Word) (s : State) : Out :=
  .next (if Reg.FLT_INJ_GO.get v = 1 ∧ Reg.FLT_INJ_MODE.get v = 2 then s.injectWrite ag src v else s)

/-- CLAIM (R514): a claim operation of an agent's register. -/
def execClaim (ag : Agent) (k : Nat) (v : Word) (s : State) : Out := s.powered fun s =>
  .next (if k < 4 ∧ Reg.GLB_CLAIM_GO.get v = 1 ∧ Reg.GLB_CLAIM_OP.get v = 0 then s.claimWrite ag k v else s)

/-- CLAIM_RELEASE (R514). -/
def execClaimRelease (ag : Agent) (k : Nat) (v : Word) (s : State) : Out := s.powered fun s =>
  .next (if k < 4 ∧ Reg.GLB_CLAIM_GO.get v = 1 ∧ Reg.GLB_CLAIM_OP.get v = 1 then s.claimWrite ag k v else s)

end Sys2Proof.Machine
end

