-- ==== Sys2Proof/Machine/Streams.lean ====
section
/-!
DEFINITION. The stream commands 0x81 to 0x87 (R280, R379), the context commands (R285) and map commits (R260).
-/

namespace Sys2Proof.Machine

/-- STREAM_OPEN (R280, R282, R379). -/
def execStreamOpen (p slot : Nat) (s : State) : Host.Outcome State Fault Refusal := s.powered fun s =>
  .next (s.onCmd p slot false [0x81] fun c =>
    let x := s.nsd c.nsidField
    let cls := bitsOf (c.cdw 10) 26 24
    if s.mode = modeQuiescent then s.complete p slot scNotReady 0
    else if bitsOf (c.cdw 10) 30 27 ≠ 0 ∨ bitsOf (c.cdw 10) 23 18 ≠ 0 ∨ bitsOf (c.cdw 10) 17 16 = 3 then
      s.complete p slot scField 0
    else if ¬ (1 ≤ c.nsidField ∧ c.nsidField ≤ 128 ∧ x.valid) then s.complete p slot scBadNs 0
    else if ¬ s.clsOk cls then s.complete p slot scClass 0
    else if x.size < c.cdw 12 + 2 ^ 32 * c.cdw 13 ∨ x.size < c.cdw 14 + 2 ^ 32 * c.cdw 15 then s.complete p slot scBeyond 0
    else s.streamOpenGo p slot c)

/-- STREAM_READ (R280, R281, R283, R380). -/
def execStreamRead (p slot : Nat) (s : State) : Host.Outcome State Fault Refusal := s.powered fun s =>
  .next (s.onCmd p slot false [0x82] fun c =>
    s.onStream p slot c (bitsOf (c.cdw 12) 31 16 != 0) false false fun s ws =>
      let e := if 512 < c.nlb then scField else if ctxWrites ws then scDirection
        else s.rangeCheck (ctxNs ws) c.lbaField c.nlb false false
      let s := s.ctxUpd c.index fun w => w.set 12 (word s.tick)
      if e ≠ scOk then s.complete p slot e 0 else s.streamReadGo p slot c (ws.set 12 (word s.tick)))

/-- STREAM_WRITE (R280). -/
def execStreamWrite (p slot : Nat) (s : State) : Host.Outcome State Fault Refusal := s.powered fun s =>
  .next (s.onCmd p slot false [0x83] fun c =>
    s.onStream p slot c (bitsOf (c.cdw 12) 29 16 != 0 || bitsOf (c.cdw 12) 31 31 != 0) false false fun s ws =>
      let e := if 512 < c.nlb then scField else if ¬ ctxWrites ws then scDirection
        else if c.lbaField ≠ cw64 ws 2 then scOrder
        else
          let e := s.rangeCheck (ctxNs ws) c.lbaField c.nlb true false
          if e = scOk then s.zoneWriteCheck (ctxNs ws) c.lbaField c.nlb else e
      let s := s.ctxUpd c.index fun w => w.set 12 (word s.tick)
      if e ≠ scOk then s.complete p slot e 0 else s.streamWriteGo p slot c (ws.set 12 (word s.tick)))

/-- STREAM_CLOSE (R280, R264). -/
def execStreamClose (p slot : Nat) (s : State) : Host.Outcome State Fault Refusal := s.powered fun s =>
  .next (s.onCmd p slot false [0x84] fun c =>
    s.onStream p slot c false true false fun s ws =>
      let i := c.index
      let ws := (if ctxState ws = ctxBroken then ws else cwPut ws 0 31 28 ctxClosing).set 12 (word s.tick)
      let s := (s.ctxWrite i ws).setCmd p slot (some { c with begun := true })
      let s := { s with stm := { s.stm with closes := s.stm.closes ++ [(i, p, slot)] } }
      s.dropAhead i false fun _ => false)

/-- STREAM_QUERY (R280): words 0 to 14 and a zero word, then LATE, ERR and PATHERR clear. -/
def execStreamQuery (p slot : Nat) (s : State) : Host.Outcome State Fault Refusal := s.powered fun s =>
  .next (s.onCmd p slot false [0x85] fun c =>
    s.onStream p slot c false false false fun s ws =>
      let s := s.completeData p slot (wordBytes (ws.take 15 ++ [0]))
      s.ctxUpd c.index fun w => (cwPut w 0 14 12 0).set 12 (word s.tick))

/-- STREAM_HINT (R280, R379): what the mask names is replaced. -/
def execStreamHint (p slot : Nat) (s : State) : Host.Outcome State Fault Refusal := s.powered fun s =>
  .next (s.onCmd p slot false [0x86] fun c =>
    s.onStream p slot c (bitsOf (c.cdw 10) 15 4 != 0) false false fun s ws =>
      let on (k : Nat) : Bool := bitOf (c.cdw 10) k
      let limit := c.cdw 14 + 2 ^ 32 * c.cdw 15
      let ws := ws.set 12 (word s.tick)
      if on 2 ∧ (s.nsd (ctxNs ws)).size < limit then (s.ctxWrite c.index ws).complete p slot scBeyond 0
      else
        let ws := if on 0 then cwRate ws (c.cdw 11) else ws
        let ws := if on 2 then cwPut64 ws 6 limit else ws
        let ws := if on 3 then ws.set 11 (word (s.tick + c.cdw 12)) else ws
        let s := s.ctxWrite c.index ws
        let s := if on 1 then s.windowSet c.index (cwPut ws 8 15 0 (bitsOf (c.cdw 10) 31 16)) else s
        s.complete p slot scOk 0)

/-- STREAM_REBIND (R280): acts and completes at the next epoch boundary. -/
def execStreamRebind (p slot : Nat) (s : State) : Host.Outcome State Fault Refusal := s.powered fun s =>
  .next (s.onCmd p slot false [0x87] fun c =>
    s.onStream p slot c (bitsOf (c.cdw 10) 31 27 != 0 || bitsOf (c.cdw 10) 23 0 != 0) false true fun s ws =>
      let x := s.nsd c.nsidField
      let cls := bitsOf (c.cdw 10) 26 24
      let lba := c.cdw 14 + 2 ^ 32 * c.cdw 15
      let s := s.ctxWrite c.index (ws.set 12 (word s.tick))
      if ¬ (1 ≤ c.nsidField ∧ c.nsidField ≤ 128 ∧ x.valid) then s.complete p slot scBadNs 0
      else if ¬ s.clsOk cls then s.complete p slot scClass 0
      else if x.size < lba then s.complete p slot scBeyond 0
      else
        let r : Rebind := { stream := c.index, nsid := c.nsidField, cls := cls, lba := lba, port := p, slot := slot }
        let s := s.setCmd p slot (some { c with begun := true })
        { s with stm := { s.stm with rebind := s.stm.rebind ++ [r] } })

/-- STM_CTX_CMD written with GO set and the OP of the command. -/
def State.ctxGo (s : State) (op : Nat) (v : Word) : State :=
  if s.regWritable Reg.STM_CTX_CMD 0 0 v ∧ Reg.STM_CTX_CMD_GO.get v = 1 ∧ Reg.STM_CTX_CMD_OP.get v = op then
    (s.store Reg.STM_CTX_CMD 0 0 v).ctxCommand
  else s

/-- CONTEXT_READ (R285, R289). -/
def execContextRead (v : Word) (s : State) : Host.Outcome State Fault Refusal := s.powered fun s => .next (s.ctxGo 0 v)

/-- CONTEXT_UPDATE (R285). -/
def execContextUpdate (v : Word) (s : State) : Host.Outcome State Fault Refusal := s.powered fun s => .next (s.ctxGo 1 v)

/-- MAP_COMMIT_GO (R260): ignored while a commit has no result yet. -/
def execMapCommitGo (v : Word) (s : State) : Host.Outcome State Fault Refusal := s.powered fun s =>
  .next (
    if s.regWritable Reg.STM_MAP_CMD 0 0 v ∧ Reg.STM_MAP_CMD_GO.get v = 1 ∧ ¬ s.flag Reg.STM_MAP_CMD_GO 0 then
      (((s.store Reg.STM_MAP_CMD 0 0 v).setFld Reg.STM_MAP_CMD_GO 0 1).setFld Reg.STM_MAP_CMD_RESULT 0 0).mapGo
    else s)

end Sys2Proof.Machine
end

