-- ==== Sys2Proof/Machine/TimeOps.lean ====
section
/-!
DEFINITION. The PTP clock and the tick count that it gives (R468).
-/

namespace Sys2Proof.Machine

/-- The PTP clock in seconds and nanoseconds. -/
def State.ptpSec (s : State) : Nat := s.pair Reg.TB_SEC_LO Reg.TB_SEC_HI 0 0
def State.ptpNs (s : State) : Nat := s.fld Reg.TB_NS_NS 0

/-- The 48-bit tick count of a PTP time (R468). -/
def State.tickAt (s : State) (sec ns : Nat) : Nat :=
  let org := s.pair Reg.TB_ORIGIN_LO Reg.TB_ORIGIN_HI 0 0
  ((sec + 2 ^ 48 - org % 2 ^ 48) * 86400 + ns * 27 / 312500) % 2 ^ 48

/-- The tick count as the PTP clock and the origin give it. -/
def State.tickSettle (s : State) : State :=
  s.setPair Reg.TB_TICK_LO Reg.TB_TICK_HI 0 0 (s.tickAt s.ptpSec s.ptpNs)

/-- The PTP clock set to a time. -/
def State.setClock (s : State) (sec ns : Nat) : State :=
  ((s.setPair Reg.TB_SEC_LO Reg.TB_SEC_HI 0 0 (sec % 2 ^ 48)).wr Reg.TB_NS 0 0 (word (ns % 2 ^ 30))).tickSettle

/-- The PTP clock at the instant of its next tick. -/
def State.nextTick (s : State) : State :=
  let k := s.ptpNs * 27 / 312500 + 1
  if 86400 ≤ k then s.setClock (s.ptpSec + 1) 0 else s.setClock s.ptpSec ((k * 312500 + 26) / 27)

end Sys2Proof.Machine
end

