-- ==== Sys2Proof/Machine/Bus.lean ====
section
/-!
DEFINITION. Reads and writes of BAR2 by every agent (R3, R8 to R10, R397, R430, R435, R455, R540 to R542): where an
access goes, and what a write starts there.
-/

namespace Sys2Proof.Machine

/-! ## Who reaches what (R397, R435, R439, R455, R483, R515, R542) -/

/-- An address lies in a range of the map. -/
def within (addr lo hi : Nat) : Bool := decide (lo ≤ addr) && decide (addr < hi)

/-- GLB, CLK, PRC, ATC and FUS, which answer while the wipe of a device reset runs (R435). -/
def wipeOpen (addr : Nat) : Bool := within addr 0 0x00080000 || within addr 0x00E00000 0x00F00000

/-- PRC, ATC and FUS, which answer without main rails (R455). -/
def hkSpace (addr : Nat) : Bool := within addr 0x00020000 0x00080000 || within addr 0x00E00000 0x00F00000

/-- The wipe of a device reset closes an address (R435). -/
def State.wipeShut (s : State) (addr : Nat) : Bool :=
  s.flag Reg.GLB_MODE_WIPING 0 && s.mode != modeSealed && !wipeOpen addr

/-- Microcode of sequencer `q` reaches an address (R397, R483, R515, R542). -/
def seqReach (q addr : Nat) : Bool :=
  if q < 32 then
    within addr (0x00100000 + 0x1000 * (q / 2)) (0x00101000 + 0x1000 * (q / 2))
      || within addr (0x00200000 + 0x400 * (10 * q)) (0x00200000 + 0x400 * (10 * q + 10))
      || within addr (0x00400000 + 0x1000 * q) (0x00401000 + 0x1000 * q)
      || within addr 0x00300000 0x00400000 || within addr 0x00600000 0x00700000
      || addr == 0x00B00F30 + 0x1000 * q
  else
    addr == 0x00000048 || within addr 0x00000080 0x00000100
      || (within addr 0x00010000 0x01000000 && !within addr 0x00020000 0x00030000 && !within addr 0x00E00000 0x00F00000
        && !within addr 0x00A00040 0x00A00080 && addr != 0x00A00010)

/-- The status with which the chain refuses an access, 0 when it does not (R453, R455). -/
def State.chainRefuses (s : State) (addr : Nat) (write : Bool) : Nat :=
  let free := within addr 0x00020000 0x00030000 || addr == 0x00E00010 || within addr 0x00E00100 0x00E00200
  if s.glb.dormant ∧ ¬ hkSpace addr then 1
  else if s.wipeShut addr then 4
  else if s.gatedAddr addr then 3
  else if write ∧ ¬ free ∧ ¬ s.flag Reg.PRC_CHAIN_WREN 0 then 2
  else if 0x02000000 ≤ addr then 2
  else 0

/-- An agent reaches an address with an access that the device takes. -/
def State.reaches (s : State) (ag : Agent) (addr : Nat) (write : Bool) : Bool :=
  addr % 4 == 0 && match ag with
  | .port p => decide (p < 2) && !s.glb.dormant && s.mode != modeSealed && decide (addr < 0x02000000)
  | .seq q => s.hasSeq q && !s.glb.dormant && seqReach q addr && !s.gatedAddr addr
  | .chain => s.chainRefuses addr write == 0
  | .boot => !s.glb.dormant && (seqReach 32 addr || addr == 0x00C00000 || addr == 0x00C01000)
  | _ => false

/-! ## Reads (R3, R8, R10, R416, R430, R449, R489, R538) -/

/-- The 64-bit values held in two registers, lower first (R10). -/
def pairRegs : List (Reg × Reg) :=
  [(Reg.RCHB_TBL_BASE_LO, Reg.RCHB_TBL_BASE_HI), (Reg.RCHB_SYNC_LO, Reg.RCHB_SYNC_HI),
   (Reg.DEC_WR_TBL_BASE_LO, Reg.DEC_WR_TBL_BASE_HI), (Reg.SRV_SET_BASE_LO, Reg.SRV_SET_BASE_HI),
   (Reg.SRV_LOAD_ADDR_LO, Reg.SRV_LOAD_ADDR_HI), (Reg.SRV_CAP_ADDR_LO, Reg.SRV_CAP_ADDR_HI),
   (Reg.SRV_CORR_ADDR_LO, Reg.SRV_CORR_ADDR_HI), (Reg.STM_CTX_BASE_LO, Reg.STM_CTX_BASE_HI),
   (Reg.STM_NS_BASE_LO, Reg.STM_NS_BASE_HI), (Reg.STM_ZONE_BASE_LO, Reg.STM_ZONE_BASE_HI),
   (Reg.STM_SEEK_BASE_LO, Reg.STM_SEEK_BASE_HI), (Reg.STM_STATS_BASE_LO, Reg.STM_STATS_BASE_HI),
   (Reg.STM_CLS_POOL_BASE_LO, Reg.STM_CLS_POOL_BASE_HI), (Reg.STM_CLS_RING_BASE_LO, Reg.STM_CLS_RING_BASE_HI),
   (Reg.CCH_RGN_BASE_LO, Reg.CCH_RGN_BASE_HI), (Reg.CCH_OP_ADDR_LO, Reg.CCH_OP_ADDR_HI),
   (Reg.CCH_OP_LEN_LO, Reg.CCH_OP_LEN_HI), (Reg.DMV_RGN_BASE_LO, Reg.DMV_RGN_BASE_HI),
   (Reg.DMV_RGN_SIZE_LO, Reg.DMV_RGN_SIZE_HI), (Reg.DMV_CH_RING_LO, Reg.DMV_CH_RING_HI),
   (Reg.DMV_CH_RGN_LO, Reg.DMV_CH_RGN_HI), (Reg.CPH_SLOT_CTR_LO, Reg.CPH_SLOT_CTR_HI), (Reg.SEQ_LPAR_LO, Reg.SEQ_LPAR_HI),
   (Reg.LDR_ADDR_LO, Reg.LDR_ADDR_HI), (Reg.LDR_MASK_LO, Reg.LDR_MASK_HI), (Reg.PFB_MAC_LO, Reg.PFB_MAC_HI),
   (Reg.PEER_MAC_LO, Reg.PEER_MAC_HI), (Reg.TB_TICK_LO, Reg.TB_TICK_HI), (Reg.TB_SEC_LO, Reg.TB_SEC_HI),
   (Reg.TB_ORIGIN_LO, Reg.TB_ORIGIN_HI), (Reg.FUS_NONCE_LO, Reg.FUS_NONCE_HI)]

/-- The pair that an address begins. -/
def lowHalf (i j addr : Nat) : Option Nat :=
  (pairRegs.find? fun r => r.1.addr i j == addr).map fun r => r.2.addr i j

/-- The lower half of the pair that an address ends. -/
def highHalf (i j addr : Nat) : Option Nat :=
  (pairRegs.find? fun r => r.2.addr i j == addr).map fun r => r.1.addr i j

/-- A word of a control store through its window (R391, R416). -/
def State.storeWindow (s : State) (addr : Nat) : Word :=
  let q := if addr < 0x01400000 then (addr - 0x01000000) / 0x20000 else 32 + (addr - 0x01400000) / 0x80000
  let o := if addr < 0x01400000 then (addr - 0x01000000) % 0x20000 else (addr - 0x01400000) % 0x80000
  if s.hasSeq q then word ((mget (fun _ => (0 : Mw)) (s.sq q).store (o / 16)).toNat / 2 ^ (32 * (o % 16 / 4))) else 0

/-- The sequencer whose window holds an address. -/
def storeOf (addr : Nat) : Nat :=
  if addr < 0x01400000 then (addr - 0x01000000) / 0x20000 else 32 + (addr - 0x01400000) / 0x80000

/-- A register's value as a read returns it, with what the read does (R8, R10, R406, R449). -/
def State.regRead (s : State) (addr : Nat) : State × Word :=
  match regAt s.jd16 addr with
  | some (d, i, j, true) =>
    let keyhash := within addr 0x00E00040 0x00E00070
    if within addr 0x00B00000 0x00B28000 ∧ addr = Reg.SEQ_EVC_PEND.addr i j then s.pendRead i j
    else if keyhash ∧ s.fld Reg.FUS_LC_STATE 0 ≠ 0 then
      (s, word (leNat ((s.fus.ownerHash.drop (addr - 0x00E00040)).take 4)))
    else
      let s := if addr = Reg.OBS_STAT.addr 0 0 then s.obsPins else s
      let v := s.rdA addr
      let w := v &&& ~~~(word d.wo)
      let s := if d.rc = 0 then s else s.wrA addr (v &&& ~~~(word d.rc))
      match lowHalf i j addr with
      | some hi => ({ s with latch := s.latch.filter (fun e => e.1 != addr) ++ [(addr, s.rdA hi)] }, w)
      | none =>
        match (highHalf i j addr).bind fun lo => s.latch.find? fun e => e.1 == lo with
        | some e => ({ s with latch := s.latch.filter fun x => x.1 != e.1 }, e.2)
        | none => (s, w)
  | _ => (s, 0)

/-- What an access to an address below the Pantry window reads: the Attic's records, a control store or a register;
zero anywhere else (R3, R416, R489, R541). -/
def State.busValue (s : State) (addr : Nat) : State × Word :=
  if within addr 0x00040000 0x00080000 then (s, s.atticWord (addr - 0x00040000))
  else if within addr 0x01000000 0x01800000 then (s, s.storeWindow addr)
  else s.regRead addr

/-- A read by an agent that reaches the address (R430, R435). -/
def State.busRead (s : State) (addr : Nat) : State × Word :=
  let (s, v) : State × Word :=
    if s.wipeShut addr then (s, 0xFFFFFFFF)
    else if s.gatedAddr addr then (s.corrected srcCLK 3, 0xFFFFFFFF)
    else s.busValue addr
  ({ s with answer := v }, v)

/-! ## Writes -/

/-- The state that a meaning answers. -/
def State.did (s : State) (o : Out) : State :=
  match o with
  | .next t => t
  | _ => s

/-- The fault source whose group holds an address (R476). -/
def faultOf (addr : Nat) : Option Nat :=
  (List.range 129).find? fun src => within addr (faultBase src + 0xF00) (faultBase src + 0xF38)

/-- The write of a fault-group register (R476, R480 to R485). -/
def State.faultWrite (s : State) (ag : Agent) (src addr : Nat) (v : Word) : State :=
  let o := addr - faultBase src
  if o = 0xF08 then s.fltClear src v
  else if o = 0xF0C then s.fenceWrite src v
  else if o = 0xF30 then s.injectWrite ag src v
  else if o = 0xF04 then (s.plainWrite addr v).fltSettle src
  else s.plainWrite addr v

/-- The write of a register of GLB, CLK, PRC, ATC, FUS or OBS, with instance `i` and entry `j`. -/
def State.coreWrite (s : State) (ag : Agent) (j addr : Nat) (v : Word) : State :=
  let host : Bool := match ag with | .port _ => true | _ => false
  if addr = 0x00000004 then s.modeWrite v
  else if addr = 0x00000008 then s.rstWrite v
  else if within addr 0x00000040 0x00000050 then s.claimWrite ag j v
  else if addr = 0x00010000 then s.refCtrlWrite v
  else if addr = 0x00010020 then s.gateWrite v
  else if addr = 0x00020004 ∧ ¬ host then s
  else if addr = 0x00030010 then s.noteWrite v
  else if addr = 0x00E00010 then s.authWrite v
  else if addr = 0x00E00014 then s.provWrite v
  else if within addr 0x00E00040 0x00E00070 ∧ (s.fld Reg.FUS_LC_STATE 0 ≠ 0 ∨ s.fus.burn.isSome) then s
  else if within addr 0x00E00100 0x00E00200 then
    { s with fus := { s.fus with token := mset (fun _ => (0 : Word)) s.fus.token j v } }
  else if within addr 0x00F00000 0x00F00020 then s.obsWrite j v
  else s.plainWrite addr v

/-- The write of a register of a drive or a head: HLK, RCH, SRV, SPN. -/
def State.driveWrite (s : State) (i addr : Nat) (v : Word) : State :=
  if addr = Reg.HLK_CTRL.addr i 0 then s.hlkCtrlWrite i v
  else if addr = Reg.HLK_LANE.addr i 0 then s.hlkLaneWrite i v
  else if addr = Reg.RCH_CTRL.addr i 0 then s.rchCtrlWrite i v
  else if addr = Reg.RCH_LOAD.addr i 0 then s.rchLoadWrite i v
  else if addr = Reg.SRV_CTRL.addr i 0 then s.srvCtrlWrite i v
  else if addr = Reg.SRV_LOAD.addr i 0 then s.srvLoadWrite i v
  else if addr = Reg.SRV_INJ_CTRL.addr i 0 then s.injCtrlWrite i v
  else if addr = Reg.SRV_CAP_CTRL.addr i 0 then s.capCtrlWrite i v
  else if addr = Reg.SPN_CTRL.addr i 0 then s.spnCtrlWrite i v
  else if addr = Reg.SPN_TARGET.addr i 0 then s.spnTargetWrite i v
  else s.plainWrite addr v

/-- The write of a register of DEC or STM. -/
def State.poolWrite (s : State) (j addr : Nat) (v : Word) : State :=
  if within addr 0x00300010 0x00300018 then s.did (execDecoderFenceWrite j v s)
  else if addr = 0x00600000 ∧ s.mode = modeQuiescent then
    s.plainWrite addr (Reg.STM_CTRL_ADMIT.put v (s.fld Reg.STM_CTRL_ADMIT 0))
  else if addr = 0x00600030 ∧ Reg.STM_MAP_CMD_GO.get v = 1 then s.did (execMapCommitGo v s)
  else if addr = 0x0060003C ∧ Reg.STM_CTX_CMD_GO.get v = 1 then s.ctxGo (Reg.STM_CTX_CMD_OP.get v) v
  else if addr = 0x006000B4 then s.did (execWriteFenceClear v s)
  else if addr = Reg.STM_CLS_POOL.addr 0 j then (s.plainWrite addr v).clsFree j
  else s.plainWrite addr v

/-- The write of CCH_WAY_DIS: disabled ways return at the next epoch boundary (R307). -/
def State.wayReturn (s : State) (j : Nat) (v : Word) : State :=
  let on := (List.range 32).filter fun k => bitOf (v &&& s.rd Reg.CCH_WAY_DIS 0 j).toNat k
  let r := s.rd Reg.CCH_WAY_DIS 0 j
  { s with cch := { s.cch with returning := s.cch.returning ++ on.map fun k => 32 * j + k } }.wr Reg.CCH_WAY_DIS 0 j
    (r &&& ~~~v)

/-- The write of a register of CCH, DMV, BUF or CPH. -/
def State.memWrite (s : State) (ag : Agent) (i j addr : Nat) (v : Word) : State :=
  if addr = 0x00700000 then s.cchCtrlWrite v
  else if addr = 0x00700050 then s.cacheOpWrite v
  else if within addr 0x00700070 0x00700090 then s.wayReturn j v
  else if addr = Reg.DMV_CH_CFG.addr 0 j then s.dmvCfgWrite j v
  else if addr = Reg.DMV_CH_RING_LO.addr 0 j then s.dmvRingWrite Reg.DMV_CH_RING_LO j v
  else if addr = Reg.DMV_CH_RING_HI.addr 0 j then s.dmvRingWrite Reg.DMV_CH_RING_HI j v
  else if addr = Reg.DMV_CH_PI.addr 0 j then s.dmvPi ag j v
  else if addr = Reg.DMV_CH_CTRL.addr 0 j then
    if Reg.DMV_CH_CTRL_RESUME.get v = 1 then s.did (execChannelResume j v s) else s.did (execChannelSkip j v s)
  else if addr = 0x00900000 ∧ s.mode ≠ modeQuiescent then
    s.plainWrite addr (Reg.BUF_CTRL_COMPAT.put v (s.fld Reg.BUF_CTRL_COMPAT 0))
  else if addr = Reg.BUF_SEG.addr 0 j then s.did (execSegmentWrite j v s)
  else if addr = Reg.BUFC_CTRL.addr i 0 ∧ Reg.BUFC_CTRL_RETRAIN.get v = 1 then s.did (execChannelRetrain i v s)
  else if addr = 0x00A00000 ∧ Reg.CPH_CTRL_WIPE_ALL.get v = 1 then s.did (execWipeAll v s)
  else if addr = 0x00A00010 ∧ Reg.CPH_SLOT_CMD_GO.get v = 1 then
    let op := Reg.CPH_SLOT_CMD_OP.get v
    s.did (if op = 1 then execKeyLoad v s else if op = 2 then execKeyDrop v s else if op = 3 then execKeyWipe v s
      else if op = 4 then execKeyQuery v s else execSlotBadop v s)
  else if within addr 0x00A00040 0x00A00080 then
    { s with cph := { s.cph with stage := mset (fun _ => (0 : Word)) s.cph.stage j v } }
  else if within addr 0x00A00100 0x00A00120 then s.did (execEngineFenceWrite j v s)
  else s.plainWrite addr v

/-- The write of HIF_FVEC: EN set while the interrupt is high counts as a rise (R386). -/
def State.fvecWrite (s : State) (src : Nat) (v : Word) : State :=
  let was := s.fldJ Reg.HIFV_FVEC_EN 0 src
  let s := s.store Reg.HIFV_FVEC 0 src v
  if was = 0 ∧ Reg.HIFV_FVEC_EN.get v = 1 then { s with hif := { s.hif with intr := s.hif.intr.filter (· != src) } } else s

/-- A peer port that is not enabled is down (R474). -/
def State.peerPorts (s : State) : State :=
  (List.range 2).foldl (fun s p =>
    if s.flag (if p = 0 then Reg.PFB_CFG_P0_EN else Reg.PFB_CFG_P1_EN) 0 then s else s.wr Reg.PFBP_PSTAT p 0 0) s

/-- The write of a register of SEQ, the loader, HIF or PFB. -/
def State.portWrite (s : State) (ag : Agent) (i j addr : Nat) (v : Word) : State :=
  let boot : Bool := match ag with | .boot => true | _ => false
  if within addr 0x00B00000 0x00B28000 then
    if addr = Reg.SEQ_CTRL.addr i 0 then s.seqCtrlWrite i v
    else if addr = Reg.SEQ_MBOX.addr i 0 then s.did (execSeqMbox i v s)
    else if addr = Reg.SEQ_SOFT.addr i 0 then s.did (execSeqSoft i v s)
    else if addr = Reg.SEQ_EVC_PEND.addr i j then s.pendWrite i j v
    else s.plainWrite addr v
  else if addr = 0x00B80000 then s.loaderWrite v
  else if addr = Reg.HIF_PCFG.addr i 0 then
    if boot ∨ ¬ mget (fun _ => false) s.hif.perstHigh i then s.plainWrite addr v else s
  else if addr = Reg.HIFV_FVEC.addr 0 j then s.fvecWrite j v
  else if addr = Reg.PEER_CTL.addr i 0 then s.peerCtlWrite i v
  else if addr = 0x00D00004 then (s.plainWrite addr v).peerPorts
  else if within addr 0x00D08028 0x00D08030 then (s.plainWrite addr v).tickSettle
  else s.plainWrite addr v

/-- A write that has reached its register (R3, R8, R416, R541). -/
def State.regWrite (s : State) (ag : Agent) (addr : Nat) (v : Word) : State :=
  if within addr 0x01000000 0x01800000 then
    if s.hasSeq (storeOf addr) then s.corrected (srcSEQ (storeOf addr)) 7 else s
  else
    match regAt s.jd16 addr, faultOf addr with
    | some (_, _, _, true), some src => s.faultWrite ag src addr v
    | some (_, i, j, true), none =>
      if addr < 0x00040000 ∨ 0x00E00000 ≤ addr then s.coreWrite ag j addr v
      else if addr < 0x00300000 ∨ within addr 0x00400000 0x00600000 then s.driveWrite i addr v
      else if addr < 0x00700000 then s.poolWrite j addr v
      else if addr < 0x00B00000 then s.memWrite ag i j addr v
      else s.portWrite ag i j addr v
    | _, _ => s

/-- A gate request holds a write of its unit's registers; a clear of the fence passes (R429, R430). -/
def State.gateHolds (s : State) (addr : Nat) : Bool :=
  s.clk.gateWait.isSome && gateOf addr == s.clk.gateWait && (match faultOf addr with | some src => addr != faultBase src + 0xF0C | none => true)

/-- A write by an agent that reaches the address (R429, R430, R435). -/
def State.busWriteOne (s : State) (ag : Agent) (addr : Nat) (v : Word) : State :=
  if s.wipeShut addr then s
  else if s.gatedAddr addr then s.corrected srcCLK 3
  else if s.gateHolds addr then { s with clk := { s.clk with held := s.clk.held ++ [(ag, addr, v)] } }
  else s.regWrite ag addr v

/-- Once no gate request waits, the writes that one held proceed in arrival order (R429). -/
def State.heldGo (s : State) : State :=
  if s.clk.gateWait.isSome then s
  else
    let l := s.clk.held
    l.foldl (fun s e => s.busWriteOne e.1 e.2.1 e.2.2) { s with clk := { s.clk with held := [] } }

/-- A write on the bus. -/
def State.busWrite (s : State) (ag : Agent) (addr : Nat) (v : Word) : State := (s.busWriteOne ag addr v).heldGo

/-! ## Rows -/

/-- REGISTER_WRITE (R8). -/
def execRegisterWrite (ag : Agent) (addr : Nat) (v : Word) (s : State) : Out :=
  .next (if s.reaches ag addr true then s.busWrite ag addr v else s)

/-- READ_TO_CLEAR (R8, R9): the events counted in the same cycle stay for the next read. -/
def execReadToClear (ag : Agent) (addr events : Nat) (s : State) : Out :=
  .next (
    if s.reaches ag addr false then
      let shut := s.wipeShut addr || s.gatedAddr addr
      let s := (s.busRead addr).1
      match regAt s.jd16 addr with
      | some (d, _, _, true) => if d.rc = 0 ∨ shut then s else s.wrA addr (word events)
      | _ => s
    else s)

/-- LOWER_HALF_READ (R10). -/
def execLowerHalfRead (ag : Agent) (addr : Nat) (s : State) : Out :=
  .next (if s.reaches ag addr false then (s.busRead addr).1 else s)

/-- CLOCK_GATE (R429): a gate of CLK_GATE. -/
def execClockGate (v : Word) (s : State) : Out :=
  .next (if ¬ s.glb.dormant ∧ Reg.CLK_GATE_GO.get v = 1 ∧ Reg.CLK_GATE_OP.get v = 0 then (s.gateWrite v).heldGo else s)

/-- CLOCK_UNGATE (R430). -/
def execClockUngate (v : Word) (s : State) : Out :=
  .next (if ¬ s.glb.dormant ∧ Reg.CLK_GATE_GO.get v = 1 ∧ Reg.CLK_GATE_OP.get v = 1 then s.gateWrite v else s)

/-- GATE_IDLE_TIMEOUT (R13, R429): a unit that has gone idle is gated; otherwise the gate is refused, and what it held
proceeds. -/
def execGateIdleTimeout (s : State) : Out :=
  .next (
    match s.clk.gateWait with
    | none => s
    | some u => if s.gateMay u.1 u.2 ∧ s.gateBusy u.1 u.2 then (s.gateEnd 3).heldGo else s.gateSettle.heldGo)

/-- FENCE_WRITE (R485). -/
def execFenceWrite (src : Nat) (v : Word) (s : State) : Out :=
  .next (if s.glb.dormant then s else (s.fenceWrite src v).heldGo)

/-! ## Microcode (R395, R397) -/

/-- The word flows on unless its access has stopped its sequencer. -/
def State.flowOn (s : State) (q : Nat) (w : Mw) : State := if s.seqState q = seqRunning then s.flow q w else s

/-- The BAR2 address of a form M operand (R397). -/
def State.regAddr (s : State) (q : Nat) (w : Mw) : Nat := ((s.gr q w.mA).toNat + w.mOfs) % 2 ^ 32

/-- RDR (R397). -/
def execRdr (q : Nat) (s : State) : Out := s.powered fun s =>
  .next (
    if s.canIssue q 0x2A then
      let w := s.mw q
      let s := s.issue q
      let a := s.regAddr q w
      let s :=
        if s.reaches (.seq q) a false then
          let (s, v) := s.busRead a
          s.setGr q w.mD v
        else if s.gatedAddr a ∧ seqReach q a then (s.corrected srcCLK 3).accessError q w.mD 1
        else s.accessError q w.mD 1
      s.flowOn q w
    else s)

/-- WRR (R397, R483). -/
def execWrr (q : Nat) (s : State) : Out := s.powered fun s =>
  .next (
    if s.canIssue q 0x2B then
      let w := s.mw q
      let s := s.issue q
      let a := s.regAddr q w
      let s :=
        if s.reaches (.seq q) a true then s.busWrite (.seq q) a (s.gr q w.mD)
        else if s.gatedAddr a ∧ seqReach q a then (s.corrected srcCLK 3).accessError q 0 0
        else s.accessError q 0 0
      s.flowOn q w
    else s)

/-- PIW (R327, R395): a channel that microcode does not own sets RF. -/
def execPiw (q : Nat) (s : State) : Out := s.powered fun s =>
  .next (s.plainWord q 0x2D fun s w =>
    let ch := w.mOfs % 64
    let v := s.gr q w.mD
    if s.dmvOwner ch (.seq q) then (s.dmvPi (.seq q) ch v).setRF q false else s.setRF q true)

end Sys2Proof.Machine
end

