-- ==== Sys2Proof/Machine/Chain.lean ====
section
/-!
DEFINITION. The service chain and the boot engine (R440, R441, R450 to R455, R533).
-/

namespace Sys2Proof.Machine

/-! ## Frames (R451 to R454) -/

/-- A frame or a response leaves on the chain. -/
def State.chainOut (s : State) (f : ChainFrame) : State := { s with chain := { s.chain with out := f :: s.chain.out } }

/-- The frame is a request to this unit, by its address (R452, R454). -/
def State.chainMine (s : State) (f : ChainFrame) : Bool :=
  !bitOf f.flags 7 && s.flag Reg.PRC_STAT_ADDR_VALID 0 && f.dst == s.unitAddr

/-- The response to a request: exactly one to a frame addressed to the unit, none to a broadcast (R452). -/
def State.chainAnswer (s : State) (f : ChainFrame) (payload : List Byte) : State :=
  if s.chainMine f then
    s.chainOut { dst := f.src, src := s.unitAddr, type := f.type, flags := 0x40, tag := f.tag, payload := payload, crcOk := true }
  else s

/-- A frame of a type arrives: it is repeated, and acted on when its CRC holds and it is a request to this unit or a
broadcast (R452, R473). -/
def State.onChain (s : State) (type : Nat) (f : ChainFrame) (act : State → State) : State :=
  if f.type ≠ type then s
  else
    let s := s.chainOut f
    if ¬ f.crcOk then s.bump Reg.PRC_CNT_CRC 0 1
    else if bitOf f.flags 6 then s
    else if s.chainMine f then act (s.bump Reg.PRC_CNT_RX 0 1)
    else if bitOf f.flags 7 then act s
    else s

def stOk : Byte := 0
def stNoPower : Byte := 1
def stRefused : Byte := 2
def stBadFrame : Byte := 5

/-- CHAIN_ENUM (R454): the frame passed on carries the next position, or the overflow bit. -/
def execChainEnum (f : ChainFrame) (s : State) : Out :=
  .next (
    if f.type ≠ 1 then s
    else if ¬ f.crcOk then (s.chainOut f).bump Reg.PRC_CNT_CRC 0 1
    else
      match f.payload with
      | [seg, pos, ovf] =>
        if ovf.toNat.testBit 0 then (s.setFld Reg.PRC_STAT_ADDR_VALID 0 0).chainOut f
        else
          let s := (s.setFld Reg.PRC_STAT_ADDR 0 (seg.toNat * 256 + pos.toNat)).setFld Reg.PRC_STAT_ADDR_VALID 0 1
          s.chainOut { f with payload := [seg, pos + 1, if pos = 255 then ovf ||| 1 else ovf] }
      | _ => s.chainOut f)

/-- CHAIN_STATUS (R453). -/
def execChainStatus (f : ChainFrame) (s : State) : Out :=
  .next (s.onChain 2 f fun s =>
    s.chainAnswer f ([stOk] ++ beBytes 4 (s.rd Reg.PRC_STAT 0 0).toNat ++ (s.fus.serial ++ List.replicate 20 0).take 20))

/-- Offset and COUNT of an access, when the payload is well formed (R453). -/
def chainSpan (f : ChainFrame) (data : Bool) : Option (Nat × Nat) :=
  let a := beNat (f.payload.take 4)
  let n := ((f.payload.drop 4).head?.getD 0).toNat
  if 5 ≤ f.payload.length ∧ n ≤ 64 ∧ a % 4 = 0 ∧ f.payload.length = 5 + (if data then 4 * n else 0) then some (a, n) else none

/-- The first status with which an access of some words is refused, 0 when none is (R455). -/
def State.chainCheck (s : State) (a n : Nat) (write : Bool) : Nat :=
  (((List.range n).map fun k => s.chainRefuses (a + 4 * k) write).find? fun r => r != 0).getD 0

/-- An access over the chain: refused whole, or done in ascending order (R455). -/
def State.chainAccess (s : State) (f : ChainFrame) (write : Bool) (act : State → Nat → Nat → State × List Byte) : State :=
  match chainSpan f write with
  | none => s.chainAnswer f [stBadFrame]
  | some (a, n) =>
    let r := s.chainCheck a n write
    if r ≠ 0 then (s.bump Reg.PRC_CNT_REF 0 1).chainAnswer f ([BitVec.ofNat 8 r] ++ if write then [0] else [])
    else
      let (s, bs) := act s a n
      s.chainAnswer f ([stOk] ++ bs)

/-- CHAIN_READ (R453, R455). -/
def execChainRead (f : ChainFrame) (s : State) : Out :=
  .next (s.onChain 3 f fun s => s.chainAccess f false fun s a n =>
    (List.range n).foldl (fun sb k =>
      let (s, v) := sb.1.busRead (a + 4 * k)
      (s, sb.2 ++ beBytes 4 v.toNat)) (s, []))

/-- CHAIN_WRITE (R453, R455). -/
def execChainWrite (f : ChainFrame) (s : State) : Out :=
  .next (s.onChain 4 f fun s => s.chainAccess f true fun s a n =>
    ((List.range n).foldl (fun s k => s.busWrite .chain (a + 4 * k) (word (beNat ((f.payload.drop (5 + 4 * k)).take 4)))) s,
     [BitVec.ofNat 8 n]))

/-- CHAIN_RESET (R431, R453): answered first. Without main rails there is nothing to reset. -/
def execChainReset (f : ChainFrame) (s : State) : Out :=
  .next (s.onChain 5 f fun s =>
    if f.payload ≠ [0xC1, 0xEA] then s.chainAnswer f [stBadFrame]
    else if s.glb.dormant then s.chainAnswer f [stNoPower]
    else (s.chainAnswer f [stOk]).resetAsk 2)

/-! ## The pass-through (R533) -/

/-- CHAIN_TRIP (R533). -/
def execChainTrip (s : State) : Out :=
  .next (if s.chain.tripped then s else { s with chain := { s.chain with tripped := true } }.bump Reg.PRC_CNT_TRIP 0 1)

/-- TRIP_RETRY (R533). -/
def execTripRetry (s : State) : Out := .next { s with chain := { s.chain with tripped := false } }

/-! ## The boot engine (R440, R441) -/

/-- A number in a slot of the flash, and its bytes (R440). -/
def State.slotNat (s : State) (k ofs n : Nat) : Nat := s.flashNat (flashSlot k + ofs) n
def State.slotBytes (s : State) (k ofs n : Nat) : List Byte := s.flashRead (flashSlot k + ofs) n

/-- A slot passes its checks: MAGIC, FORMAT and reserved bytes, KEY against the life cycle, and the signature (R440,
R441). -/
def State.slotOk (s : State) (k : Nat) : Bool :=
  let n := s.slotNat k 16 4
  let key := s.slotBytes k 36 97
  s.slotNat k 0 4 == 0x3144424A && s.slotNat k 4 2 == 1 && s.slotNat k 6 2 == 0 && s.slotNat k 133 3 == 0
    && decide (144 ≤ n ∧ n ≤ 15 * 2 ^ 20) && s.keyOk key && sigOk (s.slotBytes k 0 (n + 96)) n key

/-- The slot that boots: of those that pass, the one with the higher COMMIT (R440). -/
def State.bootSlot (s : State) : Option Nat :=
  let order := if s.slotNat 0 12 4 < s.slotNat 1 12 4 then [1, 0] else [0, 1]
  order.find? fun k => s.slotOk k

/-- The boot ends with a result (R441, R493). -/
def State.bootDone (s : State) (k r : Nat) : State :=
  let s := { s with glb := { s.glb with booting := false } }
  let s := (s.setFld Reg.GLB_BOOT_RESULT 0 r).setFld Reg.GLB_BOOT_SLOT 0 k
  s.atticEvent 7 [s.rd Reg.GLB_BOOT 0 0, s.rd Reg.GLB_BOOTVER 0 0, s.rd Reg.LDR_CTRL 0 0, s.rd Reg.LDR_ERR 0 0]

/-- The configuration list, in order; none after an entry outside the blocks that it may reach (R441). -/
def State.bootConfig (s : State) : List (Nat × Word) → State × Bool
  | [] => (s, true)
  | (a, v) :: rest =>
    if s.reaches .boot a true then State.bootConfig (s.busWrite .boot a v) rest else (s, false)

/-- An image of the slot is copied to a buffer address and loaded into its targets (R411, R441). -/
def State.bootImage (s : State) (img : List Byte) (addr : Nat) (targets : List Nat) : State × Bool :=
  match s.bufWrite addr img with
  | (s, false) => (s, false)
  | (s, true) =>
    let s := (s.setPair Reg.LDR_ADDR_LO Reg.LDR_ADDR_HI 0 0 addr).setPair Reg.LDR_MASK_LO Reg.LDR_MASK_HI 0 0
      (targets.foldl (fun m q => m + 2 ^ q) 0)
    let s := s.loaderWrite (word (2 ^ 31 + 2 ^ 26))
    (s, s.fld Reg.LDR_CTRL_RESULT 0 == 1)

/-- The image at an offset of the slot, as long as its header says (R410, R440). -/
def State.slotImage (s : State) (k ofs : Nat) : List Byte := s.slotBytes k ofs (272 + 16 * s.slotNat k (ofs + 8) 4 + 96)

/-- BOOT_END (R432, R441): check, configure, copy and load, once the wipe has ended. -/
def execBootEnd (s : State) : Out :=
  .next (
    if ¬ s.glb.booting ∨ s.flag Reg.GLB_MODE_WIPING 0 then s
    else
      match s.bootSlot with
      | none => ((s.wr Reg.HIF_PCFG 0 0 0x31).wr Reg.HIF_PCFG 1 0 0x31).bootDone 0 2
      | some k =>
        let s := s.wr Reg.GLB_BOOTVER 0 0 (word (s.slotNat k 8 4))
        let cfg := (List.range (s.slotNat k 24 4)).map fun i =>
          let o := s.slotNat k 20 4 + 8 * i
          (s.slotNat k o 4, word (s.slotNat k (o + 4) 4))
        let img := s.slotNat k 136 8
        match s.bootConfig cfg with
        | (s, false) => s.bootDone k 3
        | (s, true) =>
          if s.unmapped img 16 then s.bootDone k 3
          else
            let fmt := s.slotImage k (s.slotNat k 28 4)
            let stw := s.slotImage k (s.slotNat k 32 4)
            match s.bootImage fmt img ((List.range 32).filter s.hasSeq) with
            | (s, false) => s.bootDone k 4
            | (s, true) =>
              match s.bootImage stw (img + fmt.length) stewards with
              | (s, false) => s.bootDone k 4
              | (s, true) => s.bootDone k 1)

end Sys2Proof.Machine
end

