-- ==== Sys2Proof/Machine/Epoch.lean ====
section
/-!
DEFINITION. What happens at a time-base tick and at a scheduling-epoch boundary (R31, R245, R251, R260, R286, R437).
-/

namespace Sys2Proof.Machine

/-! ## Statistics (R286) -/

/-- The statistics record of an actuator for the epoch that ended: words 1 to 7, then word 0. -/
def State.statRecord (s : State) (a seq : Nat) : State :=
  let r := s.act a
  let at_ := s.pair Reg.STM_STATS_BASE_LO Reg.STM_STATS_BASE_HI 0 0 + a * 32
  let ws := [r.busy, r.served, r.late, r.admitted, r.waits, r.qmax, 0].map word
  let s := (s.cWrite (at_ + 4) (wordBytes ws) false).1
  (s.cWrite at_ (leBytes 4 seq) false).1

/-- One record per actuator, and the counts of the new epoch. -/
def State.statistics (s : State) (seq : Nat) : State :=
  (List.range s.nAct).foldl (fun s a =>
    let s := if s.flag Reg.STM_CTRL_EN 0 then s.statRecord a seq else s
    s.setAct a { stripe := (s.act a).stripe, qmax := (s.queueOf a).length }) s

/-! ## Units that join (R31) -/

/-- The decoders, engines, ways, buffer channels, actuators and fenced units that return to service. A decoder or engine
whose clock is gated goes on waiting. -/
def State.unitsJoin (s : State) : State :=
  let back := s.glb.rejoin
  let s := { s with glb := { s.glb with rejoin := [] } }
  let s := (back.filter fun src => decide (src < 88)).foldl (fun s src => s.fenceEvent src) s
  let gatedD (d : Nat) : Bool := s.clk.gated.contains (3, d)
  let gatedE (e : Nat) : Bool := s.clk.gated.contains (4, e / 32)
  let s := { s with dec := { s.dec with returning := s.dec.returning.filter gatedD } }
  let s := { s with cph := { s.cph with returning := s.cph.returning.filter gatedE } }
  let s := { s with cch := { s.cch with returning := [] } }
  let s := { s with stm := { s.stm with wReturn := [] } }
  ((List.range s.nCh).filter fun c => (s.bc c).joining).foldl
    (fun s c => (s.setFld Reg.BUFC_STAT_STATE c chUp).setBc c { s.bc c with joining := false }) s

/-- A peer entry that asked to join: ACTIVE with its slots reserved, or refused (R460, R465). -/
def State.peerJoinNow (s : State) (i : Nat) : State :=
  let x := { s.pe i with joining := false }
  let s := (s.setPe i x).setFld Reg.PEER_CTL_JOIN i 0
  if s.peerJoinOk i then
    let s := s.setPe i { x with reserved := s.fld Reg.PFB_CFG_RX_WIN 0 }
    ((s.peerTo i peerActive).setFld Reg.PEER_CTL_RESULT i 1).clsFree (s.fld Reg.PFB_CFG_RXCLASS 0)
  else s.setFld Reg.PEER_CTL_RESULT i 2

/-! ## Spindles (R245, R251) -/

/-- A waiting ramp starts at this boundary: it waits for the next one, or its epoch is among those that passed since
boundary `prev` (R251, R471). -/
def SpnS.rampDue (x : SpnS) (prev cur : Nat) : Bool :=
  match x.rampAt with
  | none => false
  | some none => true
  | some (some e) => decide ((cur + 65536 - e % 65536) % 65536 < cur - prev)

/-- A controller at an epoch boundary: its waiting ramp starts, or its RESYNC anchors (R245). -/
def State.spnBoundary (s : State) (n prev cur : Nat) : State :=
  let s := if (s.spnS n).rampDue prev cur then s.rampStart n else s
  if s.flag Reg.SPN_CTRL_RESYNC n ∧ ¬ s.flag Reg.SPN_STAT_RAMP n ∧ s.hdaState n ≠ hdaStarting then
    (s.anchor n).setFld Reg.SPN_CTRL_RESYNC n 0
  else s

/-! ## Slip-table copies (R154) -/

/-- The place of copy `c` of a zone's slip table: actuator, zone and P. -/
def State.slipPlace (s : State) (zk c : Nat) : Nat × Nat × Nat :=
  let z := s.zone zk
  let psa := if c = 0 then z.metaA else z.metaB
  (zk / 512 * 2 + psa / 2 ^ 33 % 2, psa / 2 ^ 25 % 256, psa % 2 ^ 25)

/-- The table placed in a slot as a sector's data. -/
def State.slipData (s : State) (zk cls slot : Nat) : State :=
  match s.cRead (s.zone zk).slip 512 false with
  | (s, none) => s
  | (s, some bs) => (s.bufWrite (s.slotAddr cls slot) (bs ++ List.replicate 3584 0)).1

/-- A copy of a slip table queued as a write of class 0, or joined to the copy that still waits for its grant; none while
no slot or queue room is free. -/
def State.slipQueue (s : State) (zk c : Nat) : Option State :=
  match s.stm.sectors.find? fun x => x.slipOf == some (zk, c) && x.st == .queued with
  | some x => some (s.slipData zk x.cls x.slot)
  | none =>
    let pl := s.slipPlace zk c
    match (if s.queueRoom [pl.1] then s.lowSlot 0 else none) with
    | none => none
    | some k =>
      match s.slipMap (zoneKey pl.1 pl.2.1) pl.2.2 with
      | (_, none) => none
      | (s, some (p, _)) =>
        let (key, s) := s.fresh
        let x : Sector := {
          tag := s.stm.nextTag, op := 1, nsid := 0, lba := psaOf pl.1 pl.2.1 pl.2.2, copyB := c == 1, act := pl.1, zone := pl.2.1,
          p0 := pl.2.2, p := p, cls := 0, slot := k, data := true, order := s.stm.order, slipOf := some (zk, c),
          deadline := (s.tick + (s.rd Reg.STM_CLS_WDL 0 0).toNat) % 2 ^ 32, keySlot := key % 8192, flags := c * 128 }
        let s := (s.setSlot 0 k 1).slipData zk 0 k
        let s := { s with stm := { s.stm with
          sectors := s.stm.sectors ++ [x], nextTag := (s.stm.nextTag + 1) % 2 ^ 32, order := s.stm.order + 1 } }
        some ((s.noteAdmit pl.1).hdaWake (pl.1 / 2))

/-- The zones whose copies are due: a zone that finds room for both is done. -/
def State.slipWrites (s : State) : State :=
  s.stm.slipDue.foldl (fun s zk =>
    match (s.slipQueue zk 0).bind fun s => s.slipQueue zk 1 with
    | none => s
    | some s => { s with stm := { s.stm with slipDue := s.stm.slipDue.filter (· != zk) } }) s

/-! ## The boundary -/

/-- The rebinds and the map commit that take effect, and the effective windows of the open streams (R260, R270, R280). -/
def State.commits (s : State) : State :=
  let rs := s.stm.rebind
  let s := rs.foldl (fun s r => s.rebindNow r) { s with stm := { s.stm with rebind := [] } }
  let s := s.mapCommit
  s.stm.opened.foldl (fun s i => s.ctxUpd i s.winEff) s

/-- Counts that run over one epoch begin anew, and the leaky buckets leak (R307, R314, R316, R318). -/
def State.epochCounts (s : State) : State :=
  let s := { s with cch := { s.cch with ecc := [] } }
  (List.range s.nCh).foldl (fun s c =>
    let s := s.setFld Reg.BUFC_STAT_LB_COUNT c (s.fld Reg.BUFC_STAT_LB_COUNT c - s.fld Reg.BUF_LB_LEAK 0)
    s.setBc c { s.bc c with edc := 0, retired := 0 }) s

/-- Service begins, or Degraded ends (R437, R486). -/
def State.epochMode (s : State) : State :=
  if s.mode = modeQuiescent ∧ s.flag Reg.GLB_MODE_SVC_REQ 0 then
    (s.setFld Reg.GLB_MODE_SVC_REQ 0 0).setMode s.servingMode
  else if s.mode = modeDegraded ∧ ¬ s.degradedCond then s.setMode s.servingMode
  else s

/-- The boundary of the epoch that the count has reached, one for all that it skipped (R31, R471). -/
def State.boundary (s : State) : State :=
  let prev := s.stm.hwm
  let cur := s.epoch
  let s := { s with stm := { s.stm with hwm := cur } }.wr Reg.STM_EPOCH 0 0 (word cur)
  let s := (s.statistics prev).unitsJoin
  let s := ((List.range 64).filter fun i => (s.pe i).joining).foldl (fun s i => s.peerJoinNow i) s
  let s := (List.range s.nHda).foldl (fun s n => s.spnBoundary n prev cur) s
  let s := (s.commits.slipWrites.epochCounts.epochMode).seqEvents stewards 8
  (List.range s.nHda).foldl (fun s n => s.driveSettle n) s

/-- A boundary is due: the count has passed the highest count reached (R471). -/
def State.boundaryDue (s : State) : Bool := !s.glb.dormant && decide (s.stm.hwm < s.epoch)

/-- EPOCH_BOUNDARY (R31). -/
def execEpochBoundary (s : State) : Out := .next (if s.boundaryDue then s.boundary else s)

/-! ## The tick -/

/-- The holdover timer, counted in ticks here (R422, R448). -/
def State.holdTick (s : State) : State :=
  if s.flag Reg.CLK_REF_STAT_HOLD 0 then
    let t := s.clk.holdTicks + 1
    { s with clk := { s.clk with holdTicks := t } }.wr Reg.CLK_HOLD_MS 0 0 (word (min 65535 (t * 10 / 864)))
  else s

/-- The ticks of an actuator with a chosen stripe (R286). -/
def State.busyTick (s : State) : State :=
  (List.range s.nAct).foldl (fun s a =>
    let r := s.act a
    if r.stripe.isSome then s.setAct a { r with busy := r.busy + 1 } else s) s

/-- TIME_BASE_TICK (R31, R245, R468). -/
def execTimeBaseTick (s : State) : Out :=
  .next (
    if s.glb.dormant then s
    else
      let s := s.nextTick.holdTick.busyTick
      let s := (List.range s.nHda).foldl (fun s n => (s.spnTick n).idlePoll n) s
      s.psPoll)

end Sys2Proof.Machine
end

