-- ==== Sys2Proof/Machine/HeadLink.lean ====
section
/-!
DEFINITION. The commands of the head-link ports: bring-up, frames, blocks, acknowledgements, lane retrains, the safe
pattern, and the device words that address the companion (R35 to R66, R134 to R142, R398, R545).
-/

namespace Sys2Proof.Machine

/-! ## Bring-up and signal (R59, R62, R65) -/

/-- HLK_TRAIN (R59): a write of HLK_CTRL with TRAIN and EN set. -/
def execHlkTrain (n : Nat) (v : Word) (s : State) : Out := s.powered fun s =>
  .next (if n < s.nHda ∧ Reg.HLK_CTRL_TRAIN.get v = 1 ∧ Reg.HLK_CTRL_EN.get v = 1 then s.hlkCtrlWrite n v else s)

/-- FORCE_SAFE (R62): a write of HLK_CTRL with FORCE_SAFE set. -/
def execForceSafe (n : Nat) (v : Word) (s : State) : Out := s.powered fun s =>
  .next (if n < s.nHda ∧ Reg.HLK_CTRL_FORCE_SAFE.get v = 1 then s.hlkCtrlWrite n v else s)

/-- SIGNAL_DETECT (R59, R65): signal on an unfenced port that is enabled; bring-up goes on to Adapt. -/
def execSignalDetect (n : Nat) (s : State) : Out := s.powered fun s =>
  .next (
    if n < s.nHda ∧ s.flag Reg.HLK_CTRL_EN n ∧ ¬ s.fenced (srcHLK n) then
      if s.linkState n = linkOff then (s.bringUp n).linkTo n linkAdapt
      else if s.linkState n = linkDetect then s.linkTo n linkAdapt
      else s
    else s)

/-- BRING_UP_PHASE_END (R59): Adapt goes to Lock with all eight lanes; Lock to Up once every receive lane is aligned and a
STATUS block has come. -/
def execBringUpPhaseEnd (n : Nat) (s : State) : Out := s.powered fun s =>
  .next (
    if ¬ n < s.nHda ∨ s.flag Reg.HLK_STAT_SAFE n then s
    else if s.linkState n = linkAdapt then
      ((s.linkTo n linkLock).setFld Reg.HLK_STAT_RX_LANES n 0xFF).setFld Reg.HLK_STAT_TX_LANES n 0xFF
    else if s.linkState n = linkLock ∧ (s.hl n).aligned = 0xFF ∧ (s.hl n).statusSeen then
      let s := (s.linkTo n linkUp).setFld Reg.HLK_CTRL_TRAIN n 0
      let s := s.setHl n { s.hl n with attempts := 0 }
      (s.identity n).spnPortUp n
    else s)

/-- BRING_UP_TIMEOUT (R59): Adapt or Lock overruns; the eighth failed attempt is the contained fault. -/
def execBringUpTimeout (n : Nat) (s : State) : Out := s.powered fun s =>
  .next (
    if n < s.nHda ∧ (s.linkState n = linkAdapt ∨ s.linkState n = linkLock) then
      let k := (s.hl n).attempts + 1
      let s := s.portDown n linkDetect
      let s := s.setHl n { s.hl n with attempts := if k < 8 then k else 0 }
      if k < 8 then s else (s.setFld Reg.HLK_CTRL_TRAIN n 0).hlkFault n 2
    else s)

/-- SIGNAL_LOSS (R65): every receive lane of an Up port loses signal. -/
def execSignalLoss (n : Nat) (s : State) : Out := s.powered fun s =>
  .next (if n < s.nHda ∧ (s.linkState n = linkUp ∨ s.linkState n = linkUp7) then s.hlkFault n 3 else s)

/-! ## Frames (R37 to R40, R60, R61) -/

/-- One receive lane of a frame: its alignment and the counts of the running window (R39, R60). -/
def State.rxLane (s : State) (n : Nat) (l : RxLane) : State :=
  let x := s.hl n
  let found := l.syms.headD 0 == marker l.lane
  let seen := if found then mget (fun _ => 0) x.laneSeen l.lane + 1 else 0
  let miss := if found then 0 else mget (fun _ => 0) x.laneMiss l.lane + 1
  let al := if 4 ≤ seen then setBit x.aligned l.lane true else if 4 ≤ miss then setBit x.aligned l.lane false else x.aligned
  let unc := mget (fun _ => 0) x.winUnc l.lane + bit01 (!l.ok)
  let corr := mget (fun _ => 0) x.winCorr l.lane + l.corr
  let s := s.setHl n { x with
    laneSeen := mset (fun _ => 0) x.laneSeen l.lane (min 4 seen), laneMiss := mset (fun _ => 0) x.laneMiss l.lane (min 4 miss)
    aligned := al, winUnc := mset (fun _ => 0) x.winUnc l.lane unc, winCorr := mset (fun _ => 0) x.winCorr l.lane corr }
  let up := s.linkState n == linkUp || s.linkState n == linkUp7
  if up && (decide (4 < unc) || decide ((s.rd Reg.HLK_RETRAIN_TH n 0).toNat < corr)) then
    let x := s.hl n
    (s.setHl n { x with winUnc := mset (fun _ => 0) x.winUnc l.lane 0, winCorr := mset (fun _ => 0) x.winCorr l.lane 0 }).laneFails
      n 0 l.lane
  else s

/-- The window of 2^20 frames ends: its counts go to the lane status registers (R60, R66). -/
def State.windowEnd (s : State) (n : Nat) : State :=
  let x := s.hl n
  if x.winFrames < 2 ^ 20 then s
  else
    let s := (List.range 8).foldl (fun s l =>
      (s.setFldJ Reg.HLK_LSTAT_CORR n l (min 65535 (mget (fun _ => 0) x.winCorr l))).setFldJ Reg.HLK_LSTAT_UNC n l
        (min 255 (mget (fun _ => 0) x.winUnc l))) s
    s.setHl n { s.hl n with winFrames := 0, winUnc := [], winCorr := [] }

/-- RECEIVE_FRAME (R37 to R40): a frame on the port's active receive lanes. -/
def execReceiveFrame (n : Nat) (f : RxFrame) (s : State) : Out := s.powered fun s =>
  .next (
    let st := s.linkState n
    if ¬ n < s.nHda ∨ ¬ (st = linkLock ∨ st = linkUp ∨ st = linkUp7)
      ∨ f.lanes.map RxLane.lane ≠ setBitsList (s.fld Reg.HLK_STAT_RX_LANES n) 8 then s
    else
      let s := s.setHl n { s.hl n with winFrames := (s.hl n).winFrames + 1 }
      let s := f.lanes.foldl (fun s l => s.rxLane n l) s
      let s := s.windowEnd n
      if s.linkState n ≠ st then s
      else
        let whole := f.lanes.all fun l => l.ok && bitOf (s.hl n).aligned l.lane
        match (if whole then frameParse f else none) with
        | none => s.bump Reg.HLK_CNT_BAD n 1
        | some bs =>
          bs.foldl (fun s b =>
            let t := blkByte b 0
            if t = 0 then s
            else if t = 1 ∨ t = 2 ∨ t = 3 then s.setHl n { s.hl n with rxq := (s.hl n).rxq ++ [b] }
            else s.bump Reg.HLK_CNT_BLK n 1) s)

/-- SAMPLE (R42 to R45). -/
def execSample (n : Nat) (s : State) : Out := s.powered fun s =>
  .next (match s.rxBlock n 1 with | some b => (s.rxDrop n).takeSample n b | none => s)

/-- SPINDLE_RPT (R46, R233, R236). -/
def execSpindleRpt (n : Nat) (s : State) : Out := s.powered fun s =>
  .next (match s.rxBlock n 2 with
    | some b =>
      let s := s.rxDrop n
      (s.spinEvents n b).foldl (fun s e =>
        let s := s.setSpn n { s.spnS n with linkNow := e.1 }
        match e.2 with
        | .inl c => s.spnShunt n c e.1
        | .inr (ph, r) => if ph < 3 then s.spnEdge n { phase := ph, rising := r, t := e.1 } else s) s
    | none => s)

/-- STATUS (R47). -/
def execStatus (n : Nat) (s : State) : Out := s.powered fun s =>
  .next (match s.rxBlock n 3 with | some b => (s.rxDrop n).takeStatus n b | none => s)

/-- LANE_MAPs whose frame this is switch the lanes; a lane that leaves starts its training (R51, R60). -/
def State.applyMaps (s : State) (n : Nat) : State :=
  let f := (s.hl n).frame
  let now := (s.hl n).laneMaps.filter fun m => m.frame == f
  let s := s.setHl n { s.hl n with laneMaps := (s.hl n).laneMaps.filter fun m => m.frame != f }
  now.foldl (fun s m =>
    let was := (s.dirLanes n 0, s.dirLanes n 1)
    let s := (s.setFld Reg.HLK_STAT_RX_LANES n m.rx).setFld Reg.HLK_STAT_TX_LANES n m.tx
    let s := s.setFld Reg.HLK_STAT_LINK_STATE n (if m.rx = 0xFF ∧ m.tx = 0xFF then linkUp else linkUp7)
    (s.hl n).retrain.foldl (fun s r =>
      let left := bitOf (if r.dir = 0 then was.1 else was.2) r.lane && !bitOf (if r.dir = 0 then m.rx else m.tx) r.lane
      if left then s.sendCmd n 4 (configBlock 7 [BitVec.ofNat 8 r.lane, BitVec.ofNat 8 r.dir]) .link else s) s) s

/-- TRANSMIT_FRAME_START (R37, R38, R56, R140, R501): servo commands first, then the others, then WRITE blocks. -/
def execTransmitFrameStart (n : Nat) (s : State) : Out := s.powered fun s =>
  .next (
    let st := s.linkState n
    if ¬ n < s.nHda ∨ s.flag Reg.HLK_STAT_SAFE n ∨ ¬ (st = linkLock ∨ st = linkUp ∨ st = linkUp7) then s
    else
      let s := if st = linkLock then s else s.applyMaps n
      let lanes := setBitsList (s.fld Reg.HLK_STAT_TX_LANES n) 8
      let cap := frameBlocks lanes.length
      let x := s.hl n
      let due := x.cmds.filter LinkCmd.due
      let put := ((due.filter fun c => decide (c.cls ≤ 2)) ++ due.filter fun c => decide (2 < c.cls)).take cap
      let again := (put.filter fun c => decide (0 < c.sends)).length
      let cmds := x.cmds.map fun c => if put.contains c then { c with due := false, sends := c.sends + 1 } else c
      let w := (({ x with cmds := cmds } : HlkS).bindOpens).takeWrites (x.frame * 64 * 256) (cap - put.length)
      let bs := put.map LinkCmd.block ++ w.2
      let t : TxFrame := { seq := x.frame % 65536, lanes := s.fld Reg.HLK_STAT_TX_LANES n,
                           blocks := bs ++ List.replicate (cap - bs.length) idleBlock }
      (s.setHl n { w.1 with tx := some t, frame := (x.frame + 1) % 2 ^ 26 }).bump Reg.HLK_CNT_RETRY n again)

/-- ACK_WAIT_EXPIRY (R56, R58): the command goes again in the next frame, or with its third transmission the budget is
spent. -/
def execAckWaitExpiry (n cls cseq : Nat) (s : State) : Out := s.powered fun s =>
  .next (
    let x := s.hl n
    match x.cmds.find? fun c => c.cls == cls && c.cseq == cseq && decide (0 < c.sends) && !c.due with
    | none => s
    | some c =>
      if n < s.nHda then
        if 3 ≤ c.sends then s.hlkFault n 0
        else s.setHl n { x with cmds := x.cmds.map fun d => if d == c then { d with due := true } else d }
      else s)

/-! ## Lane retrains (R60) -/

/-- LANE_RETRAIN_GO (R60): a write of HLK_LANE with GO set. -/
def execLaneRetrainGo (n : Nat) (v : Word) (s : State) : Out := s.powered fun s =>
  .next (if n < s.nHda ∧ Reg.HLK_LANE_GO.get v = 1 ∧ ¬ s.flag Reg.HLK_LANE_GO n then s.hlkLaneWrite n v else s)

/-- The oldest retrain of a port whose lane has left its direction. -/
def State.retrainDue (s : State) (n : Nat) : Option LaneTrain :=
  (s.hl n).retrain.find? fun r => !bitOf (s.dirLanes n r.dir) r.lane

/-- The retrain is over, with a result for a request of the host. -/
def State.retrainDone (s : State) (n : Nat) (r : LaneTrain) (res : Nat) : State :=
  let s := s.setHl n { s.hl n with retrain := (s.hl n).retrain.erase r }
  if r.host then (s.setFld Reg.HLK_LANE_RESULT n res).setFld Reg.HLK_LANE_GO n 0 else s

/-- LANE_RETRAIN_END (R60): a second LANE_MAP restores the lane. -/
def execLaneRetrainEnd (n : Nat) (s : State) : Out := s.powered fun s =>
  .next (
    match s.retrainDue n with
    | none => s
    | some r =>
      let s := s.retrainDone n r 1
      let rx := s.dirNext n 0
      let tx := s.dirNext n 1
      if r.dir = 0 then s.sendLaneMap n (setBit rx r.lane true) tx else s.sendLaneMap n rx (setBit tx r.lane true))

/-- LANE_RETRAIN_TIMEOUT (R60): the direction stays on 7 lanes. -/
def execLaneRetrainTimeout (n : Nat) (s : State) : Out := s.powered fun s =>
  .next (
    match s.retrainDue n with
    | none => s
    | some r => (s.retrainDone n r 2).corrected (srcHLK n) 5)

/-! ## Device words (R51, R134, R139, R142, R398, R399) -/

/-- WRSEND (R134, R399): the WRITE blocks of the encoded sector in SLOT, in one burst or two. -/
def execWrsend (q : Nat) (s : State) : Out := s.powered fun s =>
  .next (s.plainWord q 0x4A fun s w =>
    if q < 32 ∧ w.dHead ≤ 9 then
      let n := q / 2
      let h := q % 2 * 10 + w.dHead
      let b := s.channelBits (s.encodedBits ((s.gr q w.dB).toNat % 1024))
      let k := (s.gr q w.dE).toNat % 65536
      let parts := if k = 0 then [b] else [b.take k, b.drop k].filter fun p => !p.isEmpty
      let bursts := parts.map fun p => ({ head := h, blocks := writeBlocks h p } : Burst)
      let s := s.setRF q false
      if s.canCommand n then
        let x := s.hl n
        s.setHl n ({ x with bursts := x.bursts ++ bursts } : HlkS).bindOpens
      else s
    else s.setRF q true)

/-- The operand bytes 4 to 19 of an HLCMD (R398). -/
def State.hlOps (s : State) (q : Nat) (w : Mw) : List Byte := (s.grs q w.dA 4).flatMap fun g => leBytes 4 g.toNat

/-- The subcommands that HLCMD allows. -/
def hlSubs : List Nat := [1, 2, 3, 4, 8]

/-- An HLCMD word of a subcommand: `f` acts and names the operand bytes, or the request is refused; a word whose
subcommand is not allowed is refused (R398). -/
def State.hlcmd (s : State) (q sub : Nat) (f : State → List Byte → Option (State × List Byte)) : State :=
  let k := (s.mw q).bits 54 47
  if s.canIssue q 0x49 && (k == sub || !hlSubs.contains k) then
    s.plainWord q 0x49 fun s w =>
      if k ≠ sub ∨ 32 ≤ q ∨ 9 < w.dHead then s.setRF q true
      else
        match f s (s.hlOps q w) with
        | none => s.setRF q true
        | some (s, ops) => (s.sendCmd (q / 2) 4 (configBlock sub ops) (.micro q sub)).setRF q false
  else s

/-- HLCMD_ADC_RATE (R51, R81). -/
def execHlcmdAdcRate (q : Nat) (s : State) : Out := s.powered fun s =>
  .next (s.hlcmd q 1 fun s ops =>
    let x := s.hl (q / 2)
    let n := beNat ((ops.drop 1).take 2)
    let s := if s.canCommand (q / 2) then
        s.setHl (q / 2) { x with adcNext := mset (fun _ => 4096) x.adcNext (q % 2) n } else s
    some (s, BitVec.ofNat 8 (q % 2) :: ops.tail))

/-- HLCMD_SOURCE (R51, R142). -/
def execHlcmdSource (q : Nat) (s : State) : Out := s.powered fun s =>
  .next (s.hlcmd q 2 fun s ops => some (s, BitVec.ofNat 8 (q % 2) :: ops.tail))

/-- A link head of the sequencer's actuator. -/
def ownHead (q h : Nat) : Bool := decide (q % 2 * 10 ≤ h) && decide (h < q % 2 * 10 + 10)

/-- HLCMD_WRITE_OPEN (R51, R139, R140). -/
def execHlcmdWriteOpen (q : Nat) (s : State) : Out := s.powered fun s =>
  .next (s.hlcmd q 3 fun s ops =>
    let h := (ops.headD 0).toNat
    if ownHead q h then
      let f (i k : Nat) : Nat := beNat ((ops.drop i).take k)
      let o : WriteOpen := { start := f 1 5, period := f 6 4, length := f 10 4 }
      some (if s.canCommand (q / 2) then s.pushOpen (q / 2) h o else s, ops)
    else none)

/-- HLCMD_WRITE_ABORT (R51): the head's bursts end. -/
def execHlcmdWriteAbort (q : Nat) (s : State) : Out := s.powered fun s =>
  .next (s.hlcmd q 4 fun s ops =>
    let h := (ops.headD 0).toNat
    if ownHead q h then
      let x := s.hl (q / 2)
      some (s.setHl (q / 2) { x with
        bursts := x.bursts.filter fun b => b.head != h
        opens := mset (fun _ => ([] : List WriteOpen)) x.opens h
          ((mget (fun _ => ([] : List WriteOpen)) x.opens h).map fun o => { o with used := true }) }, ops)
    else none)

/-- HLCMD_COMP_REG (R51, R136). -/
def execHlcmdCompReg (q : Nat) (s : State) : Out := s.powered fun s =>
  .next (s.hlcmd q 8 fun s ops => some (s, ops))

end Sys2Proof.Machine
end

