-- ==== Sys2Proof/Machine/HostAdmin.lean ====
section
/-!
DEFINITION. Meanings of the host port's resets and links, command fetch, and the admin commands but those of power and idle
policy (R357 to R387).
-/

namespace Sys2Proof.Machine

/-! ## Ports, links and resets (R357, R358, R360 to R362) -/

/-- PERST_ASSERT: the port's links go down and its controllers are reset (R360). -/
def execPerstAssert (p : Nat) (s : State) : Out :=
  .next (if p < 2 then
    let s := { s with hif := { s.hif with perstHigh := mset (fun _ => false) s.hif.perstHigh p false } }
    ((s.linkDown p 0).linkDown p 1).psApply
  else s)

/-- PERST_DEASSERT: HIF_PCFG takes effect (R358). -/
def execPerstDeassert (p : Nat) (s : State) : Out :=
  .next (if p < 2 ∧ ¬ mget (fun _ => false) s.hif.perstHigh p then
    { s with hif := { s.hif with
        perstHigh := mset (fun _ => false) s.hif.perstHigh p true
        applied := mset (fun _ => (0 : Word)) s.hif.applied p (s.rd Reg.HIF_PCFG p 0) } }
  else s)

/-- The lane counts to which a link can train (R357, R358). -/
def State.linkWidths (s : State) (p : Nat) : List Nat :=
  let all := if s.jd16 then [16, 8, 4] else [8, 4]
  if s.split p then all.drop 1 else all

/-- HOST_LINK_UP: the link trains where the port may, and waiting fault messages go out (R357, R358, R386, R422, R439). -/
def execHostLinkUp (p l gen width : Nat) (flit : Bool) (s : State) : Out := s.powered fun s =>
  let w := s.pcfg p
  let ok := s.hasLink p l && mget (fun _ => false) s.hif.perstHigh p && Reg.HIF_PCFG_EN.get w == 1 && !s.linkIsUp p l
    && !s.hif.heldDown && s.mode != modeSealed && !s.glb.dormant && decide (1 ≤ gen) && decide (gen ≤ Reg.HIF_PCFG_MAXGEN.get w)
    && (s.linkWidths p).contains width && (flit || gen != 6)
  .next (if ok then
    let s := s.setLstat p l 1 gen width (bit01 flit)
    if s.flag Reg.GLB_MODE_WIPING 0 then s else s.fpendSend p l
  else s)

/-- HOT_RESET: a reset of the link's controller (R360, R361). -/
def execHotReset (p l : Nat) (s : State) : Out := s.powered fun s => .next (if s.hasLink p l && s.linkIsUp p l then (s.ctrlReset p l).psApply else s)

/-- FUNCTION_LEVEL_RESET: a reset of the function's controller (R360, R361). -/
def execFunctionLevelReset (p l : Nat) (s : State) : Out := s.powered fun s =>
  .next (if s.hasLink p l && s.linkIsUp p l then (s.ctrlReset p l).psApply else s)

/-- CONTROLLER_RESET: CC.EN is cleared (R360, R361). -/
def execControllerReset (p l : Nat) (s : State) : Out := s.powered fun s =>
  .next (if s.hasLink p l && s.ctrlOn p l then (s.ctrlReset p l).psApply else s)

/-- SHUTDOWN: normal or abrupt, by CC.SHN; it occurs until every write that the controller fetched is durable (R362). -/
def execShutdown (p l shn : Nat) (s : State) : Out := s.powered fun s =>
  .next (if s.hasLink p l && s.ctrlOn p l && (shn == 1 || shn == 2) && (s.ctrl p l).shst == 0 then
    s.setCtrl p l { s.ctrl p l with shst := 1 } else s)

/-- Writes that a controller fetched and that are neither durable nor failed. -/
def State.ctrlWrites (s : State) (p l : Nat) : Bool :=
  s.stm.sectors.any (fun x => x.op == 1 && x.ctrl == some (p * 2 + l))
    || s.cmds.any (fun x => x.1 == p && x.2.2.link == l && !x.2.2.admin && [0x01, 0x08, 0x7D, 0x83].contains x.2.2.opcode)

/-- SHUTDOWN_COMPLETE: CSTS.SHST reads 2 (R362). -/
def execShutdownComplete (p l : Nat) (s : State) : Out := s.powered fun s =>
  .next (if s.hasLink p l && (s.ctrl p l).shst == 1 && !s.ctrlWrites p l then s.setCtrl p l { s.ctrl p l with shst := 2 } else s)

/-! ## Doorbells and fetch (R367 to R369, R375) -/

/-- DOORBELL_WRITE: a new tail of a submission queue. The first one of a controller stands for CC.EN, for which the table
has no row (R367, R368). -/
def execDoorbellWrite (p l qid tail : Nat) (s : State) : Out := s.powered fun s =>
  .next (if s.hasLink p l && s.linkIsUp p l then
    let c := s.ctrl p l
    match c.subs.find? fun q => q.qid == qid with
    | some q =>
      if tail < q.size then
        (s.setCtrl p l { c with en := true, subs := c.subs.map fun x => if x.qid = qid then { x with tail := tail } else x }).psApply
      else s
    | none => s
  else s)

/-- The command is to wait for durability: Force Unit Access, or the write cache disabled (R21, R372). -/
def fuaOf (c : Ctrl) (admin : Bool) (sqe : List Word) : Bool :=
  let op := bitsOf (sqe.getD 0 0).toNat 7 0
  !admin && [0x01, 0x08, 0x7D, 0x83].contains op && (!c.vwc || bitOf (sqe.getD 12 0).toNat 30)

/-- COMMAND_FETCH: one entry of a queue takes a command slot and the next sequence number; with no free slot it waits
(R368, R369, R375). -/
def execCommandFetch (p l qid : Nat) (sqe : List Word) (prps : List Nat) (s : State) : Out := s.powered fun s =>
  let c := s.ctrl p l
  .next (if s.hasLink p l && s.ctrlOn p l then
    match c.subs.find? fun q => q.qid == qid with
    | none => s
    | some q =>
      if q.head = q.tail then s
      else
        match s.freeCmdSlot p with
        | none => s.bump Reg.HIF_CNT_SLOTW p 1
        | some k =>
          let c := { c with subs := c.subs.map (fun x => if x.qid = qid then { x with head := (x.head + 1) % x.size } else x)
                            ps := if c.ps = 3 then c.opPs else c.ps }
          let cmd : Cmd := {
            link := l, qid := qid, cid := bitsOf (sqe.getD 0 0).toNat 31 16, sqe := sqe, prps := prps, seqno := s.hif.seqno
            tick := s.tick, through := fuaOf c (qid == 0) sqe }
          let s := (s.setCtrl p l c).setCmd p k (some cmd)
          ({ s with hif := { s.hif with seqno := s.hif.seqno + 1 } }.bump Reg.HIF_CNT_FETCH p 1).psApply
  else s)

/-- INVALID_OPCODE: an opcode that the device does not support (R370). -/
def execInvalidOpcode (p slot : Nat) (s : State) : Out := s.powered fun s =>
  let io := [0x00, 0x01, 0x02, 0x08, 0x0C, 0x79, 0x7A, 0x7D, 0x81, 0x82, 0x83, 0x84, 0x85, 0x86, 0x87]
  let adm := [0x00, 0x01, 0x02, 0x04, 0x05, 0x06, 0x08, 0x09, 0x0A, 0x0C, 0x10, 0x11]
  .next (match s.cmd p slot with
    | some c =>
      let z := !c.admin && (s.nsd c.nsidField).zoned && c.opcode == 0x08
      let nz := !c.admin && !(s.nsd c.nsidField).zoned && (s.nsd c.nsidField).valid && [0x79, 0x7A, 0x7D].contains c.opcode
      if !c.begun && (!(if c.admin then adm else io).contains c.opcode || z || nz) then s.complete p slot scOpcode 0 else s
    | none => s)

/-- ABORT: it succeeds unless a chunk of the command's transfer has started (R371). -/
def execAbort (p slot : Nat) (s : State) : Out := s.powered fun s =>
  .next (s.onCmd p slot true [0x08] fun c =>
    let qid := bitsOf (c.cdw 10) 15 0
    let cid := bitsOf (c.cdw 10) 31 16
    match s.cmds.find? fun x => x.1 == p && x.2.2.link == c.link && x.2.2.qid == qid && x.2.2.cid == cid && x.2.1 != slot with
    | some x =>
      if x.2.2.moving then s.complete p slot scOk 1
      else
        let s := s.forgetCmd p x.2.1
        let s := (s.cmdSectors p x.2.1).foldl (fun s y => match s.sector y.tag with | some z => s.withdraw z | none => s) s
        let k := s.ctrl p c.link
        let s := s.setCtrl p c.link { k with aers := k.aers.filter (· != x.2.1) }
        ((s.complete p x.2.1 scAborted 0).bump Reg.HIF_CNT_ABORT p 1).complete p slot scOk 0
    | none => s.complete p slot scOk 1)

/-- ASYNCHRONOUS_EVENT_REQUEST: held until a notice comes; a waiting notice completes it at once (R364, R365). -/
def execAsynchronousEventRequest (p slot : Nat) (s : State) : Out := s.powered fun s =>
  .next (s.onCmd p slot true [0x0C] fun c =>
    let k := s.ctrl p c.link
    match k.notices with
    | i :: rest => (s.setCtrl p c.link { k with notices := rest }).complete p slot scOk i
    | [] =>
      if 8 ≤ k.aers.length then s.complete p slot 0x105 0
      else (s.setCtrl p c.link { k with aers := k.aers ++ [slot] }).setCmd p slot (some { c with begun := true }))

/-! ## Queues (R367) -/

/-- NUMBER_OF_QUEUES: up to 4,095 of each kind (R367). -/
def execNumberOfQueues (p slot : Nat) (s : State) : Out := s.powered fun s =>
  .next (s.onCmd p slot true [0x09, 0x0A] fun c =>
    if bitsOf (c.cdw 10) 7 0 ≠ 0x07 then s
    else if c.opcode = 0x0A then s.complete p slot scOk (4094 + 4094 * 2 ^ 16)
    else s.complete p slot scOk (min 4094 (bitsOf (c.cdw 11) 15 0) + min 4094 (bitsOf (c.cdw 11) 31 16) * 2 ^ 16))

/-- CREATE_IO_QUEUE: an I/O completion or submission queue (R367, R384). -/
def execCreateIoQueue (p slot : Nat) (s : State) : Out := s.powered fun s =>
  .next (s.onCmd p slot true [0x01, 0x05] fun c =>
    let k := s.ctrl p c.link
    let qid := bitsOf (c.cdw 10) 15 0
    let size := bitsOf (c.cdw 10) 31 16 + 1
    let bad := decide (qid = 0 ∨ 4095 < qid)
    if c.opcode = 0x05 then
      let vec := bitsOf (c.cdw 11) 31 16
      if bad || k.cmps.any (fun q => q.qid == qid) then s.complete p slot 0x101 0
      else if size < 2 then s.complete p slot 0x102 0
      else if (if s.split p then 1024 else 2048) ≤ vec then s.complete p slot 0x108 0
      else
        let q : CmpQ := { qid := qid, size := size, vector := vec, intr := bitOf (c.cdw 11) 1 }
        (s.setCtrl p c.link { k with cmps := k.cmps ++ [q] }).complete p slot scOk 0
    else
      let cq := bitsOf (c.cdw 11) 31 16
      if bad || k.subs.any (fun q => q.qid == qid) then s.complete p slot 0x101 0
      else if cq = 0 ∨ ¬ k.cmps.any (fun q => q.qid == cq) then s.complete p slot 0x100 0
      else if size < 2 then s.complete p slot 0x102 0
      else
        let q : SubQ := { qid := qid, cq := cq, size := size }
        (s.setCtrl p c.link { k with subs := k.subs ++ [q] }).complete p slot scOk 0)

/-- DELETE_IO_QUEUE: an I/O submission or completion queue; a submission queue's commands end as aborted (R367). -/
def execDeleteIoQueue (p slot : Nat) (s : State) : Out := s.powered fun s =>
  .next (s.onCmd p slot true [0x00, 0x04] fun c =>
    let k := s.ctrl p c.link
    let qid := bitsOf (c.cdw 10) 15 0
    if c.opcode = 0x04 then
      if qid = 0 ∨ ¬ k.cmps.any (fun q => q.qid == qid) then s.complete p slot 0x101 0
      else if k.subs.any (fun q => q.cq == qid) then s.complete p slot 0x10C 0
      else (s.setCtrl p c.link { k with cmps := k.cmps.filter fun q => q.qid != qid }).complete p slot scOk 0
    else
      if qid = 0 ∨ ¬ k.subs.any (fun q => q.qid == qid) then s.complete p slot 0x101 0
      else
        let mine := s.cmds.filter fun x => x.1 == p && x.2.2.link == c.link && x.2.2.qid == qid
        let s := mine.foldl (fun s x => s.withdrawCmd x.1 x.2.1) s
        let k := s.ctrl p c.link
        (s.setCtrl p c.link { k with subs := k.subs.filter fun q => q.qid != qid }).complete p slot scOk 0)

/-! ## Features (R372, R378) -/

/-- SET_VOLATILE_WRITE_CACHE, for commands fetched after it; a Get Features reads it (R372). -/
def execSetVolatileWriteCache (p slot : Nat) (s : State) : Out := s.powered fun s =>
  .next (s.onCmd p slot true [0x09, 0x0A] fun c =>
    let k := s.ctrl p c.link
    if bitsOf (c.cdw 10) 7 0 ≠ 0x06 then s
    else if c.opcode = 0x0A then s.complete p slot scOk (bit01 k.vwc)
    else (s.setCtrl p c.link { k with vwc := bitOf (c.cdw 11) 0 }).complete p slot scOk 0)

/-- The state of an HDA's policy as CDW11 lays it out (R378). -/
def State.idleWord (s : State) (n : Nat) : Nat := (s.idle n).en * 2 ^ 16 + (s.idle n).slowK * 2 ^ 8 + n

/-- GET_IDLE_POLICY of one HDA (R378). -/
def execGetIdlePolicy (p slot : Nat) (s : State) : Out := s.powered fun s =>
  .next (s.onCmd p slot true [0x0A] fun c =>
    let n := bitsOf (c.cdw 11) 7 0
    if bitsOf (c.cdw 10) 7 0 ≠ 0xC0 then s
    else if s.nHda ≤ n then s.complete p slot scField 0
    else s.complete p slot scOk (s.idleWord n))

/-- The timers of the enabled states rise strictly with depth (R378). -/
def timersRise (en u sl st : Nat) : Bool :=
  let l := (if en.testBit 0 then [u] else []) ++ (if en.testBit 1 then [sl] else []) ++ (if en.testBit 2 then [st] else [])
  decide (List.Pairwise (· < ·) l)

/-- SET_IDLE_POLICY of one HDA or of every one (R378). -/
def execSetIdlePolicy (p slot : Nat) (s : State) : Out := s.powered fun s =>
  .next (s.onCmd p slot true [0x09] fun c =>
    let w := c.cdw 11
    let n := bitsOf w 7 0
    let k := bitsOf w 14 8
    let en := bitsOf w 18 16
    let u := bitsOf (c.cdw 12) 15 0
    let sl := bitsOf (c.cdw 12) 31 16
    let st := bitsOf (c.cdw 13) 15 0
    if bitsOf (c.cdw 10) 7 0 ≠ 0xC0 then s
    else if bitsOf w 31 19 ≠ 0 ∨ bitOf w 15 ∨ bitsOf (c.cdw 13) 31 16 ≠ 0 ∨ k < 32 ∨ 64 < k ∨ ¬ (n < s.nHda ∨ n = 0xFF)
        ∨ ¬ timersRise en u sl st then s.complete p slot scField 0
    else
      let hs := if n = 0xFF then List.range s.nHda else [n]
      let s := hs.foldl (fun s h => s.setIdle h { s.idle h with en := en, slowK := k, unloadT := u, slowT := sl, stopT := st }) s
      s.complete p slot scOk 0)

/-! ## Identify, logs, firmware (R365, R366, R381 to R383, R440) -/

/-- CNTLID of a controller (R359). -/
def cntlid (p l : Nat) : Nat := 1 + 2 * p + l

/-- The Identify Controller data: the fields of R365 at the places of NVM Express 2.0 (log entry 53). -/
def State.identifyData (s : State) (p l : Nat) : List Byte :=
  let mn := if s.jd16 then "Streltan Jerin JD3216" else "Streltan Jerin JD1608"
  let mp := if s.jd16 then [24500, 17000, 11000, 2500] else [13500, 9500, 6000, 1500]
  let lat := [(0, 0), (61000000, 1000), (121000000, 2000), (30000000, 13000000)]
  let psd := ((List.range 4).map fun i =>
    leBytes 2 (mp.getD i 0) ++ [0, (if i = 3 then 2 else 0)] ++ leBytes 4 (lat.getD i (0, 0)).1 ++ leBytes 4 (lat.getD i (0, 0)).2
      ++ List.replicate 20 (0 : Byte)).flatten
  let subnqn := ascii "nqn.2031-03.net.streltan:jerin:" ++ s.fus.serial
  let fields : List (Nat × List Byte) := [
    (0, leBytes 2 Config.fusedVid), (2, leBytes 2 Config.fusedSsvid), (4, s.fus.serial), (24, padded 40 (ascii mn)),
    (64, hex8 (s.rd Reg.GLB_BOOTVER 0 0).toNat), (76, [0x0B]), (77, [9]), (78, leBytes 2 (cntlid p l)), (80, leBytes 4 0x00020000),
    (84, leBytes 4 13000000), (88, leBytes 4 30000000), (92, leBytes 4 0x900), (111, [1]), (256, leBytes 2 0x0004), (258, [3]),
    (259, [7]), (260, [0x14]), (261, [0x06]), (262, [255]), (263, [3]), (264, [1]), (265, [1]), (266, leBytes 2 358),
    (268, leBytes 2 373), (342, [10]), (343, [0x49]), (344, leBytes 4 128), (348, leBytes 4 128), (512, [0x66]), (513, [0x44]),
    (514, leBytes 2 4096), (516, leBytes 4 128), (520, leBytes 2 0x0088), (525, [0x07]), (768, subnqn), (2048, psd)]
  fields.foldl (fun b f => putField b f.1 f.2) (List.replicate 4096 0)

/-- IDENTIFY_CONTROLLER: CNS 1; a CNS that the spec does not name is an invalid field (R365). -/
def execIdentifyController (p slot : Nat) (s : State) : Out := s.powered fun s =>
  .next (s.onCmd p slot true [0x06] fun c =>
    let cns := bitsOf (c.cdw 10) 7 0
    if cns = 0 then s
    else if cns = 1 then s.completeData p slot (s.identifyData p c.link)
    else s.complete p slot scField 0)

/-- The Identify Namespace data: the fields of R366 and R363 at the places of NVM Express 2.0 (log entry 53). -/
def State.identifyNsData (s : State) (n : Nat) : List Byte :=
  let x := s.nsd n
  let cap := x.extents.foldl (fun t e => t + e.count) 0
  let npwa := if x.extents.all fun e => ((e.lba : Int) - (e.aP : Int)) % 10 == 0 then 9 else 0
  let fields : List (Nat × List Byte) := [
    (0, leBytes 8 x.size), (8, leBytes 8 cap), (16, leBytes 8 cap), (24, [0x10]), (25, [0]), (30, [1]), (64, leBytes 2 9),
    (66, leBytes 2 npwa), (92, leBytes 4 n), (130, [12])]
  fields.foldl (fun b f => putField b f.1 f.2) (List.replicate 4096 0)

/-- IDENTIFY_NAMESPACE: CNS 0; a namespace that is not VALID reports zeros (R366). -/
def execIdentifyNamespace (p slot : Nat) (s : State) : Out := s.powered fun s =>
  .next (s.onCmd p slot true [0x06] fun c =>
    let n := c.nsidField
    if bitsOf (c.cdw 10) 7 0 ≠ 0 then s
    else if n = 0 ∨ 128 < n then s.complete p slot scBadNs 0
    else s.completeData p slot (if (s.nsd n).valid then s.identifyNsData n else List.replicate 4096 0))

/-- HDA Status (R382). -/
def State.hdaLog (s : State) : List Byte :=
  ((List.range 16).map fun n =>
    if s.nHda ≤ n then List.replicate 32 (0 : Byte)
    else
      let x := s.idle n
      let exits (k d : Nat) : Nat := match x.exits.filter fun e => e.1 == k with
        | [] => d
        | l => l.foldl (fun m e => max m e.2) 0
      let ms := min (2 ^ 32 - 1) ((s.tick - x.last) * 1000 / 86400)
      [BitVec.ofNat 8 (s.hdaState n), BitVec.ofNat 8 x.state, BitVec.ofNat 8 (s.fld Reg.SPN_TARGET_K n),
       BitVec.ofNat 8 (if x.state = 0 ∧ x.waking = none then s.fld Reg.SPN_TARGET_K n else x.wakeK)] ++ leBytes 4 ms ++ leBytes 4 (exits 1 400) ++ leBytes 4 (exits 2 6400)
        ++ leBytes 4 (exits 3 12800) ++ leBytes 4 (min (2 ^ 32 - 1) x.entries) ++ List.replicate 8 0).flatten

/-- Media Error (R383). -/
def State.errLog (s : State) : List Byte :=
  let entry (e : MediaErr) : List Byte :=
    leBytes 8 e.seq ++ [BitVec.ofNat 8 e.cause, BitVec.ofNat 8 e.nsid, 0, 0] ++ leBytes 8 e.lba ++ leBytes 5 e.psa
      ++ [BitVec.ofNat 8 e.hda, 0, 0] ++ leBytes 4 e.epoch
  ((s.hif.errs.map entry).flatten ++ List.replicate 8192 0).take 8192

/-- Asymmetric Namespace Access: one descriptor per VALID namespace, in the layout of NVM Express 2.0, its change counts
free (R363, R364, log entry 53). -/
def State.anaLog (s : State) (r : Nat) : List Byte :=
  let ns := (List.range 129).filter fun n => (s.nsd n).valid
  leBytes 8 r ++ leBytes 2 ns.length ++ List.replicate 6 0
    ++ (ns.map fun n => leBytes 4 n ++ leBytes 4 1 ++ leBytes 8 (r / 2 ^ 64)
        ++ [BitVec.ofNat 8 (if s.ana n = 1 then 1 else 3)] ++ List.replicate 15 0 ++ leBytes 4 n).flatten

/-- SMART / Health: what R381 and R530 state, everything else free. -/
def State.smartLog (s : State) (r : Nat) : List Byte :=
  let b0 := setBit (setBit (r % 256) 2 (s.mode == modeDegraded)) 3 (s.rd Reg.STM_WFENCE 0 0 != 0)
  let b := leBytes 512 r
  putField (putField (putField b 0 [BitVec.ofNat 8 b0]) 1 (leBytes 2 (s.fld Reg.GLB_TEMP_COMP 0))) 160 (leBytes 16 s.hif.mediaErrors)

/-- A log page; what the spec does not state in it is free (R381 to R383). -/
def State.logPage (s : State) (lid : Nat) : Option (State × List Byte) :=
  let (r, t) := s.fresh
  if lid = 0xC0 then some (s, s.hdaLog)
  else if lid = 0xC1 then some (s, s.errLog)
  else if lid = 0x0C then some (t, t.anaLog r)
  else if lid = 0x02 then some (t, t.smartLog r)
  else if lid = 0x01 then some (t, leBytes 16384 r)
  else if lid = 0x03 then some (t, leBytes 512 r)
  else if lid = 0x04 ∨ lid = 0x05 then some (t, leBytes 4096 r)
  else none

/-- GET_LOG_PAGE: the dwords asked for of a supported page (R381 to R383). -/
def execGetLogPage (p slot : Nat) (s : State) : Out := s.powered fun s =>
  .next (s.onCmd p slot true [0x02] fun c =>
    match s.logPage (bitsOf (c.cdw 10) 7 0) with
    | none => s.complete p slot 0x109 0
    | some (s, bs) =>
      let n := (bitsOf (c.cdw 10) 31 16 + bitsOf (c.cdw 11) 15 0 * 2 ^ 16 + 1) * 4
      let o := c.cdw 12 + c.cdw 13 * 2 ^ 32
      s.completeData p slot ((bs.drop o).take n))

/-- FIRMWARE_DOWNLOAD: a part of an image staged at its dword offset (R365). -/
def execFirmwareDownload (p slot : Nat) (data : List Byte) (s : State) : Out := s.powered fun s =>
  .next (s.onCmd p slot true [0x11] fun c =>
    let o := c.cdw 11 * 4
    let n := (c.cdw 10 + 1) * 4
    if 0x01000000 < o + n then s.complete p slot scField 0
    else
      let keep := s.hif.fw.filter fun e => e.1 < o || o + n ≤ e.1
      let new := (List.range (min n data.length)).zip data |>.map fun e => (o + e.1, e.2)
      { s with hif := { s.hif with fw := keep ++ new } }.complete p slot scOk 0)

/-- COMMIT of an image slot of the flash, and whether it looks like an image (R440). -/
def State.slotCommit (s : State) (k : Nat) : Nat :=
  if s.flashNat (flashSlot k) 4 = 0x3144424A then s.flashNat (flashSlot k + 12) 4 else 0

/-- FIRMWARE_COMMIT: the staged image goes to a slot of the boot flash with COMMIT one above the other slot's (R365, R440).
Slot 0 leaves the choice to the device: the slot not in use. -/
def execFirmwareCommit (p slot : Nat) (s : State) : Out := s.powered fun s =>
  .next (s.onCmd p slot true [0x10] fun c =>
    let fs := bitsOf (c.cdw 10) 2 0
    let ca := bitsOf (c.cdw 10) 5 3
    let k := if fs = 0 then 1 - s.fld Reg.GLB_BOOT_SLOT 0 else fs - 1
    if 2 < fs then s.complete p slot 0x106 0
    else if 3 < ca then s.complete p slot scField 0
    else if ca ≠ 2 ∧ s.hif.fw = [] then s.complete p slot 0x107 0
    else
      let s := if ca = 2 then s
        else s.hif.fw.foldl (fun s e => s.putFlash (flashSlot k + e.1) [e.2]) s
      let s := s.putFlash (flashSlot k + 12) (leBytes 4 (s.slotCommit (1 - k) + 1))
      { s with hif := { s.hif with fw := [] } }.complete p slot scOk 0)

/-! ## Fault messages (R386) -/

/-- FAULT_MESSAGE: a block's fault interrupt has risen; one message goes out (R386). -/
def execFaultMessage (src : Nat) (s : State) : Out := s.powered fun s =>
  .next (if s.hasSrc src && s.fltHigh src && !s.hif.intr.contains src then
    { s with hif := { s.hif with intr := s.hif.intr ++ [src] } }.faultMsg src else s)

end Sys2Proof.Machine
end

