-- ==== Sys2Proof/Machine/Reports.lean ====
section
/-!
DEFINITION. What microcode asks of the stream engine: credits and reports of sector outcomes (R25, R144 to R153,
R158, R170, R171, R398, R402).
-/

namespace Sys2Proof.Machine

/-- CREDIT (R25, R398): one landing and one decoder credit, and the soft slot in g[A][9:0]; RF when none is free. -/
def execCredit (q : Nat) (s : State) : Out := s.powered fun s =>
  .next (s.plainWord q 0x4B fun s w =>
    if 32 ≤ q ∨ 9 < w.dHead then s.setRF q true
    else
      match s.takeCredits with
      | (s, some k) => (s.setGr q w.dA (word (putBits (s.gr q w.dA).toNat 9 0 k))).setRF q false
      | (s, none) => s.setRF q true)

/-- A REPORT word with a code: RF is cleared, and the sector of its TAG meets `f` (R402). The result of a sector that
nobody waits for any more is dropped. -/
def State.reportWord (s : State) (q code : Nat) (f : State → Sector → State) : State :=
  if s.canIssue q 0x4C && (s.mw q).bits 54 51 == code then
    s.plainWord q 0x4C fun s w =>
      if 32 ≤ q ∨ 9 < w.dHead then s.setRF q true
      else
        let s := s.setRF q false
        match s.sector (s.gr q w.dC).toNat with
        | none => s
        | some x => if x.dropped then (s.giveCredits x).discard x else f s x
  else s

/-- REPORT with a code that R402 does not name: refused. -/
def execReport (q : Nat) (s : State) : Out := s.powered fun s =>
  .next (
    if s.canIssue q 0x4C ∧ ¬ (1 ≤ (s.mw q).bits 54 51 ∧ (s.mw q).bits 54 51 ≤ 8) then
      s.plainWord q 0x4C fun s _ => s.setRF q true
    else s)

/-- REPORT VERIFIED (R144, R154, R158). -/
def execReportVerified (q : Nat) (s : State) : Out := s.powered fun s =>
  .next (s.reportWord q 1 fun s x =>
    if x.op ≠ 1 then s
    else
      match x.slipOf with
      | some (zk, c) => s.slipCopyDone x zk c
      | none =>
        let s := s.giveCredits x
        (s.setSector { x with verified := true, st := .served, soft := none, decCredit := false }).durableCheck x.tag)

/-- The rewrite-forwards that the write entry allows (R137). -/
def rfwdMax (ws : List Word) : Nat := bitsOf (ws.getD 3 0).toNat 15 8
def wretry (ws : List Word) : Nat := bitsOf (ws.getD 3 0).toNat 23 16

/-- REPORT VFAIL (R144, R152). -/
def execReportVfail (q : Nat) (s : State) : Out := s.powered fun s =>
  .next (s.reportWord q 2 fun s x =>
    if x.op ≠ 1 then s
    else
      let (s, ws) := (s.bump Reg.DEC_CNT_VFAIL 0 1).writeEntry x
      s.rewriteForward x (rfwdMax ws))

/-- The gates of a TAG on the heads of an actuator end with ABORT (R147). -/
def State.abortGates (s : State) (a tag : Nat) : State :=
  (List.range 10).foldl (fun s j =>
    let h := 10 * a + j
    let x := s.rc h
    let s := s.setRc h { x with queue := x.queue.filter fun g => g.tag != tag }
    let s := (x.queue.filter fun g => g.tag == tag).foldl (fun s g => s.refuseGate h 8 g) s
    let s := if x.live.any fun c => c.req.tag == tag then s.endCtx h false 8 else s
    s.rchStat h) s

/-- A sector of the zone on a higher cylinder has been granted (R147). -/
def State.higherGranted (s : State) (x : Sector) : Bool :=
  let zk := zoneKey x.act x.zone
  let z := s.zone zk
  (decide (0 < z.nextP) && decide (x.p < z.dataP) && decide (z.cyl x.p < z.cyl (z.nextP - 1)))
    || s.stm.sectors.any fun y =>
        y.tag != x.tag && y.given && !y.remote && zoneKey y.act y.zone == zk && decide (z.cyl x.p < z.cyl y.p)

/-- REPORT INTERRUPTED (R147): another try in place, or rewrite-forward. -/
def execReportInterrupted (q : Nat) (s : State) : Out := s.powered fun s =>
  .next (s.reportWord q 3 fun s x =>
    if x.op ≠ 1 then s
    else
      let s := s.abortGates x.act x.tag
      let x := (s.sector x.tag).getD x
      let (s, ws) := s.writeEntry x
      let here := !(s.zone (zoneKey x.act x.zone)).shingled || !s.higherGranted x
      if x.retries < wretry ws ∧ here then
        (s.giveCredits x).requeue { x with retries := x.retries + 1, late := false }
      else s.rewriteForward x (rfwdMax ws))

/-- REPORT UNDECIDED (R145): a late verify on a later pass. -/
def execReportUndecided (q : Nat) (s : State) : Out := s.powered fun s =>
  .next (s.reportWord q 4 fun s x =>
    if x.op ≠ 1 then s else ((s.bump Reg.DEC_CNT_VLATE 0 1).giveCredits x).requeue { x with late := true })

/-- REPORT REREAD (R402): the sector waits for another pass, granted anew. -/
def execReportReread (q : Nat) (s : State) : Out := s.powered fun s =>
  .next (s.reportWord q 5 fun s x => (s.giveCredits x).requeue x)

/-- Rung 9 of a read sector (R171). -/
def State.unrecovered (s : State) (x : Sector) : State :=
  (s.mediaError 0 x.nsid x.lba (psaOf x.act x.zone x.p) (x.act / 2)).readFailed x 0 scUnrecovered

/-- REPORT MIRROR (R170): the read goes to the other copy; with none that serves, it ends unrecovered. -/
def execReportMirror (q : Nat) (s : State) : Out := s.powered fun s =>
  .next (s.reportWord q 6 fun s x =>
    if x.op = 1 then s
    else if (s.otherCopy x false).isSome then s.moveCopy x
    else s.unrecovered x)

/-- REPORT UNRECOVERED (R171). -/
def execReportUnrecovered (q : Nat) (s : State) : Out := s.powered fun s =>
  .next (s.reportWord q 7 fun s x => if x.op = 1 then s else s.unrecovered x)

/-- REPORT MISSED (R29, R402): the sector stays queued for its next pass. -/
def execReportMissed (q : Nat) (s : State) : Out := s.powered fun s =>
  .next (s.reportWord q 8 fun s x => (s.giveCredits x).requeue x)

end Sys2Proof.Machine
end

