-- ==== Sys2Proof/Machine/Peers.lean ====
section
/-!
DEFINITION. Meanings of the peer commands: HELLO, mirror writes, peer reads, rebuilds, joining and leaving (R456 to R467).
-/

namespace Sys2Proof.Machine

/-- The device serves: Service, Maintenance or Degraded (R460). -/
def State.serving (s : State) : Bool := s.mode == modeService || s.mode == modeMaintenance || s.mode == modeDegraded

/-! ## Ports and HELLO (R456, R464) -/

/-- PEER_PORT_UP (R456): an enabled port whose PLL is locked trains; its port state is then Listening. -/
def execPeerPortUp (p : Nat) (s : State) : Out := s.powered fun s =>
  .next (
    let on := p < s.nPeerPort ∧ s.flag (if p = 0 then Reg.PFB_CFG_P0_EN else Reg.PFB_CFG_P1_EN) 0
    if s.glb.dormant ∨ ¬ on ∨ s.flag Reg.PFBP_PSTAT_UP p ∨ ¬ bitOf (s.fld Reg.CLK_PLL_STAT_LOCKED 0) (3 + p) then s
    else ((s.setFld Reg.PFBP_PSTAT_UP p 1).setFld Reg.PFBP_PSTAT_FEC p 1).setFld Reg.PFBP_PSTAT_PTP p 4)

/-- The entries of a port that name a peer. -/
def State.peersOf (s : State) (p : Nat) : List Nat :=
  (List.range 64).filter fun i =>
    s.fld Reg.PEER_CTL_PORT i == p && s.pair Reg.PEER_MAC_LO Reg.PEER_MAC_HI i 0 != 0

/-- The HELLO to an entry, without seal, IV and tag (R457, R458). -/
def State.helloFrame (s : State) (i : Nat) : PeerFrame :=
  let pl : List Byte := (s.fus.serial ++ List.replicate 20 0).take 20
    ++ [BitVec.ofNat 8 s.mode, BitVec.ofNat 8 (s.fld Reg.TB_STAT_STATE 0)]
    ++ beBytes 2 (s.fld Reg.PFB_CFG_RX_WIN 0) ++ beBytes 4 Config.peerCaps
  { dstMac := s.pair Reg.PEER_MAC_LO Reg.PEER_MAC_HI i 0, srcMac := s.pair Reg.PFB_MAC_LO Reg.PFB_MAC_HI 0 0,
    etype := s.fld Reg.PFB_CFG_ETYPE 0,
    header := peerHeader 0x01 0 (s.fld Reg.PEER_KGEN_KGEN i) s.unitAddr (s.fld Reg.PEER_CTL_UNIT i) 0 0 [] pl.length,
    payload := pl, tag := [] }

/-- HELLO_INTERVAL (R464): a HELLO to every peer of the port; a peer unheard in 3 intervals is no longer SEEN. -/
def execHelloInterval (p : Nat) (s : State) : Out := s.powered fun s =>
  .next (
    if s.glb.dormant ∨ ¬ p < s.nPeerPort then s
    else
      (s.peersOf p).foldl (fun s i =>
        let x := s.pe i
        let n := x.quiet + 1
        let s := (s.setPe i { x with quiet := min 3 n }).peerOut p (s.helloFrame i)
        if s.peerState i = peerSeen ∧ 3 ≤ n then s.peerTo i peerDown else s) s)

/-- HELLO (R458, R464): the peer is heard, and its window counts from now on. -/
def execHello (p : Nat) (f : PeerFrame) (s : State) : Out := s.powered fun s =>
  .next (
    if !s.peerPortOn p || f.etype != s.fld Reg.PFB_CFG_ETYPE 0 || hdrNat f 1 1 != 0x01 then s
    else
      let s := s.bump Reg.PFBP_CNT_RX p 1
      match s.peerOfUnit (hdrNat f 4 2) with
      | none => s.peerDrop p
      | some i =>
        let s := s.setPe i { s.pe i with quiet := 0, rxWin := min 1024 (beNat ((f.payload.drop 22).take 2)) }
        let s := if s.peerState i = peerDown then s.peerTo i peerSeen else s
        s.peerPump i ((s.pe i).held.length + 1))

/-! ## Slots for a peer's work (R460) -/

/-- A slot of RXCLASS: from the peer's reserve, or else a free one. -/
def State.takeRx (s : State) (i : Nat) : Option (State × Nat) :=
  let c := s.fld Reg.PFB_CFG_RXCLASS 0
  let x := s.pe i
  if x.reserved = 0 ∧ s.freeSlots c = 0 then none
  else
    match s.lowSlot c with
    | none => none
    | some k => some ((s.setPe i { x with reserved := x.reserved - 1 }).setSlot c k 1, k)

/-- The local copies of an LBA that serve a read or a write. -/
def State.localCopies (s : State) (x : Ns) (e : Extent) (write : Bool) : List Bool :=
  (if x.mirror && !x.bRemote then [false, true] else [false]).filter fun b => s.copyOk x e b write

/-- Why a request of a peer for an LBA cannot be met: status 1 NOT_READY, 2 NO_NS, 3 FENCED; 0 when it can (R460, R461). -/
def State.peerRefusal (s : State) (nsid lba : Nat) (write : Bool) : Nat :=
  let x := s.nsd nsid
  if !s.serving then 1
  else if !x.valid then 2
  else
    match x.extent lba with
    | none => 2
    | some e => if s.localCopies x e write = [] then 3 else 0

/-! ## Mirror writes received (R460, R462) -/

/-- A new MWRITE with its block: refused, superseded, held, or discarded where no slot or queue room takes it. -/
def State.mwriteNew (s : State) (i pseq flags src : Nat) (t : List Byte) : Option State :=
  let nsid := beNat (t.take 1)
  let lba := beNat ((t.drop 2).take 8)
  let o := (beNat ((t.drop 10).take 3), src)
  let x := s.nsd nsid
  let r := s.peerRefusal nsid lba true
  if r ≠ 0 then some (s.mwack i pseq 2 r)
  else if (s.winner nsid lba false o).isSome then some ((s.mwack i pseq 1 0).mwack i pseq 2 5)
  else
    match x.extent lba, s.takeRx i with
    | some e, some (s, k) =>
      let cls := s.fld Reg.PFB_CFG_RXCLASS 0
      let copies := s.localCopies x e true
      let acts := copies.map fun b => (e.place b lba).1
      if !s.queueRoom acts then none
      else
        match s.bufWrite (s.slotAddr cls k) ((t.drop 32).take 4096) with
        | (s, false) => some ((s.setSlot cls k 0).mwack i pseq 2 4)
        | (s, true) =>
          let proto : Sector := {
            tag := 0, op := 1, nsid := nsid, lba := lba, copyB := false, act := 0, zone := 0, p0 := 0, p := 0, cls := cls,
            slot := k, data := true, deadline := (s.tick + (s.rd Reg.STM_CLS_WDL 0 cls).toNat) % 2 ^ 32, seqno := s.hif.seqno - 1,
            fua := bitOf flags 6, peer := some (i, pseq), origin := some o, mark := beNat ((t.drop 13).take 3),
            keySlot := x.keySlot }
          let order := s.stm.order
          match (s.staleAhead nsid lba).enqueueSectors proto x e copies with
          | (s, false) => some ((s.setSlot cls k 0).mwack i pseq 2 4)
          | (s, true) => some (((s.mergeWrites nsid lba order).wakeFor true acts).mwack i pseq 1 0)
    | _, _ => none

/-- MWRITE (R459, R460, R462). -/
def execMwrite (p : Nat) (f : PeerFrame) (s : State) : Out := s.powered fun s =>
  .next (
    match s.peerOpen p 0x10 f with
    | (s, none) => s
    | (s, some (i, t)) =>
      let q := hdrNat f 8 4
      match s.peerFresh i q with
      | (s', 0) =>
        match s'.mwriteNew i q (hdrNat f 2 1) (hdrNat f 4 2) t with
        | some s' => s'
        | none => s.peerDrop p
      | (s', 1) => s'
      | (s', _) => s'.peerDrop p)

/-- MWQUERY (R458, R460): the MWRITE's answer again; one that this receiver does not hold has failed. -/
def execMwquery (p : Nat) (f : PeerFrame) (s : State) : Out := s.powered fun s =>
  .next (
    match s.peerOpen p 0x12 f with
    | (s, none) => s
    | (s, some (i, _)) =>
      let q := hdrNat f 8 4
      match s.peerFresh i q with
      | (s, 0) =>
        let held := (s.pe i).seen.find? fun e => e.pseq == hdrNat f 12 4
        match held.bind PeerSeen.answer with
        | some (0x11, pl) => s.peerAnswer i 0x11 q pl
        | _ => s.mwack i q 2 4
      | (s, 1) => s
      | (s, _) => s.peerDrop p)

/-! ## Peer reads received (R461) -/

/-- A new PREAD: refused, answered from a write held here, queued on the local copy, or discarded without a slot. -/
def State.preadNew (s : State) (i pseq : Nat) (t : List Byte) : Option State :=
  let nsid := beNat (t.take 1)
  let lba := beNat ((t.drop 1).take 8)
  let x := s.nsd nsid
  let r := s.peerRefusal nsid lba false
  if r ≠ 0 then some (s.peerAnswer i 0x21 pseq [BitVec.ofNat 8 r])
  else
    match x.extent lba, s.takeRx i with
    | some e, some (s, k) =>
      let cls := s.fld Reg.PFB_CFG_RXCLASS 0
      let acts := (s.localCopies x e false).map fun b => (e.place b lba).1
      if !s.queueRoom acts then none
      else
        let proto : Sector := {
          tag := 0, op := 0, nsid := nsid, lba := lba, copyB := false, act := 0, zone := 0, p0 := 0, p := 0, cls := cls,
          slot := k, deadline := beNat ((t.drop 9).take 4), seqno := s.hif.seqno, peer := some (i, pseq), keySlot := x.keySlot }
        let s := (s.admitRead proto 0).wakeFor false acts
        let open_ := s.stm.sectors.any (fun y => y.peer == some (i, pseq))
          || (s.pe i).seen.any fun e => e.pseq == pseq && e.answer.isSome
        some (if open_ then s else s.peerAnswer i 0x21 pseq [4])
    | _, _ => none

/-- PREAD (R459, R461). -/
def execPread (p : Nat) (f : PeerFrame) (s : State) : Out := s.powered fun s =>
  .next (
    match s.peerOpen p 0x20 f with
    | (s, none) => s
    | (s, some (i, t)) =>
      let q := hdrNat f 8 4
      match s.peerFresh i q with
      | (s', 0) =>
        match s'.preadNew i q t with
        | some s' => s'
        | none => s.peerDrop p
      | (s', 1) => s'
      | (s', _) => s'.peerDrop p)

/-! ## Rebuilds (R467) -/

/-- The next LBA of a rebuild is read from the local copy, or the rebuild ends; an LBA that a write is about to reach on
both copies is skipped. -/
def State.rebuildNext (s : State) (i pseq : Nat) : State :=
  match (s.pe i).rebuild.find? fun j => j.pseq == pseq with
  | none => s
  | some j =>
    let busy (l : Nat) : Bool := s.stm.sectors.any fun y => y.op == 1 && y.nsid == j.nsid && y.lba == l && y.peer.isNone
    match ((List.range (min j.left (s.stm.sectors.length + 1))).map (j.lba + ·)).find? fun l => !busy l with
    | none => s.rebuildEnd i pseq 0
    | some l =>
      let j' := { j with lba := l + 1, left := j.left - (l + 1 - j.lba) }
      let x := s.nsd j.nsid
      let r := s.peerRefusal j.nsid l false
      if r ≠ 0 then s.rebuildEnd i pseq r
      else
        match x.extent l, s.takeRx i with
        | some e, some (s, k) =>
          let cls := s.fld Reg.PFB_CFG_RXCLASS 0
          let copies := (s.localCopies x e false).take 1
          let proto : Sector := {
            tag := 0, op := 3, nsid := j.nsid, lba := l, copyB := false, act := 0, zone := 0, p0 := 0, p := 0, cls := cls,
            slot := k, deadline := (s.tick + (s.rd Reg.STM_CLS_RDL 0 cls).toNat) % 2 ^ 32, seqno := s.hif.seqno,
            peer := some (i, pseq), keySlot := x.keySlot }
          let y := s.pe i
          let s := s.setPe i { y with rebuild := y.rebuild.map fun m => if m.pseq = pseq then j' else m }
          match s.enqueueSectors proto x e copies with
          | (s, false) => (s.setSlot cls k 0).rebuildEnd i pseq 4
          | (s, true) => s.wakeFor false (copies.map fun b => (e.place b l).1)
        | _, _ => s.rebuildEnd i pseq 4

/-- A block of a rebuild is held by the peer: it counts as sent, and the next one follows. -/
def State.rebuildHeld (s : State) (i pseq : Nat) : State :=
  let x := s.pe i
  (s.setPe i { x with rebuild := x.rebuild.map fun j => if j.pseq = pseq then { j with sent := j.sent + 1 } else j }).rebuildNext i
    pseq

/-- RBREQ (R458, R459, R467). -/
def execRbreq (p : Nat) (f : PeerFrame) (s : State) : Out := s.powered fun s =>
  .next (
    match s.peerOpen p 0x30 f with
    | (s, none) => s
    | (s, some (i, t)) =>
      let q := hdrNat f 8 4
      match s.peerFresh i q with
      | (s, 0) =>
        let j : RbJob := { pseq := q, nsid := beNat (t.take 1), lba := beNat ((t.drop 1).take 8), left := beNat ((t.drop 9).take 4) }
        let x := s.pe i
        let s := s.setPe i { x with rebuild := x.rebuild ++ [j] }
        let r := if !s.serving then 1 else if !(s.nsd j.nsid).valid then 2 else 0
        if r ≠ 0 then s.rebuildEnd i q r else s.rebuildNext i q
      | (s, 1) => s
      | (s, _) => s.peerDrop p)

/-- RBEND (R458, R459): the request that it answers is over. -/
def execRbend (p : Nat) (f : PeerFrame) (s : State) : Out := s.powered fun s =>
  .next (
    match s.peerOpen p 0x31 f with
    | (s, none) => s
    | (s, some (i, _)) =>
      if (s.pe i).reqs.any fun r => r.pseq == hdrNat f 12 4 && r.type == 0x30 then s.peerDoneReq i (hdrNat f 12 4) else s)

/-! ## Answers received (R459 to R461) -/

/-- The MWRITE that an MWACK answers: the request named by REF, or the one that a named MWQUERY asks after. -/
def PeerS.mwriteOf (x : PeerS) (ref : Nat) : Option PeerReq :=
  match x.reqs.find? fun r => r.pseq == ref with
  | none => none
  | some r => if r.type = 0x12 then x.reqs.find? fun q => q.pseq == r.ref && q.type == 0x10
      else if r.type = 0x10 then some r else none

/-- Stage 1 of an MWRITE: it is held there and no longer outstanding. -/
def State.mwStage1 (s : State) (i : Nat) (r : PeerReq) : State :=
  if r.stage1 then s
  else
    let x := s.pe i
    let s := s.setPe i { x with reqs := x.reqs.map fun q => if q.pseq = r.pseq then { q with stage1 := true } else q }
    let s := s.peerPump i (x.held.length + 1)
    if 2 ^ 32 ≤ r.tag then s.rebuildHeld i (r.tag - 2 ^ 32) else s

/-- Stage 2 of an MWRITE: OK and SUPERSEDED count as durable, every other status as a fenced copy (R460). -/
def State.mwStage2 (s : State) (i : Nat) (r : PeerReq) (status : Nat) : State :=
  let s := s.peerDoneReq i r.pseq
  if 2 ^ 32 ≤ r.tag then
    if r.stage1 then s
    else if status = 0 ∨ status = 5 then s.rebuildHeld i (r.tag - 2 ^ 32)
    else s.rebuildEnd i (r.tag - 2 ^ 32) status
  else
    match s.sector r.tag with
    | none => s
    | some x =>
      if !x.remote || x.op != 1 then s
      else if status = 0 ∨ status = 5 then s.writeEnds x true s.stm.sectors.length
      else s.remoteWriteLost x

/-- MWACK (R458, R460). -/
def execMwack (p : Nat) (f : PeerFrame) (s : State) : Out := s.powered fun s =>
  .next (
    match s.peerOpen p 0x11 f with
    | (s, none) => s
    | (s, some (i, t)) =>
      let ref := hdrNat f 12 4
      match (s.pe i).mwriteOf ref with
      | none => s
      | some r =>
        let s := if r.pseq = ref then s else s.peerDoneReq i ref
        let stage := beNat (t.take 1)
        let status := beNat ((t.drop 1).take 1)
        if stage = 1 ∧ status = 0 then s.mwStage1 i r
        else if stage = 1 ∨ stage = 2 then s.mwStage2 i r status
        else s)

/-- PRDATA (R458, R461): the block goes to the sector's slot; without one the copy could not be read, or does not serve. -/
def execPrdata (p : Nat) (f : PeerFrame) (s : State) : Out := s.powered fun s =>
  .next (
    match s.peerOpen p 0x21 f with
    | (s, none) => s
    | (s, some (i, t)) =>
      match (s.pe i).reqs.find? fun r => r.pseq == hdrNat f 12 4 && r.type == 0x20 with
      | none => s
      | some r =>
        let s := s.peerDoneReq i r.pseq
        match s.sector r.tag with
        | none => s
        | some x =>
          let status := beNat (t.take 1)
          if !x.remote || x.op = 1 then s
          else if x.dropped then s.discard x
          else if status = 0 then
            match s.bufWrite (s.slotAddr x.cls x.slot) ((t.drop 16).take 4096) with
            | (s, true) => s.readServed x
            | (s, false) => s.readFailed x 1 scPath
          else if status = 4 ∨ x.given then s.unrecovered x
          else s.moveCopy x)

/-! ## Timers and losses (R459, R460, R466) -/

/-- A peer is lost: the contained fault in the group of its port, whose reaction fences the entry (R466). -/
def State.peerGone (s : State) (i : Nat) : State := s.raise (srcPFB (s.fld Reg.PEER_CTL_PORT i)) 1 i false

/-- The entry carries sealed traffic. -/
def State.peerLive (s : State) (i : Nat) : Bool := s.peerState i == peerActive || s.peerState i == peerLeaving

/-- PEER_RETRANSMIT_TIMEOUT (R459, R466): the request goes out again under a new IV, at most 8 times in all. -/
def execPeerRetransmitTimeout (i : Nat) (pseq : Nat) (s : State) : Out := s.powered fun s =>
  .next (
    match (s.pe i).reqs.find? fun r => r.pseq == pseq && !r.stage1 with
    | none => s
    | some r =>
      if ¬ (i < 64 ∧ s.peerLive i) then s
      else if 8 ≤ r.sends then s.peerGone i
      else
        let x := s.pe i
        let s := s.setPe i { x with reqs := x.reqs.map fun q => if q.pseq = pseq then { q with sends := q.sends + 1 } else q }
        s.peerSeal i r.type r.flags r.pseq r.ref r.payload)

/-- DURABILITY_TIMEOUT (R460): an MWQUERY for an MWRITE between its stages. -/
def execDurabilityTimeout (i : Nat) (pseq : Nat) (s : State) : Out := s.powered fun s =>
  .next (
    let x := s.pe i
    let asked := (x.reqs ++ x.held).any fun r => r.type == 0x12 && r.ref == pseq
    match x.reqs.find? fun r => r.pseq == pseq && r.type == 0x10 && r.stage1 with
    | none => s
    | some r => if ¬ (i < 64 ∧ s.peerState i = peerActive) ∨ asked then s else s.peerRequest i 0x12 0 pseq r.tag [])

/-- PEER_LOST (R466): no HELLO within 3 intervals while sealed traffic runs. -/
def execPeerLost (i : Nat) (s : State) : Out := s.powered fun s =>
  .next (if i < 64 ∧ s.peerLive i ∧ 3 ≤ (s.pe i).quiet then s.peerGone i else s)

/-! ## Joining and leaving (R465) -/

/-- PEER_JOIN (R465): a write of word 0 of an entry with JOIN set. -/
def execPeerJoin (i : Nat) (v : Word) (s : State) : Out := s.powered fun s =>
  .next (if i < 64 ∧ Reg.PEER_CTL_JOIN.get v = 1 then s.peerCtlWrite i v else s)

/-- PEER_LEAVE (R465): a write of word 0 of an entry with LEAVE set. -/
def execPeerLeave (i : Nat) (v : Word) (s : State) : Out := s.powered fun s =>
  .next (if i < 64 ∧ Reg.PEER_CTL_LEAVE.get v = 1 then s.peerCtlWrite i v else s)

/-- LEAVE_END (R465): the last outstanding request has been answered, or the second has passed. -/
def execLeaveEnd (i : Nat) (s : State) : Out := s.powered fun s =>
  .next (if i < 64 ∧ s.peerState i = peerLeaving then s.leaveDone i else s)

end Sys2Proof.Machine
end

