-- ==== Sys2Proof/Machine/Power.lean ====
section
/-!
DEFINITION. Meanings of the power and idle commands (R374 to R377).
-/

namespace Sys2Proof.Machine

/-- IDLE_TIMER_EXPIRY (R376, R377): a deeper idle state; half-turn partners enter Slowed and Stopped together. -/
def execIdleTimerExpiry (n : Nat) (s : State) : Out := s.powered fun s =>
  .next (
    match (if n < s.nHda then s.idleDue n else none) with
    | none => s
    | some d =>
      let hs := s.idlePair n
      if d = 1 then (s.idleEnter n 1).driveSettle n
      else if hs.all fun h => s.idleDue h == some d then hs.foldl (fun s h => (s.idleEnter h d).driveSettle h) s
      else s)

/-- SET_POWER_STATE (R374): Set Features of feature 0x02; its state is applied and the command completes. -/
def execSetPowerState (p slot : Nat) (s : State) : Out := s.powered fun s =>
  .next (s.onCmd p slot true [0x09] fun c =>
    let ps := bitsOf (c.cdw 11) 4 0
    if bitsOf (c.cdw 10) 7 0 ≠ 2 then s
    else if 3 < ps then s.complete p slot scField 0
    else
      let k := s.ctrl p c.link
      let s := s.setCtrl p c.link { k with ps := ps, opPs := if ps < 3 then ps else k.opPs }
      s.psApply.complete p slot scOk 0)

/-- APST_TRANSITION (R375): a controller idle for its own commands goes to the non-operational state. -/
def execApstTransition (p l : Nat) (s : State) : Out := s.powered fun s =>
  .next (
    let k := s.ctrl p l
    let busy := s.cmds.any fun e => e.1 == p && e.2.2.link == l
    if s.ctrlOn p l ∧ k.ps < 3 ∧ ¬ busy then
      (s.setCtrl p l { k with opPs := k.ps, ps := 3 }).psApply
    else s)

end Sys2Proof.Machine
end

