-- ==== Sys2Proof/Machine/SeqArith.lean ====
section
/-!
DEFINITION. The arithmetic microwords (R395): each row is one word of its opcode, issued by the sequencer named.
-/

namespace Sys2Proof.Machine

/-- ADD: D := A + B; Z N C V. -/
def execAdd (q : Nat) (s : State) : Out := s.powered fun s =>
  .next (s.plainWord q 0x10 fun s w => s.putAll q w.aD (addFlags (s.gr q w.aA) (s.opB q w) 0))

/-- SUB: D := A − B; C is the borrow. -/
def execSub (q : Nat) (s : State) : Out := s.powered fun s =>
  .next (s.plainWord q 0x11 fun s w => s.putAll q w.aD (subFlags (s.gr q w.aA) (s.opB q w) 0))

/-- AND: bitwise; C and V cleared. -/
def execAnd (q : Nat) (s : State) : Out := s.powered fun s =>
  .next (s.plainWord q 0x12 fun s w => s.putLogic q w.aD (s.gr q w.aA &&& s.opB q w))

/-- OR: bitwise; C and V cleared. -/
def execOr (q : Nat) (s : State) : Out := s.powered fun s =>
  .next (s.plainWord q 0x13 fun s w => s.putLogic q w.aD (s.gr q w.aA ||| s.opB q w))

/-- XOR: bitwise; C and V cleared. -/
def execXor (q : Nat) (s : State) : Out := s.powered fun s =>
  .next (s.plainWord q 0x14 fun s w => s.putLogic q w.aD (s.gr q w.aA ^^^ s.opB q w))

/-- SHL: A shifted left by B[4:0]. -/
def execShl (q : Nat) (s : State) : Out := s.powered fun s =>
  .next (s.plainWord q 0x15 fun s w => s.putLogic q w.aD (s.gr q w.aA <<< ((s.opB q w).toNat % 32)))

/-- SHR: A shifted right by B[4:0], zeros entering. -/
def execShr (q : Nat) (s : State) : Out := s.powered fun s =>
  .next (s.plainWord q 0x16 fun s w => s.putLogic q w.aD (s.gr q w.aA >>> ((s.opB q w).toNat % 32)))

/-- SAR: A shifted right by B[4:0], the sign entering. -/
def execSar (q : Nat) (s : State) : Out := s.powered fun s =>
  .next (s.plainWord q 0x17 fun s w => s.putLogic q w.aD ((s.gr q w.aA).sshiftRight ((s.opB q w).toNat % 32)))

/-- MUL: the low 32 bits of the unsigned product; Z N. -/
def execMul (q : Nat) (s : State) : Out := s.powered fun s =>
  .next (s.plainWord q 0x18 fun s w => s.putZN q w.aD (word ((s.gr q w.aA).toNat * (s.opB q w).toNat)))

/-- MULHU: the high 32 bits of the unsigned product; Z N. -/
def execMulhu (q : Nat) (s : State) : Out := s.powered fun s =>
  .next (s.plainWord q 0x19 fun s w => s.putZN q w.aD (word ((s.gr q w.aA).toNat * (s.opB q w).toNat / 2 ^ 32)))

/-- ADC: D := A + B + C. -/
def execAdc (q : Nat) (s : State) : Out := s.powered fun s =>
  .next (s.plainWord q 0x1A fun s w =>
    s.putAll q w.aD (addFlags (s.gr q w.aA) (s.opB q w) (bit01 (s.fl q flC))))

/-- SBB: D := A − B − C; C is the borrow. -/
def execSbb (q : Nat) (s : State) : Out := s.powered fun s =>
  .next (s.plainWord q 0x1B fun s w =>
    s.putAll q w.aD (subFlags (s.gr q w.aA) (s.opB q w) (bit01 (s.fl q flC))))

/-- CMP: A − B, the result discarded. -/
def execCmp (q : Nat) (s : State) : Out := s.powered fun s =>
  .next (s.plainWord q 0x1C fun s w =>
    let x := subFlags (s.gr q w.aA) (s.opB q w) 0
    (s.flagsZN q x.1).flagsCV q x.2.1 x.2.2)

/-- TST: A AND B, the result discarded; Z N. -/
def execTst (q : Nat) (s : State) : Out := s.powered fun s =>
  .next (s.plainWord q 0x1D fun s w => s.flagsZN q (s.gr q w.aA &&& s.opB q w))

/-- BFX: bits of A from position IMM[4:0], width IMM[13:8], zero-extended. -/
def execBfx (q : Nat) (s : State) : Out := s.powered fun s =>
  .next (s.plainWord q 0x1E fun s w =>
    let lo := w.aImm % 32
    let n := w.aImm / 256 % 64
    s.putZN q w.aD (word ((s.gr q w.aA).toNat / 2 ^ lo % 2 ^ n)))

/-- BFI: bits IMM[4:0] upward of D, width IMM[13:8], take the low bits of A. -/
def execBfi (q : Nat) (s : State) : Out := s.powered fun s =>
  .next (s.plainWord q 0x1F fun s w =>
    let lo := w.aImm % 32
    let n := w.aImm / 256 % 64
    s.putZN q w.aD (word (if n = 0 then (s.gr q w.aD).toNat
      else putBits (s.gr q w.aD).toNat (lo + n - 1) lo (s.gr q w.aA).toNat)))

/-- MOVI: D := IMM. -/
def execMovi (q : Nat) (s : State) : Out := s.powered fun s =>
  .next (s.plainWord q 0x20 fun s w => s.putZN q w.aD (word w.aImm))

end Sys2Proof.Machine
end

