-- ==== Sys2Proof/Machine/Servo.lean ====
section
/-!
DEFINITION. Meanings of the servo commands (R168, R180 to R222).
-/

namespace Sys2Proof.Machine

/-! ## Windows and demodulation (R180 to R183, R201) -/

/-- SERVO_WINDOW_CLOSE (R183): the window closes without a SAM and the head's wedge is missed. -/
def execServoWindowClose (a j : Nat) (s : State) : Out := s.powered fun s =>
  .next (
    let x := s.sv a
    if a < s.nAct ∧ j < 10 ∧ s.windows a ∧ ¬ (x.head j).done then
      s.setSv a (x.setHead j { x.head j with done := true, found := false })
    else s)

/-- The early inhibit block of a head whose error exceeds WI_TH: codes and APPLY of the last block (R201). -/
def State.earlyInhibit (s : State) (a j : Nat) : State :=
  let x := s.sv a
  let h := x.head j
  let e := x.refOf x.c12 j - h.y
  let st := s.srvState a
  if h.found && h.ampOk && h.idOk && !h.gap && decide (s.fld Reg.SRV_THR1_WI_TH a < e.natAbs)
      && (st == srvSeeking || st == srvSettling || st == srvFollowing) then
    let s := (s.setSv a (x.setHead j { h with inh := true })).setFldJ Reg.SRV_HFLAG_INH a j 1
    (s.setFld Reg.SRV_STAT_INH a (s.sv a).inhStat).sendServo a x.apply
  else s

/-- HEAD_DEMODULATION_END (R181, R182, R201). -/
def execHeadDemodulationEnd (a j : Nat) (dem : Demod) (s : State) : Out := s.powered fun s =>
  .next (
    let x := s.sv a
    if a < s.nAct ∧ j < 10 ∧ s.windows a ∧ ¬ (x.head j).done then
      let (h, gm) := s.demod a j dem
      let s := s.setSv a (x.setHead j h)
      let s := if gm then s.bump Reg.SRV_CNT_GRAY a 1 else s
      s.earlyInhibit a j
    else s)

/-! ## Wedge-complete (R184 to R203) -/

/-- The wedge interval that the spindle speed predicts, in 1/256 sample (R205). -/
def State.predictedInterval (s : State) (a : Nat) : Rat :=
  let om : Rat := (((s.spnS (a / 2)).omegaM : Nat) : Rat) / 16777216
  let w : Rat := ((s.fld Reg.SRV_FIELD_WEDGES a : Nat) : Rat)
  if om * w = 0 then 0 else 46080 / (om * w) * (1250000000 / 86400) / s.tickPerSample a * 256

/-- The bookkeeping that ends every wedge: the next wedge's windows, a change of band, and an unload that waited for the
wedge (R206, R208, R211). -/
def State.wedgeEnd (s : State) (a : Nat) (valid : List Nat) : State :=
  let s := s.bump Reg.SRV_CNT_HMISS a (10 - valid.length)
  let s := s.nextWedge a valid
  let b := s.bandOf a
  let s := if (s.sv a).ints ≠ [] ∧ b ≠ s.fld Reg.SRV_STAT_BAND a then s.bandChange a b else s
  if (s.sv a).unloadReq then s.beginUnload a else s

/-- A wedge of the acquisition: with three heads at consecutive, parity-valid numbers in two successive wedges and the
expected interval, the comb seeks the park cylinder (R205). -/
def State.acquireWedge (s : State) (a : Nat) : State :=
  let x := s.sv a
  let cand := (List.range 10).filter fun j => (x.head j).found && (x.head j).idOk
  let p := s.predictedInterval a
  let again := cand.filter fun j =>
    let h := x.head j
    match h.lastSam, h.lastW with
    | some l, some _ => let d : Rat := (((h.samEnd : Int) - (l : Int) : Int) : Rat); decide (49 / 50 * p ≤ d) && decide (d ≤ 51 / 50 * p)
    | _, _ => false
  let won := decide (1 ≤ x.acq) && decide (3 ≤ again.length)
  let s := s.wedgeTimes a
  let s := s.setSv a { s.sv a with acq := if 3 ≤ cand.length then 1 else 0 }
  let s := s.wedgeEnd a cand
  let s := s.setSv a ((s.sv a).mapHeads fun _ h => { h with lastY := none })
  if won ∧ s.srvState a = srvAcquiring then
    let s := s.requestSeek a (s.fld Reg.SRV_PARK_CYL_CYL a) false none
    let y := s.sv a
    s.setSv a { y with vest := 0, acq := 0, seek := y.seek.map fun k => { k with long := true } }
  else s

/-- The seek's first wedge after its request: C is TARGET, and the mode is chosen from the distance to go (R197). -/
def State.seekFirst (s : State) (a : Nat) (v : List Nat) : State :=
  let x := s.sv a
  match x.seek with
  | none => s
  | some k =>
    if k.begun then s
    else
      let x := { x with target := k.target }
      let s := s.setSv a x
      let full : Int := (k.target : Int) * 4096
      let wsum : Rat := ((v.foldl (fun t j => t + x.weight j) 0 : Nat) : Rat)
      let d := qz 16 ((v.foldl (fun (t : Rat) j => t + ((x.weight j : Nat) : Rat) * (((x.refOf full j - (x.head j).y : Int)) : Rat)) 0) / wsum)
      let ym := qz 20 ((v.foldl (fun (t : Rat) j => t + (((x.head j).y : Int) : Rat)) 0) / ((v.length : Nat) : Rat))
      s.seekBegin a d ym

/-- The guard of a run is exceeded (R218). -/
def State.guardHit (s : State) (a : Nat) (r : InjRun) (valid : List Nat) (e : Nat → Int) (ebar : Int) : Bool :=
  let g := s.fld Reg.SRV_INJ_AMP_GUARD a
  if r.point = 1 ∨ r.point = 2 then valid.contains r.head && decide (g < (e r.head).natAbs)
  else decide (g < ebar.natAbs) || valid.any fun j => decide (g < (e j).natAbs)

/-- A run after this wedge: its sums and counts, and its end by a guard (R218 to R220). `ebar` is absent in a comb-missed
wedge, and `pts` are the sum and return points. -/
def State.injWedge (s : State) (a : Nat) (valid : List Nat) (e : Nat → Int) (ebar : Option Int) (pts : Int × Int)
    (clamp : Bool) : State :=
  match (s.sv a).inj with
  | none => s
  | some r =>
    let ok := if r.point = 1 ∨ r.point = 2 then valid.contains r.head && ebar.isSome else ebar.isSome
    let r' := s.injAdvance a r pts.1 pts.2 ok clamp
    let s := (s.setSv a { s.sv a with inj := some r' }).setFld Reg.SRV_INJ_STAT_WEDGES a r'.k
    match ebar with
    | some eb => if s.guardHit a r valid e eb then s.injStop a 3 else s
    | none => s

/-- A comb-missed wedge: the previous codes with every INH bit set, and the compensator's states hold (R203). -/
def State.combMissed (s : State) (a : Nat) (valid : List Nat) (e : Nat → Int) : State :=
  let x := s.sv a
  let s := s.bump Reg.SRV_CNT_CMISS a 1
  let s := s.setSv a { x with cmiss := x.cmiss + 1, ebar := none, seek := x.seek.map fun k => { k with wedges := k.wedges + 1 } }
  let s := (List.range 10).foldl (fun s j => s.readyCounts a j (valid.contains j) (e j)) s
  (s.injWedge a valid e none (0, 0) false).inhAll a

/-- The computation of a wedge whose comb is not missed (R189 to R202). -/
def State.combRun (s : State) (a : Nat) (v valid : List Nat) (e : Nat → Int) (d : Int) : State :=
  let s := s.setSv a { s.sv a with cmiss := 0 }
  let (s, ebar, r, clamp) := s.law a v valid e d
  let s := valid.foldl (fun s j => s.reach a j (e j - ebar)) s
  let s := (List.range 10).foldl (fun s j => s.readyCounts a j (valid.contains j) (e j)) s
  let x := s.sv a
  let pts : Int × Int := match x.inj with
    | some q =>
      if q.point = 1 then (e q.head - ebar + d, e q.head - ebar)
      else if q.point = 2 then
        let b := rnd (x.codes q.head ((x.head q.head).m + (x.head q.head).ff))
        (b + d, b)
      else if q.point = 3 then (ebar + d, ebar)
      else (r, r - d)
    | none => (0, 0)
  let s := s.injWedge a valid e (some ebar) pts clamp
  let s := s.setSv a { s.sv a with seek := (s.sv a).seek.map fun k => { k with wedges := k.wedges + 1 } }
  let s := s.seekAdvance a ebar
  let s := if s.seekReady a v then
      let parking := (s.sv a).parking
      let s := s.seekEnd a false
      if parking then s.startUnloadProfile a else s
    else s
  let far := s.srvState a == srvFollowing && decide (s.fld Reg.SRV_THR2_FE_LIM a < ebar.natAbs)
  let s := s.setSv a { s.sv a with feRun := far }
  let s := if valid.any fun j => decide (s.fld Reg.SRV_THR1_WI_TH a < (e j).natAbs) then s.bump Reg.SRV_CNT_INH a 1 else s
  s.inhibits a valid e

/-- A wedge of a comb that follows or seeks (R184 to R203). -/
def State.followWedge (s : State) (a : Nat) : State :=
  let valid := s.validHeads a
  let s := s.wedgeTimes a
  let (f, s) := s.fresh
  let s := s.setSv a { s.sv a with wtick := s.tick * 256 + f % 256 }
  let s := s.moveOffsets a
  let s := s.setSv a ((s.sv a).mapHeads fun j h => { h with bias := signed 16 (s.fldJ Reg.SRV_HBIAS_B a j) })
  let v := s.combV a valid
  let missed := v == [] || v.all fun j => (s.sv a).weight j == 0
  let s := if missed then s else s.seekFirst a v
  let s := if (s.sv a).inj.isSome ∧ s.hdaState (a / 2) ≠ hdaTracking then s.injStop a 4 else s
  let x := s.sv a
  let start := match x.inj with | some r => !r.begun | none => false
  let d := match x.inj with | some r => s.injValue a r | none => 0
  let s := s.setSv a { x with inj := x.inj.map fun r => { r with begun := true } }
  let e (j : Nat) : Int := x.refOf x.c12 j - (x.head j).y
  let s := if missed then s.combMissed a valid e else s.combRun a v valid e d
  let s := (s.headRegs a valid).capture a valid d (match (s.sv a).inj with | some r => r.a | none => 0) start
  let s := if s.srvState a = srvUnloaded ∨ (s.sv a).prof.isSome then s
    else
      let ap := (s.linkTimeOf a (s.sv a).wc + s.fld Reg.SRV_APPLY_DELAY a) % 2 ^ 32
      (s.setSv a { s.sv a with apply := ap }).sendServo a ap
  let s := (s.spnWedge a).seqEvent a 8
  s.wedgeEnd a valid

/-- WEDGE_COMPLETE (R184). -/
def execWedgeComplete (a : Nat) (s : State) : Out := s.powered fun s =>
  .next (
    if a < s.nAct ∧ s.windows a ∧ s.allDone a then
      let s := s.injStepEnd a
      (if s.srvState a = srvAcquiring then s.acquireWedge a else s.followWedge a).driveSettle (a / 2)
    else s)

/-! ## Seeks (R196 to R199) -/

/-- SEEK (R196, R398): refused while the engine neither follows nor seeks. -/
def execSeek (q : Nat) (s : State) : Out := s.powered fun s =>
  .next (s.plainWord q 0x45 fun s w =>
    let st := s.srvState q
    if q < 32 ∧ (st = srvFollowing ∨ st = srvSeeking ∨ st = srvSettling) then
      (s.requestSeek q ((s.gr q w.dA).toNat % 2 ^ 24) (w.bits 54 54 == 1) (some (q, w.bits 53 38))).setRF q false
    else s.setRF q true)

/-- SEEK_TIMEOUT (R199): the seek ends failed and the comb keeps following TARGET; a park seek goes on to the profile. -/
def execSeekTimeout (a : Nat) (s : State) : Out := s.powered fun s =>
  .next (
    match (s.sv a).seek with
    | some k =>
      if a < s.nAct ∧ s.fld Reg.SRV_FE_SEEK_MAX a ≤ k.wedges then
        let parking := (s.sv a).parking
        let s := s.seekEnd a true
        (if parking then s.startUnloadProfile a else s).driveSettle (a / 2)
      else s
    | none => s)

/-! ## Supervision (R202, R203) -/

/-- FOLLOWING_ERROR_TIMEOUT (R202). -/
def execFollowingErrorTimeout (a : Nat) (s : State) : Out := s.powered fun s =>
  .next (
    if a < s.nAct ∧ (s.sv a).feRun then
      ((s.setSv a { s.sv a with feRun := false }).srvFault a 0).driveSettle (a / 2)
    else s)

/-- SERVO_LOST (R203). -/
def execServoLost (a : Nat) (s : State) : Out := s.powered fun s =>
  .next (
    if a < s.nAct ∧ s.windows a ∧ s.fld Reg.SRV_THR2_MISS_MAX a ≤ (s.sv a).cmiss then
      ((s.setSv a { s.sv a with cmiss := 0 }).srvFault a 1).driveSettle (a / 2)
    else s)

/-! ## Load and unload (R205, R206) -/

/-- SERVO_LOAD (R205). -/
def execServoLoad (a : Nat) (v : Word) (s : State) : Out := s.powered fun s =>
  .next (if a < s.nAct ∧ Reg.SRV_CTRL_LOAD.get v = 1 then s.srvCtrlWrite a v else s)

/-- SERVO_UNLOAD (R206). -/
def execServoUnload (a : Nat) (v : Word) (s : State) : Out := s.powered fun s =>
  .next (if a < s.nAct ∧ Reg.SRV_CTRL_UNLOAD.get v = 1 then s.srvCtrlWrite a v else s)

/-- SERVO_ENGINE_DISABLE (R212). -/
def execServoEngineDisable (a : Nat) (v : Word) (s : State) : Out := s.powered fun s =>
  .next (if a < s.nAct ∧ Reg.SRV_CTRL_EN.get v = 0 then s.srvCtrlWrite a v else s)

/-- PROFILE_STEP_END (R205, R206): the next step, or the profile's end. A pause of R254 holds it. -/
def execProfileStepEnd (a : Nat) (s : State) : Out := s.powered fun s =>
  .next (
    match (s.sv a).prof with
    | some (load, k) =>
      if a < s.nAct ∧ ¬ (s.sv a).held then
        let p := s.profStep a load (k + 1)
        (if p.2 ≠ 0 then (s.setSv a { s.sv a with prof := some (load, k + 1) }).profileCode a p.1
         else if load then (s.setSv a { s.sv a with prof := none }).srvTo a srvAcquiring
         else s.unloadDone a).driveSettle (a / 2)
      else s
    | none => s)

/-- ACQUISITION_TIMEOUT (R205): the unload profile, and the fault "load failed". -/
def execAcquisitionTimeout (a : Nat) (s : State) : Out := s.powered fun s =>
  .next (
    if a < s.nAct ∧ s.srvState a = srvAcquiring then
      (((s.setFld Reg.SRV_CTRL_LOAD a 0).startUnloadProfile a).srvFault a 2).driveSettle (a / 2)
    else s)

/-! ## Coefficient sets (R210, R211) -/

/-- SERVO_SET_LOAD (R210). -/
def execServoSetLoad (a : Nat) (v : Word) (s : State) : Out := s.powered fun s =>
  .next (if a < s.nAct ∧ Reg.SRV_LOAD_GO.get v = 1 then s.srvLoadWrite a v else s)

/-- SERVO_SET_LOAD_END (R210, R211). -/
def execServoSetLoadEnd (a : Nat) (s : State) : Out := s.powered fun s =>
  .next (if a < s.nAct ∧ (s.sv a).load.isSome then ((s.setLoadEnd a).driveSettle (a / 2)).gateSettle else s)

/-- SERVO_SET_SWITCH (R210): at a wedge whose demodulation has not begun. -/
def execServoSetSwitch (a : Nat) (s : State) : Out := s.powered fun s =>
  .next (if a < s.nAct ∧ ((List.range 10).all fun j => !((s.sv a).head j).done) then s.setSwitch a else s)

/-! ## Injection and capture (R217 to R221) -/

/-- INJECTION_GO (R217). -/
def execInjectionGo (a : Nat) (v : Word) (s : State) : Out := s.powered fun s =>
  .next (if a < s.nAct ∧ Reg.SRV_INJ_CTRL_GO.get v = 1 then s.injCtrlWrite a v else s)

/-- INJECTION_STOP (R218). -/
def execInjectionStop (a : Nat) (v : Word) (s : State) : Out := s.powered fun s =>
  .next (if a < s.nAct ∧ Reg.SRV_INJ_CTRL_STOP.get v = 1 then s.injCtrlWrite a v else s)

/-- INJECTION_STEP_END (R220). -/
def execInjectionStepEnd (a : Nat) (s : State) : Out := s.powered fun s =>
  .next (if a < s.nAct then s.injStepEnd a else s)

/-- CAPTURE_ARM (R221). -/
def execCaptureArm (a : Nat) (v : Word) (s : State) : Out := s.powered fun s =>
  .next (if a < s.nAct ∧ Reg.SRV_CAP_CTRL_ARM.get v = 1 then s.capCtrlWrite a v else s)

/-- CAPTURE_END (R221). -/
def execCaptureEnd (a : Nat) (s : State) : Out := s.powered fun s =>
  .next (
    if a < s.nAct ∧ s.fld Reg.SRV_CAP_CTRL_STATE a = 2 ∧ s.fld Reg.SRV_CAP_CTRL_LEN a ≤ (s.sv a).cap then
      (s.setFld Reg.SRV_CAP_CTRL_STATE a 3).setFld Reg.SRV_CAP_CTRL_ARM a 0
    else s)

/-! ## Read offsets (R168, R398) -/

/-- OFFSET (R168, R398): refused above head 9, for an offset beyond ±64, and while the head has one. -/
def execOffset (q : Nat) (s : State) : Out := s.powered fun s =>
  .next (s.plainWord q 0x46 fun s w =>
    let j := w.dHead
    let o := signed 8 (w.bits 54 47)
    let h := (s.sv q).head j
    if q < 32 ∧ j ≤ 9 ∧ -64 ≤ o ∧ o ≤ 64 ∧ h.ofs = none then
      let r : OfsReq := { value := o, start := s.gPair q w.dA % 2 ^ 48, len := (s.gr q w.dB).toNat, stage := 0 }
      (s.setSv q ((s.sv q).setHead j { h with ofs := some r })).setRF q false
    else s.setRF q true)

end Sys2Proof.Machine
end

