-- ==== Sys2Proof/Machine/Spindle.lean ====
section
/-!
DEFINITION. Meanings of the spindle commands (R227 to R254).
-/

namespace Sys2Proof.Machine

/-! ## Starting (R237 to R242) -/

/-- SPINDLE_START (R230, R237). -/
def execSpindleStart (n : Nat) (v : Word) (s : State) : Out := s.powered fun s =>
  .next (if n < s.nHda ∧ Reg.SPN_CTRL_START.get v = 1 then (s.spnCtrlWrite n v).driveSettle n else s)

/-- Successive edges all run forward (R238). -/
def forwardEdges (es : List Edge) : Bool :=
  (es.zip (es.drop 1)).all fun p => edgeStep p.2.phase p.2.rising == (edgeStep p.1.phase p.1.rising + 1) % 6

/-- The intervals between successive edges, newest first. -/
def edgeIntervals (es : List Edge) : List Nat :=
  ((es.zip (es.drop 1)).map fun p => (linkDiff p.2.t p.1.t).toNat).reverse

/-- A catch on the fly: the loop closes at the speed of the edges, and the step after the last edge follows (R242). -/
def State.catchSpindle (s : State) (n : Nat) (es : List Edge) (last : Edge) : State :=
  let x := s.spnS n
  let s := s.setSpn n { x with ints := (edgeIntervals es).take 6, step := edgeStep last.phase last.rising, edges := [], brake := 0,
                               lastEdge := some last.t, edgeSeen := false, peak := 0, cut := false }
  (s.closeLoop n).commutate n last.t

/-- The decision at the end of the Listen window (R238). -/
def State.listenDecide (s : State) (n : Nat) : State :=
  let es := (s.spnS n).edges
  let mean : Rat := ((((edgeIntervals es).foldl (· + ·) 0 : Nat)) : Rat) / (((edgeIntervals es).length : Nat) : Rat)
  let fast := decide (((s.fld Reg.SPN_START2_HANDOVER n : Nat) : Rat) ≤ rpmOf (s.pp n) mean)
  if es.length ≤ 1 then s.align n
  else
    match es.getLast? with
    | some l =>
      if 4 ≤ es.length ∧ forwardEdges es ∧ fast then s.catchSpindle n es l
      else (s.setFld Reg.SPN_STAT_PHASE n 1).brakeShort n
    | none => s

/-- The end of a listen window of R239: at rest with at most one edge, else another interval of short brake. -/
def State.listenRest (s : State) (n : Nat) : State :=
  let x := s.spnS n
  if x.edges.length ≤ 1 then
    if s.hdaState n = hdaStarting then ((s.setFld Reg.SPN_STAT_PHASE n 2).setSpn n { x with brake := 4 }).shortBrake n
    else if x.why = 4 then s.spnRest n
    else (s.setSpn n { x with brake := 4 }).shortBrake n
  else s.brakeShort n

/-- LISTEN_WINDOW_END (R237 to R239). -/
def execListenWindowEnd (n : Nat) (s : State) : Out := s.powered fun s =>
  .next (
    let st := s.hdaState n
    if n < s.nHda then
      if st = hdaStarting ∧ s.fld Reg.SPN_STAT_PHASE n = 0 then (s.listenDecide n).driveSettle n
      else if (st = hdaStarting ∨ st = hdaBraking) ∧ (s.spnS n).brake = 3 then (s.listenRest n).driveSettle n
      else s
    else s)

/-- BRAKE_INTERVAL_END (R239): 200 ms of short brake are over, and a listen window opens. -/
def execBrakeIntervalEnd (n : Nat) (s : State) : Out := s.powered fun s =>
  .next (
    let st := s.hdaState n
    if n < s.nHda ∧ (st = hdaStarting ∨ st = hdaBraking) ∧ (s.spnS n).brake = 2 ∧ s.canCommand n then
      (s.setSpn n { s.spnS n with brake := 3 }).listen n
    else s)

/-- STILL_END (R237, R253). -/
def execStillEnd (n : Nat) (s : State) : Out := s.powered fun s =>
  .next (
    let st := s.hdaState n
    if n < s.nHda ∧ (s.spnS n).brake = 4 then
      if st = hdaStarting then s.align n
      else if st = hdaBraking then (s.spnRest n).driveSettle n
      else s
    else s)

/-- ALIGN_END (R237, R240): the blind ramp starts. -/
def execAlignEnd (n : Nat) (s : State) : Out := s.powered fun s =>
  .next (
    if n < s.nHda ∧ s.hdaState n = hdaStarting ∧ s.fld Reg.SPN_STAT_PHASE n = 3 then
      (s.setFld Reg.SPN_STAT_PHASE n 4).setSpn n { s.spnS n with blind := 0, blindOk := 0, edgeSeen := false, apply := s.linkNow n }
    else s)

/-- BLIND_RAMP_STEP (R240): the next step at its time, the handover, or a failed attempt. -/
def execBlindRampStep (n : Nat) (s : State) : Out := s.powered fun s =>
  .next (
    if n < s.nHda ∧ s.hdaState n = hdaStarting ∧ s.fld Reg.SPN_STAT_PHASE n = 4 then
      let x := s.spnS n
      let k := x.blind + 1
      let seen := x.edgeSeen
      let at' := (x.apply + (s.blindTime n k - s.blindTime n x.blind)) % 2 ^ 32
      let st := (s.fld Reg.SPN_START2_ALIGN_STEP n + k) % 6
      let s := s.setSpn n { x with blind := k, blindOk := if seen then x.blindOk else 0, miss := if seen then 0 else x.miss + 1,
                                   step := st, apply := at', edgeSeen := false, peak := 0 }
      let s := s.phaseStep n at' st (s.blindDuty n k)
      if s.blindReaches n k (s.fld Reg.SPN_START2_HANDOVER n) ∧ s.fld Reg.SPN_START2_HANDOVER_N n ≤ (s.spnS n).blindOk then
        s.closeLoop n
      else if s.blindReaches n k (2 * s.fld Reg.SPN_START2_HANDOVER n) then (s.attemptFailed n).driveSettle n
      else s
    else s)

/-- EDGE_WINDOW_CLOSE (R233, R243): a missed edge; the step commutates as if the edge had come at its prediction, and
MISS_N of them are a loss of synchronism. -/
def execEdgeWindowClose (n : Nat) (s : State) : Out := s.powered fun s =>
  .next (
    let x := s.spnS n
    if n < s.nHda ∧ x.closed ∧ ¬ x.edgeSeen ∧ s.windowOver n then
      let s := (s.setSpn n { x with miss := x.miss + 1 }).bump Reg.SPN_CNT_MISS n 1
      if s.fld Reg.SPN_OBS_MISS_N n ≤ x.miss + 1 then (s.syncLost n).driveSettle n
      else (s.commutate n (unsigned 32 ((x.apply : Int) + qz 38 (s.edgeWindow n).1))).driveSettle n
    else s)

/-! ## Stopping (R244, R253) -/

/-- UNLOAD_WAIT_EXPIRY (R244, R253): braking goes on with heads still loaded. -/
def execUnloadWaitExpiry (n : Nat) (s : State) : Out := s.powered fun s =>
  .next (
    let x := s.spnS n
    if n < s.nHda ∧ s.hdaState n = hdaBraking ∧ x.brake = 0 ∧ (x.why = 1 ∨ x.why = 2) then s.brakeOn n else s)

/-- SPINDLE_STOP (R253). -/
def execSpindleStop (n : Nat) (v : Word) (s : State) : Out := s.powered fun s =>
  .next (if n < s.nHda ∧ Reg.SPN_CTRL_STOP.get v = 1 then (s.spnCtrlWrite n v).driveSettle n else s)

/-- SPINDLE_ENABLE (R245, R256): a write of SPN_CTRL that changes EN. -/
def execSpindleEnable (n : Nat) (v : Word) (s : State) : Out := s.powered fun s =>
  .next (
    if n < s.nHda ∧ Reg.SPN_CTRL_EN.get v ≠ s.fld Reg.SPN_CTRL_EN n then (s.spnCtrlWrite n v).driveSettle n else s)

/-! ## Speed and phase (R227, R245, R251) -/

/-- SPN_TARGET (R227, R251). -/
def execSpnTarget (n : Nat) (v : Word) (s : State) : Out := s.powered fun s =>
  .next (if n < s.nHda then (s.spnTargetWrite n v).driveSettle n else s)

/-- RESYNC (R245). -/
def execResync (n : Nat) (v : Word) (s : State) : Out := s.powered fun s =>
  .next (if n < s.nHda ∧ Reg.SPN_CTRL_RESYNC.get v = 1 then (s.spnCtrlWrite n v).driveSettle n else s)

end Sys2Proof.Machine
end

