-- ==== Sys2Proof/Machine/TimeBase.lean ====
section
/-!
DEFINITION. Meanings of the PTP commands: the boundary clock and the time-base servo (R469 to R471).
-/

namespace Sys2Proof.Machine

def tbFree : Nat := 0
def tbValid : Nat := 1
def tbInvalid : Nat := 2

def State.ptp (s : State) (p : Nat) : PtpPort := mget (fun _ => ({} : PtpPort)) s.pfb.ports p
def State.setPtp (s : State) (p : Nat) (x : PtpPort) : State :=
  { s with pfb := { s.pfb with ports := mset (fun _ => ({} : PtpPort)) s.pfb.ports p x } }

/-- The PTP clock in nanoseconds. -/
def State.ptpTime (s : State) : Int := ((s.ptpSec * 1000000000 + s.ptpNs : Nat) : Int)

/-- The port takes PTP messages of its domain. -/
def State.ptpOn (s : State) (p : Nat) (m : PtpMsg) (type : Nat) : Bool :=
  !s.glb.dormant && s.peerPortOn p && m.type == type && m.domain == s.fld Reg.TB_CFG_DOMAIN 0

/-- The port is the slave port (R475). -/
def State.isSlave (s : State) (p : Nat) : Bool := s.fld Reg.TB_STAT_SLAVE 0 == p + 1

/-- A message goes out on a port. -/
def State.ptpSend (s : State) (p : Nat) (m : PtpMsg) : State :=
  { s with pfb := { s.pfb with ptpOut := (p, m) :: s.pfb.ptpOut } }

/-! ## The best master clock (R469; IEEE 1588-2019 Clause 9) -/

/-- The controller's own data set: priority1, class, accuracy unknown, variance unknown, priority2, identity, no steps. -/
def State.ownSet (s : State) : List Nat :=
  [s.fld Reg.TB_CFG_PRIO1 0, s.fld Reg.TB_CFG_CLASS 0, 0xFE, 0xFFFF, s.fld Reg.TB_CFG_PRIO2 0, Config.clockIdentity s.fus.serial, 0]

/-- The order of data sets: the first difference decides. -/
def setLess : List Nat → List Nat → Bool
  | a :: as, b :: bs => decide (a < b) || (a == b && setLess as bs)
  | _, _ => false

/-- TB_STAT.STATE taken, with its Attic record; while it is not VALID every spindle's lock state is FREE (R249, R470, R493). -/
def State.tbState (s : State) (st : Nat) : State :=
  if s.fld Reg.TB_STAT_STATE 0 = st then s
  else
    let s := (s.setFld Reg.TB_STAT_STATE 0 st)
    let s := s.atticEvent 9 [s.rd Reg.TB_STAT 0 0, s.rd Reg.TB_OFS 0 0, s.rd Reg.TB_TICK_LO 0 0, s.rd Reg.TB_TICK_HI 0 0]
    if st = tbValid then { s with pfb := { s.pfb with wasValid := true } }
    else (List.range s.nHda).foldl (fun s n => (s.setFld Reg.SPN_STAT_LOCK n 0).setSpn n { s.spnS n with lockRun := 0 }) s

/-- The states of the ports after an Announce: slave of the best master heard, or grandmaster, which is always VALID. -/
def State.elect (s : State) : State :=
  let own := s.ownSet
  let heard := (List.range s.nPeerPort).filterMap fun p => (s.ptp p).heard.map fun h => (p, h)
  let best := heard.foldl (fun (b : Option (Nat × List Nat)) x =>
    match b with | none => some x | some y => if setLess x.2 y.2 then some x else some y) none
  let may := !(decide (1 ≤ s.fld Reg.TB_CFG_CLASS 0) && decide (s.fld Reg.TB_CFG_CLASS 0 ≤ 127))
  match best with
  | none => s
  | some (b, h) =>
    if may && setLess h own then
      let s := (s.setFld Reg.TB_STAT_SLAVE 0 (b + 1)).setFld Reg.TB_STAT_GM 0 0
      (List.range s.nPeerPort).foldl (fun s p =>
        let same := (s.ptp p).heard.any fun g => g.take 6 == h.take 6
        let st := if p = b then 9 else if same then 7 else 6
        if s.flag Reg.PFBP_PSTAT_UP p then s.setFld Reg.PFBP_PSTAT_PTP p st else s) s
    else
      let s := (s.setFld Reg.TB_STAT_SLAVE 0 0).setFld Reg.TB_STAT_GM 0 1
      let s := (List.range s.nPeerPort).foldl (fun s p =>
        let worse := may || !((s.ptp p).heard.any fun g => setLess g own)
        if s.flag Reg.PFBP_PSTAT_UP p then s.setFld Reg.PFBP_PSTAT_PTP p (if worse then 6 else 7) else s) s
      s.tbState tbValid

/-- PTP_ANNOUNCE (R469). -/
def execPtpAnnounce (p : Nat) (m : PtpMsg) (s : State) : Out :=
  .next (if s.ptpOn p m 0xB then (s.setPtp p { s.ptp p with heard := some m.gm }).elect else s)

/-! ## Offset and delay (R469) -/

/-- PTP_SYNC (R469): the slave port takes the arrival time of a two-step Sync. -/
def execPtpSync (p : Nat) (m : PtpMsg) (s : State) : Out :=
  .next (
    if s.ptpOn p m 0 && s.isSlave p then
      s.setPtp p { s.ptp p with seqId := m.seqId, t1 := none, t2 := some m.taken, t3 := none }
    else s)

/-! ## The servo (R470, R471) -/

/-- The clamp of 20 ppm of 6.4 ns, in 2^-32 ns (R468). -/
def adjMax : Int := 549755

/-- A step of the PTP clock by `d` ns: the reference angles move with the count, and a forward step that passes the highest
epoch count raises one boundary (R471). -/
def State.timeStep (s : State) (d : Int) : State :=
  let old := s.tick
  let t := (s.ptpTime + d) % (2 ^ 48 * 1000000000)
  let s := s.setClock (t / 1000000000).toNat (t % 1000000000).toNat
  let ticks : Int := (s.tick : Int) - (old : Int)
  let s := (List.range s.nHda).foldl (fun s n =>
    let x := s.spnS n
    let th : Int := ((x.theta : Int) + (x.omega : Int) * ticks) % (46080 * 2 ^ 32)
    s.setSpn n { x with theta := th.toNat }) s
  let s := s.setFld Reg.TB_STAT_STEPPED 0 1
  let s := s.atticEvent 9 [s.rd Reg.TB_STAT 0 0, s.rd Reg.TB_OFS 0 0, s.rd Reg.TB_TICK_LO 0 0, s.rd Reg.TB_TICK_HI 0 0]
  if s.boundaryDue then s.boundary else s

/-- The servo's adjustment for an offset. -/
def State.servoAct (s : State) (o : Int) : State :=
  let part (site : Nat) (e : Nat) : Int := qz site (((-o : Int) : Rat) / ((2 ^ e : Nat) : Rat))
  let a := part 60 (s.fld Reg.TB_SERVO_KP_E 0) + s.pfb.integ
  let i := s.pfb.integ + part 61 (s.fld Reg.TB_SERVO_KI_E 0)
  { s with pfb := { s.pfb with adj := max (-adjMax) (min adjMax a), integ := i } }

/-- The state of the time base after an offset (R470). -/
def State.tbJudge (s : State) (o : Int) : State :=
  let run := if o.natAbs ≤ s.fld Reg.TB_LIM_VALID_NS 0 then s.pfb.okRun + 1 else 0
  let s := { s with pfb := { s.pfb with okRun := min 8 run } }
  if 8 ≤ run then s.tbState tbValid
  else if s.fld Reg.TB_LIM_INVALID_NS 0 < o.natAbs ∧ s.pfb.wasValid then s.tbState tbInvalid
  else s

/-- PTP_FOLLOW_UP (R469 to R471): the offset is complete and the servo acts; the port then asks for its delay. -/
def execPtpFollowUp (p : Nat) (m : PtpMsg) (s : State) : Out :=
  .next (
    let x := s.ptp p
    match (if s.ptpOn p m 8 && s.isSlave p && m.seqId == x.seqId then x.t2 else none) with
    | none => s
    | some t2 =>
      let o := t2 - m.stamp - x.delay
      let (t3, s) := s.fresh
      let s := s.setPtp p { x with t1 := some m.stamp, t3 := some (t3 : Int) }
      let s := s.wr Reg.TB_OFS 0 0 (word (unsigned 32 o))
      let step := (s.fld Reg.TB_STAT_STATE 0 = tbFree ∨ s.flag Reg.TB_SERVO_STEP_ANY 0) ∧ s.fld Reg.TB_SERVO_STEP_TH 0 < o.natAbs
      let s := s.tbJudge o
      let s := if step then s.timeStep (-o) else s.servoAct o
      s.ptpSend p { type := 1, domain := m.domain, seqId := m.seqId, sender := Config.clockIdentity s.fus.serial, stamp := 0,
                    taken := 0, gm := [] })

/-- PTP_DELAY_REQ (R469): a master port answers with the request's arrival time. -/
def execPtpDelayReq (p : Nat) (m : PtpMsg) (s : State) : Out :=
  .next (
    if s.ptpOn p m 1 && s.fld Reg.PFBP_PSTAT_PTP p == 6 then
      s.ptpSend p { type := 9, domain := m.domain, seqId := m.seqId, sender := Config.clockIdentity s.fus.serial, stamp := m.taken,
                    taken := 0, gm := [] }
    else s)

/-- PTP_DELAY_RESP (R469): half of the two one-way times is the delay. -/
def execPtpDelayResp (p : Nat) (m : PtpMsg) (s : State) : Out :=
  .next (
    let x := s.ptp p
    if s.ptpOn p m 9 && s.isSlave p && m.seqId == x.seqId then
      match x.t1, x.t2, x.t3 with
      | some t1, some t2, some t3 =>
        s.setPtp p { x with delay := qz 62 ((((t2 - t1) + (m.stamp - t3) : Int) : Rat) / 2), t3 := none }
      | _, _, _ => s
    else s)

/-! ## Intervals -/

/-- SYNC_TIMEOUT (R470): 8 intervals without a Sync. -/
def execSyncTimeout (p : Nat) (s : State) : Out :=
  .next (
    if s.glb.dormant ∨ ¬ s.isSlave p ∨ ¬ s.pfb.wasValid then s
    else { s with pfb := { s.pfb with okRun := 0 } }.tbState tbInvalid)

/-- SYNC_INTERVAL (R469): a port that is neither slave nor passive sends Sync, Follow_Up and Announce. -/
def execSyncInterval (p : Nat) (s : State) : Out :=
  .next (
    let st := s.fld Reg.PFBP_PSTAT_PTP p
    if s.glb.dormant ∨ ¬ s.peerPortOn p ∨ st = 9 ∨ st = 7 then s
    else
      let x := s.ptp p
      let n := (x.seqId + 1) % 65536
      let (t, s) := s.fresh
      let id := Config.clockIdentity s.fus.serial
      let d := s.fld Reg.TB_CFG_DOMAIN 0
      let sl := s.fld Reg.TB_STAT_SLAVE 0
      let gm : List Nat := match (if sl = 0 then none else (s.ptp (sl - 1)).heard) with
        | some h => h.take 6 ++ [h.getD 6 0 + 1]
        | none => s.ownSet
      let s := s.setPtp p { x with seqId := n }
      let s := s.ptpSend p { type := 0, domain := d, seqId := n, sender := id, stamp := 0, taken := 0, gm := [] }
      let s := s.ptpSend p { type := 8, domain := d, seqId := n, sender := id, stamp := (t : Int), taken := 0, gm := [] }
      s.ptpSend p { type := 0xB, domain := d, seqId := n, sender := id, stamp := 0, taken := 0, gm := gm })

end Sys2Proof.Machine
end

