-- ==== Sys2Proof/Machine/Dispatch.lean ====
section
/-!
DEFINITION. One arm per command: a direct call of its meaning, or its refusal by name.
-/

namespace Sys2Proof.Machine

def exec (i : Instr) (s : State) : Host.Outcome State Fault Refusal :=
  match i with
  | .registerWrite ag addr v => Sys2Proof.Machine.execRegisterWrite ag addr v s
  | .readToClear ag addr events => Sys2Proof.Machine.execReadToClear ag addr events s
  | .lowerHalfRead ag addr => Sys2Proof.Machine.execLowerHalfRead ag addr s
  | .hlkTrain n v => Sys2Proof.Machine.execHlkTrain n v s
  | .bringUpPhaseEnd n => Sys2Proof.Machine.execBringUpPhaseEnd n s
  | .bringUpTimeout n => Sys2Proof.Machine.execBringUpTimeout n s
  | .receiveFrame n f => Sys2Proof.Machine.execReceiveFrame n f s
  | .sample n => Sys2Proof.Machine.execSample n s
  | .spindleRpt n => Sys2Proof.Machine.execSpindleRpt n s
  | .status n => Sys2Proof.Machine.execStatus n s
  | .ackWaitExpiry n cls cseq => Sys2Proof.Machine.execAckWaitExpiry n cls cseq s
  | .laneRetrainGo n v => Sys2Proof.Machine.execLaneRetrainGo n v s
  | .laneRetrainEnd n => Sys2Proof.Machine.execLaneRetrainEnd n s
  | .laneRetrainTimeout n => Sys2Proof.Machine.execLaneRetrainTimeout n s
  | .forceSafe n v => Sys2Proof.Machine.execForceSafe n v s
  | .signalLoss n => Sys2Proof.Machine.execSignalLoss n s
  | .signalDetect n => Sys2Proof.Machine.execSignalDetect n s
  | .gate q => Sys2Proof.Machine.execGate q s
  | .gateOpen h => Sys2Proof.Machine.execGateOpen h s
  | .gatePhaseChange h => Sys2Proof.Machine.execGatePhaseChange h s
  | .rawCapturePartial h => Sys2Proof.Machine.execRawCapturePartial h s
  | .gateEnd h replay => Sys2Proof.Machine.execGateEnd h replay s
  | .replay q => Sys2Proof.Machine.execReplay q s
  | .rchLoad h v => Sys2Proof.Machine.execRchLoad h v s
  | .bload q => Sys2Proof.Machine.execBload q s
  | .pipelineDisable h v => Sys2Proof.Machine.execPipelineDisable h v s
  | .cwreq q => Sys2Proof.Machine.execCwreq q s
  | .cwcan q => Sys2Proof.Machine.execCwcan q s
  | .encode q => Sys2Proof.Machine.execEncode q s
  | .encoderStart e => Sys2Proof.Machine.execEncoderStart e s
  | .encodeDone e => Sys2Proof.Machine.execEncodeDone e s
  | .decoderDispatch d => Sys2Proof.Machine.execDecoderDispatch d s
  | .codewordTaken d => Sys2Proof.Machine.execCodewordTaken d s
  | .decodeIterationEnd d => Sys2Proof.Machine.execDecodeIterationEnd d s
  | .storePlaceReserved d => Sys2Proof.Machine.execStorePlaceReserved d s
  | .decoderFenceWrite j v => Sys2Proof.Machine.execDecoderFenceWrite j v s
  | .decoderFault d => Sys2Proof.Machine.execDecoderFault d s
  | .wrsend q => Sys2Proof.Machine.execWrsend q s
  | .hlcmdAdcRate q => Sys2Proof.Machine.execHlcmdAdcRate q s
  | .hlcmdSource q => Sys2Proof.Machine.execHlcmdSource q s
  | .hlcmdWriteOpen q => Sys2Proof.Machine.execHlcmdWriteOpen q s
  | .hlcmdWriteAbort q => Sys2Proof.Machine.execHlcmdWriteAbort q s
  | .hlcmdCompReg q => Sys2Proof.Machine.execHlcmdCompReg q s
  | .credit q => Sys2Proof.Machine.execCredit q s
  | .reportVerified q => Sys2Proof.Machine.execReportVerified q s
  | .reportVfail q => Sys2Proof.Machine.execReportVfail q s
  | .reportInterrupted q => Sys2Proof.Machine.execReportInterrupted q s
  | .reportUndecided q => Sys2Proof.Machine.execReportUndecided q s
  | .reportReread q => Sys2Proof.Machine.execReportReread q s
  | .reportMirror q => Sys2Proof.Machine.execReportMirror q s
  | .reportUnrecovered q => Sys2Proof.Machine.execReportUnrecovered q s
  | .reportMissed q => Sys2Proof.Machine.execReportMissed q s
  | .writeFenceClear v => Sys2Proof.Machine.execWriteFenceClear v s
  | .flushCompletion p slot => Sys2Proof.Machine.execFlushCompletion p slot s
  | .pin q => Sys2Proof.Machine.execPin q s
  | .offset q => Sys2Proof.Machine.execOffset q s
  | .servoWindowClose a j => Sys2Proof.Machine.execServoWindowClose a j s
  | .headDemodulationEnd a j dem => Sys2Proof.Machine.execHeadDemodulationEnd a j dem s
  | .wedgeComplete a => Sys2Proof.Machine.execWedgeComplete a s
  | .seek q => Sys2Proof.Machine.execSeek q s
  | .seekTimeout a => Sys2Proof.Machine.execSeekTimeout a s
  | .followingErrorTimeout a => Sys2Proof.Machine.execFollowingErrorTimeout a s
  | .servoLost a => Sys2Proof.Machine.execServoLost a s
  | .servoLoad a v => Sys2Proof.Machine.execServoLoad a v s
  | .profileStepEnd a => Sys2Proof.Machine.execProfileStepEnd a s
  | .acquisitionTimeout a => Sys2Proof.Machine.execAcquisitionTimeout a s
  | .servoUnload a v => Sys2Proof.Machine.execServoUnload a v s
  | .servoSetLoad a v => Sys2Proof.Machine.execServoSetLoad a v s
  | .servoSetLoadEnd a => Sys2Proof.Machine.execServoSetLoadEnd a s
  | .servoSetSwitch a => Sys2Proof.Machine.execServoSetSwitch a s
  | .injectionGo a v => Sys2Proof.Machine.execInjectionGo a v s
  | .injectionStop a v => Sys2Proof.Machine.execInjectionStop a v s
  | .injectionStepEnd a => Sys2Proof.Machine.execInjectionStepEnd a s
  | .captureArm a v => Sys2Proof.Machine.execCaptureArm a v s
  | .captureEnd a => Sys2Proof.Machine.execCaptureEnd a s
  | .spindleStart n v => Sys2Proof.Machine.execSpindleStart n v s
  | .listenWindowEnd n => Sys2Proof.Machine.execListenWindowEnd n s
  | .brakeIntervalEnd n => Sys2Proof.Machine.execBrakeIntervalEnd n s
  | .stillEnd n => Sys2Proof.Machine.execStillEnd n s
  | .alignEnd n => Sys2Proof.Machine.execAlignEnd n s
  | .blindRampStep n => Sys2Proof.Machine.execBlindRampStep n s
  | .edgeWindowClose n => Sys2Proof.Machine.execEdgeWindowClose n s
  | .unloadWaitExpiry n => Sys2Proof.Machine.execUnloadWaitExpiry n s
  | .spindleStop n v => Sys2Proof.Machine.execSpindleStop n v s
  | .spindleEnable n v => Sys2Proof.Machine.execSpindleEnable n v s
  | .spnTarget n v => Sys2Proof.Machine.execSpnTarget n v s
  | .resync n v => Sys2Proof.Machine.execResync n v s
  | .timeBaseTick => Sys2Proof.Machine.execTimeBaseTick s
  | .epochBoundary => Sys2Proof.Machine.execEpochBoundary s
  | .mapCommitGo v => Sys2Proof.Machine.execMapCommitGo v s
  | .streamOpen p slot => Sys2Proof.Machine.execStreamOpen p slot s
  | .streamRead p slot => Sys2Proof.Machine.execStreamRead p slot s
  | .streamWrite p slot => Sys2Proof.Machine.execStreamWrite p slot s
  | .streamClose p slot => Sys2Proof.Machine.execStreamClose p slot s
  | .streamQuery p slot => Sys2Proof.Machine.execStreamQuery p slot s
  | .streamHint p slot => Sys2Proof.Machine.execStreamHint p slot s
  | .streamRebind p slot => Sys2Proof.Machine.execStreamRebind p slot s
  | .contextRead v => Sys2Proof.Machine.execContextRead v s
  | .contextUpdate v => Sys2Proof.Machine.execContextUpdate v s
  | .pieceAdmission cls => Sys2Proof.Machine.execPieceAdmission cls s
  | .readAheadAdmission stream => Sys2Proof.Machine.execReadAheadAdmission stream s
  | .schedulerEvaluation a => Sys2Proof.Machine.execSchedulerEvaluation a s
  | .grant tag => Sys2Proof.Machine.execGrant tag s
  | .cacheRequest r => Sys2Proof.Machine.execCacheRequest r s
  | .cacheFillReturn bank => Sys2Proof.Machine.execCacheFillReturn bank s
  | .inval src => Sys2Proof.Machine.execInval src s
  | .clean src => Sys2Proof.Machine.execClean src s
  | .cacheFlush src => Sys2Proof.Machine.execCacheFlush src s
  | .lock src => Sys2Proof.Machine.execLock src s
  | .unlock src => Sys2Proof.Machine.execUnlock src s
  | .lookup src => Sys2Proof.Machine.execLookup src s
  | .cacheOpComplete => Sys2Proof.Machine.execCacheOpComplete s
  | .pantryWaysChange v => Sys2Proof.Machine.execPantryWaysChange v s
  | .pantryAccess acc => Sys2Proof.Machine.execPantryAccess acc s
  | .bufferAccess acc => Sys2Proof.Machine.execBufferAccess acc s
  | .remapCopyEnd c => Sys2Proof.Machine.execRemapCopyEnd c s
  | .scrubInterval c out => Sys2Proof.Machine.execScrubInterval c out s
  | .channelRetrain c v => Sys2Proof.Machine.execChannelRetrain c v s
  | .retrainStepEnd c ok => Sys2Proof.Machine.execRetrainStepEnd c ok s
  | .resilverEnd c => Sys2Proof.Machine.execResilverEnd c s
  | .segmentWrite k v => Sys2Proof.Machine.execSegmentWrite k v s
  | .bufferSelfTestEnd failed => Sys2Proof.Machine.execBufferSelfTestEnd failed s
  | .piWrite ag ch v => Sys2Proof.Machine.execPiWrite ag ch v s
  | .descriptorStart ch => Sys2Proof.Machine.execDescriptorStart ch s
  | .chunkEnd ch c => Sys2Proof.Machine.execChunkEnd ch c s
  | .descriptorComplete ch => Sys2Proof.Machine.execDescriptorComplete ch s
  | .channelResume ch v => Sys2Proof.Machine.execChannelResume ch v s
  | .channelSkip ch v => Sys2Proof.Machine.execChannelSkip ch v s
  | .channelDisable ch v => Sys2Proof.Machine.execChannelDisable ch v s
  | .creditPulse => Sys2Proof.Machine.execCreditPulse s
  | .arrivedPulse => Sys2Proof.Machine.execArrivedPulse s
  | .hifPulse => Sys2Proof.Machine.execHifPulse s
  | .seqPulse => Sys2Proof.Machine.execSeqPulse s
  | .msixPulse => Sys2Proof.Machine.execMsixPulse s
  | .keyLoad v => Sys2Proof.Machine.execKeyLoad v s
  | .keyDrop v => Sys2Proof.Machine.execKeyDrop v s
  | .keyWipe v => Sys2Proof.Machine.execKeyWipe v s
  | .keyQuery v => Sys2Proof.Machine.execKeyQuery v s
  | .slotBadop v => Sys2Proof.Machine.execSlotBadop v s
  | .wipeAll v => Sys2Proof.Machine.execWipeAll v s
  | .cipherRequest r => Sys2Proof.Machine.execCipherRequest r s
  | .engineTake e => Sys2Proof.Machine.execEngineTake e s
  | .cipherResult e => Sys2Proof.Machine.execCipherResult e s
  | .engineParityFault e => Sys2Proof.Machine.execEngineParityFault e s
  | .engineFenceWrite j v => Sys2Proof.Machine.execEngineFenceWrite j v s
  | .perstAssert p => Sys2Proof.Machine.execPerstAssert p s
  | .perstDeassert p => Sys2Proof.Machine.execPerstDeassert p s
  | .hotReset p l => Sys2Proof.Machine.execHotReset p l s
  | .functionLevelReset p l => Sys2Proof.Machine.execFunctionLevelReset p l s
  | .controllerReset p l => Sys2Proof.Machine.execControllerReset p l s
  | .shutdown p l shn => Sys2Proof.Machine.execShutdown p l shn s
  | .shutdownComplete p l => Sys2Proof.Machine.execShutdownComplete p l s
  | .doorbellWrite p l qid tail => Sys2Proof.Machine.execDoorbellWrite p l qid tail s
  | .commandFetch p l qid sqe prps => Sys2Proof.Machine.execCommandFetch p l qid sqe prps s
  | .read p slot => Sys2Proof.Machine.execRead p slot s
  | .write p slot => Sys2Proof.Machine.execWrite p slot s
  | .flush p slot => Sys2Proof.Machine.execFlush p slot s
  | .writeZeroes p slot => Sys2Proof.Machine.execWriteZeroes p slot s
  | .verify p slot => Sys2Proof.Machine.execVerify p slot s
  | .zoneManagementSend p slot => Sys2Proof.Machine.execZoneManagementSend p slot s
  | .zoneManagementReceive p slot => Sys2Proof.Machine.execZoneManagementReceive p slot s
  | .zoneAppend p slot => Sys2Proof.Machine.execZoneAppend p slot s
  | .invalidOpcode p slot => Sys2Proof.Machine.execInvalidOpcode p slot s
  | .abort p slot => Sys2Proof.Machine.execAbort p slot s
  | .setVolatileWriteCache p slot => Sys2Proof.Machine.execSetVolatileWriteCache p slot s
  | .setPowerState p slot => Sys2Proof.Machine.execSetPowerState p slot s
  | .apstTransition p l => Sys2Proof.Machine.execApstTransition p l s
  | .setIdlePolicy p slot => Sys2Proof.Machine.execSetIdlePolicy p slot s
  | .getIdlePolicy p slot => Sys2Proof.Machine.execGetIdlePolicy p slot s
  | .getLogPage p slot => Sys2Proof.Machine.execGetLogPage p slot s
  | .identifyController p slot => Sys2Proof.Machine.execIdentifyController p slot s
  | .identifyNamespace p slot => Sys2Proof.Machine.execIdentifyNamespace p slot s
  | .numberOfQueues p slot => Sys2Proof.Machine.execNumberOfQueues p slot s
  | .firmwareDownload p slot data => Sys2Proof.Machine.execFirmwareDownload p slot data s
  | .firmwareCommit p slot => Sys2Proof.Machine.execFirmwareCommit p slot s
  | .idleTimerExpiry n => Sys2Proof.Machine.execIdleTimerExpiry n s
  | .faultMessage src => Sys2Proof.Machine.execFaultMessage src s
  | .trap q => Sys2Proof.Machine.execTrap q s
  | .nop q => Sys2Proof.Machine.execNop q s
  | .call q => Sys2Proof.Machine.execCall q s
  | .ret q => Sys2Proof.Machine.execRet q s
  | .jind q => Sys2Proof.Machine.execJind q s
  | .wait q => Sys2Proof.Machine.execWait q s
  | .sleep q => Sys2Proof.Machine.execSleep q s
  | .seqWake q => Sys2Proof.Machine.execSeqWake q s
  | .halt q => Sys2Proof.Machine.execHalt q s
  | .evret q => Sys2Proof.Machine.execEvret q s
  | .mfs q => Sys2Proof.Machine.execMfs q s
  | .mts q => Sys2Proof.Machine.execMts q s
  | .mtsi q => Sys2Proof.Machine.execMtsi q s
  | .signal q => Sys2Proof.Machine.execSignal q s
  | .send q => Sys2Proof.Machine.execSend q s
  | .add q => Sys2Proof.Machine.execAdd q s
  | .sub q => Sys2Proof.Machine.execSub q s
  | .and q => Sys2Proof.Machine.execAnd q s
  | .or q => Sys2Proof.Machine.execOr q s
  | .xor q => Sys2Proof.Machine.execXor q s
  | .shl q => Sys2Proof.Machine.execShl q s
  | .shr q => Sys2Proof.Machine.execShr q s
  | .sar q => Sys2Proof.Machine.execSar q s
  | .mul q => Sys2Proof.Machine.execMul q s
  | .mulhu q => Sys2Proof.Machine.execMulhu q s
  | .adc q => Sys2Proof.Machine.execAdc q s
  | .sbb q => Sys2Proof.Machine.execSbb q s
  | .cmp q => Sys2Proof.Machine.execCmp q s
  | .tst q => Sys2Proof.Machine.execTst q s
  | .bfx q => Sys2Proof.Machine.execBfx q s
  | .bfi q => Sys2Proof.Machine.execBfi q s
  | .movi q => Sys2Proof.Machine.execMovi q s
  | .ld q => Sys2Proof.Machine.execLd q s
  | .st q => Sys2Proof.Machine.execSt q s
  | .loadDataArrival q => Sys2Proof.Machine.execLoadDataArrival q s
  | .rdr q => Sys2Proof.Machine.execRdr q s
  | .wrr q => Sys2Proof.Machine.execWrr q s
  | .piw q => Sys2Proof.Machine.execPiw q s
  | .pop q => Sys2Proof.Machine.execPop q s
  | .report q => Sys2Proof.Machine.execReport q s
  | .sequencerRecord q => Sys2Proof.Machine.execSequencerRecord q s
  | .eventDispatch q => Sys2Proof.Machine.execEventDispatch q s
  | .watchdogExpiry q => Sys2Proof.Machine.execWatchdogExpiry q s
  | .seqTimerExpiry q t => Sys2Proof.Machine.execSeqTimerExpiry q t s
  | .seqRun q v => Sys2Proof.Machine.execSeqRun q v s
  | .seqReload q v => Sys2Proof.Machine.execSeqReload q v s
  | .seqForce q v => Sys2Proof.Machine.execSeqForce q v s
  | .seqSoft q v => Sys2Proof.Machine.execSeqSoft q v s
  | .seqMbox q v => Sys2Proof.Machine.execSeqMbox q v s
  | .evcPendWrite q half v => Sys2Proof.Machine.execEvcPendWrite q half v s
  | .evcPendRead q half => Sys2Proof.Machine.execEvcPendRead q half s
  | .imageCheck v => Sys2Proof.Machine.execImageCheck v s
  | .imageLoad v => Sys2Proof.Machine.execImageLoad v s
  | .refSelect v => Sys2Proof.Machine.execRefSelect v s
  | .refSourceFail src => Sys2Proof.Machine.execRefSourceFail src s
  | .forcedSwitch dom => Sys2Proof.Machine.execForcedSwitch dom s
  | .refSourceGood src => Sys2Proof.Machine.execRefSourceGood src s
  | .holdoverTimeout => Sys2Proof.Machine.execHoldoverTimeout s
  | .pllLock i0 => Sys2Proof.Machine.execPllLock i0 s
  | .pllLockLost i0 => Sys2Proof.Machine.execPllLockLost i0 s
  | .chainClockLoss => Sys2Proof.Machine.execChainClockLoss s
  | .clockGate v => Sys2Proof.Machine.execClockGate v s
  | .gateIdleTimeout => Sys2Proof.Machine.execGateIdleTimeout s
  | .clockUngate v => Sys2Proof.Machine.execClockUngate v s
  | .porchPowerOn => Sys2Proof.Machine.execPorchPowerOn s
  | .deviceReset cause => Sys2Proof.Machine.execDeviceReset cause s
  | .sramWipeEnd => Sys2Proof.Machine.execSramWipeEnd s
  | .wipeEnd => Sys2Proof.Machine.execWipeEnd s
  | .bootEnd => Sys2Proof.Machine.execBootEnd s
  | .mainRailFail => Sys2Proof.Machine.execMainRailFail s
  | .serviceRequest v => Sys2Proof.Machine.execServiceRequest v s
  | .temperatureSample readings => Sys2Proof.Machine.execTemperatureSample readings s
  | .provision v => Sys2Proof.Machine.execProvision v s
  | .tokenOpenObs => Sys2Proof.Machine.execTokenOpenObs s
  | .tokenOpenTap => Sys2Proof.Machine.execTokenOpenTap s
  | .tokenOpenBoth => Sys2Proof.Machine.execTokenOpenBoth s
  | .tokenDeploy => Sys2Proof.Machine.execTokenDeploy s
  | .tokenReturn => Sys2Proof.Machine.execTokenReturn s
  | .tokenRetire => Sys2Proof.Machine.execTokenRetire s
  | .tokenClearAttic => Sys2Proof.Machine.execTokenClearAttic s
  | .authClose v => Sys2Proof.Machine.execAuthClose v s
  | .fuseBurnEnd => Sys2Proof.Machine.execFuseBurnEnd s
  | .chainEnum f => Sys2Proof.Machine.execChainEnum f s
  | .chainStatus f => Sys2Proof.Machine.execChainStatus f s
  | .chainRead f => Sys2Proof.Machine.execChainRead f s
  | .chainWrite f => Sys2Proof.Machine.execChainWrite f s
  | .chainReset f => Sys2Proof.Machine.execChainReset f s
  | .chainTrip => Sys2Proof.Machine.execChainTrip s
  | .tripRetry => Sys2Proof.Machine.execTripRetry s
  | .hello p f => Sys2Proof.Machine.execHello p f s
  | .helloInterval p => Sys2Proof.Machine.execHelloInterval p s
  | .mwrite p f => Sys2Proof.Machine.execMwrite p f s
  | .mwack p f => Sys2Proof.Machine.execMwack p f s
  | .mwquery p f => Sys2Proof.Machine.execMwquery p f s
  | .pread p f => Sys2Proof.Machine.execPread p f s
  | .prdata p f => Sys2Proof.Machine.execPrdata p f s
  | .rbreq p f => Sys2Proof.Machine.execRbreq p f s
  | .rbend p f => Sys2Proof.Machine.execRbend p f s
  | .peerRetransmitTimeout i0 pseq => Sys2Proof.Machine.execPeerRetransmitTimeout i0 pseq s
  | .durabilityTimeout i0 pseq => Sys2Proof.Machine.execDurabilityTimeout i0 pseq s
  | .peerLost i0 => Sys2Proof.Machine.execPeerLost i0 s
  | .peerJoin i0 v => Sys2Proof.Machine.execPeerJoin i0 v s
  | .peerLeave i0 v => Sys2Proof.Machine.execPeerLeave i0 v s
  | .leaveEnd i0 => Sys2Proof.Machine.execLeaveEnd i0 s
  | .ptpAnnounce p m => Sys2Proof.Machine.execPtpAnnounce p m s
  | .ptpSync p m => Sys2Proof.Machine.execPtpSync p m s
  | .ptpFollowUp p m => Sys2Proof.Machine.execPtpFollowUp p m s
  | .ptpDelayReq p m => Sys2Proof.Machine.execPtpDelayReq p m s
  | .ptpDelayResp p m => Sys2Proof.Machine.execPtpDelayResp p m s
  | .syncTimeout p => Sys2Proof.Machine.execSyncTimeout p s
  | .faultClear src v => Sys2Proof.Machine.execFaultClear src v s
  | .fenceWrite src v => Sys2Proof.Machine.execFenceWrite src v s
  | .injectRecord ag src v => Sys2Proof.Machine.execInjectRecord ag src v s
  | .injectReact ag src v => Sys2Proof.Machine.execInjectReact ag src v s
  | .injectRaise ag src v => Sys2Proof.Machine.execInjectRaise ag src v s
  | .atticRecordStore => Sys2Proof.Machine.execAtticRecordStore s
  | .atticNote v => Sys2Proof.Machine.execAtticNote v s
  | .claim ag k v => Sys2Proof.Machine.execClaim ag k v s
  | .claimRelease ag k v => Sys2Proof.Machine.execClaimRelease ag k v s
  | .obsSelect k v => Sys2Proof.Machine.execObsSelect k v s
  | .transmitFrameStart n => Sys2Proof.Machine.execTransmitFrameStart n s
  | .hostLinkUp p l gen width flit => Sys2Proof.Machine.execHostLinkUp p l gen width flit s
  | .peerPortUp p => Sys2Proof.Machine.execPeerPortUp p s
  | .completionTimeout ch => Sys2Proof.Machine.execCompletionTimeout ch s
  | .tokenRefused => Sys2Proof.Machine.execTokenRefused s
  | .testReset => Sys2Proof.Machine.execTestReset s
  | .tapInstruction ir => Sys2Proof.Machine.execTapInstruction ir s
  | .chainClockReturn => Sys2Proof.Machine.execChainClockReturn s
  | .servoEngineDisable a v => Sys2Proof.Machine.execServoEngineDisable a v s
  | .syncInterval p => Sys2Proof.Machine.execSyncInterval p s
  | .refresh c => Sys2Proof.Machine.execRefresh c s
  | .createIoQueue p slot => Sys2Proof.Machine.execCreateIoQueue p slot s
  | .deleteIoQueue p slot => Sys2Proof.Machine.execDeleteIoQueue p slot s
  | .asynchronousEventRequest p slot => Sys2Proof.Machine.execAsynchronousEventRequest p slot s

end Sys2Proof.Machine
end

