-- ==== Sys2Proof/Safety.lean ====
section
/-!
DEFINITION. What statements about runs of the block are said in: the invariant of the state's sparse maps, and what a
command leaves alone.
-/

namespace Sys2Proof.Machine

/-- The sparse maps of memory keep their one form: the registers, buffer memory, the Pantry and the Landing. -/
def State.canonical (s : State) : Bool :=
  mcanon s.regDflt s.regs && mcanon (fun _ => (0 : Byte)) s.mem && mcanon (fun _ => (0 : Byte)) s.pantry
    && mcanon (fun _ => (0 : Byte)) s.land

/-- Every byte that the device holds is unchanged: buffer memory, the Pantry, the Landing and the boot flash. -/
def State.SameBytes (s t : State) : Prop :=
  t.mem = s.mem ∧ t.poison = s.poison ∧ t.pantry = s.pantry ∧ t.land = s.land ∧ t.flash = s.flash

/-- Every BAR2 register is unchanged but those at the addresses named. -/
def State.SameRegs (s t : State) (but : List Nat) : Prop := ∀ a, a ∉ but → t.rdA a = s.rdA a

/-- Every unit's own state beside the registers is unchanged but the sequencers'. -/
def State.SameUnits (s t : State) : Prop :=
  t.glb = s.glb ∧ t.clk = s.clk ∧ t.atc = s.atc ∧ t.fus = s.fus ∧ t.hlk = s.hlk ∧ t.cch = s.cch ∧ t.bufc = s.bufc ∧
  t.cph = s.cph ∧ t.hif = s.hif ∧ t.stm = s.stm ∧ t.dmv = s.dmv ∧ t.pfb = s.pfb ∧ t.chain = s.chain ∧ t.rch = s.rch ∧
  t.dec = s.dec ∧ t.srv = s.srv ∧ t.spn = s.spn ∧ t.pins = s.pins ∧ t.pending = s.pending

/-- What a word that stores nothing leaves alone: every byte, every unit, every other sequencer, and every register but
SEQ_STAT and SEQ_CNT_WORDS of its own, whose IN_FAST, IN_NORMAL and STATE also stay. -/
def State.WordKeeps (s t : State) (q : Nat) : Prop :=
  s.SameBytes t ∧ s.SameUnits t ∧ (∀ p, p ≠ q → t.sq p = s.sq p) ∧
  s.SameRegs t [Reg.SEQ_STAT.addr q 0, Reg.SEQ_CNT_WORDS.addr q 0] ∧
  t.seqState q = s.seqState q ∧ t.inFast q = s.inFast q ∧
  t.flag Reg.SEQ_STAT_IN_NORMAL q = s.flag Reg.SEQ_STAT_IN_NORMAL q

/-- The general registers of a sequencer's bank are unchanged but one. -/
def State.SameGrs (s t : State) (q d : Nat) : Prop := ∀ r, r ≠ d → t.gr q r = s.gr q r

/-- The word counts, names its address in SEQ_STAT, and the sequencer goes on at ALT or NEXT by the word's condition on the
state that it leaves. -/
def State.Flowed (s t : State) (q : Nat) : Prop :=
  t.rd Reg.SEQ_CNT_WORDS q 0 = word ((s.rd Reg.SEQ_CNT_WORDS q 0).toNat + 1) ∧
  t.fld Reg.SEQ_STAT_PC q = (s.sq q).pc % 2 ^ 15 ∧
  (t.sq q).pc = (if t.wordCond q (s.mw q) then (s.mw q).altA else (s.mw q).nextA)

/-- What an arithmetic word leaves alone: what every word that stores nothing does, and of its own sequencer everything but
the general registers, FLAGS and the address; RF and MERR keep their values. -/
def State.ArithKeeps (s t : State) (q : Nat) : Prop :=
  s.WordKeeps t q ∧ s.Flowed t q ∧ t.fl q flRF = s.fl q flRF ∧ t.fl q flMERR = s.fl q flMERR ∧
  ∃ g sh fl pc, t.sq q = { s.sq q with g := g, shadow := sh, flags := fl, pc := pc, waited := 0 }

/-- The result of an arithmetic word: register `d` takes `r`, no other general register changes, Z and N follow `r`. -/
def State.ArithResult (s t : State) (q d : Nat) (r : Word) : Prop :=
  t.gr q d = r ∧ s.SameGrs t q d ∧ t.fl q flZ = (r == 0) ∧ t.fl q flN = r.msb ∧ s.ArithKeeps t q

/-- What a stream command leaves: the state of its stream follows when its context is still open. -/
def State.settled (s : State) (i : Nat) : State := if s.stm.opened.contains i then s.streamSettle i else s

/-- A stream command of an opcode is taken: it is new in its slot, the device serves, its handle names an open context, whose
words `ws` the buffer delivers, leaving `u`, with its generation, and the stream is OPEN or RUNNING. -/
def State.streamTaken (s : State) (p slot op : Nat) (c : Cmd) (u : State) (ws : List Word) : Prop :=
  s.glb.dormant = false ∧ s.newCmd p slot false [op] = some c ∧ s.mode ≠ modeQuiescent ∧ c.handleRsv = 0 ∧
  s.stm.opened.contains c.index = true ∧ s.ctxRead c.index = (u, some ws) ∧ cw ws 0 7 0 = c.gen ∧
  (ctxState ws = ctxOpen ∨ ctxState ws = ctxRunning)

/-- It is taken and its NSID is the stream's. -/
def State.streamReady (s : State) (p slot op : Nat) (c : Cmd) (u : State) (ws : List Word) : Prop :=
  s.streamTaken p slot op c u ws ∧ c.nsidField = ctxNs ws

end Sys2Proof.Machine

/-- A command of a unit that the main rails feed alone. The others concern the Porch, the Attic, the fuses, the pins, the
chain and the rails themselves, or a bus that also leads there. -/
def Sys2Proof.Instr.onMainRails (c : Sys2Proof.Instr) : Bool :=
  match c with
  | .registerWrite .. | .readToClear .. | .lowerHalfRead .. | .perstAssert .. | .perstDeassert ..
  | .forcedSwitch .. | .chainClockLoss .. | .gateIdleTimeout .. | .porchPowerOn .. | .deviceReset ..
  | .bootEnd .. | .provision .. | .tokenOpenObs .. | .tokenOpenTap .. | .tokenOpenBoth ..
  | .tokenDeploy .. | .tokenReturn .. | .tokenRetire .. | .tokenClearAttic .. | .authClose ..
  | .fuseBurnEnd .. | .chainEnum .. | .chainStatus .. | .chainRead .. | .chainWrite ..
  | .chainReset .. | .chainTrip .. | .tripRetry .. | .faultClear .. | .injectRecord ..
  | .injectReact .. | .injectRaise .. | .atticRecordStore .. | .atticNote .. | .tokenRefused ..
  | .testReset .. | .tapInstruction .. | .chainClockReturn .. => false
  | _ => true

namespace Sys2Proof.Machine

/-- A device without main rails, with nothing waiting but commands of units that the main rails feed. -/
def State.restsDormant (s : State) : Bool := s.glb.dormant && s.pending.all fun c => c.onMainRails

end Sys2Proof.Machine
end

