-- ==== Sys2Proof/Certificates/Slice0/Obligations.lean ====
section
/-!
DEFINITION. The statements about the block, for the provers. Each docstring names the rules of the spec that it follows.
-/

open Sys2Proof Sys2Proof.Machine

/-- A step of the block takes the oldest waiting command and answers what it answers with the rest of the queue waiting;
with none waiting the block idles (log entry 17, the model's choice). -/
def Obligations.StepTakesTheOldestCommand : Prop :=
  (∀ (s : State) (c : Instr) (rest : List Instr), s.pending = c :: rest →
    step s = exec c { s with pending := rest }) ∧
  (∀ s : State, s.pending = [] → step s = .next s)

/-- Right after reset: GLB_ID holds VARIANT (R447), GLB_MODE holds MODE Quiescent and WIPING (R436, R447), the PLLs, the ports
and the claim table hold their reset values, FLT_FENCE and FLT_STAT of every source read zero, no command waits, and the
sparse maps are in their one form. -/
def Obligations.ResetState : Prop :=
  State.reset.jd16 = true ∧ State.reset.fld Reg.GLB_ID_VARIANT 0 = 0x3216 ∧
  State.reset.mode = modeQuiescent ∧ State.reset.flag Reg.GLB_MODE_WIPING 0 = true ∧
  State.reset.rd Reg.PRC_STAT 0 0 = 0x00000401 ∧
  (∀ n < 16, State.reset.linkState n = linkOff ∧ State.reset.hdaState n = hdaAbsent) ∧
  (∀ src < 129, State.reset.causes src = 0 ∧ State.reset.fenced src = false) ∧
  (∀ k < 32, State.reset.rd Reg.GLB_CLAIMT 0 k = 0) ∧
  State.reset.pending = [] ∧ State.reset.canonical = true
/-- What a write does to the stored bits of a register (R8, R12): read-write bits take the value, a one clears a bit that is
written one to clear, every other bit keeps its value; a value out of range of a parameter field leaves the whole register
unchanged; no other register changes; and an address without an implemented register changes nothing (R3). -/
def Obligations.StoredBitsOfAWrite : Prop :=
  ∀ (s : State) (addr : Nat) (v : Word),
    (∀ (d : RegDef) (i j : Nat), regAt s.jd16 addr = some (d, i, j, true) →
      (rangeOk s.jd16 addr v = true → ∀ k < 32, ((s.plainWrite addr v).rdA addr).getLsbD k =
        ((if d.rw.testBit k then v.getLsbD k else (s.rdA addr).getLsbD k) && !(d.w1c.testBit k && v.getLsbD k))) ∧
      (rangeOk s.jd16 addr v = false → s.plainWrite addr v = s)) ∧
    ((∀ (d : RegDef) (i j : Nat), regAt s.jd16 addr ≠ some (d, i, j, true)) → s.plainWrite addr v = s) ∧
    (∀ a, a ≠ addr → (s.plainWrite addr v).rdA a = s.rdA a) ∧
    (s.plainWrite addr v).mem = s.mem ∧ (s.plainWrite addr v).pantry = s.pantry ∧ (s.plainWrite addr v).land = s.land ∧
    (s.plainWrite addr v).flash = s.flash ∧ (s.plainWrite addr v).pending = s.pending

/-- REGISTER_WRITE (R8), READ_TO_CLEAR (R8, R9) and LOWER_HALF_READ (R10) by a host port, on a device that is awake, not Sealed
and past its wipe, with no clock gated and no gate request waiting. The write of a threshold register of a servo engine stores
the value; the read of a head's gate counter answers the count and leaves the events counted in that cycle; the read of the
lower tick register answers it, and the next read of the upper one answers the upper half as it was then, whatever has been
written to it since. -/
def Obligations.RegisterAccess : Prop :=
  (∀ (s : State) (p a : Nat) (v : Word), s.glb.dormant = false → s.mode ≠ modeSealed →
    s.flag Reg.GLB_MODE_WIPING 0 = false → s.clk.gated = [] → s.clk.gateWait = none → s.clk.held = [] → p < 2 → a < s.nAct →
    exec (.registerWrite (.port p) (Reg.SRV_THR1.addr a 0) v) s = .next (s.store Reg.SRV_THR1 a 0 v)) ∧
  (∀ (s : State) (p n events : Nat), s.glb.dormant = false → s.mode ≠ modeSealed →
    s.flag Reg.GLB_MODE_WIPING 0 = false → s.clk.gated = [] → p < 2 → n < s.nHda →
    ∃ t : State, exec (.readToClear (.port p) (Reg.HLK_CNT_BLK.addr n 0) events) s = .next t ∧
      t.answer = s.rd Reg.HLK_CNT_BLK n 0 ∧ t.rd Reg.HLK_CNT_BLK n 0 = word events ∧
      (∀ addr, addr ≠ Reg.HLK_CNT_BLK.addr n 0 → t.rdA addr = s.rdA addr) ∧
      t.mem = s.mem ∧ t.pantry = s.pantry ∧ t.land = s.land ∧ t.flash = s.flash) ∧
  (∀ (s : State) (p : Nat) (later : List (Nat × Word)), s.glb.dormant = false → s.mode ≠ modeSealed →
    s.flag Reg.GLB_MODE_WIPING 0 = false → s.clk.gated = [] → p < 2 →
    ∃ t : State, exec (.lowerHalfRead (.port p) (Reg.TB_TICK_LO.addr 0 0)) s = .next t ∧
      t.answer = s.rd Reg.TB_TICK_LO 0 0 ∧ t.regs = s.regs ∧ t.mem = s.mem ∧ t.pantry = s.pantry ∧ t.land = s.land ∧
      t.flash = s.flash ∧
      (let u : State := { t with regs := later }
       u.wipeShut (Reg.TB_TICK_HI.addr 0 0) = false → (u.busRead (Reg.TB_TICK_HI.addr 0 0)).2 = s.rd Reg.TB_TICK_HI 0 0))
/-- Bring-up and the safe pattern of a head-link port on an awake device (R54, R59, R62, R65): HLK_TRAIN starts bring-up in
Detect with every CSEQ zero; FORCE_SAFE starts the safe pattern; SIGNAL_DETECT takes Detect to Adapt; BRING_UP_PHASE_END takes
Adapt to Lock with eight lanes, and Lock to Up; BRING_UP_TIMEOUT goes back to Detect, and raises the contained fault at the
eighth failed attempt; SIGNAL_LOSS of an Up port raises its fault. -/
def Obligations.HeadLinkBringUp : Prop :=
  (∀ (s : State) (n : Nat) (v : Word), s.glb.dormant = false → n < s.nHda → Reg.HLK_CTRL_TRAIN.get v = 1 →
    Reg.HLK_CTRL_EN.get v = 1 →
    (let u := s.store Reg.HLK_CTRL n 0 v
     u.safeWanted n = false ∧ u.flag Reg.HLK_STAT_SAFE n = false ∧ u.fenced (srcHLK n) = false ∧
       u.flag Reg.HLK_CTRL_EN n = true ∧ u.linkState n ≠ linkUp ∧ u.linkState n ≠ linkUp7) →
    ∃ t : State, exec (.hlkTrain n v) s = .next t ∧ t.linkState n = linkDetect ∧ t.fld Reg.HLK_CTRL_TRAIN n = 1 ∧
      (∀ cls, mget (fun _ => 0) (t.hl n).cseq cls = 0) ∧ (t.hl n).attempts = 0) ∧
  (∀ (s : State) (n : Nat) (v : Word), s.glb.dormant = false → n < s.nHda → Reg.HLK_CTRL_FORCE_SAFE.get v = 1 →
    Reg.HLK_CTRL_TRAIN.get v = 0 →
    (let u := s.store Reg.HLK_CTRL n 0 v
     u.safeWanted n = true ∧ u.flag Reg.HLK_STAT_SAFE n = false ∧
       ((u.startSafe n).spnPortFenced n).flag Reg.HLK_CTRL_EN n = true) →
    exec (.forceSafe n v) s = .next (((s.store Reg.HLK_CTRL n 0 v).startSafe n).spnPortFenced n)) ∧
  (∀ (s : State) (n : Nat), s.glb.dormant = false → n < s.nHda → s.flag Reg.HLK_CTRL_EN n = true →
    s.fenced (srcHLK n) = false → s.linkState n = linkDetect →
    ∃ t : State, exec (.signalDetect n) s = .next t ∧ t.linkState n = linkAdapt ∧ t.mem = s.mem ∧
      (∀ addr, addr ≠ Reg.HLK_STAT.addr n 0 → t.rdA addr = s.rdA addr)) ∧
  (∀ (s : State) (n : Nat), s.glb.dormant = false → n < s.nHda → s.flag Reg.HLK_STAT_SAFE n = false →
    s.linkState n = linkAdapt →
    ∃ t : State, exec (.bringUpPhaseEnd n) s = .next t ∧ t.linkState n = linkLock ∧ t.fld Reg.HLK_STAT_RX_LANES n = 0xFF ∧
      t.fld Reg.HLK_STAT_TX_LANES n = 0xFF ∧ t.mem = s.mem ∧
      (∀ addr, addr ≠ Reg.HLK_STAT.addr n 0 → t.rdA addr = s.rdA addr)) ∧
  (∀ (s : State) (n : Nat), s.glb.dormant = false → n < s.nHda → s.flag Reg.HLK_STAT_SAFE n = false →
    s.linkState n = linkLock → (s.hl n).aligned = 0xFF → (s.hl n).statusSeen = true →
    ∃ u : State, exec (.bringUpPhaseEnd n) s = .next ((u.identity n).spnPortUp n) ∧ u.linkState n = linkUp ∧
      u.fld Reg.HLK_CTRL_TRAIN n = 0 ∧ (u.hl n).attempts = 0) ∧
  (∀ (s : State) (n : Nat), s.glb.dormant = false → n < s.nHda →
    (s.linkState n = linkAdapt ∨ s.linkState n = linkLock) → (s.hl n).attempts < 7 →
    ∃ t : State, exec (.bringUpTimeout n) s = .next t ∧ t.linkState n = linkDetect ∧ (t.hl n).attempts = (s.hl n).attempts + 1) ∧
  (∀ (s : State) (n : Nat), s.glb.dormant = false → n < s.nHda →
    (s.linkState n = linkAdapt ∨ s.linkState n = linkLock) → (s.hl n).attempts = 7 →
    ∃ u : State, exec (.bringUpTimeout n) s = .next (u.hlkFault n 2) ∧ u.linkState n = linkDetect ∧
      u.fld Reg.HLK_CTRL_TRAIN n = 0 ∧ (u.hl n).attempts = 0) ∧
  (∀ (s : State) (n : Nat), s.glb.dormant = false → n < s.nHda → (s.linkState n = linkUp ∨ s.linkState n = linkUp7) →
    exec (.signalLoss n) s = .next (s.hlkFault n 3))

/-- The frames of a head-link port (R37 to R40, R56, R66): a data frame whose CRC holds, with every lane good, gives its
SAMPLE, SPINDLE_RPT and STATUS blocks to the receiver in order; a frame that does not parse is counted. TRANSMIT_FRAME_START
sends one frame: its sequence number is the port's count, which rises by one, and its blocks fill the frame. ACK_WAIT_EXPIRY
makes a command due again, or after its third transmission raises the contained fault "command budget exhausted" (R58). -/
def Obligations.HeadLinkFrames : Prop :=
  (∀ (s : State) (n : Nat) (f : RxFrame), s.glb.dormant = false → n < s.nHda → s.linkState n = linkLock →
    f.lanes.map RxLane.lane = setBitsList (s.fld Reg.HLK_STAT_RX_LANES n) 8 →
    f.lanes.all (fun l => l.ok) = true → frameParse f = none → (s.hl n).winFrames + 1 < 2 ^ 20 →
    ∃ t : State, exec (.receiveFrame n f) s = .next t ∧
      t.rd Reg.HLK_CNT_BAD n 0 = word ((s.rd Reg.HLK_CNT_BAD n 0).toNat + 1) ∧ (t.hl n).rxq = (s.hl n).rxq ∧
      (∀ addr, addr ≠ Reg.HLK_CNT_BAD.addr n 0 → t.rdA addr = s.rdA addr) ∧ t.mem = s.mem) ∧
  (∀ (s : State) (n : Nat) (f : RxFrame) (bs : List (List Byte)), s.glb.dormant = false → n < s.nHda →
    s.linkState n = linkLock → f.lanes.map RxLane.lane = setBitsList (s.fld Reg.HLK_STAT_RX_LANES n) 8 →
    f.lanes.all (fun l => l.ok && decide (l.syms.headD 0 = marker l.lane) && bitOf (s.hl n).aligned l.lane) = true →
    frameParse f = some bs → (∀ b ∈ bs, blkByte b 0 = 1 ∨ blkByte b 0 = 2 ∨ blkByte b 0 = 3) →
    (s.hl n).winFrames + 1 < 2 ^ 20 →
    ∃ t : State, exec (.receiveFrame n f) s = .next t ∧ (t.hl n).rxq = (s.hl n).rxq ++ bs ∧ t.regs = s.regs ∧ t.mem = s.mem) ∧
  (∀ (s : State) (n : Nat), s.glb.dormant = false → n < s.nHda → s.flag Reg.HLK_STAT_SAFE n = false →
    s.linkState n = linkLock → (s.hl n).cmds = [] → (s.hl n).bursts = [] →
    ∃ t : State, exec (.transmitFrameStart n) s = .next t ∧ (t.hl n).frame = ((s.hl n).frame + 1) % 2 ^ 26 ∧
      (t.hl n).tx = some { seq := (s.hl n).frame % 65536, lanes := s.fld Reg.HLK_STAT_TX_LANES n
                           blocks := List.replicate (frameBlocks (laneCount (s.fld Reg.HLK_STAT_TX_LANES n))) idleBlock } ∧
      t.rd Reg.HLK_CNT_RETRY n 0 = s.rd Reg.HLK_CNT_RETRY n 0 ∧
      (∀ addr, addr ≠ Reg.HLK_CNT_RETRY.addr n 0 → t.rdA addr = s.rdA addr) ∧ t.mem = s.mem) ∧
  (∀ (s : State) (n cls cseq : Nat) (c : LinkCmd), s.glb.dormant = false → n < s.nHda →
    (s.hl n).cmds.find? (fun c => c.cls == cls && c.cseq == cseq && decide (0 < c.sends) && !c.due) = some c → c.sends < 3 →
    ∃ t : State, exec (.ackWaitExpiry n cls cseq) s = .next t ∧
      (t.hl n).cmds = (s.hl n).cmds.map (fun d => if d == c then { d with due := true } else d) ∧
      t.regs = s.regs ∧ t.mem = s.mem) ∧
  (∀ (s : State) (n cls cseq : Nat) (c : LinkCmd), s.glb.dormant = false → n < s.nHda →
    (s.hl n).cmds.find? (fun c => c.cls == cls && c.cseq == cseq && decide (0 < c.sends) && !c.due) = some c → 3 ≤ c.sends →
    exec (.ackWaitExpiry n cls cseq) s = .next (s.hlkFault n 0))

/-- The blocks that a head-link port releases, and its lane retrains (R42 to R47, R51, R60): SAMPLE, SPINDLE_RPT and STATUS
take the oldest block of the receiver, when it is of their type, and hand it to the head's pipeline, the spindle controller
or the port; LANE_RETRAIN_GO drops the lane it names from its direction, LANE_RETRAIN_END restores it by a second LANE_MAP,
and LANE_RETRAIN_TIMEOUT leaves the direction on seven lanes with a corrected fault. -/
def Obligations.HeadLinkBlocks : Prop :=
  (∀ (s : State) (n : Nat) (b : List Byte) (rest : List (List Byte)), s.glb.dormant = false →
    (s.hl n).rxq = b :: rest → blkByte b 0 = 1 →
    ∃ u : State, exec (.sample n) s = .next (u.takeSample n b) ∧ (u.hl n).rxq = rest ∧ u.regs = s.regs ∧ u.rch = s.rch ∧
      u.srv = s.srv ∧ u.mem = s.mem) ∧
  (∀ (s : State) (n : Nat) (b : List Byte) (rest : List (List Byte)), s.glb.dormant = false →
    (s.hl n).rxq = b :: rest → blkByte b 0 = 2 → blkByte b 2 = 0 →
    ∃ t : State, exec (.spindleRpt n) s = .next t ∧ (t.hl n).rxq = rest ∧ t.regs = s.regs ∧ t.spn = s.spn ∧ t.mem = s.mem) ∧
  (∀ (s : State) (n : Nat) (b : List Byte) (rest : List (List Byte)), s.glb.dormant = false →
    (s.hl n).rxq = b :: rest → blkByte b 0 = 3 →
    ∃ u : State, exec (.status n) s = .next (u.takeStatus n b) ∧ (u.hl n).rxq = rest ∧ u.regs = s.regs ∧ u.mem = s.mem) ∧
  (∀ (s : State) (n : Nat) (v : Word), s.glb.dormant = false → n < s.nHda → Reg.HLK_LANE_GO.get v = 1 →
    s.flag Reg.HLK_LANE_GO n = false →
    (let u := s.store Reg.HLK_LANE n 0 v
     u.canCommand n = true ∧ laneCount (u.dirNext n (u.fld Reg.HLK_LANE_DIR n)) = 8) →
    (let u := s.store Reg.HLK_LANE n 0 v
     exec (.laneRetrainGo n v) s = .next (((u.setFld Reg.HLK_LANE_RESULT n 0).setFld Reg.HLK_LANE_GO n 1).retrainLane n
       (u.fld Reg.HLK_LANE_DIR n) (u.fld Reg.HLK_LANE_LANE n) true))) ∧
  (∀ (s : State) (n : Nat) (r : LaneTrain), s.glb.dormant = false → s.retrainDue n = some r → r.dir = 0 →
    (let u := s.retrainDone n r 1
     exec (.laneRetrainEnd n) s = .next (u.sendLaneMap n (setBit (u.dirNext n 0) r.lane true) (u.dirNext n 1)))) ∧
  (∀ (s : State) (n : Nat) (r : LaneTrain), s.glb.dormant = false → s.retrainDue n = some r → r.dir ≠ 0 →
    (let u := s.retrainDone n r 1
     exec (.laneRetrainEnd n) s = .next (u.sendLaneMap n (u.dirNext n 0) (setBit (u.dirNext n 1) r.lane true)))) ∧
  (∀ (s : State) (n : Nat) (r : LaneTrain), s.glb.dormant = false → s.retrainDue n = some r →
    exec (.laneRetrainTimeout n) s = .next ((s.retrainDone n r 2).corrected (srcHLK n) 5))
/-- Device words to the companion (R51, R81, R134, R139, R142, R398, R399): on a port that takes commands, WRSEND adds the
bursts of the encoded sector, one or two by the count in E; HLCMD sends the CONFIG block of its subcommand, with the actuator's
side in the operand of the ADC rate and of the source, and clears RF; a subcommand that HLCMD does not allow, and a head that
is not the sequencer's, set RF and send nothing. -/
def Obligations.DeviceWords : Prop :=
  (∀ (s : State) (q : Nat), s.glb.dormant = false → s.canIssue q 0x4A = true → q < 32 → (s.mw q).dHead ≤ 9 →
    s.canCommand (q / 2) = true →
    (let w := s.mw q; let n := q / 2; let h := q % 2 * 10 + w.dHead; let u := (s.issue q).setRF q false
     let b := (s.issue q).channelBits ((s.issue q).encodedBits (((s.issue q).gr q w.dB).toNat % 1024))
     let k := ((s.issue q).gr q w.dE).toNat % 65536
     let two : List Burst := [{ head := h, blocks := writeBlocks h (b.take k) }, { head := h, blocks := writeBlocks h (b.drop k) }]
     (k = 0 → exec (.wrsend q) s = .next ((u.setHl n ({ u.hl n with
        bursts := (u.hl n).bursts ++ [{ head := h, blocks := writeBlocks h b }] } : HlkS).bindOpens).flow q w)) ∧
     (0 < k → k < b.length → exec (.wrsend q) s = .next ((u.setHl n ({ u.hl n with
        bursts := (u.hl n).bursts ++ two } : HlkS).bindOpens).flow q w)))) ∧
  (∀ (s : State) (q : Nat), s.glb.dormant = false → s.canIssue q 0x4A = true → (32 ≤ q ∨ 9 < (s.mw q).dHead) →
    ∃ t : State, exec (.wrsend q) s = .next t ∧ t.fl q flRF = true ∧ s.Flowed t q ∧ s.SameBytes t ∧ s.SameUnits t) ∧
  (∀ (s : State) (q : Nat), s.glb.dormant = false → s.canIssue q 0x49 = true → q < 32 → (s.mw q).dHead ≤ 9 →
    s.canCommand (q / 2) = true →
    (let w := s.mw q; let n := q / 2; let ops := (s.issue q).hlOps q w; let side := BitVec.ofNat 8 (q % 2) :: ops.tail
     let h := (ops.headD 0).toNat
     let o : WriteOpen := { start := beNat ((ops.drop 1).take 5), period := beNat ((ops.drop 6).take 4), length := beNat ((ops.drop 10).take 4) }
     (w.bits 54 47 = 1 → ∃ u : State, mget (fun _ => 4096) (u.hl n).adcNext (q % 2) = beNat ((ops.drop 1).take 2) ∧
       u.regs = (s.issue q).regs ∧
       exec (.hlcmdAdcRate q) s = .next (((u.sendCmd n 4 (configBlock 1 side) (.micro q 1)).setRF q false).flow q w)) ∧
     (w.bits 54 47 = 2 → exec (.hlcmdSource q) s =
       .next ((((s.issue q).sendCmd n 4 (configBlock 2 side) (.micro q 2)).setRF q false).flow q w)) ∧
     (w.bits 54 47 = 3 → ownHead q h = true → exec (.hlcmdWriteOpen q) s =
       .next (((((s.issue q).pushOpen n h o).sendCmd n 4 (configBlock 3 ops) (.micro q 3)).setRF q false).flow q w)) ∧
     (w.bits 54 47 = 4 → ownHead q h = true → ∃ u : State, (u.hl n).bursts = (s.hl n).bursts.filter (fun b => b.head != h) ∧
       u.regs = (s.issue q).regs ∧
       exec (.hlcmdWriteAbort q) s = .next (((u.sendCmd n 4 (configBlock 4 ops) (.micro q 4)).setRF q false).flow q w)) ∧
     (w.bits 54 47 = 8 → exec (.hlcmdCompReg q) s =
       .next ((((s.issue q).sendCmd n 4 (configBlock 8 ops) (.micro q 8)).setRF q false).flow q w)) ∧
     (w.bits 54 47 = 3 → ownHead q h = false →
       ∃ t : State, exec (.hlcmdWriteOpen q) s = .next t ∧ t.fl q flRF = true ∧ s.Flowed t q ∧ s.SameBytes t ∧
         s.SameUnits t))) ∧
  (∀ (s : State) (q : Nat) (c : Instr), s.glb.dormant = false → s.canIssue q 0x49 = true →
    hlSubs.contains ((s.mw q).bits 54 47) = false →
    c ∈ [Instr.hlcmdAdcRate q, .hlcmdSource q, .hlcmdWriteOpen q, .hlcmdWriteAbort q, .hlcmdCompReg q] →
    ∃ t : State, exec c s = .next t ∧ t.fl q flRF = true ∧ s.Flowed t q ∧ s.SameBytes t ∧ s.SameUnits t)

/-- Read gates (R70 to R72, R80, R82, R93, R96, R115, R398): GATE queues its request, or sets RF for a head above 9, a disabled
pipeline or a fifth request, or ends the request with OVERLAP; GATE_OPEN opens the oldest request, with its entry's bank and
ratio, or ends it with NOPARAM, RATE or LATE; GATE_PHASE_CHANGE takes a context whose phase has run its bits to the next;
RAW_CAPTURE_PARTIAL marks a raw slot that its gate overruns; GATE_END ends a context that has run all its bits. -/
def Obligations.ReadGates : Prop :=
  (∀ (s : State) (q : Nat), s.glb.dormant = false → s.canIssue q 0x40 = true →
    (let w := s.mw q; let h := 10 * q + w.dHead
     (q < 32 → w.dHead ≤ 9 → s.flag Reg.RCH_CTRL_EN h = true → (s.rc h).queue.length < 4 →
       s.gateOverlaps h (s.gateReq q w) = false →
       ∃ t : State, exec (.gate q) s = .next t ∧ t.fl q flRF = false ∧ (t.rc h).queue = (s.rc h).queue ++ [s.gateReq q w] ∧
         (t.rc h).live = (s.rc h).live ∧ s.Flowed t q ∧ s.SameBytes t) ∧
     (q < 32 → w.dHead ≤ 9 → s.flag Reg.RCH_CTRL_EN h = true → (s.rc h).queue.length < 4 →
       s.gateOverlaps h (s.gateReq q w) = true →
       exec (.gate q) s = .next ((((s.issue q).setRF q false).refuseGate h 6 (s.gateReq q w)).flow q w)) ∧
     ((32 ≤ q ∨ 9 < w.dHead ∨ s.flag Reg.RCH_CTRL_EN h = false ∨ 4 ≤ (s.rc h).queue.length) →
       ∃ t : State, exec (.gate q) s = .next t ∧ t.fl q flRF = true ∧ t.rch = s.rch ∧ s.Flowed t q ∧ s.SameBytes t ∧
         s.SameUnits t))) ∧
  (∀ (s : State) (h : Nat) (g : GateReq) (rest : List GateReq), s.glb.dormant = false → (s.rc h).queue = g :: rest →
    (s.rc h).live = none → (s.rc h).fifo.any (fun e => decide (g.start / 256 ≤ e.1)) = true →
    (let u := (s.setRc h { s.rc h with queue := rest }).rchStat h
     ((s.rc h).bank g.bank = none → exec (.gateOpen h) s = .next (u.refuseGate h 7 g)) ∧
     (∀ ws, (s.rc h).bank g.bank = some ws → (u.ratio (h / 10) ws < 104 / 100 ∨ 225 / 100 < u.ratio (h / 10) ws) →
       exec (.gateOpen h) s = .next (u.refuseGate h 4 g)) ∧
     (∀ ws e es, (s.rc h).bank g.bank = some ws → 104 / 100 ≤ u.ratio (h / 10) ws → u.ratio (h / 10) ws ≤ 225 / 100 →
       (s.rc h).fifo = e :: es → g.start / 256 < e.1 → exec (.gateOpen h) s = .next (u.refuseGate h 5 g)) ∧
     (∀ ws e es, (s.rc h).bank g.bank = some ws → 104 / 100 ≤ u.ratio (h / 10) ws → u.ratio (h / 10) ws ≤ 225 / 100 →
       (s.rc h).fifo = e :: es → e.1 ≤ g.start / 256 →
       ∃ (c : GateCtx) (y : State), exec (.gateOpen h) s = .next ((y.feedLive h).rchStat h) ∧ (y.rc h).live = some c ∧
         c.req = g ∧ c.params = ws ∧ c.p = (g.start : Int) * 65536 ∧ c.f = 0))) ∧
  (∀ (s : State) (h : Nat) (c : GateCtx), s.glb.dormant = false → (s.rc h).live = some c → c.phaseDue = true →
    exec (.gatePhaseChange h) s = .next ((s.setRc h { s.rc h with live := some (s.nextPhase c) }).runLive h)) ∧
  (∀ (s : State) (h : Nat) (c : GateCtx), s.glb.dormant = false → (s.rc h).live = none → (s.rc h).replay = some c →
    c.phaseDue = true →
    exec (.gatePhaseChange h) s = .next ((s.setRc h { s.rc h with replay := some (s.nextPhase c) }).runReplay h)) ∧
  (∀ (s : State) (h k : Nat) (c : GateCtx), s.glb.dormant = false → (s.rc h).live = some c → c.raw = some k →
    rawMax < c.captureList.length →
    ∃ t : State, exec (.rawCapturePartial h) s = .next t ∧ ((t.rc h).rawRec k).cut = true ∧ (t.rc h).live = some c ∧
      t.regs = s.regs ∧ s.SameBytes t) ∧
  (∀ (s : State) (h : Nat) (c : GateCtx), s.glb.dormant = false → (s.rc h).live = some c → c.finished = true →
    c.replay = none → exec (.gateEnd h false) s = .next (s.endCtx h false c.status)) ∧
  (∀ (s : State) (h : Nat) (c : GateCtx) (r : ReplayReq), s.glb.dormant = false → (s.rc h).replay = some c →
    c.finished = true → c.replay = some r → r.passes = none →
    exec (.gateEnd h true) s = .next (s.endCtx h true c.status))

/-- Replays, banks and raw slots of a head (R94, R96, R100, R164, R169, R170, R398): REPLAY starts a replay that is in range on
an enabled pipeline with none running, and sets RF for any other; RCH_LOAD and BLOAD put a good entry into a bank that no gate
names and report LOADED, and report BUSY and change no bank when a gate names it; clearing EN ends the head's gates with ABORT;
PIN pins or unpins a raw slot. -/
def Obligations.ReplaysAndBanks : Prop :=
  (∀ (s : State) (q : Nat), s.glb.dormant = false → s.canIssue q 0x41 = true →
    (let w := s.mw q; let h := 10 * q + w.dHead; let r := s.replayReq q w
     (q < 32 → w.dHead ≤ 9 → s.flag Reg.RCH_CTRL_EN h = true → (s.rc h).replay = none → r.ok = true →
       exec (.replay q) s = .next ((((s.issue q).setRF q false).startReplay h r).flow q w)) ∧
     ((9 < w.dHead ∨ s.flag Reg.RCH_CTRL_EN h = false ∨ (s.rc h).replay ≠ none ∨ r.ok = false) →
       ∃ t : State, exec (.replay q) s = .next t ∧ t.fl q flRF = true ∧ t.rch = s.rch ∧ s.Flowed t q ∧ s.SameBytes t ∧
         s.SameUnits t))) ∧
  (∀ (s : State) (h : Nat) (v : Word), s.glb.dormant = false → h < s.nHead → Reg.RCH_LOAD_GO.get v = 1 →
    s.regWritable Reg.RCH_LOAD h 0 v = true →
    (let u := s.store Reg.RCH_LOAD h 0 v
     let b := Reg.RCH_LOAD_BANK.get v; let zone := Reg.RCH_LOAD_ZONE.get v; let reader := Reg.RCH_LOAD_READER.get v
     let band := Reg.RCH_LOAD_BAND.get v
     ((s.rc h).bankBusy b = true →
       ∃ t : State, exec (.rchLoad h v) s = .next t ∧ t.fld Reg.RCH_LOAD_RESULT h = 2 ∧ t.rch = s.rch ∧ s.SameBytes t) ∧
     (∀ ws, (s.rc h).bankBusy b = false → u.bufWordsRaw (u.entryAddr h zone reader band) 32 = some ws →
       entryResult ws zone reader band = 1 →
       ∃ t : State, exec (.rchLoad h v) s = .next t ∧ t.fld Reg.RCH_LOAD_RESULT h = 1 ∧ (t.rc h).bank b = some ws ∧
         (t.rc h).bank (1 - b) = (s.rc h).bank (1 - b) ∧ s.SameBytes t))) ∧
  (∀ (s : State) (q : Nat), s.glb.dormant = false → s.canIssue q 0x48 = true → q < 32 → (s.mw q).dHead ≤ 9 →
    (s.mw q).bits 53 53 = 0 →
    (let w := s.mw q; let h := 10 * q + w.dHead
     let l := ((s.issue q).setRF q false).loadEntry h (w.bits 54 54)
       (((s.issue q).setRF q false).entryAddr h (w.bits 52 45) (w.bits 44 44) (w.bits 43 43)) (w.bits 52 45) (w.bits 44 44)
       (w.bits 43 43)
     exec (.bload q) s = .next ((l.1.setFld Reg.RCH_LOAD_RESULT h l.2).flow q w))) ∧
  (∀ (s : State) (h : Nat) (v : Word), s.glb.dormant = false → h < s.nHead → Reg.RCH_CTRL_EN.get v = 0 →
    (s.store Reg.RCH_CTRL h 0 v).flag Reg.RCH_CTRL_EN h = false →
    exec (.pipelineDisable h v) s = .next ((s.store Reg.RCH_CTRL h 0 v).endHead h 8)) ∧
  (∀ (s : State) (q : Nat), s.glb.dormant = false → s.canIssue q 0x47 = true → q < 32 → (s.mw q).dHead ≤ 9 →
    (let w := s.mw q; let h := 10 * q + w.dHead; let k := w.bits 54 54
     ∃ t : State, exec (.pin q) s = .next t ∧ ((t.rc h).rawRec k).pin = (w.bits 53 53 == 1) ∧ t.fl q flRF = false ∧
       (t.rc h).rawRec (1 - k) = (s.rc h).rawRec (1 - k) ∧ s.Flowed t q ∧ s.SameBytes t))
/-- The decoder pool (R120 to R126, R128, R130, R351, R398): CWREQ queues its codeword while the pool is on and its queue has
room, and sets RF otherwise; CWCAN cancels the codeword of its TAG; DECODER_DISPATCH gives the next codeword to the lowest free
decoder; CODEWORD_TAKEN releases the landing credit of priorities 0 to 2; DECODE_ITERATION_END runs one iteration, delivers a
codeword whose checks are all satisfied, and ends a cancelled one ABANDONED; STORE_PLACE_RESERVED sends out the result that
waited for a place. -/
def Obligations.DecoderPool : Prop :=
  (∀ (s : State) (q : Nat), s.glb.dormant = false → s.canIssue q 0x42 = true →
    (let w := s.mw q; let c := s.cwOf q (s.grs q w.dA 16)
     (q < 32 → w.dHead ≤ 9 → s.flag Reg.DEC_CTRL_EN 0 = true → s.dec.queue.length < s.nDcred → c.kind ≠ 3 →
       ∃ t : State, exec (.cwreq q) s = .next t ∧ t.fl q flRF = false ∧ t.dec.age = s.dec.age + 1 ∧
         (∀ y, y ∈ t.dec.queue ↔ y = c ∨ (y ∈ s.dec.queue ∧ y.age ≠ c.age)) ∧ t.dec.dec = s.dec.dec ∧ s.Flowed t q ∧
         s.SameBytes t) ∧
     ((9 < w.dHead ∨ s.flag Reg.DEC_CTRL_EN 0 = false ∨ s.nDcred ≤ s.dec.queue.length ∨ c.kind = 3) →
       ∃ t : State, exec (.cwreq q) s = .next t ∧ t.fl q flRF = true ∧ s.Flowed t q ∧ s.SameBytes t ∧ s.SameUnits t))) ∧
  (∀ (s : State) (q : Nat), s.glb.dormant = false → s.canIssue q 0x43 = true → q < 32 → (s.mw q).dHead ≤ 9 →
    exec (.cwcan q) s = .next ((((s.issue q).cancelCw (s.gr q (s.mw q).dC).toNat).setRF q false).flow q (s.mw q))) ∧
  (∀ (s : State) (d : Nat) (c : Codeword), s.glb.dormant = false → d < s.nDec → s.decFree d = true →
    (∀ k < d, s.decFree k = false) → s.nextCw = some c → (s.decoder d).run = none →
    ∃ (t : State) (w : DecWork), exec (.decoderDispatch d) s = .next t ∧ (t.decoder d).run = some w ∧ w.cw = c ∧
      w.taken = false ∧ w.input = s.intake c ∧ w.post = s.intake c ∧
      t.dec.queue = s.dec.queue.filter (fun y => y.age != c.age) ∧ (∀ k, k ≠ d → t.decoder k = s.decoder k) ∧
      s.SameBytes t) ∧
  (∀ (s : State) (d : Nat) (w : DecWork), s.glb.dormant = false → (s.decoder d).filling = some (0, w) → w.cw.pri ≠ 3 →
    exec (.codewordTaken d) s = .next (((s.setDecoder d { s.decoder d with run := some { w with taken := true } }).releaseSoft
      w.cw.slot w.cw.tag).decStat)) ∧
  (∀ (s : State) (d : Nat) (w : DecWork), s.glb.dormant = false → d < s.nDec → s.clk.gateWait = none →
    (s.decoder d).run = some w → (s.decoder d).hold = none → w.taken = true → w.cw.cancel = false → w.cw.pri ≠ 3 →
    w.cw.used + 1 < w.cw.iter → s.fld Reg.DEC_CTRL_STALL_ITER 0 = 0 →
    (let r := ldpcIterate ((s.fld Reg.DEC_CTRL_OFS 0 : Nat) : Int) w.post w.msgs
     let n := unsatCount (hardBits r.1)
     (n ≠ 0 → ∃ (t : State) (w' : DecWork), exec (.decodeIterationEnd d) s = .next t ∧ (t.decoder d).run = some w' ∧
       w'.post = r.1 ∧ w'.msgs = r.2 ∧ w'.cw = { w.cw with used := w.cw.used + 1 } ∧ w'.input = w.input ∧ w'.unsat = n ∧
       t.rd Reg.DEC_CNT_ITER 0 0 = word ((s.rd Reg.DEC_CNT_ITER 0 0).toNat + 1) ∧
       s.SameRegs t [Reg.DEC_CNT_ITER.addr 0 0] ∧ s.SameBytes t) ∧
     (n = 0 → ∃ (u : State) (w' : DecWork), exec (.decodeIterationEnd d) s =
       .next ((u.deliver d w' (goodCheck w'.cw (infoBytes (hardBits r.1))) 0).gateSettle) ∧ w'.post = r.1 ∧
       w'.cw = { w.cw with used := w.cw.used + 1 } ∧ u.dec = s.dec))) ∧
  (∀ (s : State) (d : Nat) (w : DecWork), s.glb.dormant = false → d < s.nDec → (s.decoder d).run = some w →
    (s.decoder d).hold = none → w.taken = true → w.cw.cancel = true →
    exec (.decodeIterationEnd d) s = .next (((s.endCw w.cw 5 true w.unsat 0 noTag).decNext d).gateSettle)) ∧
  (∀ (s : State) (d : Nat) (rest : List Nat) (w : DecWork) (r : CipherReq), s.glb.dormant = false →
    s.cph.storeWait = d :: rest → (s.decoder d).run = some w → (s.decoder d).hold = some r → s.cph.store < s.storeSize →
    ∃ u : State, exec (.storePlaceReserved d) s = .next (((u.cphEnqueue r).decNext d).gateSettle) ∧
      u.cph.store = s.cph.store + 1 ∧ u.cph.storeWait = rest)

/-- The encoders and the decoders' fences (R109, R117, R131, R132): ENCODE asks for the sector's encryption and sets RF while
the pool is off or the store full; ENCODER_START gives the oldest work with its ciphertext to the lowest free encoder;
ENCODE_DONE leaves the encoded sector in bytes 24,032 to 28,671 of its soft slot; a one written to a bit of DEC_DFENCE fences
its decoder, a zero lets one without a fault return; DECODER_FAULT raises the contained fault of the pool. -/
def Obligations.EncodersAndDecoderFences : Prop :=
  (∀ (s : State) (q : Nat), s.glb.dormant = false → s.canIssue q 0x44 = true →
    (let w := s.mw q; let b := s.grs q w.dA 16
     (q < 32 → w.dHead ≤ 9 → s.flag Reg.DEC_CTRL_EN 0 = true → s.cph.store < s.storeSize →
       ∃ u : State, exec (.encode q) s = .next (((u.cphEnqueue (encodeRequest b)).setRF q false).flow q w) ∧
         u.dec.encq = s.dec.encq ++ [({ q := q, block := b } : EncJob)] ∧ u.cph.store = s.cph.store + 1) ∧
     ((9 < w.dHead ∨ s.flag Reg.DEC_CTRL_EN 0 = false ∨ s.storeSize ≤ s.cph.store) →
       ∃ t : State, exec (.encode q) s = .next t ∧ t.fl q flRF = true ∧ s.Flowed t q ∧ s.SameBytes t ∧ s.SameUnits t))) ∧
  (∀ (s : State) (e i : Nat) (j : EncJob), s.glb.dormant = false → e < s.nEnc → s.encJob e = none →
    (∀ k < e, (s.encJob k).isSome = true) → s.dec.encq.findIdx? (fun j => j.cipher.isSome) = some i →
    s.dec.encq[i]? = some j →
    ∃ t : State, exec (.encoderStart e) s = .next t ∧ t.encJob e = some j ∧ t.dec.encq = s.dec.encq.eraseIdx i ∧
      (∀ k, k ≠ e → t.encJob k = s.encJob k) ∧ t.regs = s.regs ∧ s.SameBytes t) ∧
  (∀ (s : State) (e : Nat) (j : EncJob), s.glb.dormant = false → s.encJob e = some j → j.result = 0 →
    bitsOf (j.block.getD 0 0).toNat 9 0 < s.nSoft →
    ∃ t : State, exec (.encodeDone e) s = .next t ∧ t.encJob e = none ∧
      t.landBytes (softKey (bitsOf (j.block.getD 0 0).toNat 9 0) 24032) 4640 =
        bytesMsb 4640 (buildSector (j.cipher.getD []) (blockTag j.block)) ∧
      (∀ k, (k < softKey (bitsOf (j.block.getD 0 0).toNat 9 0) 24032 ∨
        softKey (bitsOf (j.block.getD 0 0).toNat 9 0) 24032 + 4640 ≤ k) → t.landByte k = s.landByte k) ∧
      t.rd Reg.DEC_CNT_ENC 0 0 = word ((s.rd Reg.DEC_CNT_ENC 0 0).toNat + 1) ∧
      s.SameRegs t [Reg.DEC_CNT_ENC.addr 0 0] ∧ t.mem = s.mem) ∧
  (∀ (s : State) (e : Nat) (j : EncJob), s.glb.dormant = false → s.encJob e = some j → j.result ≠ 0 →
    ∃ t : State, exec (.encodeDone e) s = .next t ∧ t.encJob e = none ∧ t.regs = s.regs ∧ s.SameBytes t) ∧
  (∀ (s : State) (j : Nat) (v : Word), s.glb.dormant = false → j < 2 →
    ∃ t : State, exec (.decoderFenceWrite j v) s = .next t ∧
      (∀ k < 32, 32 * j + k < s.nDec → v.getLsbD k = true → t.decFenced (32 * j + k) = true) ∧
      (∀ k < 32, 32 * j + k < s.nDec → v.getLsbD k = false → s.decFaulted (32 * j + k) = false →
        t.decFenced (32 * j + k) = false) ∧
      (∀ k < 32, 32 * j + k < s.nDec → v.getLsbD k = false → s.decFaulted (32 * j + k) = true →
        t.decFenced (32 * j + k) = s.decFenced (32 * j + k)) ∧ s.SameBytes t) ∧
  (∀ (s : State) (d : Nat), s.glb.dormant = false → d < s.nDec →
    exec (.decoderFault d) s = .next (s.raise srcDEC 0 d false))
/-- CREDIT (R25, R398): with one landing and one decoder credit free it takes both, and g[A][9:0] names the soft slot; with
either exhausted it sets RF and takes neither. -/
def Obligations.CreditWord : Prop :=
  ∀ (s : State) (q : Nat), s.glb.dormant = false → s.canIssue q 0x4B = true → q < 32 → (s.mw q).dHead ≤ 9 →
    (∀ k, s.freeSoft = some k → s.stm.dcred < s.nDcred →
      ∃ t : State, exec (.credit q) s = .next t ∧ t.fl q flRF = false ∧
        (t.gr q (s.mw q).dA).toNat = (s.gr q (s.mw q).dA).toNat / 1024 * 1024 + k ∧ s.SameGrs t q (s.mw q).dA ∧
        t.stm.soft = s.stm.soft ++ [k] ∧ t.stm.dcred = s.stm.dcred + 1 ∧ k ∉ s.stm.soft ∧ k < s.nSoft ∧ s.Flowed t q ∧
        s.SameBytes t) ∧
    ((s.freeSoft = none ∨ s.nDcred ≤ s.stm.dcred) →
      ∃ t : State, exec (.credit q) s = .next t ∧ t.fl q flRF = true ∧ (∀ r, t.gr q r = s.gr q r) ∧ t.stm = s.stm ∧
        s.Flowed t q ∧ s.SameBytes t)

/-- REPORT (R144 to R147, R152, R170, R171, R402), for a TAG that a live sector holds: VERIFIED makes a write verified and looks
whether it is durable; VFAIL counts and rewrites forward; INTERRUPTED ends the TAG's gates, and the write waits for another try
in place while it has one; UNDECIDED waits for a late verify, counted; REREAD and MISSED wait for another pass, granted anew;
MIRROR goes to the other copy where one serves; UNRECOVERED ends the read; a code that R402 does not name sets RF. -/
def Obligations.ReportWords : Prop :=
  (∀ (s : State) (q : Nat), s.glb.dormant = false → s.canIssue q 0x4C = true →
    ¬ (1 ≤ (s.mw q).bits 54 51 ∧ (s.mw q).bits 54 51 ≤ 8) →
    ∃ t : State, exec (.report q) s = .next t ∧ t.fl q flRF = true ∧ t.stm = s.stm ∧ s.Flowed t q ∧ s.SameBytes t) ∧
  (∀ (s : State) (q : Nat) (x : Sector), s.glb.dormant = false → s.canIssue q 0x4C = true → q < 32 → (s.mw q).dHead ≤ 9 →
    (let u := (s.issue q).setRF q false; let w := s.mw q; let code := w.bits 54 51
     u.sector (u.gr q w.dC).toNat = some x → x.dropped = false →
     (code = 1 → x.op = 1 → x.slipOf = none → exec (.reportVerified q) s =
       .next ((((u.giveCredits x).setSector { x with verified := true, st := .served, soft := none, decCredit := false
                                                     }).durableCheck x.tag).flow q w)) ∧
     (code = 2 → x.op = 1 → exec (.reportVfail q) s =
       .next ((((u.bump Reg.DEC_CNT_VFAIL 0 1).writeEntry x).1.rewriteForward x
         (rfwdMax ((u.bump Reg.DEC_CNT_VFAIL 0 1).writeEntry x).2)).flow q w)) ∧
     (code = 3 → x.op = 1 →
       (let v := u.abortGates x.act x.tag; let y := (v.sector x.tag).getD x; let e := v.writeEntry y
        y.retries < wretry e.2 → (e.1.zone (zoneKey y.act y.zone)).shingled = false → exec (.reportInterrupted q) s =
          .next (((e.1.giveCredits y).requeue { y with retries := y.retries + 1, late := false }).flow q w))) ∧
     (code = 4 → x.op = 1 → ∃ t : State, exec (.reportUndecided q) s = .next t ∧
       t.sector x.tag = some { x with late := true, st := .queued, soft := none, decCredit := false } ∧
       t.rd Reg.DEC_CNT_VLATE 0 0 = word ((s.rd Reg.DEC_CNT_VLATE 0 0).toNat + 1) ∧ t.fl q flRF = false ∧ s.SameBytes t) ∧
     (code = 5 → ∃ t : State, exec (.reportReread q) s = .next t ∧
       t.sector x.tag = some { x with st := .queued, soft := none, decCredit := false } ∧ t.fl q flRF = false ∧
       s.SameBytes t) ∧
     (code = 6 → x.op ≠ 1 → (u.otherCopy x false).isSome = true →
       exec (.reportMirror q) s = .next ((u.moveCopy x).flow q w)) ∧
     (code = 6 → x.op ≠ 1 → u.otherCopy x false = none →
       exec (.reportMirror q) s = .next ((u.unrecovered x).flow q w)) ∧
     (code = 7 → x.op ≠ 1 → exec (.reportUnrecovered q) s = .next ((u.unrecovered x).flow q w)) ∧
     (code = 8 → ∃ t : State, exec (.reportMissed q) s = .next t ∧
       t.sector x.tag = some { x with st := .queued, soft := none, decCredit := false } ∧ t.fl q flRF = false ∧
       s.SameBytes t)))
/-- Servo windows, wedges and seeks (R168, R181 to R184, R196 to R199, R202, R203, R398): a window that closes without a SAM is
done and not found; a demodulation puts its head's result into its window; the last of a wedge completes it, and the comb
acquires or follows; SEEK sets the target of an engine that follows or seeks, and sets RF elsewhere; a seek that overruns its
limit ends failed; a following error and a lost servo raise their faults; OFFSET gives a head its read offset, and sets RF
above head 9, beyond 64 and while the head has one. -/
def Obligations.ServoWedgesAndSeeks : Prop :=
  (∀ (s : State) (a j : Nat), s.glb.dormant = false → a < s.nAct → j < 10 → s.windows a = true →
    ((s.sv a).head j).done = false →
    ∃ t : State, exec (.servoWindowClose a j) s = .next t ∧ ((t.sv a).head j).done = true ∧
      ((t.sv a).head j).found = false ∧ (∀ k, k ≠ j → (t.sv a).head k = (s.sv a).head k) ∧ t.regs = s.regs ∧ s.SameBytes t) ∧
  (∀ (s : State) (a j : Nat) (dem : Demod), s.glb.dormant = false → a < s.nAct → j < 10 → s.windows a = true →
    ((s.sv a).head j).done = false →
    ∃ u : State, exec (.headDemodulationEnd a j dem) s = .next (u.earlyInhibit a j) ∧
      (u.sv a).head j = (s.demod a j dem).1 ∧ (∀ k, k ≠ j → (u.sv a).head k = (s.sv a).head k) ∧
      s.SameRegs u [Reg.SRV_CNT_GRAY.addr a 0] ∧ s.SameBytes u) ∧
  (∀ (s : State) (a : Nat), s.glb.dormant = false → a < s.nAct → s.windows a = true → s.allDone a = true →
    (let u := s.injStepEnd a
     (u.srvState a = srvAcquiring → exec (.wedgeComplete a) s = .next ((u.acquireWedge a).driveSettle (a / 2))) ∧
     (u.srvState a ≠ srvAcquiring → exec (.wedgeComplete a) s = .next ((u.followWedge a).driveSettle (a / 2))))) ∧
  (∀ (s : State) (q : Nat), s.glb.dormant = false → s.canIssue q 0x45 = true → q < 32 →
    (s.srvState q = srvFollowing ∨ s.srvState q = srvSeeking ∨ s.srvState q = srvSettling) →
    ∃ (t : State) (k : SeekS), exec (.seek q) s = .next t ∧ (t.sv q).seek = some k ∧
      k.target = (s.gr q (s.mw q).dA).toNat % 2 ^ 24 ∧ k.write = ((s.mw q).bits 54 54 == 1) ∧
      k.tag = some (q, (s.mw q).bits 53 38) ∧ t.fl q flRF = false) ∧
  (∀ (s : State) (q : Nat), s.glb.dormant = false → s.canIssue q 0x45 = true →
    ¬ (q < 32 ∧ (s.srvState q = srvFollowing ∨ s.srvState q = srvSeeking ∨ s.srvState q = srvSettling)) →
    ∃ t : State, exec (.seek q) s = .next t ∧ t.fl q flRF = true ∧ s.Flowed t q ∧ s.SameBytes t ∧ s.SameUnits t) ∧
  (∀ (s : State) (a : Nat) (k : SeekS), s.glb.dormant = false → a < s.nAct → (s.sv a).seek = some k →
    s.fld Reg.SRV_FE_SEEK_MAX a ≤ k.wedges → (s.sv a).parking = false →
    exec (.seekTimeout a) s = .next ((s.seekEnd a true).driveSettle (a / 2))) ∧
  (∀ (s : State) (a : Nat) (k : SeekS), s.glb.dormant = false → a < s.nAct → (s.sv a).seek = some k →
    s.fld Reg.SRV_FE_SEEK_MAX a ≤ k.wedges → (s.sv a).parking = true →
    exec (.seekTimeout a) s = .next (((s.seekEnd a true).startUnloadProfile a).driveSettle (a / 2))) ∧
  (∀ (s : State) (a : Nat), s.glb.dormant = false → a < s.nAct → (s.sv a).feRun = true →
    exec (.followingErrorTimeout a) s = .next (((s.setSv a { s.sv a with feRun := false }).srvFault a 0).driveSettle (a / 2))) ∧
  (∀ (s : State) (a : Nat), s.glb.dormant = false → a < s.nAct → s.windows a = true →
    s.fld Reg.SRV_THR2_MISS_MAX a ≤ (s.sv a).cmiss →
    exec (.servoLost a) s = .next (((s.setSv a { s.sv a with cmiss := 0 }).srvFault a 1).driveSettle (a / 2))) ∧
  (∀ (s : State) (q : Nat), s.glb.dormant = false → s.canIssue q 0x46 = true →
    (let w := s.mw q; let o := signed 8 (w.bits 54 47)
     (q < 32 → w.dHead ≤ 9 → -64 ≤ o → o ≤ 64 → ((s.sv q).head w.dHead).ofs = none →
       ∃ (t : State) (r : OfsReq), exec (.offset q) s = .next t ∧ ((t.sv q).head w.dHead).ofs = some r ∧ r.value = o ∧
         r.start = s.gPair q w.dA % 2 ^ 48 ∧ r.len = (s.gr q w.dB).toNat ∧ t.fl q flRF = false ∧ s.Flowed t q ∧
         s.SameBytes t) ∧
     ((9 < w.dHead ∨ o < -64 ∨ 64 < o ∨ ((s.sv q).head w.dHead).ofs ≠ none) →
       ∃ t : State, exec (.offset q) s = .next t ∧ t.fl q flRF = true ∧ s.Flowed t q ∧ s.SameBytes t ∧ s.SameUnits t)))

/-- Load, unload, coefficient sets, injection and capture of a servo engine (R205, R206, R210 to R212, R217 to R221): LOAD starts
the load profile of an Unloaded engine whose HDA spins; UNLOAD and EN cleared unload it; a profile step's end sends the next
step, or ends the profile; an acquisition that overruns is "load failed"; a set load waits for its end, which makes a good set
ready, and the switch makes it the active bank; injection starts where R217 allows and reports REFUSED elsewhere; STOP and the
end of a step end it; a capture is armed from idle and done at its length. -/
def Obligations.ServoLoadingAndTests : Prop :=
  (∀ (s : State) (a : Nat) (v : Word), s.glb.dormant = false → a < s.nAct → Reg.SRV_CTRL_LOAD.get v = 1 →
    Reg.SRV_CTRL_UNLOAD.get v = 0 → s.regWritable Reg.SRV_CTRL a 0 v = true →
    (let u := s.store Reg.SRV_CTRL a 0 v
     u.flag Reg.SRV_CTRL_EN a = true → u.srvState a = srvUnloaded → u.hdaState (a / 2) = hdaSpinning →
     u.mode ≠ modeQuiescent → u.actFenced a = false → u.glb.rejoin.contains (srcSRV a) = false → (u.profStep a true 0).2 ≠ 0 →
     ∃ y : State, exec (.servoLoad a v) s = .next (y.engineSettle a) ∧ y.srvState a = srvLoading ∧
       (y.sv a).prof = some (true, 0) ∧ y.fld Reg.SRV_CTRL_LOAD a = 1 ∧ s.SameBytes y)) ∧
  (∀ (s : State) (a : Nat) (v : Word), s.glb.dormant = false → a < s.nAct → Reg.SRV_CTRL_UNLOAD.get v = 1 →
    Reg.SRV_CTRL_LOAD.get v = 0 → s.regWritable Reg.SRV_CTRL a 0 v = true →
    exec (.servoUnload a v) s = .next ((s.store Reg.SRV_CTRL a 0 v).servoUnload a)) ∧
  (∀ (s : State) (a : Nat) (v : Word), s.glb.dormant = false → a < s.nAct → Reg.SRV_CTRL_EN.get v = 0 →
    Reg.SRV_CTRL_UNLOAD.get v = 0 → Reg.SRV_CTRL_LOAD.get v = 0 → s.regWritable Reg.SRV_CTRL a 0 v = true →
    s.flag Reg.SRV_CTRL_EN a = true → (s.store Reg.SRV_CTRL a 0 v).flag Reg.SRV_CTRL_EN a = false →
    exec (.servoEngineDisable a v) s = .next ((s.store Reg.SRV_CTRL a 0 v).servoUnload a)) ∧
  (∀ (s : State) (a k : Nat) (load : Bool), s.glb.dormant = false → a < s.nAct → (s.sv a).prof = some (load, k) →
    (s.sv a).held = false →
    ((s.profStep a load (k + 1)).2 ≠ 0 → exec (.profileStepEnd a) s =
      .next (((s.setSv a { s.sv a with prof := some (load, k + 1) }).profileCode a (s.profStep a load (k + 1)).1).driveSettle
        (a / 2))) ∧
    ((s.profStep a load (k + 1)).2 = 0 → load = true → exec (.profileStepEnd a) s =
      .next (((s.setSv a { s.sv a with prof := none }).srvTo a srvAcquiring).driveSettle (a / 2))) ∧
    ((s.profStep a load (k + 1)).2 = 0 → load = false → exec (.profileStepEnd a) s =
      .next ((s.unloadDone a).driveSettle (a / 2)))) ∧
  (∀ (s : State) (a : Nat), s.glb.dormant = false → a < s.nAct → s.srvState a = srvAcquiring →
    exec (.acquisitionTimeout a) s =
      .next ((((s.setFld Reg.SRV_CTRL_LOAD a 0).startUnloadProfile a).srvFault a 2).driveSettle (a / 2))) ∧
  (∀ (s : State) (a : Nat) (v : Word), s.glb.dormant = false → a < s.nAct → Reg.SRV_LOAD_GO.get v = 1 →
    s.regWritable Reg.SRV_LOAD a 0 v = true → s.flag Reg.SRV_LOAD_GO a = false → (s.sv a).load = none →
    (Reg.SRV_LOAD_MODE.get v = 1 ∨ Reg.SRV_LOAD_BAND.get v = s.fld Reg.SRV_STAT_BAND a) →
    ∃ (t : State) (l : SetLoad), exec (.servoSetLoad a v) s = .next t ∧ (t.sv a).load = some l ∧ l.mask = v.toNat % 4096 ∧
      l.mode = Reg.SRV_LOAD_MODE.get v ∧ l.host = true ∧ t.fld Reg.SRV_LOAD_GO a = 1 ∧ t.fld Reg.SRV_LOAD_RESULT a = 0 ∧
      s.SameRegs t [Reg.SRV_LOAD.addr a 0] ∧ s.SameBytes t) ∧
  (∀ (s : State) (a : Nat) (l : SetLoad), s.glb.dormant = false → a < s.nAct → (s.sv a).load = some l →
    exec (.servoSetLoadEnd a) s = .next (((s.setLoadEnd a).driveSettle (a / 2)).gateSettle) ∧
    (∀ ws, l.host = true → s.bufRead (s.setAddr a l) 3072 = some ws → setResult (bytesWords 768 ws) l.band = 1 →
      ((s.setLoadEnd a).sv a).switch = some l ∧ ((s.setLoadEnd a).sv a).load = none ∧
      (s.setLoadEnd a).fld Reg.SRV_LOAD_RESULT a = 1 ∧ (s.setLoadEnd a).fld Reg.SRV_LOAD_GO a = 0)) ∧
  (∀ (s : State) (a : Nat) (l : SetLoad), s.glb.dormant = false → a < s.nAct → (∀ j < 10, ((s.sv a).head j).done = false) →
    (s.sv a).switch = some l → (s.sv a).inj = none →
    ∃ t : State, exec (.servoSetSwitch a) s = .next t ∧ (t.sv a).active = (s.sv a).loading ∧ (t.sv a).switch = none ∧
      t.fld Reg.SRV_STAT_BANK a = 1 - s.fld Reg.SRV_STAT_BANK a ∧ s.SameRegs t [Reg.SRV_STAT.addr a 0] ∧ s.SameBytes t) ∧
  (∀ (s : State) (a : Nat) (v : Word), s.glb.dormant = false → a < s.nAct → Reg.SRV_INJ_CTRL_GO.get v = 1 →
    Reg.SRV_INJ_CTRL_STOP.get v = 0 → s.regWritable Reg.SRV_INJ_CTRL a 0 v = true →
    (let u := s.store Reg.SRV_INJ_CTRL a 0 v
     (u.injRefused a = false →
       ∃ (t : State) (r : InjRun), exec (.injectionGo a v) s = .next t ∧ (t.sv a).inj = some r ∧
         r.point = u.fld Reg.SRV_INJ_CTRL_POINT a ∧ r.head = u.fld Reg.SRV_INJ_CTRL_HEAD a ∧
         t.fld Reg.SRV_INJ_CTRL_GO a = 1 ∧ t.fld Reg.SRV_INJ_CTRL_RESULT a = 0 ∧ s.SameBytes t) ∧
     (u.injRefused a = true →
       ∃ t : State, exec (.injectionGo a v) s = .next t ∧ t.fld Reg.SRV_INJ_CTRL_RESULT a = 2 ∧ t.srv = s.srv ∧
         s.SameBytes t))) ∧
  (∀ (s : State) (a : Nat) (v : Word) (r : InjRun), s.glb.dormant = false → a < s.nAct → Reg.SRV_INJ_CTRL_STOP.get v = 1 →
    Reg.SRV_INJ_CTRL_GO.get v = 0 → s.regWritable Reg.SRV_INJ_CTRL a 0 v = true → (s.sv a).inj = some r →
    (s.store Reg.SRV_INJ_CTRL a 0 v).injDue a = false →
    ∃ t : State, exec (.injectionStop a v) s = .next t ∧ (t.sv a).inj = none ∧ t.fld Reg.SRV_INJ_CTRL_RESULT a = 5 ∧
      t.fld Reg.SRV_INJ_CTRL_GO a = 0 ∧ s.SameRegs t [Reg.SRV_INJ_CTRL.addr a 0] ∧ s.SameBytes t) ∧
  (∀ (s : State) (a : Nat) (r : InjRun), s.glb.dormant = false → a < s.nAct → (s.sv a).inj = some r → s.injDue a = true →
    r.signal = 2 →
    ∃ t : State, exec (.injectionStepEnd a) s = .next t ∧ (t.sv a).inj = none ∧ t.fld Reg.SRV_INJ_CTRL_RESULT a = 1 ∧
      t.fld Reg.SRV_INJ_CTRL_GO a = 0 ∧ s.SameRegs t [Reg.SRV_INJ_CTRL.addr a 0] ∧ s.SameBytes t) ∧
  (∀ (s : State) (a : Nat) (v : Word), s.glb.dormant = false → a < s.nAct → Reg.SRV_CAP_CTRL_ARM.get v = 1 →
    s.regWritable Reg.SRV_CAP_CTRL a 0 v = true → s.flag Reg.SRV_CAP_CTRL_ARM a = false →
    ∃ t : State, exec (.captureArm a v) s = .next t ∧ t.fld Reg.SRV_CAP_CTRL_ARM a = 1 ∧
      t.fld Reg.SRV_CAP_CTRL_STATE a = 1 ∧ (t.sv a).cap = 0 ∧ s.SameRegs t [Reg.SRV_CAP_CTRL.addr a 0] ∧ s.SameBytes t) ∧
  (∀ (s : State) (a : Nat), s.glb.dormant = false → a < s.nAct → s.fld Reg.SRV_CAP_CTRL_STATE a = 2 →
    s.fld Reg.SRV_CAP_CTRL_LEN a ≤ (s.sv a).cap →
    ∃ t : State, exec (.captureEnd a) s = .next t ∧ t.fld Reg.SRV_CAP_CTRL_STATE a = 3 ∧
      t.fld Reg.SRV_CAP_CTRL_ARM a = 0 ∧ t.srv = s.srv ∧ s.SameRegs t [Reg.SRV_CAP_CTRL.addr a 0] ∧ s.SameBytes t)
/-- A spindle starts (R227, R230, R237 to R242, R245, R251): START takes a Stopped HDA to Starting, in the Listen phase; the end
of the Listen window goes on to Align, to braking or to a catch by the edges it saw; the end of Still goes to Align, and of
Align to the blind ramp; each step of the ramp commutates by one, hands over with enough edges, and fails at twice HANDOVER;
EN set anchors the reference, RESYNC waits for its boundary, and a write of SPN_TARGET stores the clamped K. -/
def Obligations.SpindleStart : Prop :=
  (∀ (s : State) (n : Nat) (v : Word), s.glb.dormant = false → n < s.nHda → Reg.SPN_CTRL_START.get v = 1 →
    Reg.SPN_CTRL_STOP.get v = 0 → Reg.SPN_CTRL_RESYNC.get v = 0 → s.regWritable Reg.SPN_CTRL n 0 v = true →
    s.flag Reg.SPN_CTRL_EN n = true → s.hdaState n = hdaStopped → s.fenced (srcSPN n) = false → s.mode ≠ modeQuiescent →
    (let u := s.store Reg.SPN_CTRL n 0 v
     u.flag Reg.SPN_CTRL_EN n = true → (u.busGroup n).all (fun h => (u.spnS h).ov == 0) = true →
     ∃ y : State, exec (.spindleStart n v) s = .next (y.driveSettle n) ∧ y.hdaState n = hdaStarting ∧
       y.fld Reg.SPN_CTRL_START n = 1 ∧ y.fld Reg.SPN_STAT_PHASE n = 0 ∧ (y.spnS n).tries = 0 ∧ (y.spnS n).edges = [] ∧
       (y.spnS n).closed = false ∧ s.SameBytes y)) ∧
  (∀ (s : State) (n : Nat), s.glb.dormant = false → n < s.nHda → s.hdaState n = hdaStarting → s.fld Reg.SPN_STAT_PHASE n = 0 →
    (let es := (s.spnS n).edges
     let mean : Rat := ((((edgeIntervals es).foldl (· + ·) 0 : Nat)) : Rat) / (((edgeIntervals es).length : Nat) : Rat)
     (es.length ≤ 1 → exec (.listenWindowEnd n) s = .next ((s.align n).driveSettle n)) ∧
     (2 ≤ es.length → (es.length < 4 ∨ forwardEdges es = false ∨
         rpmOf (s.pp n) mean < ((s.fld Reg.SPN_START2_HANDOVER n : Nat) : Rat)) →
       exec (.listenWindowEnd n) s = .next (((s.setFld Reg.SPN_STAT_PHASE n 1).brakeShort n).driveSettle n)) ∧
     (∀ l, 4 ≤ es.length → forwardEdges es = true → ((s.fld Reg.SPN_START2_HANDOVER n : Nat) : Rat) ≤ rpmOf (s.pp n) mean →
       es.getLast? = some l → exec (.listenWindowEnd n) s = .next ((s.catchSpindle n es l).driveSettle n)))) ∧
  (∀ (s : State) (n : Nat), s.glb.dormant = false → n < s.nHda → s.hdaState n = hdaStarting → (s.spnS n).brake = 4 →
    exec (.stillEnd n) s = .next (s.align n)) ∧
  (∀ (s : State) (n : Nat), s.glb.dormant = false → n < s.nHda → s.hdaState n = hdaStarting → s.fld Reg.SPN_STAT_PHASE n = 3 →
    ∃ t : State, exec (.alignEnd n) s = .next t ∧ t.fld Reg.SPN_STAT_PHASE n = 4 ∧ (t.spnS n).blind = 0 ∧
      (t.spnS n).step = (s.spnS n).step ∧ s.SameRegs t [Reg.SPN_STAT.addr n 0] ∧ s.SameBytes t) ∧
  (∀ (s : State) (n : Nat), s.glb.dormant = false → n < s.nHda → s.hdaState n = hdaStarting → s.fld Reg.SPN_STAT_PHASE n = 4 →
    (let x := s.spnS n; let k := x.blind + 1; let st := (s.fld Reg.SPN_START2_ALIGN_STEP n + k) % 6
     let at' := (x.apply + (s.blindTime n k - s.blindTime n x.blind)) % 2 ^ 32
     let ho := s.fld Reg.SPN_START2_HANDOVER n
     ∃ y : State, (y.spnS n).blind = k ∧ (y.spnS n).step = st ∧ y.regs = s.regs ∧ s.SameBytes y ∧
       (s.blindReaches n k ho = false →
         exec (.blindRampStep n) s = .next (y.phaseStep n at' st (s.blindDuty n k))) ∧
       (s.blindReaches n k ho = true → x.edgeSeen = true → s.fld Reg.SPN_START2_HANDOVER_N n ≤ x.blindOk →
         exec (.blindRampStep n) s = .next ((y.phaseStep n at' st (s.blindDuty n k)).closeLoop n)) ∧
       (s.blindReaches n k (2 * ho) = true → x.edgeSeen = false → 0 < s.fld Reg.SPN_START2_HANDOVER_N n →
         exec (.blindRampStep n) s = .next (((y.phaseStep n at' st (s.blindDuty n k)).attemptFailed n).driveSettle n)))) ∧
  (∀ (s : State) (n : Nat) (v : Word), s.glb.dormant = false → n < s.nHda → Reg.SPN_CTRL_EN.get v = 1 →
    Reg.SPN_CTRL_STOP.get v = 0 → Reg.SPN_CTRL_START.get v = 0 → Reg.SPN_CTRL_RESYNC.get v = 0 →
    s.regWritable Reg.SPN_CTRL n 0 v = true → s.fld Reg.SPN_CTRL_EN n = 0 →
    (let u := s.store Reg.SPN_CTRL n 0 v
     u.flag Reg.SPN_CTRL_EN n = true →
     ∃ y : State, exec (.spindleEnable n v) s = .next (y.driveSettle n) ∧
       (y.spnS n).omega = u.fld Reg.SPN_TARGET_K n * 2 ^ 32 ∧
       (y.spnS n).theta = u.fld Reg.SPN_TARGET_K n * u.tick % 46080 * 2 ^ 32 ∧ y.regs = u.regs ∧ s.SameBytes y)) ∧
  (∀ (s : State) (n : Nat) (v : Word), s.glb.dormant = false → n < s.nHda → Reg.SPN_CTRL_RESYNC.get v = 1 →
    Reg.SPN_CTRL_STOP.get v = 0 → Reg.SPN_CTRL_START.get v = 0 → s.regWritable Reg.SPN_CTRL n 0 v = true →
    s.flag Reg.SPN_CTRL_EN n = true → (s.store Reg.SPN_CTRL n 0 v).flag Reg.SPN_CTRL_EN n = true →
    ∃ y : State, exec (.resync n v) s = .next (y.driveSettle n) ∧ y.fld Reg.SPN_CTRL_RESYNC n = 1 ∧ y.spn = s.spn ∧
      s.SameRegs y [Reg.SPN_CTRL.addr n 0] ∧ s.SameBytes y) ∧
  (∀ (s : State) (n : Nat) (v : Word), s.glb.dormant = false → n < s.nHda → s.regWritable Reg.SPN_TARGET n 0 v = true →
    (let k := Reg.SPN_TARGET_K.get v; let k' := max 32 (min s.kLimit k)
     ∃ y : State, exec (.spnTarget n v) s = .next (y.driveSettle n) ∧
       ((s.hdaState n = hdaStopped ∨ s.hdaState n = hdaBraking ∨ s.hdaState n = hdaAbsent) →
         y.fld Reg.SPN_TARGET_K n = k' ∧ y.fld Reg.SPN_STAT_CLAMP n = (if k' = k then 0 else 1) ∧
         y.fld Reg.SPN_STAT_AT_LATE n = 0 ∧ y.spn = s.spn) ∧
       ((s.hdaState n = hdaTracking ∨ s.hdaState n = hdaSlewing ∨ s.hdaState n = hdaSpinning) →
         Reg.SPN_TARGET_AT.get v = 0 → y.fld Reg.SPN_TARGET_K n = k' ∧ (y.spnS n).rampAt = some none ∧
         (y.spnS n).omega = (s.spnS n).omega) ∧
       s.SameRegs y [Reg.SPN_TARGET.addr n 0, Reg.SPN_STAT.addr n 0] ∧ s.SameBytes y))

/-- A spindle stops, and loses a commutation edge (R230, R233, R238, R239, R243, R244, R253): STOP takes a turning spindle to
Braking with both actuators asked to unload; the unload wait ends in braking proper; short braking and listen windows
alternate until a window shows at most one edge, and STILL_MS later the HDA is Stopped; a window that closes without its edge
counts a miss, and commutates as predicted or, at MISS_N, is a loss of synchronism. -/
def Obligations.SpindleStop : Prop :=
  (∀ (s : State) (n : Nat) (v : Word), s.glb.dormant = false → n < s.nHda → Reg.SPN_CTRL_STOP.get v = 1 →
    Reg.SPN_CTRL_RESYNC.get v = 0 → s.regWritable Reg.SPN_CTRL n 0 v = true → s.flag Reg.SPN_CTRL_EN n = true →
    (s.hdaState n = hdaStarting ∨ s.hdaState n = hdaSpinning ∨ s.hdaState n = hdaTracking ∨ s.hdaState n = hdaSlewing) →
    exec (.spindleStop n v) s =
      .next (((((s.store Reg.SPN_CTRL n 0 v).setFld Reg.SPN_CTRL_STOP n 1).brakeFor n 1).brakePoll n).driveSettle n)) ∧
  (∀ (s : State) (n : Nat) (v : Word), s.glb.dormant = false → n < s.nHda → Reg.SPN_CTRL_STOP.get v = 1 →
    Reg.SPN_CTRL_RESYNC.get v = 0 → s.regWritable Reg.SPN_CTRL n 0 v = true → s.flag Reg.SPN_CTRL_EN n = true →
    (s.hdaState n = hdaStopped ∨ s.hdaState n = hdaAbsent) →
    ∃ y : State, exec (.spindleStop n v) s = .next (y.driveSettle n) ∧ y.fld Reg.SPN_CTRL_STOP n = 0 ∧ y.spn = s.spn ∧
      s.SameRegs y [Reg.SPN_CTRL.addr n 0] ∧ s.SameBytes y) ∧
  (∀ (s : State) (n : Nat), s.glb.dormant = false → n < s.nHda → s.hdaState n = hdaBraking → (s.spnS n).brake = 0 →
    ((s.spnS n).why = 1 ∨ (s.spnS n).why = 2) → exec (.unloadWaitExpiry n) s = .next (s.brakeOn n)) ∧
  (∀ (s : State) (n : Nat), s.glb.dormant = false → n < s.nHda → s.hdaState n = hdaBraking → (s.spnS n).brake = 2 →
    s.canCommand n = true →
    exec (.brakeIntervalEnd n) s = .next ((s.setSpn n { s.spnS n with brake := 3 }).listen n)) ∧
  (∀ (s : State) (n : Nat), s.glb.dormant = false → n < s.nHda → s.hdaState n = hdaBraking → (s.spnS n).brake = 3 →
    ((s.spnS n).edges.length ≤ 1 → (s.spnS n).why ≠ 4 → exec (.listenWindowEnd n) s =
      .next (((s.setSpn n { s.spnS n with brake := 4 }).shortBrake n).driveSettle n)) ∧
    (2 ≤ (s.spnS n).edges.length → exec (.listenWindowEnd n) s = .next ((s.brakeShort n).driveSettle n))) ∧
  (∀ (s : State) (n : Nat), s.glb.dormant = false → n < s.nHda → s.hdaState n = hdaBraking → (s.spnS n).brake = 4 →
    ∃ y : State, exec (.stillEnd n) s = .next (y.driveSettle n) ∧ y.hdaState n = hdaStopped ∧
      y.fld Reg.SPN_CTRL_STOP n = 0 ∧ y.fld Reg.SPN_CTRL_START n = 0 ∧ (y.spnS n).brake = 0) ∧
  (∀ (s : State) (n : Nat), s.glb.dormant = false → n < s.nHda → (s.spnS n).closed = true → (s.spnS n).edgeSeen = false →
    s.windowOver n = true →
    (let x := s.spnS n; let u := (s.setSpn n { x with miss := x.miss + 1 }).bump Reg.SPN_CNT_MISS n 1
     (s.fld Reg.SPN_OBS_MISS_N n ≤ x.miss + 1 → exec (.edgeWindowClose n) s = .next ((u.syncLost n).driveSettle n)) ∧
     (x.miss + 1 < s.fld Reg.SPN_OBS_MISS_N n → exec (.edgeWindowClose n) s =
       .next ((u.commutate n (unsigned 32 ((x.apply : Int) + qz 38 (u.edgeWindow n).1))).driveSettle n))))

/-- Ticks, epochs and power (R31, R245, R374 to R377, R437, R468, R471): TIME_BASE_TICK advances the count by one tick, or by
the steps that remain of an adjustment, and every spindle with it; EPOCH_BOUNDARY acts once the count passes the highest
epoch reached, and takes a Quiescent device that asked for Service back to serving; an idle timer takes its HDA to the next
idle state; Set Features of the power state sets its state and completes; an idle controller goes to its non-operational
state. -/
def Obligations.TimeAndPower : Prop :=
  (∀ (s : State), s.glb.dormant = false →
    exec .timeBaseTick s = .next ((((List.range s.nHda).foldl (fun u n => (u.spnTick n).idlePoll n)
      s.nextTick.holdTick.busyTick)).psPoll)) ∧
  (∀ (s : State), s.glb.dormant = false → s.stm.hwm < s.epoch →
    ∃ y : State, exec .epochBoundary s = .next ((List.range y.nHda).foldl (fun u n => u.driveSettle n)
        ((y.commits.slipWrites.epochCounts.epochMode).seqEvents stewards 8)) ∧
      y.stm.hwm = s.epoch) ∧
  (∀ (s : State), s.mode = modeQuiescent → s.flag Reg.GLB_MODE_SVC_REQ 0 = true →
    s.epochMode = (s.setFld Reg.GLB_MODE_SVC_REQ 0 0).setMode s.servingMode) ∧
  (∀ (s : State), s.stm.hwm ≥ s.epoch → exec .epochBoundary s = .next s) ∧
  (∀ (s : State) (n : Nat), s.glb.dormant = false → n < s.nHda → s.idleDue n = some 1 →
    exec (.idleTimerExpiry n) s = .next ((s.idleEnter n 1).driveSettle n)) ∧
  (∀ (s : State) (n d : Nat), s.glb.dormant = false → n < s.nHda → s.idleDue n = some d → d ≠ 1 →
    ((∀ h ∈ s.idlePair n, s.idleDue h = some d) →
      exec (.idleTimerExpiry n) s = .next ((s.idlePair n).foldl (fun u h => (u.idleEnter h d).driveSettle h) s)) ∧
    ((∃ h ∈ s.idlePair n, s.idleDue h ≠ some d) → exec (.idleTimerExpiry n) s = .next s)) ∧
  (∀ (s : State) (p slot : Nat) (c : Cmd), s.glb.dormant = false → s.newCmd p slot true [0x09] = some c →
    bitsOf (c.cdw 10) 7 0 = 2 →
    (let ps := bitsOf (c.cdw 11) 4 0; let k := s.ctrl p c.link
     (ps ≤ 3 → exec (.setPowerState p slot) s = .next (((s.setCtrl p c.link
       { k with ps := ps, opPs := if ps < 3 then ps else k.opPs }).psApply).complete p slot scOk 0)) ∧
     (3 < ps → exec (.setPowerState p slot) s = .next (s.complete p slot scField 0)))) ∧
  (∀ (s : State) (p l : Nat), s.glb.dormant = false → s.ctrlOn p l = true → (s.ctrl p l).ps < 3 →
    (∀ e ∈ s.cmds, e.1 = p → e.2.2.link ≠ l) →
    exec (.apstTransition p l) s =
      .next ((s.setCtrl p l { s.ctrl p l with opPs := (s.ctrl p l).ps, ps := 3 }).psApply))

/-- The stream commands (R264, R265, R270, R280 to R283, R379): in Quiescent each ends with Not Ready; a handle of a FREE
context ends with the invalid-stream status; Open takes the lowest free index and a ring of its class; Read and Write of an
open stream are checked by direction, order and range and go on; Close makes the stream CLOSING; Query returns words 0 to 14
and clears LATE, ERR and PATHERR; Hint replaces what its mask names; Rebind waits for the epoch boundary. -/
def Obligations.StreamCommands : Prop :=
  (∀ (s : State) (p slot op : Nat) (c : Cmd) (i : Instr), s.glb.dormant = false →
    (i, op) ∈ [(Instr.streamRead p slot, 0x82), (.streamWrite p slot, 0x83), (.streamClose p slot, 0x84),
      (.streamQuery p slot, 0x85), (.streamHint p slot, 0x86), (.streamRebind p slot, 0x87)] →
    s.newCmd p slot false [op] = some c →
    (s.mode = modeQuiescent → exec i s = .next ((s.complete p slot scNotReady 0).settled c.index)) ∧
    (s.mode ≠ modeQuiescent → c.handleRsv ≠ 0 → exec i s = .next ((s.complete p slot scField 0).settled c.index))) ∧
  (∀ (s : State) (p slot : Nat) (c : Cmd), s.glb.dormant = false → s.newCmd p slot false [0x84] = some c →
    s.mode ≠ modeQuiescent → c.handleRsv = 0 → s.stm.opened.contains c.index = false →
    exec (.streamClose p slot) s = .next ((s.complete p slot scStream 0).settled c.index)) ∧
  (∀ (s : State) (p slot : Nat) (c : Cmd), s.glb.dormant = false → s.newCmd p slot false [0x81] = some c →
    (s.mode = modeQuiescent → exec (.streamOpen p slot) s = .next (s.complete p slot scNotReady 0)) ∧
    (let x := s.nsd c.nsidField; let cls := bitsOf (c.cdw 10) 26 24
     s.mode ≠ modeQuiescent → bitsOf (c.cdw 10) 30 27 = 0 → bitsOf (c.cdw 10) 23 18 = 0 → bitsOf (c.cdw 10) 17 16 ≠ 3 →
     1 ≤ c.nsidField → c.nsidField ≤ 128 → x.valid = true →
     (s.clsOk cls = false → exec (.streamOpen p slot) s = .next (s.complete p slot scClass 0)) ∧
     (s.clsOk cls = true → c.cdw 12 + 2 ^ 32 * c.cdw 13 ≤ x.size → c.cdw 14 + 2 ^ 32 * c.cdw 15 ≤ x.size →
       exec (.streamOpen p slot) s = .next (s.streamOpenGo p slot c)))) ∧
  (∀ (s u : State) (p slot : Nat) (c : Cmd) (ws : List Word), s.streamReady p slot 0x82 c u ws → bitsOf (c.cdw 12) 31 16 = 0 →
    (let v := u.ctxUpd c.index fun w => w.set 12 (word u.tick)
     let e := u.rangeCheck (ctxNs ws) c.lbaField c.nlb false false
     (512 < c.nlb → exec (.streamRead p slot) s = .next ((v.complete p slot scField 0).settled c.index)) ∧
     (c.nlb ≤ 512 → ctxWrites ws = true →
       exec (.streamRead p slot) s = .next ((v.complete p slot scDirection 0).settled c.index)) ∧
     (c.nlb ≤ 512 → ctxWrites ws = false → e ≠ scOk →
       exec (.streamRead p slot) s = .next ((v.complete p slot e 0).settled c.index)) ∧
     (c.nlb ≤ 512 → ctxWrites ws = false → e = scOk →
       exec (.streamRead p slot) s = .next ((v.streamReadGo p slot c (ws.set 12 (word u.tick))).settled c.index)))) ∧
  (∀ (s u : State) (p slot : Nat) (c : Cmd) (ws : List Word), s.streamReady p slot 0x83 c u ws →
    bitsOf (c.cdw 12) 29 16 = 0 → bitsOf (c.cdw 12) 31 31 = 0 → c.nlb ≤ 512 → ctxWrites ws = true →
    (let v := u.ctxUpd c.index fun w => w.set 12 (word u.tick)
     (c.lbaField ≠ cw64 ws 2 → exec (.streamWrite p slot) s = .next ((v.complete p slot scOrder 0).settled c.index)) ∧
     (c.lbaField = cw64 ws 2 → u.rangeCheck (ctxNs ws) c.lbaField c.nlb true false = scOk →
       u.zoneWriteCheck (ctxNs ws) c.lbaField c.nlb = scOk →
       exec (.streamWrite p slot) s = .next ((v.streamWriteGo p slot c (ws.set 12 (word u.tick))).settled c.index)))) ∧
  (∀ (s u : State) (p slot : Nat) (c : Cmd) (ws : List Word), s.streamReady p slot 0x84 c u ws →
    ∃ y : State, exec (.streamClose p slot) s = .next ((y.dropAhead c.index false fun _ => false).settled c.index) ∧
      y.stm.closes = s.stm.closes ++ [(c.index, p, slot)] ∧ y.cmd p slot = some { c with begun := true } ∧
      y.mem = (u.ctxWrite c.index ((cwPut ws 0 31 28 ctxClosing).set 12 (word u.tick))).mem) ∧
  (∀ (s u : State) (p slot : Nat) (c : Cmd) (ws : List Word), s.streamReady p slot 0x85 c u ws →
    exec (.streamQuery p slot) s = .next (((u.completeData p slot (wordBytes (ws.take 15 ++ [0]))).ctxUpd c.index fun w =>
      (cwPut w 0 14 12 0).set 12 (word (u.completeData p slot (wordBytes (ws.take 15 ++ [0]))).tick)).settled c.index)) ∧
  (∀ (s u : State) (p slot : Nat) (c : Cmd) (ws : List Word), s.streamReady p slot 0x86 c u ws →
    bitsOf (c.cdw 10) 15 4 = 0 →
    (let on (k : Nat) : Bool := bitOf (c.cdw 10) k
     let limit := c.cdw 14 + 2 ^ 32 * c.cdw 15
     let w0 := ws.set 12 (word u.tick)
     let w1 := if on 0 then cwRate w0 (c.cdw 11) else w0
     let w2 := if on 2 then cwPut64 w1 6 limit else w1
     let w3 := if on 3 then w2.set 11 (word (u.tick + c.cdw 12)) else w2
     (on 2 = true → (u.nsd (ctxNs ws)).size < limit →
       exec (.streamHint p slot) s = .next (((u.ctxWrite c.index w0).complete p slot scBeyond 0).settled c.index)) ∧
     ((on 2 = false ∨ limit ≤ (u.nsd (ctxNs ws)).size) → on 1 = false →
       exec (.streamHint p slot) s = .next (((u.ctxWrite c.index w3).complete p slot scOk 0).settled c.index)) ∧
     ((on 2 = false ∨ limit ≤ (u.nsd (ctxNs ws)).size) → on 1 = true →
       exec (.streamHint p slot) s = .next ((((u.ctxWrite c.index w3).windowSet c.index
         (cwPut w3 8 15 0 (bitsOf (c.cdw 10) 31 16))).complete p slot scOk 0).settled c.index)))) ∧
  (∀ (s u : State) (p slot : Nat) (c : Cmd) (ws : List Word), s.streamTaken p slot 0x87 c u ws →
    bitsOf (c.cdw 10) 31 27 = 0 → bitsOf (c.cdw 10) 23 0 = 0 → 1 ≤ c.nsidField → c.nsidField ≤ 128 →
    (let v := u.ctxWrite c.index (ws.set 12 (word u.tick))
     let lba := c.cdw 14 + 2 ^ 32 * c.cdw 15
     (v.nsd c.nsidField).valid = true → v.clsOk (bitsOf (c.cdw 10) 26 24) = true → lba ≤ (v.nsd c.nsidField).size →
     ∃ t : State, exec (.streamRebind p slot) s = .next (t.settled c.index) ∧ t.mem = v.mem ∧ t.regs = v.regs ∧
       t.cmd p slot = some { c with begun := true } ∧
       t.stm.rebind = v.stm.rebind ++ [{ stream := c.index, nsid := c.nsidField, cls := bitsOf (c.cdw 10) 26 24, lba := lba,
                                         port := p, slot := slot }]))

/-- The context commands and map commits (R257, R260, R285, R289): an operation on a context that is not open ends with result
2, and one on a lost context with result 4; a read puts its sixteen words into the mailbox; an update with another generation
ends with result 3, and a permitted one writes the words that the mask names; a commit reads its entry, and one that the
buffer does not deliver, or that fails its check, ends with result 2. -/
def Obligations.ContextsAndMaps : Prop :=
  (∀ (s : State) (v : Word) (op : Nat) (i : Instr), (i, op) ∈ [(Instr.contextRead v, 0), (.contextUpdate v, 1)] →
    s.glb.dormant = false → s.regWritable Reg.STM_CTX_CMD 0 0 v = true → Reg.STM_CTX_CMD_GO.get v = 1 →
    Reg.STM_CTX_CMD_OP.get v = op →
    (let u := s.store Reg.STM_CTX_CMD 0 0 v; let k := u.fld Reg.STM_CTX_CMD_INDEX 0
     (u.stm.opened.contains k = false → ∃ t : State, exec i s = .next t ∧ t.fld Reg.STM_CTX_CMD_RESULT 0 = 2 ∧
       t.fld Reg.STM_CTX_CMD_GO 0 = 0 ∧ s.SameRegs t [Reg.STM_CTX_CMD.addr 0 0] ∧ s.SameBytes t ∧ t.stm = s.stm) ∧
     (∀ y, u.stm.opened.contains k = true → u.ctxRead k = (y, none) → exec i s = .next (y.ctxResult 4)))) ∧
  (∀ (s y : State) (v : Word) (ws : List Word), s.glb.dormant = false → s.regWritable Reg.STM_CTX_CMD 0 0 v = true →
    Reg.STM_CTX_CMD_GO.get v = 1 → Reg.STM_CTX_CMD_OP.get v = 0 →
    (let u := s.store Reg.STM_CTX_CMD 0 0 v; let k := u.fld Reg.STM_CTX_CMD_INDEX 0
     u.stm.opened.contains k = true → u.ctxRead k = (y, some ws) → y.fld Reg.STM_CTX_CMD_OP 0 = 0 →
     ∃ t : State, exec (.contextRead v) s = .next t ∧ (∀ j < 16, t.rd Reg.STM_CTX_MBX 0 j = ws.getD j 0) ∧
       t.fld Reg.STM_CTX_CMD_RESULT 0 = 1 ∧ t.fld Reg.STM_CTX_CMD_GO 0 = 0 ∧ y.SameBytes t ∧ t.stm = y.stm)) ∧
  (∀ (s y : State) (v : Word) (ws : List Word), s.glb.dormant = false → s.regWritable Reg.STM_CTX_CMD 0 0 v = true →
    Reg.STM_CTX_CMD_GO.get v = 1 → Reg.STM_CTX_CMD_OP.get v = 1 →
    (let u := s.store Reg.STM_CTX_CMD 0 0 v; let k := u.fld Reg.STM_CTX_CMD_INDEX 0
     let mask := y.fld Reg.STM_CTX_MASK_MASK 0; let mb (j : Nat) : Nat := (y.rd Reg.STM_CTX_MBX 0 j).toNat
     u.stm.opened.contains k = true → u.ctxRead k = (y, some ws) → y.fld Reg.STM_CTX_CMD_OP 0 = 1 →
     (bitsOf (mb 0) 7 0 ≠ cw ws 0 7 0 → exec (.contextUpdate v) s = .next (y.ctxResult 3)) ∧
     (bitsOf (mb 0) 7 0 = cw ws 0 7 0 → mask = 2 ^ 11 →
       exec (.contextUpdate v) s = .next ((y.ctxWrite k (ws.set 11 (word (mb 11)))).ctxResult 1)) ∧
     (bitsOf (mb 0) 7 0 = cw ws 0 7 0 → mask = 2 ^ 9 →
       exec (.contextUpdate v) s = .next ((y.ctxWrite k (cwRate ws (mb 9))).ctxResult 1)) ∧
     (bitsOf (mb 0) 7 0 = cw ws 0 7 0 → mask = 2 ^ 8 → exec (.contextUpdate v) s =
       .next (((y.ctxWrite k ws).windowSet k (cwPut ws 8 15 0 (bitsOf (mb 8) 15 0))).ctxResult 1)) ∧
     (bitsOf (mb 0) 7 0 = cw ws 0 7 0 → bitOf mask 0 = true → exec (.contextUpdate v) s = .next (y.ctxResult 4)))) ∧
  (∀ (s : State) (v : Word), s.glb.dormant = false → s.regWritable Reg.STM_MAP_CMD 0 0 v = true →
    Reg.STM_MAP_CMD_GO.get v = 1 → s.flag Reg.STM_MAP_CMD_GO 0 = false →
    (let u := ((s.store Reg.STM_MAP_CMD 0 0 v).setFld Reg.STM_MAP_CMD_GO 0 1).setFld Reg.STM_MAP_CMD_RESULT 0 0
     let k := u.fld Reg.STM_MAP_CMD_INDEX 0
     let base := if u.fld Reg.STM_MAP_CMD_KIND 0 = 1
       then u.pair Reg.STM_ZONE_BASE_LO Reg.STM_ZONE_BASE_HI 0 0 + k * 64
       else u.pair Reg.STM_NS_BASE_LO Reg.STM_NS_BASE_HI 0 0 + (k - 1) * 64
     (∀ y, u.cWords base 16 false = (y, none) → exec (.mapCommitGo v) s = .next (y.mapResult 2)) ∧
     (∀ y ws, u.cWords base 16 false = (y, some ws) → u.fld Reg.STM_MAP_CMD_KIND 0 = 1 → y.zoneEntry k ws = none →
       exec (.mapCommitGo v) s = .next (y.mapResult 2)) ∧
     (∀ y ws z, u.cWords base 16 false = (y, some ws) → u.fld Reg.STM_MAP_CMD_KIND 0 = 1 → y.zoneEntry k ws = some z →
       exec (.mapCommitGo v) s = .next { y with stm := { y.stm with mapPend := some (.zone k z) } }) ∧
     (∀ y y' ws x, u.cWords base 16 false = (y, some ws) → u.fld Reg.STM_MAP_CMD_KIND 0 ≠ 1 → y.nsEntry k ws = (y', some x) →
       exec (.mapCommitGo v) s = .next { y' with stm := { y'.stm with mapPend := some (.ns k x) } })))

/-- The I/O commands on LBAs (R19 to R23, R153, R157, R370, R373, R548): a Read, Verify, Write or Write Zeroes that a check
refuses ends with the first status that applies, and one that passes waits in class 0; Zone Append writes at the zone's write
pointer; Flush waits in its slot, and ends when no earlier write waits for admission and each that has not ended waits on a
fence: with Write Fault, a path error or success; Zone Management Send changes the state of its zone and Receive returns its
report. -/
def Obligations.MediaCommands : Prop :=
  (∀ (s : State) (p slot op : Nat) (m : Bool) (c : Cmd) (i : Instr), s.glb.dormant = false →
    (i, op, m) ∈ [(Instr.read p slot, 0x02, true), (.verify p slot, 0x0C, false)] → s.newCmd p slot false [op] = some c →
    (let e := s.rangeCheck c.nsidField c.lbaField c.nlb false m
     (e ≠ scOk → exec i s = .next (s.complete p slot e 0)) ∧
     (e = scOk → ∃ t : State, exec i s = .next t ∧ t.waitingOf 0 = s.waitingOf 0 ++ [(p, slot)] ∧
       t.cmd p slot = some { c with nsid := c.nsidField, slba := c.lbaField, count := c.nlb, result := 0, begun := true } ∧
       t.regs = s.regs ∧ s.SameBytes t))) ∧
  (∀ (s : State) (p slot op : Nat) (m : Bool) (c : Cmd) (i : Instr), s.glb.dormant = false →
    (i, op, m) ∈ [(Instr.write p slot, 0x01, true), (.writeZeroes p slot, 0x08, false)] → s.newCmd p slot false [op] = some c →
    (op = 0x08 → (s.nsd c.nsidField).zoned = false) →
    (let e := s.rangeCheck c.nsidField c.lbaField c.nlb true m
     let z := s.zoneWriteCheck c.nsidField c.lbaField c.nlb
     (e ≠ scOk → exec i s = .next (s.complete p slot e 0)) ∧
     (e = scOk → z ≠ scOk → exec i s = .next (s.complete p slot z 0)) ∧
     (e = scOk → z = scOk → ∃ t : State, exec i s = .next t ∧ t.waitingOf 0 = s.waitingOf 0 ++ [(p, slot)] ∧
       t.cmd p slot = some { c with nsid := c.nsidField, slba := c.lbaField, count := c.nlb, result := 0, begun := true } ∧
       t.stm.zones = (s.advanceWp c.nsidField c.lbaField c.nlb).stm.zones ∧ t.regs = s.regs ∧ s.SameBytes t))) ∧
  (∀ (s : State) (p slot : Nat) (c : Cmd) (e : Extent), s.glb.dormant = false → s.newCmd p slot false [0x7D] = some c →
    s.mode ≠ modeQuiescent → 1 ≤ c.nsidField → c.nsidField ≤ 128 →
    (let x := s.nsd c.nsidField; let z := s.zone (zoneKey e.aAct e.aZone)
     x.valid = true → x.zoned = true → c.lbaField < x.size → x.extents[x.zoneOf c.lbaField]? = some e → c.lbaField = e.lba →
     (zoneShown z e.count = 2 → exec (.zoneAppend p slot) s = .next (s.complete p slot scZoneFull 0)) ∧
     (zoneShown z e.count ≠ 2 → e.count < z.wp + c.nlb →
       exec (.zoneAppend p slot) s = .next (s.complete p slot scZoneBoundary 0)) ∧
     (zoneShown z e.count ≠ 2 → z.wp + c.nlb ≤ e.count → s.rangeCheck c.nsidField (e.lba + z.wp) c.nlb true true = scOk →
       s.zoneWriteCheck c.nsidField (e.lba + z.wp) c.nlb = scOk →
       ∃ t : State, exec (.zoneAppend p slot) s = .next t ∧ t.waitingOf 0 = s.waitingOf 0 ++ [(p, slot)] ∧
         t.cmd p slot = some { c with nsid := c.nsidField, slba := e.lba + z.wp, count := c.nlb, result := e.lba + z.wp,
                                      begun := true } ∧ t.regs = s.regs ∧ s.SameBytes t))) ∧
  (∀ (s : State) (p slot : Nat) (c : Cmd), s.glb.dormant = false → s.newCmd p slot false [0x00] = some c →
    (s.mode = modeQuiescent → exec (.flush p slot) s = .next (s.complete p slot scNotReady 0)) ∧
    (s.mode ≠ modeQuiescent → (c.nsidField = 0xFFFFFFFF ∨ (1 ≤ c.nsidField ∧ c.nsidField ≤ 128 ∧
        (s.nsd c.nsidField).valid = true)) →
      ∃ (t : State) (d : Cmd), exec (.flush p slot) s = .next t ∧ t.cmd p slot = some d ∧ d.begun = true ∧
        d.seqno = c.seqno ∧ t.regs = s.regs ∧ s.SameBytes t)) ∧
  (∀ (s : State) (p slot : Nat) (c : Cmd), s.glb.dormant = false → s.cmd p slot = some c → c.begun = true → c.admin = false →
    c.opcode = 0 →
    (s.flushAhead c = true → exec (.flushCompletion p slot) s = .next s) ∧
    (s.flushAhead c = false → (∀ x ∈ s.flushSectors c, s.fenceWait x s.stm.sectors.length = true) →
      exec (.flushCompletion p slot) s = .next (s.complete p slot
        (if c.flushFail then scWriteFault else if s.flushSectors c = [] then scOk else scPath) 0))) ∧
  (∀ (s : State) (p slot : Nat) (c : Cmd) (e : Extent), s.glb.dormant = false → s.newCmd p slot false [0x79] = some c →
    s.mode ≠ modeQuiescent → 1 ≤ c.nsidField → c.nsidField ≤ 128 →
    (let x := s.nsd c.nsidField; let zk := zoneKey e.aAct e.aZone; let za := bitsOf (c.cdw 13) 7 0
     let code := zoneCode (s.zone zk) e.count
     x.valid = true → x.zoned = true → bitOf (c.cdw 13) 8 = false → c.lbaField < x.size →
     x.extents[x.zoneOf c.lbaField]? = some e → e.lba = c.lbaField →
     (∀ z, za = 1 ∨ za = 2 ∨ za = 3 ∨ za = 5 → zoneAction za code (s.zone zk) = some z →
       exec (.zoneManagementSend p slot) s = .next ((s.setZone zk z).complete p slot scOk 0)) ∧
     (za = 1 ∨ za = 2 ∨ za = 3 ∨ za = 5 → zoneAction za code (s.zone zk) = none →
       exec (.zoneManagementSend p slot) s = .next (s.complete p slot scZoneState 0)) ∧
     (za = 4 → code ≠ 0xD → code ≠ 0xF → ∃ y : State,
       y = (s.setCmd p slot (some { c with begun := true })).resetZone zk ∧ exec (.zoneManagementSend p slot) s =
         .next { y with stm := { y.stm with zoneResets := y.stm.zoneResets ++ [(zk, p, slot)] } }))) ∧
  (∀ (s : State) (p slot : Nat) (c : Cmd), s.glb.dormant = false → s.newCmd p slot false [0x7A] = some c →
    s.mode ≠ modeQuiescent → 1 ≤ c.nsidField → c.nsidField ≤ 128 →
    (let x := s.nsd c.nsidField; let len := (c.cdw 12 + 1) * 4
     let es := x.extents.drop (x.zoneOf c.lbaField)
     let fit := es.take (len / 64 - 1)
     let body := (leBytes 8 (if bitOf (c.cdw 13) 16 then fit.length else es.length) ++ List.replicate 56 0)
       ++ (fit.map fun e => zoneDescriptor e (s.zone (zoneKey e.aAct e.aZone))).flatten
     x.valid = true → x.zoned = true → bitsOf (c.cdw 13) 15 0 = 0 → len ≤ 2 ^ 21 → c.lbaField < x.size →
     exec (.zoneManagementReceive p slot) s =
       .next (s.completeData p slot ((body ++ List.replicate (len - body.length) 0).take len))))

/-- Admission, choice and grant (R25, R148, R268, R269, R273, R275, R276): a piece is admitted whole, or refused and counted
when its class or a queue has no room; read-ahead admits one sector while the class keeps its room; the scheduler chooses a
stripe of an actuator whose comb is free; a sector of the chosen stripe that can run takes its credits, all or none; a write
fence is lifted by a clear of its bit, unless STM cause 0 is set. -/
def Obligations.AdmissionAndGrant : Prop :=
  (∀ (s : State) (cls p k : Nat) (rest : List (Nat × Nat)) (c : Cmd), s.glb.dormant = false → cls < 8 → s.admitOn = true →
    s.waitingOf cls = (p, k) :: rest → s.cmd p k = some c → c.stream = none →
    (let piece := c.todo.take 64; let acts := piece.flatMap fun l => s.actsOf c.nsid l c.writes 0
     (c.writes = true ∨ ∀ l ∈ piece, s.writeFirst c.seqno c.nsid l 1 = false) →
     ((s.clsSlots cls < 64 ∨ s.freeSlots cls < piece.length ∨ s.queueRoom acts = false) →
       exec (.pieceAdmission cls) s = .next (s.refuseAdmit acts none)) ∧
     (64 ≤ s.clsSlots cls → piece.length ≤ s.freeSlots cls → s.queueRoom acts = true → c.todo.length ≤ 64 →
       exec (.pieceAdmission cls) s = .next ((piece.foldl (fun u l => u.admitLba p k cls 0 l none)
         ((s.setCmd p k (some { c with admitted := c.count })).setWaiting cls rest)).cmdPoll p k)))) ∧
  (∀ (s : State) (cls p k : Nat) (rest : List (Nat × Nat)) (c : Cmd), s.glb.dormant = false → cls < 8 → s.admitOn = true →
    s.waitingOf cls = (p, k) :: rest → s.cmd p k = some c → c.stream = none → c.writes = false →
    (∃ l ∈ c.todo.take 64, s.writeFirst c.seqno c.nsid l 1 = true) → exec (.pieceAdmission cls) s = .next s) ∧
  (∀ (s u : State) (i l : Nat) (ws : List Word), s.glb.dormant = false → s.stm.opened.contains i = true → s.admitOn = true →
    s.ctxRead i = (u, some ws) → ctxWrites ws = false → (ctxState ws = ctxOpen ∨ ctxState ws = ctxRunning) →
    u.aheadLba i ws = some l → (u.nsd (ctxNs ws)).valid = true → l < (u.nsd (ctxNs ws)).size →
    ((u.nsd (ctxNs ws)).extent l).isSome = true → u.writeFirst u.hif.seqno (ctxNs ws) l 1 = false →
    (let cls := ctxCls ws; let acts := u.actsOf (ctxNs ws) l false (cw ws 1 1 0)
     ((u.clsSlots cls < 64 ∨ u.freeSlots cls < 65 ∨ u.queueRoom acts = false) →
       exec (.readAheadAdmission i) s = .next (u.refuseAdmit acts none)) ∧
     (∀ slot, 64 ≤ u.clsSlots cls → 65 ≤ u.freeSlots cls → u.queueRoom acts = true → u.lowSlot cls = some slot →
       ∃ x : Sector, exec (.readAheadAdmission i) s = .next ((((((u.ctxWrite i (cwPut64 (cwPut ws 0 31 28 ctxRunning) 4
           (l + 1))).setSlot cls slot 1).streamRing i l 1 0 slot).admitRead x (cw ws 1 1 0)).wakeFor false acts).streamSettle i) ∧
         x.lba = l ∧ x.slot = slot ∧ x.cls = cls ∧ x.stream = some i ∧ x.cmd = none ∧ x.op = 0))) ∧
  (∀ (s u : State) (a : Nat), s.glb.dormant = false → a < s.nAct → s.flag Reg.STM_CTRL_EN 0 = true → s.actOut a = false →
    (s.hdaState (a / 2) = hdaTracking ∨ s.hdaState (a / 2) = hdaSlewing) → (s.spnS (a / 2)).omega ≠ 0 →
    (s.chooseStripe a = (u, none) → exec (.schedulerEvaluation a) s = .next (u.setAct a { u.act a with stripe := none })) ∧
    (∀ zs, s.chooseStripe a = (u, some zs) → exec (.schedulerEvaluation a) s =
      .next ((u.setAct a { u.act a with stripe := some zs }).withdrawTwins a zs))) ∧
  (∀ (s u : State) (tag : Nat) (x : Sector), s.glb.dormant = false → s.sector tag = some x →
    s.flag Reg.STM_CTRL_EN 0 = true → (s.act x.act).stripe = some (x.zone, x.p / 10) → s.candidate x = true →
    (s.takeCredits = (u, none) → exec (.grant tag) s = .next u ∧ u = s) ∧
    (∀ soft, s.takeCredits = (u, some soft) → x.twin = none → exec (.grant tag) s = .next (u.grantSector x soft) ∧
      soft ∉ s.stm.soft ∧ u.stm.soft = s.stm.soft ++ [soft] ∧ u.stm.dcred = s.stm.dcred + 1)) ∧
  (∀ (s : State) (v : Word), s.glb.dormant = false →
    (bitOf (s.causes srcSTM) 0 = true → exec (.writeFenceClear v) s = .next s) ∧
    (bitOf (s.causes srcSTM) 0 = false → ∃ t : State, exec (.writeFenceClear v) s = .next t ∧
      s.SameRegs t [Reg.STM_WFENCE.addr 0 0] ∧ s.SameBytes t ∧
      (∀ a < s.nAct, bitOf v.toNat a = true → bitOf (s.rd Reg.STM_WFENCE 0 0).toNat a = true →
        s.stm.wReturn.contains a = false →
        bitOf (t.rd Reg.STM_WFENCE 0 0).toNat a = false ∧ t.stm.wReturn.contains a = true)))

/-- Requests of the context cache (R292, R294, R296, R301, R306): a hit is served from its line and counted, a miss of a free
bank becomes the bank's miss, a request outside the cached ranges goes to the buffer, and a double-bit error of a dirty line
raises cause 1; a fill installs its line and serves its requests, and a fill that the buffer does not deliver answers them
with an error. The Pantry answers from its ways, and its size changes only when no line in the way is locked (R304, R305). -/
def Obligations.CacheRequests : Prop :=
  (∀ (s : State) (r : CacheReq) (w : Nat), s.glb.dormant = false → cacheReqOk r s = true → s.cached r.addr = true →
    s.cch.waiting = [] → s.hitWay r.addr = some w →
    (let b := lineBank r.addr; let st := lineSet r.addr
     (r.ecc = .good → r.data = none → ∃ t : State, exec (.cacheRequest r) s = .next t ∧
       t.cch.out = { who := r.who, addr := r.addr, data := some (((s.cline b w st).data.drop (r.addr % 64)).take r.len) } ::
         s.cch.out ∧
       t.rd Reg.CCH_CNT_HIT 0 0 = word ((s.rd Reg.CCH_CNT_HIT 0 0).toNat + 1) ∧
       s.SameRegs t [Reg.CCH_CNT_HIT.addr 0 0] ∧ s.SameBytes t) ∧
     (∀ bs, r.ecc = .good → r.data = some bs → ∃ t : State, exec (.cacheRequest r) s = .next t ∧
       t.cch.out = { who := r.who, addr := r.addr, data := some [] } :: s.cch.out ∧ (t.cline b w st).dirty = true ∧
       (t.cline b w st).data = mergeBytes (s.cline b w st).data (r.addr % 64) bs ∧
       s.SameRegs t [Reg.CCH_CNT_HIT.addr 0 0] ∧ s.SameBytes t) ∧
     (r.ecc = .double → (s.cline b w st).dirty = true → exec (.cacheRequest r) s =
       .next ((((s.setCline b w st {}).raise srcCCH 1 0 false).disableWay b w).cacheAnswer r none)) ∧
     (r.ecc = .double → (s.cline b w st).dirty = false → exec (.cacheRequest r) s =
       .next ((((s.setCline b w st {}).corrected srcCCH 0).disableWay b w).cacheMiss { r with ecc := .good })))) ∧
  (∀ (s : State) (r : CacheReq), s.glb.dormant = false → cacheReqOk r s = true → s.cached r.addr = true →
    s.cch.waiting = [] → s.hitWay r.addr = none → s.opCovers r.addr = false →
    (s.cmiss (lineBank r.addr) = none → exec (.cacheRequest r) s =
      .next ((s.setCmiss (lineBank r.addr) (some { line := r.addr / 64, reqs := [r] })).bump Reg.CCH_CNT_MISS 0 1)) ∧
    (∀ m, s.cmiss (lineBank r.addr) = some m → m.line ≠ r.addr / 64 → exec (.cacheRequest r) s = .next (s.cacheWait r))) ∧
  (∀ (s u : State) (r : CacheReq) (d : Option (List Byte)), s.glb.dormant = false → cacheReqOk r s = true →
    s.cached r.addr = false → r.data = none → s.bufFetch r.addr r.len = (u, d) →
    exec (.cacheRequest r) s = .next (u.cacheAnswer r d)) ∧
  (∀ (s u : State) (bank : Nat) (m : CMiss), s.glb.dormant = false → bank < 16 → s.cmiss bank = some m →
    ((s.setCmiss bank none).bufFetch (m.line * 64) 64 = (u, none) → exec (.cacheFillReturn bank) s =
      .next ((m.reqs.foldl (fun s r => s.cacheAnswer r none) u).cacheResume bank)) ∧
    (∀ bs r w, (s.setCmiss bank none).bufFetch (m.line * 64) 64 = (u, some bs) → m.reqs = [r] → m.poisoned = false →
      u.hitWay (m.line * 64) = none → (u.install (m.line * 64) bs r.once).hitWay r.addr = some w →
      exec (.cacheFillReturn bank) s =
        .next (((u.install (m.line * 64) bs r.once).cacheServe r w).cacheResume bank))) ∧
  (∀ (s : State) (v : Word), s.glb.dormant = false → s.regWritable Reg.CCH_CTRL 0 0 v = true →
    (let old := s.pantryWays; let new := Reg.CCH_CTRL_PANTRY_WAYS.get v
     let ways := (List.range 16).filter fun w => decide (16 - new ≤ w) && decide (w < 16 - old)
     let sets := (List.range 16).flatMap fun b => ways.flatMap fun w => (s.waySets b w).map fun st => (b, w, st)
     (new = old → exec (.pantryWaysChange v) s = .next s) ∧
     (new < old → exec (.pantryWaysChange v) s =
       .next { s.store Reg.CCH_CTRL 0 0 v with pantry := s.pantry.filter fun c => c.1 < new * 2 ^ 19 }) ∧
     (old < new → (∃ l ∈ sets, (s.cline l.1 l.2.1 l.2.2).locked = true) → ∃ t : State,
       exec (.pantryWaysChange v) s = .next t ∧ t.fld Reg.CCH_STAT_PW_REFUSED 0 = 1 ∧
       s.SameRegs t [Reg.CCH_STAT.addr 0 0] ∧ s.SameBytes t ∧ t.cch = s.cch) ∧
     (old < new → (∀ l ∈ sets, (s.cline l.1 l.2.1 l.2.2).locked = false) → ∃ y : State,
       y = sets.foldl (fun u l => (u.writeBack l.1 l.2.1 l.2.2).setCline l.1 l.2.1 l.2.2 {}) s ∧
       exec (.pantryWaysChange v) s =
         .next { y.store Reg.CCH_CTRL 0 0 v with pantry := y.pantry.filter fun c => c.1 < new * 2 ^ 19 }))) ∧
  (∀ (s : State) (a : PantryAcc), s.glb.dormant = false → (a.len = 4 ∨ a.len = 8 ∨ a.len = 64) → a.offset % a.len = 0 →
    a.offset < s.pantrySize → a.ecc = .good →
    (∀ bs, a.data = some bs → bs.length = a.len → ∃ t : State, exec (.pantryAccess a) s = .next t ∧
      t.pantry = (s.pantryWrite a.offset bs).pantry ∧
      t.cch.out = { who := a.who, addr := a.offset, data := some [] } :: s.cch.out ∧ t.regs = s.regs ∧ t.mem = s.mem) ∧
    (∀ u bs, a.data = none → s.pantryRead a.offset a.len = (u, bs) → ∃ t : State, exec (.pantryAccess a) s = .next t ∧
      t.cch.out = { who := a.who, addr := a.offset, data := some bs } :: u.cch.out ∧ t.mem = u.mem ∧ t.pantry = u.pantry))

/-- Maintenance operations of the context cache (R297 to R302, R308, R398): a write of CCH_OP starts its operation and is
ignored while one runs; a CMO word starts it for its sequencer, or waits in line; the end of an operation writes its counts
into CCH_OP_RES0 and CCH_OP_RES1 and its RESULT, or into g[D] and g[D+1] of the word that waited, which then flows on. -/
def Obligations.CacheOperations : Prop :=
  (∀ (s : State) (v : Word) (op : Nat) (i : Instr), s.glb.dormant = false →
    (i, op) ∈ [(Instr.inval (.reg v), 1), (.clean (.reg v), 2), (.cacheFlush (.reg v), 3), (.lock (.reg v), 4),
      (.unlock (.reg v), 5), (.lookup (.reg v), 6)] →
    s.regWritable Reg.CCH_OP 0 0 v = true → Reg.CCH_OP_OP.get v = op → Reg.CCH_OP_GO.get v = 1 →
    (s.cch.op ≠ none → exec i s = .next s) ∧
    (let u := s.store Reg.CCH_OP 0 0 v
     s.cch.op = none → u.opOfRegs.op = op →
     exec i s = .next (((u.setFld Reg.CCH_OP_GO 0 1).setFld Reg.CCH_OP_RESULT 0 0).opRun u.opOfRegs))) ∧
  (∀ (s : State) (q op : Nat) (i : Instr), s.glb.dormant = false →
    (i, op) ∈ [(Instr.inval (.seq q), 1), (.clean (.seq q), 2), (.cacheFlush (.seq q), 3), (.lock (.seq q), 4),
      (.unlock (.seq q), 5), (.lookup (.seq q), 6)] →
    32 ≤ q → s.canIssue q 0x2C = true → (s.mw q).mOfs % 16 = op →
    (let w := s.mw q
     let o : COp := { op := op, addr := s.memAddr q w, len := (s.gr q (w.mD + 1)).toNat,
                      range := bitOf w.mOfs 4 && decide (op ≤ 3), incl := bitOf w.mOfs 5, who := some q }
     let u := (s.issue q).setSq q { (s.issue q).sq q with cmo := true }
     (u.cch.op = none → exec i s = .next (u.opRun o)) ∧
     (u.cch.op ≠ none → exec i s = .next { u with cch := { u.cch with opq := u.cch.opq ++ [o] } }))) ∧
  (∀ (s : State) (o : COp), s.glb.dormant = false → s.cch.op = some o → o.who = none → s.cch.waiting = [] → s.cch.opq = [] →
    ∃ t : State, exec .cacheOpComplete s = .next t ∧ t.rd Reg.CCH_OP_RES0 0 0 = o.results.1 ∧
      t.rd Reg.CCH_OP_RES1 0 0 = o.results.2 ∧ t.fld Reg.CCH_OP_RESULT 0 = (if o.refused then 2 else 1) ∧
      t.fld Reg.CCH_OP_GO 0 = 0 ∧ t.cch.op = none ∧ t.cch.lines = s.cch.lines ∧ s.SameBytes t ∧
      s.SameRegs t [Reg.CCH_OP.addr 0 0, Reg.CCH_OP_RES0.addr 0 0, Reg.CCH_OP_RES1.addr 0 0]) ∧
  (∀ (s : State) (o : COp) (q : Nat), s.glb.dormant = false → s.cch.op = some o → o.who = some q →
    (let u := s.opDone; let v := u.setSq q { u.sq q with cmo := false }; let w := u.mw q
     (u.sq q).cmo = true → v.seqState q = seqRunning →
     exec .cacheOpComplete s = .next ((v.setGrs q w.mD [o.results.1, o.results.2]).flow q w))) ∧
  (∀ (s : State) (o : COp) (w : Nat), (s.cch.op = none) → s.hitWay o.addr = some w →
    (let b := lineBank o.addr; let st := lineSet o.addr; let x := s.cline b w st
     (o.op = 4 → x.locked = false → 3 ≤ (s.eligibleWays b st).length → ∃ t : State, t = s.opRun o ∧
       (t.cline b w st).locked = true ∧ (t.cline b w st).data = x.data ∧ t.regs = s.regs ∧ s.SameBytes t) ∧
     (o.op = 4 → x.locked = false → (s.eligibleWays b st).length < 3 → s.wayUsable b w = true →
       ∃ p : COp, (s.opRun o).cch.op = some p ∧ p.refused = true ∧ (s.opRun o).cch.lines = s.cch.lines) ∧
     (o.op = 5 → x.locked = true → x.stale = false →
       ((s.opRun o).cline b w st).locked = false ∧ ((s.opRun o).cline b w st).data = x.data) ∧
     (o.op = 5 → x.locked = true → x.stale = true → ((s.opRun o).cline b w st).valid = false) ∧
     (o.op = 6 → ∃ p : COp, (s.opRun o).cch.op = some p ∧ (s.opRun o).cch.lines = s.cch.lines ∧
       p.look = 2 ^ 31 + bit01 x.dirty * 2 ^ 30 + bit01 x.locked * 2 ^ 29 + bit01 x.stale * 2 ^ 28 + x.age * 2 ^ 26 + w)))

/-- Buffer memory (R309 to R326): a good access leaves the memory as it is, a corrected block is counted, a lost one is
repaired or lost, and an unmapped one is noted; a remap copy's end puts the group into REMAP; a scrub reads the next group; a
retrain runs from Up and back, or raises cause 6; a resilvered channel holds its partner's duplex blocks and joins at the
boundary; a segment is written unless it overlaps or is in use, which SEG_REFUSED shows; the self-test's end takes every good
channel to Up; refresh changes nothing. -/
def Obligations.BufferMemory : Prop :=
  (∀ (s : State) (a : BufAcc), s.glb.dormant = false → 0 < a.len → a.addr % 64 + a.len ≤ 64 → a.addr < 2 ^ 40 →
    a.data = none →
    ((s.locs a.addr).filter (fun cl => s.chReads cl.1) = [] →
      exec (.bufferAccess a) s = .next (s.noteUnmapped a.addr a.len)) ∧
    (∀ cl rest, (s.locs a.addr).filter (fun cl => s.chReads cl.1) = cl :: rest → a.first.edc = 0 →
      (s.poison.contains (locKey cl.1 (cl.2 / 64)) = false → a.first.res = .good → exec (.bufferAccess a) s = .next s) ∧
      (∀ hard, s.poison.contains (locKey cl.1 (cl.2 / 64)) = false → a.first.res = .corrected hard →
        exec (.bufferAccess a) s = .next (s.blockCorrected cl.1 (cl.2 / 64 / 15) hard)) ∧
      ((s.poison.contains (locKey cl.1 (cl.2 / 64)) = true ∨ a.first.res = .lost) →
        exec (.bufferAccess a) s = .next (s.blockLost cl rest.head? a.second)))) ∧
  (∀ (s u : State) (a : BufAcc) (bs : List Byte), s.glb.dormant = false → 0 < a.len → a.addr % 64 + a.len ≤ 64 →
    a.addr < 2 ^ 40 → a.data = some bs → bs.length = a.len → a.first.edc = 0 → a.second.edc = 0 →
    s.bufWrite a.addr bs = (u, true) → exec (.bufferAccess a) s = .next u) ∧
  (∀ (s : State) (c g i : Nat) (rest : List (Nat × Nat)), s.glb.dormant = false → i < 16 →
    (s.bc c).copying = (g, i) :: rest →
    ∃ t : State, exec (.remapCopyEnd c) s = .next t ∧ t.rd Reg.BUFC_REMAP c i = word (2 ^ 31 + g) ∧
      (t.bc c).copying = rest ∧ s.SameRegs t [Reg.BUFC_REMAP.addr c i, Reg.BUFC_STAT.addr c 0] ∧ s.SameBytes t) ∧
  (∀ (s : State) (c : Nat) (o : BlockOutcome), s.glb.dormant = false → c < s.nCh → s.flag Reg.BUF_CTRL_SCRUB_EN 0 = true →
    s.chState c = chUp → s.fenced (srcBUFC c) = false → o.edc = 0 → o.res = .good →
    s.poison.contains (locKey c ((s.bc c).scrub * 960 / 64)) = false →
    ∃ t : State, exec (.scrubInterval c o) s = .next t ∧ (t.bc c).scrub = ((s.bc c).scrub + 1) % s.nGroups ∧
      t.rd Reg.BUFC_CNT_SCRUB c 0 = word ((s.rd Reg.BUFC_CNT_SCRUB c 0).toNat + 1) ∧
      s.SameRegs t [Reg.BUFC_CNT_SCRUB.addr c 0] ∧ s.SameBytes t) ∧
  (∀ (s : State) (c : Nat) (v : Word), s.glb.dormant = false → c < s.nCh → s.regWritable Reg.BUFC_CTRL c 0 v = true →
    Reg.BUFC_CTRL_RETRAIN.get v = 1 → s.chState c = chUp → s.fenced (srcBUFC c) = false →
    ∃ t : State, exec (.channelRetrain c v) s = .next t ∧ t.chState c = chRetraining ∧ t.fld Reg.BUFC_CTRL_RETRAIN c = 1 ∧
      t.fld Reg.BUFC_CTRL_RETRAIN_FAIL c = 0 ∧ s.SameRegs t [Reg.BUFC_CTRL.addr c 0, Reg.BUFC_STAT.addr c 0] ∧
      s.SameBytes t) ∧
  (∀ (s : State) (c : Nat), s.glb.dormant = false → c < s.nCh → s.chState c = chRetraining →
    (∃ t : State, exec (.retrainStepEnd c true) s = .next t ∧ t.chState c = chUp ∧ t.fld Reg.BUFC_CTRL_RETRAIN c = 0 ∧
      s.SameRegs t [Reg.BUFC_CTRL.addr c 0, Reg.BUFC_STAT.addr c 0] ∧ s.SameBytes t) ∧
    (∃ u : State, exec (.retrainStepEnd c false) s = .next (u.bufFault c 6) ∧ u.fld Reg.BUFC_CTRL_RETRAIN_FAIL c = 1 ∧
      u.fld Reg.BUFC_CTRL_RETRAIN c = 0 ∧ s.SameRegs u [Reg.BUFC_CTRL.addr c 0] ∧ s.SameBytes u)) ∧
  (∀ (s : State) (c : Nat), s.glb.dormant = false → c < s.nCh → s.chState c = chResilvering → (s.bc c).joining = false →
    s.chReads ((c + s.nCh / 2) % s.nCh) = true →
    ∃ t : State, exec (.resilverEnd c) s = .next t ∧ (t.bc c).joining = true ∧ t.mem = (s.resilver c).mem ∧
      t.poison = (s.resilver c).poison ∧ t.regs = s.regs ∧ t.land = s.land) ∧
  (∀ (s : State) (k : Nat) (v : Word), s.glb.dormant = false → s.regWritable Reg.BUF_SEG 0 k v = true →
    (let first := Reg.BUF_SEG_DOFS.get v; let units := s.segUnits (Reg.BUF_SEG_DUPLEX.get v = 1)
     let meet (j : Nat) : Prop := j < 128 ∧ j ≠ k ∧ s.fldJ Reg.BUF_SEG_VALID 0 j = 1 ∧
       first < s.fldJ Reg.BUF_SEG_DOFS 0 j + s.segUnits (s.fldJ Reg.BUF_SEG_DUPLEX 0 j = 1) ∧
       s.fldJ Reg.BUF_SEG_DOFS 0 j < first + units
     (Reg.BUF_SEG_VALID.get v = 1 → (∃ j, meet j) → ∃ t : State, exec (.segmentWrite k v) s = .next t ∧
       t.fld Reg.BUF_STAT_SEG_REFUSED 0 = 1 ∧ s.SameRegs t [Reg.BUF_STAT.addr 0 0] ∧ s.SameBytes t) ∧
     (Reg.BUF_SEG_VALID.get v = 1 → first + units ≤ s.fld Reg.BUF_CAP_UNITS 0 → (∀ j, ¬ meet j) →
       (s.fldJ Reg.BUF_SEG_VALID 0 k = 0 ∨ s.mode = modeQuiescent) →
       exec (.segmentWrite k v) s = .next (s.store Reg.BUF_SEG 0 k v)) ∧
     (Reg.BUF_SEG_VALID.get v = 0 → s.fldJ Reg.BUF_SEG_VALID 0 k = 1 → s.mode ≠ modeQuiescent → s.rd Reg.BUF_SEG 0 k ≠ v →
       ∃ t : State, exec (.segmentWrite k v) s = .next t ∧ t.fld Reg.BUF_STAT_SEG_REFUSED 0 = 1 ∧
         s.SameRegs t [Reg.BUF_STAT.addr 0 0] ∧ s.SameBytes t))) ∧
  (∀ (s : State), s.glb.dormant = false → s.glb.bufWipe = true →
    ∃ t : State, exec (.bufferSelfTestEnd 0) s = .next t ∧ t.glb.bufWipe = false ∧ t.fld Reg.BUF_CTRL_EN 0 = 1 ∧
      (∀ c < s.nCh, s.chState c = chTraining → t.chState c = chUp) ∧ s.SameBytes t) ∧
  (∀ (s : State) (c : Nat), exec (.refresh c) s = .next s)

/-- The data mover's channels (R327 to R337): a producer index is taken from the channel's owner only, and one that would
overfill the ring raises a corrected fault; a descriptor starts when it passes its checks, and stops the channel with the first
status that it fails; a chunk's end moves its bytes, or fails the descriptor; the oldest descriptor that has moved completes;
RESUME runs a stopped channel again at CI and SKIP past it; clearing EN ends the channel's descriptors; a completion timeout of
a host read fails its descriptor. -/
def Obligations.MoverChannels : Prop :=
  (∀ (s : State) (ag : Agent) (ch : Nat) (v : Word), s.glb.dormant = false → (∀ p, ag ≠ .hif p) → ag ≠ .stm →
    ((64 ≤ ch ∨ s.dmvOwner ch ag = false) → exec (.piWrite ag ch v) s = .next s) ∧
    (let pi := v.toNat % 65536; let used := (pi + 65536 - s.fldJ Reg.DMV_CH_CI_CI 0 ch) % 65536
     ch < 64 → s.dmvOwner ch ag = true →
     (2 ^ s.fldJ Reg.DMV_CH_CFG_RSIZE 0 ch < used → exec (.piWrite ag ch v) s = .next (s.corrected srcDMV 0)) ∧
     (used ≤ 2 ^ s.fldJ Reg.DMV_CH_CFG_RSIZE 0 ch → ∃ t : State, exec (.piWrite ag ch v) s = .next t ∧
       t.fldJ Reg.DMV_CH_PI_PI 0 ch = pi ∧ s.SameRegs t [Reg.DMV_CH_PI.addr 0 ch] ∧ s.SameBytes t ∧ t.dmv = s.dmv))) ∧
  (∀ (s : State) (p ch : Nat) (v : Word), s.glb.dormant = false → ch < 64 → s.dmvOwner ch (.hif p) = true →
    (let xs := mget (fun _ => ([] : List Xfer)) s.hif.ready p
     let n := (v.toNat % 65536 + 65536 - s.fldJ Reg.DMV_CH_PI_PI 0 ch) % 65536
     (xs.length < n → exec (.piWrite (.hif p) ch v) s = .next s) ∧
     (n ≤ xs.length → (s.dmvPi (.hif p) ch v).fldJ Reg.DMV_CH_PI_PI 0 ch ≠ s.fldJ Reg.DMV_CH_PI_PI 0 ch →
       ∃ t : State, t = (s.dmvPlace ch n xs).dmvPi (.hif p) ch v ∧ exec (.piWrite (.hif p) ch v) s =
         .next { t with hif := { t.hif with ready := mset (fun _ => []) t.hif.ready p (xs.drop n) } }))) ∧
  (∀ (s u : State) (ch : Nat), s.glb.dormant = false → ch < 64 → s.flag Reg.DMV_CTRL_EN 0 = true →
    s.fldJ Reg.DMV_CH_CFG_EN 0 ch = 1 → s.fldJ Reg.DMV_CH_STAT_STOPPED 0 ch = 0 → (s.dch ch).ending = false →
    (s.dch ch).next ≠ s.fldJ Reg.DMV_CH_PI_PI 0 ch →
    (let x := s.dch ch
     (s.dmvWords ch x.next = (u, none) →
       exec (.descriptorStart ch) s = .next ((u.dmvDrain ch x.runs.length).dmvStop ch x.next dmvBuffer 0)) ∧
     (∀ ws, s.dmvWords ch x.next = (u, some ws) →
       (let v := u.setDch ch { x with runs := x.runs ++ [{ index := x.next, words := ws }], next := (x.next + 1) % 65536 }
        ((dBar ws = true ∨ u.dmvCheck ch ws ≠ dmvOk) → x.runs ≠ [] → exec (.descriptorStart ch) s = .next u) ∧
        (u.dmvCheck ch ws ≠ dmvOk → x.runs = [] →
          exec (.descriptorStart ch) s = .next (u.dmvStop ch x.next (u.dmvCheck ch ws) 0)) ∧
        (u.dmvCheck ch ws = dmvOk → (dBar ws = false ∨ x.runs = []) →
          (v.fldJ Reg.DMV_CH_CFG_OWNER 0 ch = 0 ∨ v.fldJ Reg.DMV_CH_CFG_OWNER 0 ch = 4) →
          exec (.descriptorStart ch) s = .next ((v.dmvTake ch 16).dmvStat)) ∧
        (∀ p k c ys, u.dmvCheck ch ws = dmvOk → (dBar ws = false ∨ x.runs = []) →
          (v.fldJ Reg.DMV_CH_CFG_OWNER 0 ch = 1 ∨ v.fldJ Reg.DMV_CH_CFG_OWNER 0 ch = 2 ∨
            v.fldJ Reg.DMV_CH_CFG_OWNER 0 ch = 3) →
          (v.slotSectors (dTag ws)).filterMap (fun y => y.cmd) = (p, k) :: ys → v.cmd p k = some c →
          exec (.descriptorStart ch) s =
            .next (((v.setCmd p k (some { c with moving := true })).dmvTake ch 16).dmvStat)))))) ∧
  (∀ (s u : State) (ch : Nat) (i : ChunkIn) (done rest : List DmvRun) (r : DmvRun) (c : Chunk) (more : List Chunk) (st : Nat),
    s.glb.dormant = false → (s.dch ch).runs = done ++ r :: rest → (∀ d ∈ done, d.flight = []) → r.flight = c :: more →
    s.dmvMove ch r.words c i.data i.hostError = (u, st) →
    (st = dmvOk → exec (.chunkEnd ch i) s = .next ((((u.setDch ch { s.dch ch with
      runs := done ++ { r with flight := more, moved := r.moved + c.len } :: rest }).dmvTake ch 16).dmvEnding ch).dmvStat)) ∧
    (st ≠ dmvOk → exec (.chunkEnd ch i) s = .next (u.dmvFail ch st))) ∧
  (∀ (s : State) (ch : Nat) (r : DmvRun) (rest : List DmvRun), s.glb.dormant = false → (s.dch ch).runs = r :: rest →
    (s.dch ch).ending = false → r.moved = dLen r.words →
    exec (.descriptorComplete ch) s = .next (((((s.dmvPulses r.words false).dmvBack ch r.index dmvOk r.words).setFldJ
      Reg.DMV_CH_CI_CI 0 ch ((r.index + 1) % 65536)).setDch ch { s.dch ch with runs := rest }).dmvTake ch 16)) ∧
  (∀ (s : State) (ch : Nat) (v : Word), s.glb.dormant = false → ch < 64 → s.fldJ Reg.DMV_CH_STAT_STOPPED 0 ch = 1 →
    (Reg.DMV_CH_CTRL_RESUME.get v = 1 → Reg.DMV_CH_CTRL_SKIP.get v = 0 → ∃ t : State,
      exec (.channelResume ch v) s = .next t ∧ t.fldJ Reg.DMV_CH_CI_CI 0 ch = s.fldJ Reg.DMV_CH_CI_CI 0 ch ∧
      t.fldJ Reg.DMV_CH_STAT_STOPPED 0 ch = 0 ∧ t.dch ch = { runs := [], next := s.fldJ Reg.DMV_CH_CI_CI 0 ch, ending := false } ∧
      s.SameRegs t [Reg.DMV_CH_CI.addr 0 ch, Reg.DMV_CH_STAT.addr 0 ch] ∧ s.SameBytes t) ∧
    (Reg.DMV_CH_CTRL_SKIP.get v = 1 → ∃ t : State, exec (.channelSkip ch v) s = .next t ∧
      t.fldJ Reg.DMV_CH_CI_CI 0 ch = (s.fldJ Reg.DMV_CH_CI_CI 0 ch + 1) % 65536 ∧ t.fldJ Reg.DMV_CH_STAT_STOPPED 0 ch = 0 ∧
      (t.dch ch).next = (s.fldJ Reg.DMV_CH_CI_CI 0 ch + 1) % 65536 ∧ (t.dch ch).runs = [] ∧
      s.SameRegs t [Reg.DMV_CH_CI.addr 0 ch, Reg.DMV_CH_STAT.addr 0 ch] ∧ s.SameBytes t)) ∧
  (∀ (s : State) (ch : Nat) (v : Word), s.glb.dormant = false → ch < 64 → s.regWritable Reg.DMV_CH_CFG 0 ch v = true →
    Reg.DMV_CH_CFG_EN.get v = 0 → s.fldJ Reg.DMV_CH_CFG_EN 0 ch = 1 →
    exec (.channelDisable ch v) s = .next (((s.setFldJ Reg.DMV_CH_CFG_EN 0 ch 0).setDch ch
      { s.dch ch with ending := true }).dmvEnding ch)) ∧
  (∀ (s : State) (ch : Nat) (done rest : List DmvRun) (r : DmvRun), s.glb.dormant = false →
    (s.dch ch).runs = done ++ r :: rest → (∀ d ∈ done, d.flight = []) → r.flight ≠ [] →
    (dOp r.words = 2 → exec (.completionTimeout ch) s = .next (s.dmvFail ch dmvHost)) ∧
    (dOp r.words ≠ 2 → exec (.completionTimeout ch) s = .next s))

/-- The pulses of the data mover (R334, R335, R384): each row takes the oldest pulse of its target off the list; CREDIT gives
back a slot's buffer credit, ARRIVED says that a slot's write data is present or failed, HIF ends its command, SEQ makes a
source pending and MSIX sends its message. -/
def Obligations.MoverPulses : Prop :=
  (∀ (s u : State) (p : Pulse), s.glb.dormant = false → u = { s with dmv := { s.dmv with pulses := s.dmv.pulses.erase p } } →
    (s.dmv.pulses.find? (fun x => x.target == 1) = some p → exec .creditPulse s = .next (u.creditOf p)) ∧
    (s.dmv.pulses.find? (fun x => x.target == 2) = some p → p.error = false →
      exec .arrivedPulse s = .next (u.slotArrived p.tag)) ∧
    (s.dmv.pulses.find? (fun x => x.target == 2) = some p → p.error = true →
      exec .arrivedPulse s = .next (u.slotLost p.tag scTransfer)) ∧
    (∀ c, s.dmv.pulses.find? (fun x => x.target == 3 || x.target == 4) = some p → u.cmd (p.target - 3) p.index = some c →
      (c.fail = 0 → p.error = true → exec .hifPulse s = .next (u.complete (p.target - 3) p.index scTransfer c.result)) ∧
      ((c.fail ≠ 0 ∨ p.error = false) → exec .hifPulse s = .next (u.complete (p.target - 3) p.index c.fail c.result))) ∧
    (s.dmv.pulses.find? (fun x => x.target == 5) = some p →
      exec .seqPulse s = .next (u.seqEvent (p.index / 64) (p.index % 64))) ∧
    (s.dmv.pulses.find? (fun x => x.target == 6 || x.target == 7) = some p →
      (u.split (p.target - 6) = true →
        exec .msixPulse s = .next (u.msix (p.target - 6) (p.index / 1024 % 2) (p.index % 1024))) ∧
      (u.split (p.target - 6) = false → exec .msixPulse s = .next (u.msix (p.target - 6) 0 p.index)))) ∧
  (∀ (s : State) (i : Instr), s.glb.dormant = false → s.dmv.pulses = [] →
    i ∈ [Instr.creditPulse, .arrivedPulse, .hifPulse, .seqPulse, .msixPulse] → exec i s = .next s)

/-- The slot commands of the cipher (R341 to R347, R356): a command runs while none does; LOAD fills a half of a slot and
leaves the staging registers zero, and ends with its error where the kind, the generation, the room or the two keys forbid it;
DROP takes a generation out and WIPE the whole slot, and the requests that wait for them end NO_KEY; QUERY shows the halves and
a counter; any other OP ends BADOP; WIPE_ALL empties every slot. -/
def Obligations.KeySlots : Prop :=
  (∀ (s : State) (v : Word) (op : Nat) (i : Instr), s.glb.dormant = false → s.flag Reg.CPH_SLOT_CMD_GO 0 = true →
    (i, op) ∈ [(Instr.keyLoad v, 1), (.keyDrop v, 2), (.keyWipe v, 3), (.keyQuery v, 4)] → exec i s = .next s) ∧
  (∀ (s : State) (v : Word), s.glb.dormant = false → s.regWritable Reg.CPH_SLOT_CMD 0 0 v = true →
    Reg.CPH_SLOT_CMD_GO.get v = 1 → s.flag Reg.CPH_SLOT_CMD_GO 0 = false →
    (let u := ((s.store Reg.CPH_SLOT_CMD 0 0 v).setFld Reg.CPH_SLOT_CMD_GO 0 1).setFld Reg.CPH_SLOT_CMD_RESULT 0 0
     let k := Reg.CPH_SLOT_CMD_SLOT.get v; let gen := Reg.CPH_SLOT_CMD_GEN.get v; let x := s.kslot k
     let kind := u.fld Reg.CPH_SLOT_CMD_MODE 0 + 1; let key := s.stagedKey (if kind = 1 then 64 else 32)
     (Reg.CPH_SLOT_CMD_OP.get v = 1 →
       (x.kind ≠ 0 → x.kind ≠ kind → exec (.keyLoad v) s = .next (u.slotDone 4)) ∧
       ((x.kind = 0 ∨ x.kind = kind) → (x.find gen).isSome = true → exec (.keyLoad v) s = .next (u.slotDone 2)) ∧
       ((x.kind = 0 ∨ x.kind = kind) → x.find gen = none → x.a ≠ none → x.b ≠ none →
         exec (.keyLoad v) s = .next (u.slotDone 3)) ∧
       ((x.kind = 0 ∨ x.kind = kind) → x.find gen = none → (x.a = none ∨ x.b = none) → kind = 1 →
         key.take 32 = key.drop 32 → exec (.keyLoad v) s = .next (u.slotDone 5)) ∧
       ((x.kind = 0 ∨ x.kind = kind) → x.find gen = none → (x.a = none ∨ x.b = none) →
         (kind = 1 → key.take 32 ≠ key.drop 32) →
         ∃ (t : State) (g : KeyGen), exec (.keyLoad v) s = .next t ∧ (t.kslot k).find gen = some g ∧ g.key = key ∧
           (t.kslot k).kind = kind ∧ (kind = 2 → g.salt = s.stagedSalt) ∧ t.cph.stage = [] ∧
           (∀ j, j ≠ k → t.kslot j = s.kslot j) ∧
           t.fld Reg.CPH_SLOT_CMD_RESULT 0 = 1 ∧ t.fld Reg.CPH_SLOT_CMD_GO 0 = 0 ∧
           s.SameRegs t [Reg.CPH_SLOT_CMD.addr 0 0] ∧ s.SameBytes t)) ∧
     (Reg.CPH_SLOT_CMD_OP.get v = 2 →
       (x.find gen = none → exec (.keyDrop v) s = .next (u.slotDone 6)) ∧
       (x.find gen ≠ none → ∃ y : State, y = (u.setKslot k (x.drop gen)).cphPurge (fun r => r.slot == k && r.gen == gen) ∧
         exec (.keyDrop v) s = .next ({ y with cph := { y.cph with cmd := some { slot := k, gen := some gen } } }.slotCmdPoll))) ∧
     (Reg.CPH_SLOT_CMD_OP.get v = 3 → ∃ y : State, y = ((u.setKslot k {}).cphPurge fun r => r.slot == k).breakSlot k ∧
       exec (.keyWipe v) s = .next ({ y with cph := { y.cph with cmd := some { slot := k, gen := none } } }.slotCmdPoll)) ∧
     (Reg.CPH_SLOT_CMD_OP.get v = 4 → (∀ g, x.a = some g ∨ x.b = some g → g.gen < 256) → ∃ t : State, exec (.keyQuery v) s = .next t ∧
       (t.rd Reg.CPH_SLOT_STAT 0 0).toNat / 2 ^ 30 = x.kind % 4 ∧
       bitOf (t.rd Reg.CPH_SLOT_STAT 0 0).toNat 29 = x.a.isSome ∧ bitOf (t.rd Reg.CPH_SLOT_STAT 0 0).toNat 28 = x.b.isSome ∧
       (∀ g, x.find gen = some g → g.ctr < 2 ^ 64 → t.pair Reg.CPH_SLOT_CTR_LO Reg.CPH_SLOT_CTR_HI 0 0 = g.ctr) ∧
       t.fld Reg.CPH_SLOT_CMD_RESULT 0 = 1 ∧ t.fld Reg.CPH_SLOT_CMD_GO 0 = 0 ∧ t.cph.slots = s.cph.slots ∧ s.SameBytes t) ∧
     ((Reg.CPH_SLOT_CMD_OP.get v = 0 ∨ 4 < Reg.CPH_SLOT_CMD_OP.get v) → ∃ t : State, exec (.slotBadop v) s = .next t ∧
       t.fld Reg.CPH_SLOT_CMD_RESULT 0 = 7 ∧ t.fld Reg.CPH_SLOT_CMD_GO 0 = 0 ∧ t.cph.slots = s.cph.slots ∧
       s.SameRegs t [Reg.CPH_SLOT_CMD.addr 0 0] ∧ s.SameBytes t))) ∧
  (∀ (s : State) (v : Word), s.glb.dormant = false → s.regWritable Reg.CPH_CTRL 0 0 v = true →
    Reg.CPH_CTRL_WIPE_ALL.get v = 1 → ∃ y : State, y.cph.slots = [] ∧ y.fld Reg.CPH_STAT_WIPING 0 = 1 ∧
      y.fld Reg.CPH_CTRL_WIPE_ALL 0 = 1 ∧ s.SameBytes y ∧
      exec (.wipeAll v) s = .next (((y.cphPurge fun _ => true).breakStreams fun _ => true).slotCmdPoll))

/-- Requests and engines of the cipher (R348 to R355, R546): a request waits in the queue of its priority, a media request
only while the store has a place; the lowest free engine takes the oldest media request, else the oldest peer request, one
that fails a check ends with its result, and a GCM encryption takes the next IV of its key; an engine's result is XTS, GCM or
the tag comparison of its text; a parity error raises cause 0; a fence write fences and returns engines. -/
def Obligations.CipherEngines : Prop :=
  (∀ (s : State) (r : CipherReq), s.glb.dormant = false → r.slot < 8192 → r.gen < 256 → r.len < 65536 → r.aad.length < 256 →
    (r.gcm = true → r.decrypt = true → r.iv.length = 12) →
    (r.peer = false → s.storeSize ≤ s.cph.store → exec (.cipherRequest r) s = .next s) ∧
    (r.peer = true → exec (.cipherRequest r) s = .next (s.cphEnqueue r)) ∧
    (r.peer = false → s.cph.store < s.storeSize → ∃ t : State, exec (.cipherRequest r) s = .next t ∧
      t.cph.store = s.cph.store + 1 ∧ t.cph.media = s.cph.media ++ [{ age := s.cph.nextAge, req := r }] ∧
      t.cph.peer = s.cph.peer ∧ s.SameRegs t [Reg.CPH_STAT.addr 0 0] ∧ s.SameBytes t)) ∧
  (∀ (s : State) (e : Nat) (j : CphJob) (js : List CphJob), s.glb.dormant = false → s.flag Reg.CPH_CTRL_EN 0 = true →
    (List.range s.nEng).find? (fun i => (s.engJob i).isNone && !s.engOut i) = some e → s.cph.media ++ s.cph.peer = j :: js →
    j.key = none →
    (let u := { s with cph := { s.cph with media := s.cph.media.filter (fun k => k.age != j.age),
                                           peer := s.cph.peer.filter fun k => k.age != j.age } }
     let c := u.cphCheck j.req; let k := u.kslot j.req.slot
     (c ≠ 0 → k.find j.req.gen ≠ none →
       exec (.engineTake e) s = .next ((u.cphEnd j.req c []).slotCmdPoll.cphStat)) ∧
     (k.find j.req.gen = none → exec (.engineTake e) s =
       .next ((u.cphEnd j.req (if c = 0 then 1 else c) []).slotCmdPoll.cphStat)) ∧
     (∀ g, c = 0 → k.find j.req.gen = some g → j.req.gcm = true → j.req.decrypt = false →
       exec (.engineTake e) s = .next (((u.setKslot j.req.slot (k.put g.nextIv.2)).setEng e
         (some { j with iv := some g.nextIv.1, key := some g })).cphStat)) ∧
     (∀ g, c = 0 → k.find j.req.gen = some g → (j.req.gcm = false ∨ j.req.decrypt = true) →
       exec (.engineTake e) s = .next ((u.setEng e (some { j with iv := if j.req.gcm then some j.req.iv else none,
                                                                  key := some g })).cphStat)))) ∧
  (∀ (s : State) (e : Nat) (j : CphJob) (g : KeyGen), s.glb.dormant = false → s.engJob e = some j → j.key = some g →
    (let n := j.req.len + (if j.req.gcm && j.req.decrypt then 16 else 0)
     (∀ bs, j.req.src = .bytes bs → bs.length = n → (let p := cphCompute j g bs
       exec (.cipherResult e) s = .next ((((s.setEng e none).cphEnd j.req p.1 p.2).slotCmdPoll).cphStat.gateSettle))) ∧
     (∀ a u bs, j.req.src = .buffer a → s.bufFetch a n = (u, some bs) → (let p := cphCompute j g bs
       exec (.cipherResult e) s = .next ((((u.setEng e none).cphEnd j.req p.1 p.2).slotCmdPoll).cphStat.gateSettle))) ∧
     (∀ a u, j.req.src = .buffer a → s.bufFetch a n = (u, none) →
       exec (.cipherResult e) s = .next ((((u.setEng e none).cphEnd j.req 6 []).slotCmdPoll).cphStat.gateSettle)))) ∧
  (∀ (s : State) (e : Nat), s.glb.dormant = false → e < s.nEng → (s.engJob e).isSome = true →
    exec (.engineParityFault e) s = .next (s.raise srcCPH 0 e false)) ∧
  (∀ (s : State) (j : Nat) (v : Word), s.glb.dormant = false → j < 8 →
    exec (.engineFenceWrite j v) s = .next ((List.range 32).foldl (fun u k =>
      if u.nEng ≤ 32 * j + k then u else if bitOf v.toNat k then u.engHostFence (32 * j + k) else u.engReturn (32 * j + k)) s))

/-- Ports, links and controllers (R357, R358, R360 to R362, R367 to R369, R386, R387): PERST takes both links down, and its
release takes HIF_PCFG into force; a link trains only as the port is configured; the three resets reset the controller; a
shutdown is reported complete once no write that the controller fetched is open; a doorbell moves a tail, and a fetch puts the
entry into the lowest free command slot with the next sequence number, or is counted when none is free; a fault interrupt that
rises sends one message. -/
def Obligations.HostLinks : Prop :=
  (∀ (s : State) (p : Nat), p < 2 →
    ∃ y : State, exec (.perstAssert p) s = .next (((y.linkDown p 0).linkDown p 1).psApply) ∧
      mget (fun _ => false) y.hif.perstHigh p = false ∧ y.regs = s.regs) ∧
  (∀ (s : State) (p : Nat), p < 2 → mget (fun _ => false) s.hif.perstHigh p = false →
    ∃ t : State, exec (.perstDeassert p) s = .next t ∧ mget (fun _ => false) t.hif.perstHigh p = true ∧
      t.pcfg p = s.rd Reg.HIF_PCFG p 0 ∧ t.regs = s.regs ∧ s.SameBytes t) ∧
  (∀ (s : State) (p l gen width : Nat) (flit : Bool), s.glb.dormant = false → s.hasLink p l = true →
    mget (fun _ => false) s.hif.perstHigh p = true → Reg.HIF_PCFG_EN.get (s.pcfg p) = 1 → s.linkIsUp p l = false →
    s.hif.heldDown = false → s.mode ≠ modeSealed → 1 ≤ gen →
    (gen ≤ Reg.HIF_PCFG_MAXGEN.get (s.pcfg p) → (s.linkWidths p).contains width = true → (flit = true ∨ gen ≠ 6) →
      ∃ y : State, (s.flag Reg.GLB_MODE_WIPING 0 = false → exec (.hostLinkUp p l gen width flit) s = .next (y.fpendSend p l)) ∧
        (s.flag Reg.GLB_MODE_WIPING 0 = true → exec (.hostLinkUp p l gen width flit) s = .next y) ∧
        y.linkIsUp p l = true ∧ s.SameRegs y [Reg.HIF_LSTAT.addr p 0] ∧ y.hif = s.hif ∧ s.SameBytes y) ∧
    (Reg.HIF_PCFG_MAXGEN.get (s.pcfg p) < gen → exec (.hostLinkUp p l gen width flit) s = .next s)) ∧
  (∀ (s : State) (p l : Nat) (i : Instr), s.glb.dormant = false → s.hasLink p l = true →
    ((i ∈ [Instr.hotReset p l, .functionLevelReset p l] ∧ s.linkIsUp p l = true) ∨
      (i = .controllerReset p l ∧ s.ctrlOn p l = true)) →
    exec i s = .next ((s.ctrlReset p l).psApply) ∧ (s.ctrlReset p l).ctrl p l = {}) ∧
  (∀ (s : State) (p l shn : Nat), s.glb.dormant = false → s.hasLink p l = true → s.ctrlOn p l = true →
    (shn = 1 ∨ shn = 2) → (s.ctrl p l).shst = 0 →
    exec (.shutdown p l shn) s = .next (s.setCtrl p l { s.ctrl p l with shst := 1 })) ∧
  (∀ (s : State) (p l : Nat), s.glb.dormant = false → s.hasLink p l = true → (s.ctrl p l).shst = 1 →
    (s.ctrlWrites p l = true → exec (.shutdownComplete p l) s = .next s) ∧
    (s.ctrlWrites p l = false →
      exec (.shutdownComplete p l) s = .next (s.setCtrl p l { s.ctrl p l with shst := 2 }))) ∧
  (∀ (s : State) (p l qid tail : Nat) (q : SubQ), s.glb.dormant = false → s.hasLink p l = true → s.linkIsUp p l = true →
    (s.ctrl p l).subs.find? (fun q => q.qid == qid) = some q → tail < q.size →
    ∃ y : State, exec (.doorbellWrite p l qid tail) s = .next y.psApply ∧ (y.ctrl p l).en = true ∧
      (y.ctrl p l).subs.find? (fun q => q.qid == qid) = some { q with tail := tail } ∧ y.regs = s.regs) ∧
  (∀ (s : State) (p l qid : Nat) (sqe : List Word) (prps : List Nat) (q : SubQ), s.glb.dormant = false →
    s.hasLink p l = true → s.ctrlOn p l = true → (s.ctrl p l).subs.find? (fun q => q.qid == qid) = some q →
    (q.head = q.tail → exec (.commandFetch p l qid sqe prps) s = .next s) ∧
    (q.head ≠ q.tail → s.freeCmdSlot p = none → exec (.commandFetch p l qid sqe prps) s = .next (s.bump Reg.HIF_CNT_SLOTW p 1)) ∧
    (∀ k, q.head ≠ q.tail → s.freeCmdSlot p = some k →
      ∃ (y : State) (c : Cmd), exec (.commandFetch p l qid sqe prps) s = .next y.psApply ∧ y.cmd p k = some c ∧ c.link = l ∧
        c.qid = qid ∧ c.cid = bitsOf (sqe.getD 0 0).toNat 31 16 ∧ c.sqe = sqe ∧ c.seqno = s.hif.seqno ∧ c.tick = s.tick ∧
        c.begun = false ∧ y.hif.seqno = s.hif.seqno + 1 ∧
        y.rd Reg.HIF_CNT_FETCH p 0 = word ((s.rd Reg.HIF_CNT_FETCH p 0).toNat + 1) ∧
        s.SameRegs y [Reg.HIF_CNT_FETCH.addr p 0] ∧ s.SameBytes y)) ∧
  (∀ (s : State) (src : Nat), s.glb.dormant = false → s.hasSrc src = true → s.fltHigh src = true →
    (s.hif.intr.contains src = true → exec (.faultMessage src) s = .next s) ∧
    (s.hif.intr.contains src = false → exec (.faultMessage src) s =
      .next ({ s with hif := { s.hif with intr := s.hif.intr ++ [src] } }.faultMsg src)))

/-- Admin commands that change the controller (R364, R365, R367, R370 to R372): an opcode that the device does not support
ends with Invalid Opcode; Abort withdraws the command that it names unless its transfer has begun; an Asynchronous Event
Request is held until a notice, and at most eight are; queues are created and deleted with the statuses of their checks; Number
of Queues grants at most 4,095 of each kind; the volatile write cache is set and read. -/
def Obligations.AdminCommands : Prop :=
  (∀ (s : State) (p slot : Nat) (c : Cmd), s.glb.dormant = false → s.cmd p slot = some c → c.begun = false →
    (c.admin = true → [0x00, 0x01, 0x02, 0x04, 0x05, 0x06, 0x08, 0x09, 0x0A, 0x0C, 0x10, 0x11].contains c.opcode = false →
      exec (.invalidOpcode p slot) s = .next (s.complete p slot scOpcode 0)) ∧
    (c.admin = false → [0x00, 0x01, 0x02, 0x08, 0x0C, 0x79, 0x7A, 0x7D, 0x81, 0x82, 0x83, 0x84, 0x85, 0x86, 0x87].contains
      c.opcode = false → exec (.invalidOpcode p slot) s = .next (s.complete p slot scOpcode 0))) ∧
  (∀ (s : State) (p slot : Nat) (c : Cmd), s.glb.dormant = false → s.newCmd p slot true [0x08] = some c →
    (let mine (x : Nat × Nat × Cmd) : Bool := x.1 == p && x.2.2.link == c.link && x.2.2.qid == bitsOf (c.cdw 10) 15 0 &&
       x.2.2.cid == bitsOf (c.cdw 10) 31 16 && x.2.1 != slot
     (s.cmds.find? mine = none → exec (.abort p slot) s = .next (s.complete p slot scOk 1)) ∧
     (∀ x, s.cmds.find? mine = some x → x.2.2.moving = true → exec (.abort p slot) s = .next (s.complete p slot scOk 1)) ∧
     (∀ x, s.cmds.find? mine = some x → x.2.2.moving = false → ∃ y : State, exec (.abort p slot) s =
       .next (((y.complete p x.2.1 scAborted 0).bump Reg.HIF_CNT_ABORT p 1).complete p slot scOk 0)))) ∧
  (∀ (s : State) (p slot : Nat) (c : Cmd), s.glb.dormant = false → s.newCmd p slot true [0x0C] = some c →
    (let k := s.ctrl p c.link
     (∀ i rest, k.notices = i :: rest → exec (.asynchronousEventRequest p slot) s =
       .next ((s.setCtrl p c.link { k with notices := rest }).complete p slot scOk i)) ∧
     (k.notices = [] → 8 ≤ k.aers.length → exec (.asynchronousEventRequest p slot) s = .next (s.complete p slot 0x105 0)) ∧
     (k.notices = [] → k.aers.length < 8 → ∃ t : State, exec (.asynchronousEventRequest p slot) s = .next t ∧
       (t.ctrl p c.link).aers = k.aers ++ [slot] ∧ t.cmd p slot = some { c with begun := true } ∧ t.regs = s.regs ∧
       s.SameBytes t))) ∧
  (∀ (s : State) (p slot : Nat) (c : Cmd), s.glb.dormant = false → s.newCmd p slot true [0x09, 0x0A] = some c →
    (bitsOf (c.cdw 10) 7 0 = 0x07 → c.opcode = 0x0A →
      exec (.numberOfQueues p slot) s = .next (s.complete p slot scOk (4094 + 4094 * 2 ^ 16))) ∧
    (bitsOf (c.cdw 10) 7 0 = 0x07 → c.opcode = 0x09 → exec (.numberOfQueues p slot) s = .next (s.complete p slot scOk
      (min 4094 (bitsOf (c.cdw 11) 15 0) + min 4094 (bitsOf (c.cdw 11) 31 16) * 2 ^ 16))) ∧
    (bitsOf (c.cdw 10) 7 0 = 0x06 → c.opcode = 0x0A → exec (.setVolatileWriteCache p slot) s =
      .next (s.complete p slot scOk (bit01 (s.ctrl p c.link).vwc))) ∧
    (bitsOf (c.cdw 10) 7 0 = 0x06 → c.opcode = 0x09 → exec (.setVolatileWriteCache p slot) s =
      .next ((s.setCtrl p c.link { s.ctrl p c.link with vwc := bitOf (c.cdw 11) 0 }).complete p slot scOk 0))) ∧
  (∀ (s : State) (p slot : Nat) (c : Cmd), s.glb.dormant = false → s.newCmd p slot true [0x01, 0x05] = some c →
    (let k := s.ctrl p c.link; let qid := bitsOf (c.cdw 10) 15 0; let size := bitsOf (c.cdw 10) 31 16 + 1
     let hi := bitsOf (c.cdw 11) 31 16
     ((qid = 0 ∨ 4095 < qid) → exec (.createIoQueue p slot) s = .next (s.complete p slot 0x101 0)) ∧
     (c.opcode = 0x05 → 1 ≤ qid → qid ≤ 4095 → k.cmps.any (fun q => q.qid == qid) = false → 2 ≤ size →
       hi < (if s.split p then 1024 else 2048) → exec (.createIoQueue p slot) s = .next ((s.setCtrl p c.link { k with
         cmps := k.cmps ++ [{ qid := qid, size := size, vector := hi, intr := bitOf (c.cdw 11) 1 }] }).complete p slot scOk 0)) ∧
     (c.opcode = 0x01 → 1 ≤ qid → qid ≤ 4095 → k.subs.any (fun q => q.qid == qid) = false →
       (hi = 0 ∨ k.cmps.any (fun q => q.qid == hi) = false) →
       exec (.createIoQueue p slot) s = .next (s.complete p slot 0x100 0)) ∧
     (c.opcode = 0x01 → 1 ≤ qid → qid ≤ 4095 → k.subs.any (fun q => q.qid == qid) = false → hi ≠ 0 →
       k.cmps.any (fun q => q.qid == hi) = true → 2 ≤ size → exec (.createIoQueue p slot) s = .next ((s.setCtrl p c.link { k with
         subs := k.subs ++ [{ qid := qid, cq := hi, size := size }] }).complete p slot scOk 0)))) ∧
  (∀ (s : State) (p slot : Nat) (c : Cmd), s.glb.dormant = false → s.newCmd p slot true [0x00, 0x04] = some c →
    (let k := s.ctrl p c.link; let qid := bitsOf (c.cdw 10) 15 0
     (c.opcode = 0x04 → qid ≠ 0 → k.cmps.any (fun q => q.qid == qid) = true → k.subs.any (fun q => q.cq == qid) = true →
       exec (.deleteIoQueue p slot) s = .next (s.complete p slot 0x10C 0)) ∧
     (c.opcode = 0x04 → qid ≠ 0 → k.cmps.any (fun q => q.qid == qid) = true → k.subs.any (fun q => q.cq == qid) = false →
       exec (.deleteIoQueue p slot) s =
         .next ((s.setCtrl p c.link { k with cmps := k.cmps.filter fun q => q.qid != qid }).complete p slot scOk 0)) ∧
     (c.opcode = 0x00 → qid ≠ 0 → k.subs.any (fun q => q.qid == qid) = true → ∃ y : State,
       y = (s.cmds.filter (fun x => x.1 == p && x.2.2.link == c.link && x.2.2.qid == qid)).foldl
         (fun u x => u.withdrawCmd x.1 x.2.1) s ∧ exec (.deleteIoQueue p slot) s = .next ((y.setCtrl p c.link
           { y.ctrl p c.link with subs := (y.ctrl p c.link).subs.filter fun q => q.qid != qid }).complete p slot scOk 0))))

/-- Admin commands that return data, the idle policy and firmware (R365, R366, R376, R378, R381 to R383, R440): Identify
returns the controller's or the namespace's fields, zeros for a namespace that is not VALID; Get Log Page returns the dwords
asked for of a page, or Invalid Log Page; the idle policy of an HDA is read and set, and one that R378 forbids is an invalid
field; a firmware part is staged, and a commit writes the staged image with COMMIT one above the other slot's. -/
def Obligations.AdminData : Prop :=
  (∀ (s : State) (p slot : Nat) (c : Cmd), s.glb.dormant = false → s.newCmd p slot true [0x06] = some c →
    (bitsOf (c.cdw 10) 7 0 = 1 → exec (.identifyController p slot) s = .next (s.completeData p slot (s.identifyData p c.link))) ∧
    (1 < bitsOf (c.cdw 10) 7 0 → exec (.identifyController p slot) s = .next (s.complete p slot scField 0)) ∧
    (bitsOf (c.cdw 10) 7 0 = 0 → (c.nsidField = 0 ∨ 128 < c.nsidField) →
      exec (.identifyNamespace p slot) s = .next (s.complete p slot scBadNs 0)) ∧
    (bitsOf (c.cdw 10) 7 0 = 0 → 1 ≤ c.nsidField → c.nsidField ≤ 128 → (s.nsd c.nsidField).valid = false →
      exec (.identifyNamespace p slot) s = .next (s.completeData p slot (List.replicate 4096 0))) ∧
    (bitsOf (c.cdw 10) 7 0 = 0 → 1 ≤ c.nsidField → c.nsidField ≤ 128 → (s.nsd c.nsidField).valid = true →
      exec (.identifyNamespace p slot) s = .next (s.completeData p slot (s.identifyNsData c.nsidField)))) ∧
  (∀ (s : State) (p slot : Nat) (c : Cmd), s.glb.dormant = false → s.newCmd p slot true [0x02] = some c →
    (let lid := bitsOf (c.cdw 10) 7 0
     let n := (bitsOf (c.cdw 10) 31 16 + bitsOf (c.cdw 11) 15 0 * 2 ^ 16 + 1) * 4
     let o := c.cdw 12 + c.cdw 13 * 2 ^ 32
     (lid = 0xC0 → exec (.getLogPage p slot) s = .next (s.completeData p slot ((s.hdaLog.drop o).take n))) ∧
     (lid = 0xC1 → exec (.getLogPage p slot) s = .next (s.completeData p slot ((s.errLog.drop o).take n))) ∧
     (lid = 0x02 → exec (.getLogPage p slot) s =
       .next (s.fresh.2.completeData p slot (((s.fresh.2.smartLog s.fresh.1).drop o).take n))) ∧
     (lid ∉ [0x01, 0x02, 0x03, 0x04, 0x05, 0x0C, 0xC0, 0xC1] →
       exec (.getLogPage p slot) s = .next (s.complete p slot 0x109 0)))) ∧
  (∀ (s : State) (p slot : Nat) (c : Cmd), s.glb.dormant = false → s.newCmd p slot true [0x0A] = some c →
    bitsOf (c.cdw 10) 7 0 = 0xC0 →
    (let n := bitsOf (c.cdw 11) 7 0
     (n < s.nHda → exec (.getIdlePolicy p slot) s =
       .next (s.complete p slot scOk ((s.idle n).en * 2 ^ 16 + (s.idle n).slowK * 2 ^ 8 + n))) ∧
     (s.nHda ≤ n → exec (.getIdlePolicy p slot) s = .next (s.complete p slot scField 0)))) ∧
  (∀ (s : State) (p slot : Nat) (c : Cmd), s.glb.dormant = false → s.newCmd p slot true [0x09] = some c →
    bitsOf (c.cdw 10) 7 0 = 0xC0 →
    (let w := c.cdw 11; let n := bitsOf w 7 0; let k := bitsOf w 14 8; let en := bitsOf w 18 16
     let u := bitsOf (c.cdw 12) 15 0; let sl := bitsOf (c.cdw 12) 31 16; let st := bitsOf (c.cdw 13) 15 0
     ((k < 32 ∨ 64 < k ∨ timersRise en u sl st = false ∨ (s.nHda ≤ n ∧ n ≠ 0xFF)) →
       exec (.setIdlePolicy p slot) s = .next (s.complete p slot scField 0)) ∧
     (bitsOf w 31 19 = 0 → bitOf w 15 = false → bitsOf (c.cdw 13) 31 16 = 0 → 32 ≤ k → k ≤ 64 → n < s.nHda → n ≠ 0xFF →
       timersRise en u sl st = true → exec (.setIdlePolicy p slot) s = .next ((s.setIdle n
         { s.idle n with en := en, slowK := k, unloadT := u, slowT := sl, stopT := st }).complete p slot scOk 0)))) ∧
  (∀ (s : State) (p slot : Nat) (c : Cmd) (data : List Byte), s.glb.dormant = false → s.newCmd p slot true [0x11] = some c →
    (let o := c.cdw 11 * 4; let n := (c.cdw 10 + 1) * 4
     (0x01000000 < o + n → exec (.firmwareDownload p slot data) s = .next (s.complete p slot scField 0)) ∧
     (o + n ≤ 0x01000000 → data.length = n → ∃ y : State, exec (.firmwareDownload p slot data) s = .next (y.complete p slot scOk 0) ∧
       (∀ k < n, (o + k, data.getD k 0) ∈ y.hif.fw) ∧ (∀ e ∈ y.hif.fw, (o ≤ e.1 ∧ e.1 < o + n) ∨ e ∈ s.hif.fw) ∧
       y.regs = s.regs ∧ s.SameBytes y))) ∧
  (∀ (s : State) (p slot : Nat) (c : Cmd), s.glb.dormant = false → s.newCmd p slot true [0x10] = some c →
    (let fs := bitsOf (c.cdw 10) 2 0; let ca := bitsOf (c.cdw 10) 5 3
     let k := if fs = 0 then 1 - s.fld Reg.GLB_BOOT_SLOT 0 else fs - 1
     (2 < fs → exec (.firmwareCommit p slot) s = .next (s.complete p slot 0x106 0)) ∧
     (fs ≤ 2 → ca ≤ 3 → ca ≠ 2 → s.hif.fw = [] → exec (.firmwareCommit p slot) s = .next (s.complete p slot 0x107 0)) ∧
     (fs ≤ 2 → ca ≤ 3 → ca ≠ 2 → s.hif.fw ≠ [] → ∃ (u y : State),
       u = s.hif.fw.foldl (fun u e => u.putFlash (flashSlot k + e.1) [e.2]) s ∧
       y = u.putFlash (flashSlot k + 12) (leBytes 4 (u.slotCommit (1 - k) + 1)) ∧ exec (.firmwareCommit p slot) s =
         .next ({ y with hif := { y.hif with fw := [] } }.complete p slot scOk 0))))

/-- The reference and the housekeeping clock (R417 to R425, R448): a good source is selected, and the selection of one that is
not is refused; the loss of the active source starts holdover and, with AUTOSW, selects the next good one; the holdover action
comes once; a PLL's lock ends the holdover with the last of them, and its loss outside holdover is a fatal fault; a forced
switch resets its domain; the chain clock's loss takes HK to the internal oscillator and its return back. -/
def Obligations.ReferenceClocks : Prop :=
  (∀ (s : State) (v : Word), s.glb.dormant = false →
    (let src := Reg.CLK_REF_CTRL_SEL.get v
     (src < 3 → s.refGood src = true → ∃ t : State, exec (.refSelect v) s = .next t ∧ t.fld Reg.CLK_REF_CTRL_SEL 0 = src ∧
       t.fld Reg.CLK_REF_STAT_ACTIVE 0 = src ∧ t.fld Reg.CLK_REF_CTRL_AUTOSW 0 = Reg.CLK_REF_CTRL_AUTOSW.get v ∧
       s.SameRegs t [Reg.CLK_REF_CTRL.addr 0 0, Reg.CLK_REF_STAT.addr 0 0] ∧ s.SameBytes t) ∧
     ((3 ≤ src ∨ s.refGood src = false) → ∃ t : State, exec (.refSelect v) s = .next t ∧
       t.fld Reg.CLK_REF_STAT_SEL_REFUSED 0 = 1 ∧ t.fld Reg.CLK_REF_STAT_ACTIVE 0 = s.fld Reg.CLK_REF_STAT_ACTIVE 0 ∧
       t.fld Reg.CLK_REF_CTRL_SEL 0 = s.fld Reg.CLK_REF_CTRL_SEL 0 ∧ s.SameBytes t))) ∧
  (∀ (s : State) (src : Nat), s.glb.dormant = false → src < 3 → s.refGood src = true →
    (s.fld Reg.CLK_REF_STAT_ACTIVE 0 ≠ src → ∃ t : State, exec (.refSourceFail src) s = .next t ∧ t.refGood src = false ∧
      t.fld Reg.CLK_REF_STAT_ACTIVE 0 = s.fld Reg.CLK_REF_STAT_ACTIVE 0 ∧
      s.SameRegs t [Reg.CLK_REF_STAT.addr 0 0] ∧ s.SameBytes t) ∧
    (s.fld Reg.CLK_REF_STAT_ACTIVE 0 = src → ∃ y : State, y.refGood src = false ∧ y.flag Reg.CLK_REF_STAT_HOLD 0 = true ∧
      (∀ k, y.nextRef src = some k → y.flag Reg.CLK_REF_CTRL_AUTOSW 0 = true →
        exec (.refSourceFail src) s = .next (y.refTo k)) ∧
      (∀ k, y.nextRef src = some k → y.flag Reg.CLK_REF_CTRL_AUTOSW 0 = false →
        exec (.refSourceFail src) s = .next y) ∧
      (y.nextRef src = none → exec (.refSourceFail src) s = .next y.holdAct))) ∧
  (∀ (s : State) (src : Nat), s.glb.dormant = false → src < 1 + s.nPeerPort → s.refGood src = false →
    s.flag Reg.CLK_REF_STAT_HOLD 0 = false → ∃ t : State, exec (.refSourceGood src) s = .next t ∧ t.refGood src = true ∧
      s.SameRegs t [Reg.CLK_REF_STAT.addr 0 0] ∧ s.SameBytes t) ∧
  (∀ (s : State), s.glb.dormant = false → s.flag Reg.CLK_REF_STAT_HOLD 0 = true →
    (s.clk.acted = false → exec .holdoverTimeout s = .next ({ s with clk := { s.clk with acted := true } }.raise srcCLK 0 0 false)) ∧
    (s.clk.acted = true → exec .holdoverTimeout s = .next s)) ∧
  (∀ (s : State) (i : Nat), s.glb.dormant = false → s.hasPll i = true →
    (i = 5 ∨ i = 6 ∨ s.refGood (s.fld Reg.CLK_REF_STAT_ACTIVE 0) = true) → bitOf (s.fld Reg.CLK_PLL_STAT_LOCKED 0) i = false →
    (s.flag Reg.CLK_REF_STAT_HOLD 0 = false → ∃ t : State, exec (.pllLock i) s = .next t ∧
      bitOf (t.fld Reg.CLK_PLL_STAT_LOCKED 0) i = true ∧ s.SameRegs t [Reg.CLK_PLL_STAT.addr 0 0] ∧ s.SameBytes t) ∧
    (s.flag Reg.CLK_REF_STAT_HOLD 0 = true →
      setBit (s.fld Reg.CLK_PLL_STAT_LOCKED 0) i true &&& (if s.jd16 then 0x1F else 0x0F) = (if s.jd16 then 0x1F else 0x0F) →
      ∃ y : State, exec (.pllLock i) s = .next ((List.range y.nHda).foldl (fun u n => u.safeSettle n) y) ∧
        y.flag Reg.CLK_REF_STAT_HOLD 0 = false ∧ y.hif.heldDown = false ∧ bitOf (y.fld Reg.CLK_PLL_STAT_LOCKED 0) i = true)) ∧
  (∀ (s : State) (i : Nat), s.glb.dormant = false → bitOf (s.fld Reg.CLK_PLL_STAT_LOCKED 0) i = true →
    s.flag Reg.CLK_REF_STAT_HOLD 0 = false → ∃ y : State, exec (.pllLockLost i) s = .next (y.raise srcCLK 1 0 false) ∧
      bitOf (y.fld Reg.CLK_PLL_STAT_LOCKED 0) i = false ∧ s.SameRegs y [Reg.CLK_PLL_STAT.addr 0 0] ∧ s.SameBytes y) ∧
  (∀ (s : State), s.glb.dormant = false → s.flag Reg.CLK_REF_STAT_HOLD 0 = true →
    s.refGood (s.fld Reg.CLK_REF_STAT_ACTIVE 0) = true →
    exec (.forcedSwitch 0) s = .next (((s.setFld Reg.CLK_REF_STAT_FORCED 0 1).refReset).corrected srcCLK 2)) ∧
  (∀ (s : State) (i : Instr), i ∈ [Instr.forcedSwitch 1, .chainClockLoss] → s.flag Reg.CLK_HK_STAT_SRC 0 = true →
    exec i s = .next s.hkForced) ∧
  (∀ (s : State), s.flag Reg.CLK_HK_STAT_SRC 0 = false → ∃ t : State, exec .chainClockReturn s = .next t ∧
    t.fld Reg.CLK_HK_STAT_SRC 0 = 1 ∧ t.fld Reg.PRC_STAT_HK_SRC 0 = 1 ∧
    s.SameRegs t [Reg.CLK_HK_STAT.addr 0 0, Reg.PRC_STAT.addr 0 0] ∧ s.SameBytes t)

/-- Clock gating (R428 to R430, R448): a gate of a unit that is fenced and idle stops its clock and reports GATED; a busy one
waits, and is refused with BUSY at the timeout; a unit that is not fenced, or does not exist, is refused; an ungate starts the
clock again. -/
def Obligations.ClockGating : Prop :=
  (∀ (s : State) (v : Word), s.glb.dormant = false → s.clk.gateWait = none → s.clk.held = [] → Reg.CLK_GATE_GO.get v = 1 →
    (let ty := Reg.CLK_GATE_TYPE.get v; let i := Reg.CLK_GATE_INDEX.get v
     (Reg.CLK_GATE_OP.get v = 0 →
       (s.gateUnit ty i = false → ∃ t : State, exec (.clockGate v) s = .next t ∧ t.fld Reg.CLK_GATE_RESULT 0 = 5 ∧
         t.fld Reg.CLK_GATE_GO 0 = 0 ∧ t.clk = s.clk ∧ s.SameRegs t [Reg.CLK_GATE.addr 0 0] ∧ s.SameBytes t) ∧
       (s.gateUnit ty i = true → s.clk.gated.contains (ty, i) = false → s.gateMay ty i = false →
         ∃ t : State, exec (.clockGate v) s = .next t ∧ t.fld Reg.CLK_GATE_RESULT 0 = 4 ∧ t.fld Reg.CLK_GATE_GO 0 = 0 ∧
           t.clk = s.clk ∧ s.SameRegs t [Reg.CLK_GATE.addr 0 0] ∧ s.SameBytes t) ∧
       (s.gateUnit ty i = true → s.clk.gated.contains (ty, i) = false → s.gateMay ty i = true → s.gateBusy ty i = false →
         ∃ t : State, exec (.clockGate v) s = .next t ∧ t.fld Reg.CLK_GATE_RESULT 0 = 1 ∧ t.fld Reg.CLK_GATE_GO 0 = 0 ∧
           t.clk.gated.contains (ty, i) = true ∧ s.SameRegs t [Reg.CLK_GATE.addr 0 0] ∧ s.SameBytes t) ∧
       (s.gateUnit ty i = true → s.clk.gated.contains (ty, i) = false → s.gateMay ty i = true → s.gateBusy ty i = true →
         ∃ t : State, exec (.clockGate v) s = .next t ∧ t.fld Reg.CLK_GATE_RESULT 0 = 0 ∧ t.fld Reg.CLK_GATE_GO 0 = 1 ∧
           t.clk.gateWait = some (ty, i) ∧ t.clk.gated = s.clk.gated ∧ s.SameRegs t [Reg.CLK_GATE.addr 0 0] ∧
           s.SameBytes t)) ∧
     (Reg.CLK_GATE_OP.get v = 1 → s.gateUnit ty i = true → ∃ t : State, exec (.clockUngate v) s = .next t ∧
       t.fld Reg.CLK_GATE_RESULT 0 = 2 ∧ t.fld Reg.CLK_GATE_GO 0 = 0 ∧ t.clk.gated.contains (ty, i) = false ∧
       (∀ u, u ≠ (ty, i) → t.clk.gated.contains u = s.clk.gated.contains u) ∧
       s.SameRegs t [Reg.CLK_GATE.addr 0 0] ∧ s.SameBytes t))) ∧
  (∀ (s : State) (u : Nat × Nat), s.clk.gateWait = some u → s.clk.held = [] → s.gateMay u.1 u.2 = true →
    (s.gateBusy u.1 u.2 = true → ∃ t : State, exec .gateIdleTimeout s = .next t ∧ t.fld Reg.CLK_GATE_RESULT 0 = 3 ∧
      t.fld Reg.CLK_GATE_GO 0 = 0 ∧ t.clk.gateWait = none ∧ t.clk.gated = s.clk.gated ∧
      s.SameRegs t [Reg.CLK_GATE.addr 0 0] ∧ s.SameBytes t) ∧
    (s.gateBusy u.1 u.2 = false → ∃ t : State, exec .gateIdleTimeout s = .next t ∧ t.fld Reg.CLK_GATE_RESULT 0 = 1 ∧
      t.clk.gateWait = none ∧ t.clk.gated.contains u = true ∧ s.SameRegs t [Reg.CLK_GATE.addr 0 0] ∧ s.SameBytes t))

/-- Power, resets, modes and temperature (R431 to R433, R437 to R441, R528, R530, R531): a loss of the main rails leaves a
Dormant device with its flash and its fuses; a device reset leaves Quiescent, with every byte of memory gone, and is held while
a fuse burn runs; the boot engine starts after the SRAM wipe, checks, configures and loads, and reports its result; WIPING
falls with the wipe's end; a Service request is refused with its reason, or stands; a temperature sample keeps the highest, and
trips at 398 K. -/
def Obligations.PowerAndModes : Prop :=
  (∀ (s : State), ∃ t : State, exec .porchPowerOn s = .next t ∧ t.fld Reg.CLK_HK_STAT_SRC 0 = 0 ∧
    t.fld Reg.CLK_HK_STAT_FORCED 0 = 0 ∧ t.chain = {} ∧ t.fus.token = [] ∧ t.glb.dormant = s.glb.dormant ∧ s.SameBytes t) ∧
  (∀ (s : State) (cause : Nat), ((cause = 0 ∧ s.glb.dormant = true) ∨ (1 ≤ cause ∧ cause < 3 ∧ s.glb.dormant = false)) →
    (s.flag Reg.FUS_LC_LC_BUSY 0 = false → ∃ t : State, exec (.deviceReset cause) s = .next t ∧ t = s.runReset cause ∧
      t.glb.dormant = false ∧ t.mode = modeQuiescent ∧ t.mem = [] ∧ t.pantry = [] ∧ t.land = [] ∧ t.poison = [] ∧
      t.flash = s.flash ∧ t.pending = s.pending ∧ t.fus.ownerHash = s.fus.ownerHash ∧ t.jd16 = s.jd16) ∧
    (s.flag Reg.FUS_LC_LC_BUSY 0 = true → ∃ y : State, exec (.deviceReset cause) s =
      .next ((List.range y.nHda).foldl (fun u n => u.safeSettle n) y) ∧ y.glb.rstPend = some cause ∧
      y.fld Reg.GLB_RST_BUSY 0 = 1 ∧ s.SameRegs y [Reg.GLB_RST.addr 0 0] ∧ s.SameBytes y)) ∧
  (∀ (s : State), s.glb.dormant = false → s.fus.burn = none → ∃ t : State, exec .mainRailFail s = .next t ∧
    t.glb.dormant = true ∧ t.fld Reg.PRC_STAT_MODE 0 = 0 ∧ t.fld Reg.PRC_STAT_RAILS 0 = 0 ∧ t.pins.trip = false ∧
    t.mem = [] ∧ t.pantry = [] ∧ t.land = [] ∧ t.flash = s.flash ∧ t.pending = s.pending) ∧
  (∀ (s : State), s.glb.sramWipe = true → s.pllsLocked = true → s.glb.dormant = false →
    exec .sramWipeEnd s = .next { s with glb := { s.glb with sramWipe := false, booting := s.mode == modeQuiescent } }) ∧
  (∀ (s : State), s.glb.booting = true → s.flag Reg.GLB_MODE_WIPING 0 = false →
    (s.bootSlot = none → exec .bootEnd s =
      .next (((s.wr Reg.HIF_PCFG 0 0 0x31).wr Reg.HIF_PCFG 1 0 0x31).bootDone 0 2)) ∧
    (∀ k, s.bootSlot = some k →
      (let u := s.wr Reg.GLB_BOOTVER 0 0 (word (s.slotNat k 8 4))
       let cfg := (List.range (u.slotNat k 24 4)).map fun i =>
         (u.slotNat k (u.slotNat k 20 4 + 8 * i) 4, word (u.slotNat k (u.slotNat k 20 4 + 8 * i + 4) 4))
       let img := u.slotNat k 136 8
       (∀ y, u.bootConfig cfg = (y, false) → exec .bootEnd s = .next (y.bootDone k 3)) ∧
       (∀ y, u.bootConfig cfg = (y, true) → y.unmapped img 16 = true → exec .bootEnd s = .next (y.bootDone k 3)) ∧
       (∀ y, u.bootConfig cfg = (y, true) → y.unmapped img 16 = false →
         (let fmt := y.slotImage k (y.slotNat k 28 4); let stw := y.slotImage k (y.slotNat k 32 4)
          let fs := (List.range 32).filter y.hasSeq
          (∀ z, y.bootImage fmt img fs = (z, false) → exec .bootEnd s = .next (z.bootDone k 4)) ∧
          (∀ z z', y.bootImage fmt img fs = (z, true) → z.bootImage stw (img + fmt.length) stewards = (z', false) →
            exec .bootEnd s = .next (z'.bootDone k 4)) ∧
          (∀ z z', y.bootImage fmt img fs = (z, true) → z.bootImage stw (img + fmt.length) stewards = (z', true) →
            exec .bootEnd s = .next (z'.bootDone k 1))))))) ∧
  (∀ (s : State), s.flag Reg.GLB_MODE_WIPING 0 = true → s.glb.sramWipe = false → s.glb.bufWipe = false →
    s.glb.dormant = false → s.mode ≠ modeSealed →
    (s.fld Reg.FUS_LC_STATE 0 ≠ 4 → bitOf (s.causes srcFUS) 1 = false → ∃ t : State, exec .wipeEnd s = .next t ∧
      t.flag Reg.GLB_MODE_WIPING 0 = false ∧ t.mode = s.mode ∧ s.SameBytes t) ∧
    (s.fld Reg.FUS_LC_STATE 0 = 4 → ∃ y : State, exec .wipeEnd s = .next y.enterSealed ∧
      y.flag Reg.GLB_MODE_WIPING 0 = false)) ∧
  (∀ (s : State) (v : Word), s.glb.dormant = false → Reg.GLB_MODE_SVC_REQ.get v = 1 →
    ((s.mode ≠ modeQuiescent ∨ s.flag Reg.GLB_MODE_WIPING 0 = true) → ∃ t : State, exec (.serviceRequest v) s = .next t ∧
      t.fld Reg.GLB_MODE_REFUSE 0 = 1 ∧ t.fld Reg.GLB_MODE_SVC_REQ 0 = 0 ∧ t.mode = s.mode ∧
      s.SameRegs t [Reg.GLB_MODE.addr 0 0] ∧ s.SameBytes t) ∧
    (s.serviceRefused = 0 → ∃ t : State, exec (.serviceRequest v) s = .next t ∧ t.fld Reg.GLB_MODE_REFUSE 0 = 0 ∧
      t.fld Reg.GLB_MODE_SVC_REQ 0 = 1 ∧ t.mode = s.mode ∧ s.SameRegs t [Reg.GLB_MODE.addr 0 0] ∧ s.SameBytes t)) ∧
  (∀ (s : State) (rs : List Nat), s.glb.dormant = false →
    (let x := min 511 (rs.foldl max 0)
     ∃ t : State, exec (.temperatureSample rs) s = .next t ∧ t.fld Reg.GLB_TEMP_COMP 0 = x ∧
       t.fld Reg.GLB_TEMP_PEAK 0 = max x (s.fld Reg.GLB_TEMP_PEAK 0) ∧
       t.pins.trip = (decide (398 ≤ x) || s.pins.trip) ∧ s.SameRegs t [Reg.GLB_TEMP.addr 0 0] ∧ s.SameBytes t))

/-- The Attic and the life cycle (R442 to R446, R489 to R497, R537, R538): the oldest pending trigger becomes the next record,
or counts with the newest one that it repeats; provisioning starts from its state only, enters Sealed and burns; a burn's end
shows its state, and a held reset runs; a token that passes every check acts, and every check zeroes the token; closing ends
its openings; an observation that is closed, or names no signal, is refused; a test instruction works when the port is open. -/
def Obligations.AtticAndLifeCycle : Prop :=
  (∀ (s : State), s.atc.pend = [] → exec .atticRecordStore s = .next s) ∧
  (∀ (s : State) (r : AtticRec) (rest : List AtticRec), s.atc.pend = r :: rest →
    (let old := s.atticSlot (s.atc.last % 4096)
     ((old.seq ≠ s.atc.last ∨ s.atc.last = 0 ∨ r.same old = false) → ∃ t : State, exec .atticRecordStore s = .next t ∧
       t.atc.pend = rest ∧ t.atc.last = s.atc.last + 1 ∧
       t.atticSlot ((s.atc.last + 1) % 4096) = { r with seq := s.atc.last + 1, loss := s.atc.loss } ∧ t.atc.loss = false ∧
       t.rd Reg.ATC_WSEQ 0 0 = word (s.atc.last + 1) ∧ s.SameRegs t [Reg.ATC_WSEQ.addr 0 0, Reg.ATC_OSEQ.addr 0 0] ∧
       s.SameBytes t) ∧
     (old.seq = s.atc.last → s.atc.last ≠ 0 → r.same old = true → old.rep < 65535 → ∃ t : State,
       exec .atticRecordStore s = .next t ∧ t.atticSlot (s.atc.last % 4096) = { old with rep := old.rep + 1 } ∧
       t.atc.last = s.atc.last ∧ t.atc.pend = rest ∧ t.regs = s.regs ∧ s.SameBytes t))) ∧
  (∀ (s : State) (v : Word), exec (.atticNote v) s = .next (s.atticEvent 31 [v, s.rd Reg.GLB_MODE 0 0])) ∧
  (∀ (s : State) (v : Word), Reg.FUS_PROV_GO.get v = 1 →
    ((s.fld Reg.FUS_LC_STATE 0 ≠ 0 ∨ s.fus.burn ≠ none) → ∃ t : State, exec (.provision v) s = .next t ∧
      t.fld Reg.FUS_PROV_RESULT 0 = 7 ∧ s.SameRegs t [Reg.FUS_PROV.addr 0 0] ∧ s.SameBytes t) ∧
    (s.fld Reg.FUS_LC_STATE 0 = 0 → s.fus.burn = none → s.glb.dormant = false → s.mode ≠ modeSealed →
      ∃ t : State, exec (.provision v) s = .next t ∧ t.fld Reg.FUS_PROV_RESULT 0 = 1 ∧ t.fus.burn = some 1 ∧
        t.fld Reg.FUS_LC_LC_BUSY 0 = 1 ∧ t.mem = [] ∧ t.pantry = [] ∧ t.land = [])) ∧
  (∀ (s : State) (st : Nat), s.fus.burn = some st →
    (s.glb.rstPend = none → exec .fuseBurnEnd s = .next (s.burned st)) ∧
    (∀ c, s.glb.rstPend = some c → exec .fuseBurnEnd s = .next ((s.burned st).runReset c)) ∧
    (st < 8 → (s.burned st).fld Reg.FUS_LC_STATE 0 = st) ∧ (s.burned st).fld Reg.FUS_LC_LC_BUSY 0 = 0 ∧
    (s.burned st).fus.burn = none ∧ s.SameBytes (s.burned st)) ∧
  (∀ (s : State) (i : Instr) (a : Nat), (i, a) ∈ [(Instr.tokenOpenObs, 0x01), (.tokenOpenTap, 0x02), (.tokenOpenBoth, 0x03),
      (.tokenDeploy, 0x10), (.tokenReturn, 0x11), (.tokenRetire, 0x12), (.tokenClearAttic, 0x20)] →
    (s.tokenResult s.tokenBytes = 1 → tokAction s.tokenBytes = a → exec i s = .next s.authGo) ∧
    (s.tokenResult s.tokenBytes ≠ 1 → exec i s = .next s)) ∧
  (∀ (s : State) (i : Instr) (a : Nat), (i, a) ∈ [(Instr.tokenOpenObs, 0x01), (.tokenOpenTap, 0x02), (.tokenOpenBoth, 0x03)] →
    s.tokenResult s.tokenBytes = 1 → tokAction s.tokenBytes = a → ∃ t : State, exec i s = .next t ∧
      t.fld Reg.FUS_AUTH_RESULT 0 = 1 ∧ t.fld Reg.FUS_AUTH_ACTION 0 = a ∧ t.fus.token = [] ∧
      t.fus.obsTok = (s.fus.obsTok || bitOf a 0) ∧ t.fus.tapTok = (s.fus.tapTok || bitOf a 1) ∧
      t.fus.burn = s.fus.burn ∧ s.SameBytes t) ∧
  (∀ (s : State) (i : Instr) (a st : Nat), (i, a, st) ∈ [(Instr.tokenDeploy, 0x10, 2), (.tokenReturn, 0x11, 3),
      (.tokenRetire, 0x12, 4)] → s.tokenResult s.tokenBytes = 1 → tokAction s.tokenBytes = a →
    ∃ t : State, exec i s = .next t ∧ t.fus.burn = some st ∧ t.fld Reg.FUS_LC_LC_BUSY 0 = 1 ∧ t.fus.token = []) ∧
  (∀ (s : State), s.tokenResult s.tokenBytes ≠ 1 → ∃ t : State, exec .tokenRefused s = .next t ∧
    t.fld Reg.FUS_AUTH_RESULT 0 = s.tokenResult s.tokenBytes ∧ t.fus.token = [] ∧ t.fus.obsTok = s.fus.obsTok ∧
    t.fus.tapTok = s.fus.tapTok ∧ t.fus.burn = s.fus.burn ∧ s.SameBytes t) ∧
  (∀ (s : State) (v : Word), Reg.FUS_AUTH_CLOSE.get v = 1 → Reg.FUS_AUTH_GO.get v = 0 → ∃ t : State,
    exec (.authClose v) s = .next t ∧ t.fus.obsTok = false ∧ t.fus.tapTok = false ∧ s.SameBytes t) ∧
  (∀ (s : State) (k : Nat) (v : Word), s.glb.dormant = false →
    (let sig := Reg.OBS_SEL_SIGNAL.get v
     ((sig = 0 ∨ (s.flag Reg.FUS_LC_OBS_OPEN 0 = true ∧ s.obsIndexOk sig (Reg.OBS_SEL_INDEX.get v) = true)) →
       exec (.obsSelect k v) s = .next (s.store Reg.OBS_SEL 0 k v)) ∧
     (sig ≠ 0 → (s.flag Reg.FUS_LC_OBS_OPEN 0 = false ∨ s.obsIndexOk sig (Reg.OBS_SEL_INDEX.get v) = false) →
       exec (.obsSelect k v) s = .next (s.corrected srcOBS 0)))) ∧
  (∀ (s : State), exec .testReset s = .next { s with pins := { s.pins with ir := 1 } }) ∧
  (∀ (s : State) (ir : Nat),
    ((ir < 3 ∨ (ir < 8 ∧ s.flag Reg.FUS_LC_TAP_OPEN 0 = true ∧ s.mode = modeQuiescent ∧ s.glb.dormant = false)) →
      exec (.tapInstruction ir) s = .next { s with pins := { s.pins with ir := ir } }) ∧
    (3 ≤ ir → s.flag Reg.FUS_LC_TAP_OPEN 0 = false →
      exec (.tapInstruction ir) s = .next { s with pins := { s.pins with ir := 0 } }))

/-- Fault groups (R477 to R486): FLT_CLR clears the corrected and contained causes that it names and leaves fatal ones; host
software sets a fence, and a clear of one is refused while a contained cause stands or the sequencer is Fenced, and else starts
the unit's way back at the next boundary; an injection that R482 or R483 forbids is refused, and one that is allowed records,
reacts or raises. -/
def Obligations.FaultGroups : Prop :=
  (∀ (s : State) (src : Nat) (v : Word), s.hasSrc src = true → ∃ t : State, exec (.faultClear src v) s = .next t ∧
    t.causes src = s.causes src - (s.causes src &&& (v.toNat &&& (classMask src 1 ||| classMask src 2))) ∧ s.SameBytes t ∧
    t.stm = s.stm ∧ t.seq = s.seq) ∧
  (∀ (s : State) (src : Nat) (v : Word), s.hasSrc src = false → exec (.faultClear src v) s = .next s) ∧
  (∀ (s : State) (src : Nat) (v : Word), s.glb.dormant = false → s.hasSrc src = true → fenceable src = true →
    (Reg.FLT_FENCE_FENCE.get v = 1 → exec (.fenceWrite src v) s = .next ((s.hostFence src).heldGo)) ∧
    (Reg.FLT_FENCE_FENCE.get v = 0 → s.fenced src = true → s.causes src &&& classMask src 2 ≠ 0 →
      exec (.fenceWrite src v) s = .next s.heldGo) ∧
    (Reg.FLT_FENCE_FENCE.get v = 0 → s.fenced src = true → 88 ≤ src → s.seqState (src - 88) = seqFenced →
      exec (.fenceWrite src v) s = .next s.heldGo) ∧
    (Reg.FLT_FENCE_FENCE.get v = 0 → s.fenced src = true → s.causes src &&& classMask src 2 = 0 →
      (src < 88 ∨ s.seqState (src - 88) ≠ seqFenced) → ∃ y : State,
      exec (.fenceWrite src v) s = .next (((y.fenceLeft src).gateSettle).heldGo) ∧ y.fenced src = false ∧
        y.flag (Reg.FLT_FENCE_BYFAULT.flt src) 0 = false ∧ y.glb.rejoin.contains src = true ∧ s.SameBytes y)) ∧
  (∀ (s : State) (src : Nat) (v : Word), s.glb.dormant = false → fenceable src = false →
    exec (.fenceWrite src v) s = .next s.heldGo) ∧
  (∀ (s : State) (ag : Agent) (src mode : Nat) (v : Word) (i : Instr), Reg.FLT_INJ_GO.get v = 1 →
    (i, mode) ∈ [(Instr.injectRecord ag src v, 0), (.injectReact ag src v, 1), (.injectRaise ag src v, 2)] →
    Reg.FLT_INJ_MODE.get v = mode → s.hasSrc src = true →
    (let bit := Reg.FLT_INJ_CAUSE.get v; let f (x : Fld) : Fld := x.flt src
     let u := ((s.setFld (f Reg.FLT_INJ_MODE) 0 mode).setFld (f Reg.FLT_INJ_CAUSE) 0 bit).setFld (f Reg.FLT_INJ_RESULT) 0 1
     (s.injectRefused ag src mode bit = true → ∃ t : State, exec i s = .next t ∧ t.fld (f Reg.FLT_INJ_RESULT) 0 = 2 ∧
       t.causes src = s.causes src ∧ s.SameBytes t ∧ t.stm = s.stm ∧ t.glb = s.glb) ∧
     (s.injectRefused ag src mode bit = false → mode = 0 → exec i s = .next (u.cause src bit true true)) ∧
     (s.injectRefused ag src mode bit = false → mode = 2 → exec i s = .next (u.corrected src bit)) ∧
     (s.injectRefused ag src mode bit = false → mode = 1 → (src ≠ srcCLK ∨ bit ≠ 2) →
       exec i s = .next ((u.injectUnit src).1.raise src bit (u.injectUnit src).2 true))))

/-- Claims (R34, R512 to R516): a claim or a release ends with the first result of R514 that holds; a claim that is granted
takes a free row of the table and makes Service Maintenance, and a release frees every row that it names; an agent's write of
another agent's register changes nothing. -/
def Obligations.Claims : Prop :=
  (∀ (s : State) (ag : Agent) (k : Nat) (v : Word) (i : Instr), i ∈ [Instr.claim ag k v, .claimRelease ag k v] →
    claimAgent ag ≠ some k → exec i s = .next s) ∧
  (∀ (s : State) (ag : Agent) (k op : Nat) (v : Word) (i : Instr), (i, op) ∈ [(Instr.claim ag k v, 0), (.claimRelease ag k v, 1)] →
    s.glb.dormant = false → k < 4 → claimAgent ag = some k → Reg.GLB_CLAIM_GO.get v = 1 → Reg.GLB_CLAIM_OP.get v = op →
    (let u := s.store Reg.GLB_CLAIM 0 k v
     let force := Reg.GLB_CLAIM_FORCE.get v == 1 && decide (k < 2)
     let r := u.claimResult k (op == 1) force (Reg.GLB_CLAIM_TYPE.get v) (Reg.GLB_CLAIM_INDEX.get v)
     r ≠ 1 → ∃ t : State, exec i s = .next t ∧ t.fldJ Reg.GLB_CLAIM_RESULT 0 k = r ∧
       s.SameRegs t [Reg.GLB_CLAIM.addr 0 k] ∧ s.SameBytes t)) ∧
  (∀ (s : State) (ag : Agent) (k j : Nat) (v : Word), s.glb.dormant = false → k < 4 → claimAgent ag = some k → Reg.GLB_CLAIM_GO.get v = 1 →
    Reg.GLB_CLAIM_OP.get v = 0 →
    (let u := s.store Reg.GLB_CLAIM 0 k v; let ty := Reg.GLB_CLAIM_TYPE.get v; let i := Reg.GLB_CLAIM_INDEX.get v
     u.claimResult k false (Reg.GLB_CLAIM_FORCE.get v == 1 && decide (k < 2)) ty i = 1 →
     j < 32 → u.fldJ Reg.GLB_CLAIMT_VALID 0 j = 0 → (∀ m < j, u.fldJ Reg.GLB_CLAIMT_VALID 0 m = 1) →
     ∃ y : State, exec (.claim ag k v) s = .next ((y.seqEvents (claimSeqs ty i) 11).claimMode) ∧
       y.rd Reg.GLB_CLAIMT 0 j = word (2 ^ 31 + k * 2 ^ 29 + ty * 2 ^ 20 + i) ∧ y.fldJ Reg.GLB_CLAIM_RESULT 0 k = 1 ∧
       (∀ m, m < 32 → m ≠ j → y.rd Reg.GLB_CLAIMT 0 m = s.rd Reg.GLB_CLAIMT 0 m) ∧ s.SameBytes y)) ∧
  (∀ (s : State) (ag : Agent) (k : Nat) (v : Word), s.glb.dormant = false → k < 4 → claimAgent ag = some k →
    Reg.GLB_CLAIM_GO.get v = 1 → Reg.GLB_CLAIM_OP.get v = 1 →
    (let u := s.store Reg.GLB_CLAIM 0 k v; let ty := Reg.GLB_CLAIM_TYPE.get v; let i := Reg.GLB_CLAIM_INDEX.get v
     let force := Reg.GLB_CLAIM_FORCE.get v == 1 && decide (k < 2)
     let rows := u.claimRows (if force then none else some k) ty i
     u.claimResult k true force ty i = 1 → ∃ y : State,
       exec (.claimRelease ag k v) s = .next ((y.seqEvents (claimSeqs ty i) 11).claimMode) ∧
       (∀ j ∈ rows, y.rd Reg.GLB_CLAIMT 0 j = 0) ∧
       (∀ m, m < 32 → m ∉ rows → y.rd Reg.GLB_CLAIMT 0 m = s.rd Reg.GLB_CLAIMT 0 m) ∧ s.SameBytes y))

/-- ADD, SUB, ADC, SBB and CMP (R390, R395): on a sequencer that can issue the word, D takes the sum or difference of g[A] and
B; Z and N follow the result, C is the carry out or the borrow, V the overflow of signed numbers; nothing else changes but the
address, SEQ_STAT.PC and SEQ_CNT_WORDS. CMP discards its result. -/
def Obligations.ArithmeticWords : Prop :=
  ∀ (s : State) (q : Nat), s.glb.dormant = false →
    (let w := s.mw q; let a := s.gr q w.aA; let b := s.opB q w; let c : Nat := bit01 (s.fl q flC)
     (s.canIssue q 0x10 = true → ∃ t : State, exec (.add q) s = .next t ∧ s.ArithResult t q w.aD (a + b) ∧
       t.fl q flC = decide (2 ^ 32 ≤ a.toNat + b.toNat) ∧ t.fl q flV = (a.msb == b.msb && (a + b).msb != a.msb)) ∧
     (s.canIssue q 0x11 = true → ∃ t : State, exec (.sub q) s = .next t ∧ s.ArithResult t q w.aD (a - b) ∧
       t.fl q flC = decide (a.toNat < b.toNat) ∧ t.fl q flV = (a.msb != b.msb && (a - b).msb != a.msb)) ∧
     (s.canIssue q 0x1A = true → ∃ t : State, exec (.adc q) s = .next t ∧ s.ArithResult t q w.aD (a + b + word c) ∧
       t.fl q flC = decide (2 ^ 32 ≤ a.toNat + b.toNat + c) ∧
       t.fl q flV = (a.msb == b.msb && (a + b + word c).msb != a.msb)) ∧
     (s.canIssue q 0x1B = true → ∃ t : State, exec (.sbb q) s = .next t ∧ s.ArithResult t q w.aD (a - b - word c) ∧
       t.fl q flC = decide (a.toNat < b.toNat + c) ∧
       t.fl q flV = (a.msb != b.msb && (a - b - word c).msb != a.msb)) ∧
     (s.canIssue q 0x1C = true → ∃ t : State, exec (.cmp q) s = .next t ∧ s.ArithKeeps t q ∧
       (∀ r, t.gr q r = s.gr q r) ∧ t.fl q flZ = (a == b) ∧ t.fl q flN = (a - b).msb ∧
       t.fl q flC = decide (a.toNat < b.toNat) ∧ t.fl q flV = (a.msb != b.msb && (a - b).msb != a.msb)))

/-- AND, OR, XOR, SHL, SHR, SAR and TST (R395): bit k of the result is the bit function of bits k of A and B, or a shifted bit
of A by B[4:0]; Z and N follow the result; all but TST clear C and V, TST leaves them and discards its result. -/
def Obligations.LogicWords : Prop :=
  ∀ (s : State) (q : Nat), s.glb.dormant = false →
    (let w := s.mw q; let a := s.gr q w.aA; let b := s.opB q w; let n : Nat := b.toNat % 32
     (s.canIssue q 0x12 = true → ∃ (t : State) (r : Word), exec (.and q) s = .next t ∧ s.ArithResult t q w.aD r ∧
       (∀ k < 32, r.getLsbD k = (a.getLsbD k && b.getLsbD k)) ∧ t.fl q flC = false ∧ t.fl q flV = false) ∧
     (s.canIssue q 0x13 = true → ∃ (t : State) (r : Word), exec (.or q) s = .next t ∧ s.ArithResult t q w.aD r ∧
       (∀ k < 32, r.getLsbD k = (a.getLsbD k || b.getLsbD k)) ∧ t.fl q flC = false ∧ t.fl q flV = false) ∧
     (s.canIssue q 0x14 = true → ∃ (t : State) (r : Word), exec (.xor q) s = .next t ∧ s.ArithResult t q w.aD r ∧
       (∀ k < 32, r.getLsbD k = (a.getLsbD k != b.getLsbD k)) ∧ t.fl q flC = false ∧ t.fl q flV = false) ∧
     (s.canIssue q 0x15 = true → ∃ (t : State) (r : Word), exec (.shl q) s = .next t ∧ s.ArithResult t q w.aD r ∧
       (∀ k < 32, r.getLsbD k = (decide (n ≤ k) && a.getLsbD (k - n))) ∧ t.fl q flC = false ∧ t.fl q flV = false) ∧
     (s.canIssue q 0x16 = true → ∃ (t : State) (r : Word), exec (.shr q) s = .next t ∧ s.ArithResult t q w.aD r ∧
       (∀ k < 32, r.getLsbD k = a.getLsbD (k + n)) ∧ t.fl q flC = false ∧ t.fl q flV = false) ∧
     (s.canIssue q 0x17 = true → ∃ (t : State) (r : Word), exec (.sar q) s = .next t ∧ s.ArithResult t q w.aD r ∧
       (∀ k < 32, r.getLsbD k = (if k + n < 32 then a.getLsbD (k + n) else a.msb)) ∧ t.fl q flC = false ∧
       t.fl q flV = false) ∧
     (s.canIssue q 0x1D = true → ∃ t : State, exec (.tst q) s = .next t ∧ s.ArithKeeps t q ∧
       (∀ r, t.gr q r = s.gr q r) ∧ t.fl q flZ = (a &&& b == 0) ∧ t.fl q flN = (a.msb && b.msb) ∧
       t.fl q flC = s.fl q flC ∧ t.fl q flV = s.fl q flV))

/-- MUL, MULHU, BFX, BFI and MOVI (R395): the halves of the unsigned product, bits of A taken out or put into D from position
IMM[4:0] over width IMM[13:8], or IMM; Z and N follow the result, C and V stay. -/
def Obligations.ProductAndFieldWords : Prop :=
  ∀ (s : State) (q : Nat), s.glb.dormant = false →
    (let w := s.mw q; let a := s.gr q w.aA; let b := s.opB q w; let d := s.gr q w.aD
     let lo : Nat := w.aImm % 32; let n : Nat := bitsOf w.aImm 13 8
     (s.canIssue q 0x18 = true → ∃ t : State, exec (.mul q) s = .next t ∧ s.ArithResult t q w.aD (a * b) ∧
       t.fl q flC = s.fl q flC ∧ t.fl q flV = s.fl q flV) ∧
     (s.canIssue q 0x19 = true → ∃ (t : State) (r : Word), exec (.mulhu q) s = .next t ∧ s.ArithResult t q w.aD r ∧
       r.toNat * 2 ^ 32 + (a * b).toNat = a.toNat * b.toNat ∧ t.fl q flC = s.fl q flC ∧ t.fl q flV = s.fl q flV) ∧
     (s.canIssue q 0x1E = true → ∃ (t : State) (r : Word), exec (.bfx q) s = .next t ∧ s.ArithResult t q w.aD r ∧
       (∀ k < 32, r.getLsbD k = (decide (k < n) && a.getLsbD (k + lo))) ∧ t.fl q flC = s.fl q flC ∧ t.fl q flV = s.fl q flV) ∧
     (s.canIssue q 0x1F = true → ∃ (t : State) (r : Word), exec (.bfi q) s = .next t ∧ s.ArithResult t q w.aD r ∧
       (∀ k < 32, r.getLsbD k = (if lo ≤ k ∧ k < lo + n then a.getLsbD (k - lo) else d.getLsbD k)) ∧
       t.fl q flC = s.fl q flC ∧ t.fl q flV = s.fl q flV) ∧
     (s.canIssue q 0x20 = true → ∃ t : State, exec (.movi q) s = .next t ∧ s.ArithResult t q w.aD (word w.aImm) ∧
       t.fl q flC = s.fl q flC ∧ t.fl q flV = s.fl q flV))
/-- The flow words (R392, R395, R409): NOP only flows; CALL pushes ADDR, and with eight addresses on the stack it is a fault;
RET with its condition true pops and goes there, with it false goes to NEXT, and on an empty stack is a fault; JIND with its
condition true goes to ALT, with it false to (g[A][14:0] + IMM[14:0]) mod 2^15; WAIT goes to ALT when its condition holds, to
NEXT when its count is up, and waits otherwise; SLEEP stops at the word; HALT leaves the sequencer Halted; TRAP raises
"sequencer trap". -/
def Obligations.FlowWords : Prop :=
  ∀ (s : State) (q : Nat), s.glb.dormant = false →
    (let w := s.mw q; let x := s.sq q; let cond := s.wordCond q w
     (s.canIssue q 0x01 = true → ∃ t : State, exec (.nop q) s = .next t ∧ s.ArithKeeps t q ∧ (t.sq q).flags = x.flags ∧
       ∀ r, t.gr q r = s.gr q r) ∧
     (s.canIssue q 0x02 = true → x.stack.length < 8 → ∃ t : State, exec (.call q) s = .next t ∧ s.WordKeeps t q ∧
       s.Flowed t q ∧ (t.sq q).stack = w.fAddr :: x.stack ∧ (t.sq q).flags = x.flags) ∧
     (s.canIssue q 0x02 = true → x.stack.length = 8 → exec (.call q) s = .next ((s.issue q).seqFault q 2)) ∧
     (s.canIssue q 0x03 = true → cond = true → ∀ (a : Nat) (r : List Nat), x.stack = a :: r → a < storeWords q →
       ∃ t : State, exec (.ret q) s = .next t ∧ s.WordKeeps t q ∧ (t.sq q).pc = a ∧ (t.sq q).stack = r) ∧
     (s.canIssue q 0x03 = true → cond = false →
       ∃ t : State, exec (.ret q) s = .next t ∧ s.WordKeeps t q ∧ (t.sq q).pc = w.nextA ∧ (t.sq q).stack = x.stack) ∧
     (s.canIssue q 0x03 = true → cond = true → x.stack = [] → exec (.ret q) s = .next ((s.issue q).seqFault q 2)) ∧
     (s.canIssue q 0x04 = true → cond = true →
       ∃ t : State, exec (.jind q) s = .next t ∧ s.WordKeeps t q ∧ (t.sq q).pc = w.altA) ∧
     (s.canIssue q 0x04 = true → cond = false → ((s.gr q w.fA).toNat + w.fImm) % 2 ^ 15 < storeWords q →
       ∃ t : State, exec (.jind q) s = .next t ∧ s.WordKeeps t q ∧ (t.sq q).pc = ((s.gr q w.fA).toNat + w.fImm) % 2 ^ 15) ∧
     (s.canIssue q 0x05 = true → cond = true →
       ∃ t : State, exec (.wait q) s = .next t ∧ s.WordKeeps t q ∧ (t.sq q).pc = w.altA ∧ (t.sq q).waited = 0) ∧
     (s.canIssue q 0x05 = true → cond = false → w.fImm ≠ 1 → x.waited = 0 →
       ∃ t : State, exec (.wait q) s = .next t ∧ t.seqState q = seqWaiting ∧ (t.sq q).pc = x.pc ∧ (t.sq q).waited = 1 ∧
         s.SameBytes t ∧ s.SameUnits t) ∧
     (s.waits q = true → cond = false → w.fImm ≠ 0 → w.fImm ≤ x.waited + 1 →
       ∃ t : State, exec (.wait q) s = .next t ∧ t.seqState q = seqRunning ∧ (t.sq q).pc = w.nextA ∧ (t.sq q).waited = 0 ∧
         s.SameBytes t ∧ s.SameUnits t) ∧
     (s.canIssue q 0x06 = true → ∃ t : State, exec (.sleep q) s = .next t ∧ t.seqState q = seqSleeping ∧
       t.sq q = x ∧ s.SameBytes t ∧ s.SameUnits t ∧ s.SameRegs t [Reg.SEQ_STAT.addr q 0, Reg.SEQ_CNT_WORDS.addr q 0]) ∧
     (s.canIssue q 0x07 = true → ∃ t : State, exec (.halt q) s = .next t ∧ t.seqState q = seqHalted ∧
       t.fld Reg.SEQ_CTRL_FORCE q = 0 ∧ t.sq q = x ∧ s.SameBytes t ∧ s.SameUnits t ∧
       s.SameRegs t [Reg.SEQ_STAT.addr q 0, Reg.SEQ_CNT_WORDS.addr q 0, Reg.SEQ_CTRL.addr q 0]) ∧
     (s.canIssue q 0x00 = true → exec (.trap q) s = .next ((s.issue q).seqFault q 0)))

/-- Events and handlers of a sequencer (R389, R403 to R406): a sleeping sequencer with an enabled pending source wakes, and with
GMASK set goes on at NEXT; a dispatch saves the address and FLAGS, clears the pending bit, and goes to the vector of the lowest
source, a fast one first; EVRET restores the address and FLAGS of the handler that runs, and with none is a fault; EVC_PEND_READ
clears the record of what hardware has set, and EVC_PEND_WRITE writes the value with every bit that hardware has set since. -/
def Obligations.EventWords : Prop :=
  (∀ (s : State) (q : Nat), s.glb.dormant = false → s.hasSeq q = true → s.seqState q = seqSleeping → s.pendEnabled q ≠ 0 →
    s.flag Reg.SEQ_EVC_CTRL_GMASK q = true →
    ∃ t : State, exec (.seqWake q) s = .next t ∧ t.seqState q = seqRunning ∧ (t.sq q).pc = (s.mw q).nextA ∧
      s.SameBytes t ∧ s.SameUnits t ∧ s.SameRegs t [Reg.SEQ_STAT.addr q 0]) ∧
  (∀ (s : State) (q i : Nat) (fast : Bool), s.glb.dormant = false → s.hasSeq q = true → s.seqState q = seqRunning →
    s.stalled q = false → s.dispatchOf q = some (i, fast) → s.fldJ Reg.SEQ_EVC_VEC_ADDR q i < storeWords q →
    ∃ t : State, exec (.eventDispatch q) s = .next t ∧ (t.sq q).pc = s.fldJ Reg.SEQ_EVC_VEC_ADDR q i ∧
      (t.rd Reg.SEQ_EVC_PEND q (i / 32)).getLsbD (i % 32) = false ∧
      (fast = true → t.inFast q = true ∧ (t.sq q).epcF = word (s.sq q).pc ∧ (t.sq q).eflF = (s.sq q).flags) ∧
      (fast = false → t.flag Reg.SEQ_STAT_IN_NORMAL q = true ∧ (t.sq q).epcN = word (s.sq q).pc ∧
        (t.sq q).eflN = (s.sq q).flags) ∧
      s.SameBytes t ∧ s.SameUnits t) ∧
  (∀ (s : State) (q : Nat), s.glb.dormant = false → s.canIssue q 0x08 = true → s.inFast q = true →
    (s.sq q).epcF.toNat % 2 ^ 15 < storeWords q →
    ∃ t : State, exec (.evret q) s = .next t ∧ t.inFast q = false ∧ (t.sq q).flags = (s.sq q).eflF ∧
      (t.sq q).pc = (s.sq q).epcF.toNat % 2 ^ 15 ∧ (t.sq q).g = (s.sq q).g ∧ (t.sq q).shadow = (s.sq q).shadow ∧
      s.SameBytes t ∧ s.SameUnits t) ∧
  (∀ (s : State) (q : Nat), s.glb.dormant = false → s.canIssue q 0x08 = true → s.inFast q = false →
    s.flag Reg.SEQ_STAT_IN_NORMAL q = true → (s.sq q).epcN.toNat % 2 ^ 15 < storeWords q →
    ∃ t : State, exec (.evret q) s = .next t ∧ t.flag Reg.SEQ_STAT_IN_NORMAL q = false ∧
      (t.sq q).flags = (s.sq q).eflN ∧ (t.sq q).pc = (s.sq q).epcN.toNat % 2 ^ 15 ∧ s.SameBytes t ∧ s.SameUnits t) ∧
  (∀ (s : State) (q : Nat), s.glb.dormant = false → s.canIssue q 0x08 = true → s.inFast q = false →
    s.flag Reg.SEQ_STAT_IN_NORMAL q = false → exec (.evret q) s = .next ((s.issue q).seqFault q 3)) ∧
  (∀ (s : State) (q half : Nat) (v : Word), s.glb.dormant = false → s.hasSeq q = true → half < 2 →
    ∃ t : State, exec (.evcPendWrite q half v) s = .next t ∧
      t.rd Reg.SEQ_EVC_PEND q half = v ||| (if half = 0 then (s.sq q).sinceLo else (s.sq q).sinceHi) ∧
      s.SameRegs t [Reg.SEQ_EVC_PEND.addr q half] ∧ s.SameBytes t ∧ s.SameUnits t ∧ t.seq = s.seq) ∧
  (∀ (s : State) (q half : Nat), s.glb.dormant = false → s.hasSeq q = true → half < 2 →
    ∃ t : State, exec (.evcPendRead q half) s = .next t ∧
      (if half = 0 then (t.sq q).sinceLo else (t.sq q).sinceHi) = 0 ∧
      (if half = 0 then (t.sq q).sinceHi = (s.sq q).sinceHi else (t.sq q).sinceLo = (s.sq q).sinceLo) ∧
      t.regs = s.regs ∧ s.SameBytes t ∧ s.SameUnits t)

/-- Special registers, records and timers (R390, R395, R400, R403, R408): MFS of CF gives g[A] the flags CF; MTS and MTSI of CF
write it; SIGNAL makes source 48 + IMM[3:0] of its target pending; SEND adds a record of kind 0xA to a queue with room; POP
takes the oldest record of a queue, or zeros with RF set; SEQUENCER_RECORD moves the oldest record on its way into its queue; the
first watchdog expiry makes source 0 pending and the second is a fault; a timer that reaches zero makes its source pending. -/
def Obligations.RecordAndTimerWords : Prop :=
  (∀ (s : State) (q : Nat), s.glb.dormant = false → s.canIssue q 0x09 = true → (s.mw q).fSr = 1 →
    ∃ t : State, exec (.mfs q) s = .next t ∧ s.WordKeeps t q ∧ s.Flowed t q ∧ t.gr q (s.mw q).fA = (s.sq q).cf ∧
      s.SameGrs t q (s.mw q).fA) ∧
  (∀ (s : State) (q : Nat), s.glb.dormant = false → s.canIssue q 0x0A = true → (s.mw q).fSr = 1 →
    ∃ t : State, exec (.mts q) s = .next t ∧ s.WordKeeps t q ∧ s.Flowed t q ∧ (t.sq q).cf = s.gr q (s.mw q).fA ∧
      ∀ r, t.gr q r = s.gr q r) ∧
  (∀ (s : State) (q : Nat), s.glb.dormant = false → s.canIssue q 0x0B = true → (s.mw q).fSr = 1 →
    ∃ t : State, exec (.mtsi q) s = .next t ∧ s.WordKeeps t q ∧ s.Flowed t q ∧ (t.sq q).cf = word (s.mw q).fImm ∧
      ∀ r, t.gr q r = s.gr q r) ∧
  (∀ (s : State) (q : Nat), s.glb.dormant = false → s.canIssue q 0x0C = true →
    s.hasSeq (bitsOf (s.mw q).fImm 13 8) = true →
    ∃ t : State, exec (.signal q) s = .next t ∧ t.fl q flRF = false ∧
      (t.rd Reg.SEQ_EVC_PEND (bitsOf (s.mw q).fImm 13 8) 1).getLsbD (16 + (s.mw q).fImm % 16) = true ∧
      s.SameBytes t ∧ s.SameUnits t) ∧
  (∀ (s : State) (q : Nat), s.glb.dormant = false → s.canIssue q 0x0C = true →
    s.hasSeq (bitsOf (s.mw q).fImm 13 8) = false →
    ∃ t : State, exec (.signal q) s = .next t ∧ t.fl q flRF = true ∧ s.SameBytes t ∧ s.SameUnits t) ∧
  (∀ (s : State) (q : Nat), s.glb.dormant = false → s.canIssue q 0x0D = true →
    (let k := bitsOf (s.mw q).fImm 13 8; let j := (s.mw q).fImm % 4
     s.hasSeq k = true → (s.seqQueue k j).length < 64 →
     ∃ (t : State) (r : List Word), exec (.send q) s = .next t ∧ t.fl q flRF = false ∧
       t.seqQueue k j = s.seqQueue k j ++ [r] ∧ r.length = 16 ∧ r.tail = (s.grs q (s.mw q).fA 16).tail ∧
       bitsOf (r.headD 0).toNat 31 28 = 0xA ∧ bitsOf (r.headD 0).toNat 27 22 = q % 64 ∧ s.SameBytes t ∧ s.SameUnits t)) ∧
  (∀ (s : State) (q : Nat) (r : List Word) (rs : List (List Word)), s.glb.dormant = false → s.canIssue q 0x2E = true →
    s.seqQueue q ((s.mw q).mOfs % 4) = r :: rs →
    ∃ t : State, exec (.pop q) s = .next t ∧ t.seqQueue q ((s.mw q).mOfs % 4) = rs ∧ t.fl q flRF = false ∧
      (∀ i < r.length, (s.mw q).mD + i < 64 → t.gr q ((s.mw q).mD + i) = r.getD i 0) ∧ s.SameBytes t ∧ s.SameUnits t) ∧
  (∀ (s : State) (q : Nat), s.glb.dormant = false → s.canIssue q 0x2E = true → s.seqQueue q ((s.mw q).mOfs % 4) = [] →
    ∃ t : State, exec (.pop q) s = .next t ∧ t.fl q flRF = true ∧
      (∀ i < 16, (s.mw q).mD + i < 64 → t.gr q ((s.mw q).mD + i) = 0) ∧ s.SameBytes t ∧ s.SameUnits t) ∧
  (∀ (s : State) (q k : Nat) (r : List Word) (rest : List (Nat × List Word)), s.glb.dormant = false →
    (s.sq q).inbound = (k, r) :: rest → (s.seqQueue q k).length < 64 →
    ∃ t : State, exec (.sequencerRecord q) s = .next t ∧ t.seqQueue q k = s.seqQueue q k ++ [r] ∧
      (t.sq q).inbound = rest ∧ t.regs = s.regs ∧ s.SameBytes t ∧ s.SameUnits t) ∧
  (∀ (s : State) (q : Nat), s.glb.dormant = false → s.seqActive q = true → s.rd Reg.SEQ_WDOG q 0 ≠ 0 →
    (s.sq q).wdogOnce = false →
    ∃ t : State, exec (.watchdogExpiry q) s = .next t ∧ (t.sq q).wdogOnce = true ∧
      (t.rd Reg.SEQ_EVC_PEND q 0).getLsbD 0 = true ∧ s.SameRegs t [Reg.SEQ_EVC_PEND.addr q 0] ∧ s.SameBytes t ∧
      s.SameUnits t) ∧
  (∀ (s : State) (q k : Nat), s.glb.dormant = false → s.hasSeq q = true → k < 2 →
    (mget (fun _ => (0 : Word)) (s.sq q).tmr k).toNat % 2 ^ 31 ≠ 0 →
    ∃ t : State, exec (.seqTimerExpiry q k) s = .next t ∧
      (mget (fun _ => (0 : Word)) (t.sq q).tmr k).toNat % 2 ^ 31 = 0 ∧
      (t.rd Reg.SEQ_EVC_PEND q 0).getLsbD (2 + k) = true ∧ s.SameRegs t [Reg.SEQ_EVC_PEND.addr q 0] ∧ s.SameBytes t ∧
      s.SameUnits t)
/-- The memory and register words (R327, R396, R397): an aligned LD becomes outstanding; the data of the oldest load reaches its
registers; an aligned ST to the Pantry writes its bytes and no other; one past the cache writes its bytes of buffer memory; a
misaligned access is an access error, with MERR set and ones in the destination of a load; RDR and WRR act on the BAR2 register
at g[A] + OFS when microcode reaches it, and are access errors when it does not; PIW writes PI of a channel that microcode owns,
and sets RF for one that it does not. -/
def Obligations.MemoryWords : Prop :=
  (∀ (s : State) (q : Nat), s.glb.dormant = false → s.canIssue q 0x28 = true →
    s.memAddr q (s.mw q) % sizeBytes (s.mw q).mSize = 0 →
    ∃ t : State, exec (.ld q) s = .next t ∧ s.WordKeeps t q ∧ s.Flowed t q ∧ (∀ r, t.gr q r = s.gr q r) ∧
      ∃ l : SeqLoad, (t.sq q).loads = (s.sq q).loads ++ [l] ∧ l.dst = (s.mw q).mD ∧
        4 * l.cnt = sizeBytes (s.mw q).mSize ∧ l.addr = s.memAddr q (s.mw q) ∧ l.fast = s.inFast q) ∧
  (∀ (s : State) (q : Nat), s.glb.dormant = false → s.canIssue q 0x28 = true →
    s.memAddr q (s.mw q) % sizeBytes (s.mw q).mSize ≠ 0 →
    ∃ t : State, exec (.ld q) s = .next t ∧ t.fl q flMERR = true ∧ (t.sq q).loads = (s.sq q).loads ∧
      (∀ i < sizeBytes (s.mw q).mSize / 4, (s.mw q).mD + i < 64 → t.gr q ((s.mw q).mD + i) = 0xFFFFFFFF) ∧
      (t.rd Reg.SEQ_EVC_PEND q 0).getLsbD 1 = true ∧ s.SameBytes t ∧ s.SameUnits t) ∧
  (∀ (s : State) (q : Nat) (l : SeqLoad) (rest : List SeqLoad), s.glb.dormant = false → s.clk.gateWait = none →
    (s.sq q).loads = l :: rest → l.pantry = true → l.fast = s.inFast q → l.addr + 4 * l.cnt ≤ s.pantrySize →
    ∃ t : State, exec (.loadDataArrival q) s = .next t ∧ (t.sq q).loads = rest ∧
      (∀ i < l.cnt, l.dst + i < 64 → t.gr q (l.dst + i) =
        word (leNat ((List.range 4).map fun k => mget (fun _ => (0 : Byte)) s.pantry (l.addr + 4 * i + k)))) ∧
      (∀ r, (r < l.dst ∨ l.dst + l.cnt ≤ r) → t.gr q r = s.gr q r) ∧ t.regs = s.regs ∧ s.SameBytes t ∧ s.SameUnits t) ∧
  (∀ (s : State) (q : Nat), s.glb.dormant = false → s.canIssue q 0x29 = true → (s.mw q).mSpace = 1 →
    (let a := s.memAddr q (s.mw q); let n := sizeBytes (s.mw q).mSize
     a % n = 0 → a + n ≤ s.pantrySize →
     ∃ t : State, exec (.st q) s = .next t ∧ s.Flowed t q ∧ s.SameUnits t ∧ t.mem = s.mem ∧ t.land = s.land ∧
       t.flash = s.flash ∧ s.SameRegs t [Reg.SEQ_STAT.addr q 0, Reg.SEQ_CNT_WORDS.addr q 0] ∧
       ∀ k, mget (fun _ => (0 : Byte)) t.pantry k =
         if a ≤ k ∧ k < a + n then (wordBytes (s.grs q (s.mw q).mD (n / 4))).getD (k - a) 0
         else mget (fun _ => (0 : Byte)) s.pantry k)) ∧
  (∀ (s : State) (q : Nat), s.glb.dormant = false → s.canIssue q 0x29 = true → (s.mw q).mSpace = 0 →
    (let a := s.memAddr q (s.mw q); let n := sizeBytes (s.mw q).mSize
     a % n = 0 → s.cached a = false → s.bufCanWrite a n = true →
     ∃ t : State, exec (.st q) s = .next t ∧ s.Flowed t q ∧ s.SameUnits t ∧ t.pantry = s.pantry ∧ t.land = s.land ∧
       t.flash = s.flash ∧ s.SameRegs t [Reg.SEQ_STAT.addr q 0, Reg.SEQ_CNT_WORDS.addr q 0] ∧
       t.mem = (s.putBytes a (wordBytes (s.grs q (s.mw q).mD (n / 4)))).mem ∧
       ∀ k, (∀ i < n, ∀ cl ∈ s.writable (a + i), k ≠ locKey cl.1 cl.2) →
         mget (fun _ => (0 : Byte)) t.mem k = mget (fun _ => (0 : Byte)) s.mem k)) ∧
  (∀ (s : State) (q : Nat), s.glb.dormant = false → s.canIssue q 0x2A = true →
    (let u := s.issue q; let a := u.regAddr q (s.mw q)
     (u.reaches (.seq q) a false = true →
       exec (.rdr q) s = .next ((((u.busRead a).1.setGr q (s.mw q).mD (u.busRead a).2)).flowOn q (s.mw q))) ∧
     (u.reaches (.seq q) a false = false → u.gatedAddr a = false →
       exec (.rdr q) s = .next ((u.accessError q (s.mw q).mD 1).flowOn q (s.mw q))))) ∧
  (∀ (s : State) (q : Nat), s.glb.dormant = false → s.canIssue q 0x2B = true →
    (let u := s.issue q; let a := u.regAddr q (s.mw q)
     (u.reaches (.seq q) a true = true →
       exec (.wrr q) s = .next ((u.busWrite (.seq q) a (u.gr q (s.mw q).mD)).flowOn q (s.mw q))) ∧
     (u.reaches (.seq q) a true = false → u.gatedAddr a = false →
       exec (.wrr q) s = .next ((u.accessError q 0 0).flowOn q (s.mw q))))) ∧
  (∀ (s : State) (q : Nat), s.glb.dormant = false → s.canIssue q 0x2D = true →
    (let u := s.issue q; let ch := (s.mw q).mOfs % 64
     (u.dmvOwner ch (.seq q) = true →
       exec (.piw q) s = .next (((u.dmvPi (.seq q) ch (u.gr q (s.mw q).mD)).setRF q false).flow q (s.mw q))) ∧
     (u.dmvOwner ch (.seq q) = false →
       exec (.piw q) s = .next ((u.setRF q true).flow q (s.mw q)))))

/-- Control of a sequencer by the host (R389, R403, R412, R414 to R416): RUN starts a Halted sequencer at ENTRY with its
registers zero and RELOAD clear, and does nothing in any other state; RELOAD makes source 12 pending and reads one; FORCE leaves
an active sequencer Halted; a write of SEQ_SOFT makes its soft sources pending, one of SEQ_MBOX stores the value and makes
source 14 pending. -/
def Obligations.SequencerControl : Prop :=
  (∀ (s : State) (q : Nat) (v : Word), s.glb.dormant = false → s.hasSeq q = true → Reg.SEQ_CTRL_RUN.get v = 1 →
    Reg.SEQ_CTRL_RELOAD.get v = 0 → Reg.SEQ_CTRL_FORCE.get v = 0 → s.seqState q = seqHalted → s.fenced (srcSEQ q) = false →
    ∃ t : State, exec (.seqRun q v) s = .next t ∧ t.seqState q = seqRunning ∧ (t.sq q).pc = (s.sq q).entry ∧
      (∀ r, t.gr q r = 0) ∧ (t.sq q).flags = 0 ∧ (t.sq q).stack = [] ∧ t.fld Reg.SEQ_CTRL_RELOAD q = 0 ∧
      (t.sq q).lparLo = s.rd Reg.SEQ_LPAR_LO q 0 ∧ (t.sq q).lparHi = s.rd Reg.SEQ_LPAR_HI q 0 ∧
      s.SameRegs t [Reg.SEQ_STAT.addr q 0, Reg.SEQ_CTRL.addr q 0] ∧ s.SameBytes t ∧ s.SameUnits t) ∧
  (∀ (s : State) (q : Nat) (v : Word), s.glb.dormant = false → s.hasSeq q = true → Reg.SEQ_CTRL_RUN.get v = 1 →
    Reg.SEQ_CTRL_RELOAD.get v = 0 → Reg.SEQ_CTRL_FORCE.get v = 0 → s.seqState q ≠ seqHalted →
    exec (.seqRun q v) s = .next s) ∧
  (∀ (s : State) (q : Nat) (v : Word), s.glb.dormant = false → s.hasSeq q = true → Reg.SEQ_CTRL_RUN.get v = 0 →
    Reg.SEQ_CTRL_RELOAD.get v = 1 → Reg.SEQ_CTRL_FORCE.get v = 0 →
    ∃ t : State, exec (.seqReload q v) s = .next t ∧ t.fld Reg.SEQ_CTRL_RELOAD q = 1 ∧
      (t.rd Reg.SEQ_EVC_PEND q 0).getLsbD 12 = true ∧ t.seqState q = s.seqState q ∧
      s.SameRegs t [Reg.SEQ_CTRL.addr q 0, Reg.SEQ_EVC_PEND.addr q 0] ∧ s.SameBytes t ∧ s.SameUnits t) ∧
  (∀ (s : State) (q : Nat) (v : Word), s.glb.dormant = false → s.hasSeq q = true → Reg.SEQ_CTRL_RUN.get v = 0 →
    Reg.SEQ_CTRL_RELOAD.get v = 0 → Reg.SEQ_CTRL_FORCE.get v = 1 → s.seqActive q = true →
    ∃ t : State, exec (.seqForce q v) s = .next t ∧ t.seqState q = seqHalted ∧ t.fld Reg.SEQ_CTRL_FORCE q = 0) ∧
  (∀ (s : State) (q : Nat) (v : Word), s.glb.dormant = false → s.hasSeq q = true →
    ∃ t : State, exec (.seqSoft q v) s = .next t ∧
      (∀ k < 16, (t.rd Reg.SEQ_EVC_PEND q 1).getLsbD (16 + k) =
        ((s.rd Reg.SEQ_EVC_PEND q 1).getLsbD (16 + k) || v.getLsbD k)) ∧
      s.SameRegs t [Reg.SEQ_EVC_PEND.addr q 1] ∧ s.SameBytes t ∧ s.SameUnits t) ∧
  (∀ (s : State) (q : Nat) (v : Word), s.glb.dormant = false → s.hasSeq q = true →
    ∃ t : State, exec (.seqMbox q v) s = .next t ∧ t.rd Reg.SEQ_MBOX q 0 = v ∧
      (t.rd Reg.SEQ_EVC_PEND q 0).getLsbD 14 = true ∧
      s.SameRegs t [Reg.SEQ_MBOX.addr q 0, Reg.SEQ_EVC_PEND.addr q 0] ∧ s.SameBytes t ∧ s.SameUnits t)

/-- The image loader (R410, R411, R416): a check reports the result of the image and changes no sequencer; a load that ends done
puts every word of the image into every target, which is then Halted; one that does not leaves every control store as it was. -/
def Obligations.ImageLoader : Prop :=
  ∀ (s : State) (v : Word), s.glb.dormant = false → Reg.LDR_CTRL_GO.get v = 1 →
    (let u := s.store Reg.LDR_CTRL 0 0 v
     let bs := u.imageAt (u.pair Reg.LDR_ADDR_LO Reg.LDR_ADDR_HI 0 0)
     let targets := (setBitsList (u.pair Reg.LDR_MASK_LO Reg.LDR_MASK_HI 0 0) 40).filter u.hasSeq
     let r := u.imageResult bs targets
     (Reg.LDR_CTRL_MODE.get v = 0 → u.flag Reg.LDR_CTRL_MODE 0 = false →
       ∃ t : State, exec (.imageCheck v) s = .next t ∧ t.fld Reg.LDR_CTRL_RESULT 0 = r.1 ∧ t.seq = s.seq ∧
         s.SameBytes t ∧ s.SameUnits t) ∧
     (Reg.LDR_CTRL_MODE.get v = 1 → u.flag Reg.LDR_CTRL_MODE 0 = true → r.1 = 1 →
       ∃ t : State, exec (.imageLoad v) s = .next t ∧ t.fld Reg.LDR_CTRL_RESULT 0 = 1 ∧
         (∀ q ∈ targets, t.seqState q = seqHalted ∧ (t.sq q).entry = imgNat bs 12 2 ∧
           ∀ i < imgWords bs, t.storeWord q i = imgWord bs i) ∧
         (∀ q, q ∉ targets → t.sq q = s.sq q) ∧ s.SameBytes t ∧ s.SameUnits t) ∧
     (Reg.LDR_CTRL_MODE.get v = 1 → u.flag Reg.LDR_CTRL_MODE 0 = true → r.1 ≠ 1 →
       ∃ t : State, exec (.imageLoad v) s = .next t ∧ t.fld Reg.LDR_CTRL_RESULT 0 = r.1 ∧
         (∀ q, (t.sq q).store = (s.sq q).store) ∧ s.SameBytes t ∧ s.SameUnits t))
/-- Peer frames received (R456 to R463, R467): a port that is enabled and locked comes up; a HELLO takes an entry that was DOWN
to SEEN and sets its window; a frame that does not open is discarded and counted; a duplicate is answered again, and a request
outside the window is discarded; a mirror write or a peer read that cannot be met is answered with its status; a query is
answered with what is held; a rebuild request is answered or runs; an answer ends its request, or its stage. -/
def Obligations.PeerFrames : Prop :=
  (∀ (s : State) (p : Nat), s.glb.dormant = false → p < s.nPeerPort →
    s.flag (if p = 0 then Reg.PFB_CFG_P0_EN else Reg.PFB_CFG_P1_EN) 0 = true → s.flag Reg.PFBP_PSTAT_UP p = false →
    bitOf (s.fld Reg.CLK_PLL_STAT_LOCKED 0) (3 + p) = true → ∃ t : State, exec (.peerPortUp p) s = .next t ∧
      t.fld Reg.PFBP_PSTAT_UP p = 1 ∧ t.fld Reg.PFBP_PSTAT_FEC p = 1 ∧ t.fld Reg.PFBP_PSTAT_PTP p = 4 ∧
      s.SameRegs t [Reg.PFBP_PSTAT.addr p 0] ∧ s.SameBytes t) ∧
  (∀ (s : State) (p : Nat), s.glb.dormant = false → p < s.nPeerPort →
    exec (.helloInterval p) s = .next ((s.peersOf p).foldl (fun u i =>
      let n := (u.pe i).quiet + 1
      let v := (u.setPe i { u.pe i with quiet := min 3 n }).peerOut p (u.helloFrame i)
      if v.peerState i = peerSeen ∧ 3 ≤ n then v.peerTo i peerDown else v) s)) ∧
  (∀ (s : State) (p : Nat) (f : PeerFrame), s.glb.dormant = false → s.peerPortOn p = true →
    f.etype = s.fld Reg.PFB_CFG_ETYPE 0 → hdrNat f 1 1 = 0x01 →
    (s.peerOfUnit (hdrNat f 4 2) = none → exec (.hello p f) s = .next ((s.bump Reg.PFBP_CNT_RX p 1).peerDrop p)) ∧
    (∀ i, s.peerOfUnit (hdrNat f 4 2) = some i → ∃ y : State,
      exec (.hello p f) s = .next (y.peerPump i ((s.pe i).held.length + 1)) ∧ (y.pe i).quiet = 0 ∧
        (y.pe i).rxWin = min 1024 (beNat ((f.payload.drop 22).take 2)) ∧
        (s.peerState i = peerDown → y.peerState i = peerSeen) ∧
        (s.peerState i ≠ peerDown → y.peerState i = s.peerState i))) ∧
  (∀ (s u : State) (p ty : Nat) (f : PeerFrame) (i : Instr), s.glb.dormant = false →
    (i, ty) ∈ [(Instr.mwrite p f, 0x10), (.mwack p f, 0x11), (.mwquery p f, 0x12), (.pread p f, 0x20), (.prdata p f, 0x21),
      (.rbreq p f, 0x30), (.rbend p f, 0x31)] → s.peerOpen p ty f = (u, none) → exec i s = .next u) ∧
  (∀ (s u v : State) (p ty i k : Nat) (t : List Byte) (f : PeerFrame) (c : Instr), s.glb.dormant = false →
    (c, ty) ∈ [(Instr.mwrite p f, 0x10), (.mwquery p f, 0x12), (.pread p f, 0x20), (.rbreq p f, 0x30)] →
    s.peerOpen p ty f = (u, some (i, t)) → u.peerFresh i (hdrNat f 8 4) = (v, k) →
    (k = 1 → exec c s = .next v) ∧ (2 ≤ k → exec c s = .next (v.peerDrop p))) ∧
  (∀ (s u v : State) (p i : Nat) (t : List Byte) (f : PeerFrame), s.glb.dormant = false →
    s.peerOpen p 0x10 f = (u, some (i, t)) → u.peerFresh i (hdrNat f 8 4) = (v, 0) →
    (let r := v.peerRefusal (beNat (t.take 1)) (beNat ((t.drop 2).take 8)) true
     r ≠ 0 → exec (.mwrite p f) s = .next (v.mwack i (hdrNat f 8 4) 2 r)) ∧
    (∀ y, v.mwriteNew i (hdrNat f 8 4) (hdrNat f 2 1) (hdrNat f 4 2) t = some y → exec (.mwrite p f) s = .next y) ∧
    (v.mwriteNew i (hdrNat f 8 4) (hdrNat f 2 1) (hdrNat f 4 2) t = none → exec (.mwrite p f) s = .next (u.peerDrop p))) ∧
  (∀ (s u v : State) (p i : Nat) (t : List Byte) (f : PeerFrame), s.glb.dormant = false →
    s.peerOpen p 0x20 f = (u, some (i, t)) → u.peerFresh i (hdrNat f 8 4) = (v, 0) →
    (let r := v.peerRefusal (beNat (t.take 1)) (beNat ((t.drop 1).take 8)) false
     r ≠ 0 → exec (.pread p f) s = .next (v.peerAnswer i 0x21 (hdrNat f 8 4) [BitVec.ofNat 8 r])) ∧
    (∀ y, v.preadNew i (hdrNat f 8 4) t = some y → exec (.pread p f) s = .next y) ∧
    (v.preadNew i (hdrNat f 8 4) t = none → exec (.pread p f) s = .next (u.peerDrop p))) ∧
  (∀ (s u v : State) (p i : Nat) (t : List Byte) (f : PeerFrame), s.glb.dormant = false →
    s.peerOpen p 0x12 f = (u, some (i, t)) → u.peerFresh i (hdrNat f 8 4) = (v, 0) →
    (let held := (v.pe i).seen.find? fun e => e.pseq == hdrNat f 12 4
     (∀ pl, held.bind PeerSeen.answer = some (0x11, pl) →
       exec (.mwquery p f) s = .next (v.peerAnswer i 0x11 (hdrNat f 8 4) pl)) ∧
     (held.bind PeerSeen.answer = none → exec (.mwquery p f) s = .next (v.mwack i (hdrNat f 8 4) 2 4)))) ∧
  (∀ (s u v : State) (p i : Nat) (t : List Byte) (f : PeerFrame), s.glb.dormant = false →
    s.peerOpen p 0x30 f = (u, some (i, t)) → u.peerFresh i (hdrNat f 8 4) = (v, 0) →
    (let q := hdrNat f 8 4; let nsid := beNat (t.take 1)
     let j : RbJob := { pseq := q, nsid := nsid, lba := beNat ((t.drop 1).take 8), left := beNat ((t.drop 9).take 4) }
     let w := v.setPe i { v.pe i with rebuild := (v.pe i).rebuild ++ [j] }
     (w.serving = false → exec (.rbreq p f) s = .next (w.rebuildEnd i q 1)) ∧
     (w.serving = true → (w.nsd nsid).valid = false → exec (.rbreq p f) s = .next (w.rebuildEnd i q 2)) ∧
     (w.serving = true → (w.nsd nsid).valid = true → exec (.rbreq p f) s = .next (w.rebuildNext i q)))) ∧
  (∀ (s u : State) (p i : Nat) (t : List Byte) (f : PeerFrame), s.glb.dormant = false →
    s.peerOpen p 0x31 f = (u, some (i, t)) →
    ((u.pe i).reqs.any (fun r => r.pseq == hdrNat f 12 4 && r.type == 0x30) = true →
      exec (.rbend p f) s = .next (u.peerDoneReq i (hdrNat f 12 4))) ∧
    ((u.pe i).reqs.any (fun r => r.pseq == hdrNat f 12 4 && r.type == 0x30) = false → exec (.rbend p f) s = .next u)) ∧
  (∀ (s u : State) (p i : Nat) (t : List Byte) (f : PeerFrame) (r : PeerReq), s.glb.dormant = false →
    s.peerOpen p 0x11 f = (u, some (i, t)) → (u.pe i).mwriteOf (hdrNat f 12 4) = some r → r.pseq = hdrNat f 12 4 →
    (beNat (t.take 1) = 1 → beNat ((t.drop 1).take 1) = 0 → exec (.mwack p f) s = .next (u.mwStage1 i r)) ∧
    (beNat (t.take 1) = 2 → exec (.mwack p f) s = .next (u.mwStage2 i r (beNat ((t.drop 1).take 1))))) ∧
  (∀ (s u : State) (p i : Nat) (t : List Byte) (f : PeerFrame) (r : PeerReq) (x : Sector), s.glb.dormant = false →
    s.peerOpen p 0x21 f = (u, some (i, t)) →
    (u.pe i).reqs.find? (fun r => r.pseq == hdrNat f 12 4 && r.type == 0x20) = some r →
    (let v := u.peerDoneReq i r.pseq; let status := beNat (t.take 1)
     v.sector r.tag = some x → x.remote = true → x.op ≠ 1 → x.dropped = false →
     (∀ w, status = 0 → v.bufWrite (v.slotAddr x.cls x.slot) ((t.drop 16).take 4096) = (w, true) →
       exec (.prdata p f) s = .next (w.readServed x)) ∧
     (status = 4 → exec (.prdata p f) s = .next (v.unrecovered x)) ∧
     (status ≠ 0 → status ≠ 4 → x.given = false → exec (.prdata p f) s = .next (v.moveCopy x))))

/-- Peers (R459, R460, R464 to R466): a request that is not answered goes out again, and after the eighth time the peer is
lost; a mirror write between its stages is asked after; a peer unheard in three intervals is lost; JOIN waits for the boundary;
LEAVE of an ACTIVE entry waits for its requests, and its end takes the entry DOWN. -/
def Obligations.PeerEntries : Prop :=
  (∀ (s : State) (i q : Nat) (r : PeerReq), s.glb.dormant = false → i < 64 → s.peerLive i = true →
    (s.pe i).reqs.find? (fun r => r.pseq == q && !r.stage1) = some r →
    (8 ≤ r.sends → exec (.peerRetransmitTimeout i q) s = .next (s.raise (srcPFB (s.fld Reg.PEER_CTL_PORT i)) 1 i false)) ∧
    (r.sends < 8 → exec (.peerRetransmitTimeout i q) s = .next ((s.setPe i { s.pe i with
      reqs := (s.pe i).reqs.map fun k => if k.pseq = q then { k with sends := k.sends + 1 } else k }).peerSeal i r.type r.flags
        r.pseq r.ref r.payload))) ∧
  (∀ (s : State) (i q : Nat) (r : PeerReq), s.glb.dormant = false → i < 64 → s.peerState i = peerActive →
    (s.pe i).reqs.find? (fun r => r.pseq == q && r.type == 0x10 && r.stage1) = some r →
    (((s.pe i).reqs ++ (s.pe i).held).any (fun r => r.type == 0x12 && r.ref == q) = false →
      exec (.durabilityTimeout i q) s = .next (s.peerRequest i 0x12 0 q r.tag [])) ∧
    (((s.pe i).reqs ++ (s.pe i).held).any (fun r => r.type == 0x12 && r.ref == q) = true →
      exec (.durabilityTimeout i q) s = .next s)) ∧
  (∀ (s : State) (i : Nat), s.glb.dormant = false → i < 64 → s.peerLive i = true →
    (3 ≤ (s.pe i).quiet → exec (.peerLost i) s = .next (s.raise (srcPFB (s.fld Reg.PEER_CTL_PORT i)) 1 i false)) ∧
    ((s.pe i).quiet < 3 → exec (.peerLost i) s = .next s)) ∧
  (∀ (s : State) (i : Nat) (v : Word), s.glb.dormant = false → i < 64 → Reg.PEER_CTL_JOIN.get v = 1 →
    Reg.PEER_CTL_LEAVE.get v = 0 → ∃ t : State, exec (.peerJoin i v) s = .next t ∧ (t.pe i).joining = true ∧
      t.fld Reg.PEER_CTL_JOIN i = 1 ∧ t.fld Reg.PEER_CTL_RESULT i = 0 ∧ s.SameRegs t [Reg.PEER_CTL.addr i 0] ∧
      s.SameBytes t) ∧
  (∀ (s : State) (i : Nat) (v : Word), s.glb.dormant = false → i < 64 → Reg.PEER_CTL_LEAVE.get v = 1 →
    Reg.PEER_CTL_JOIN.get v = 0 → (s.store Reg.PEER_CTL i 0 v).peerState i = peerActive →
    (let u := ((((s.store Reg.PEER_CTL i 0 v).setFld Reg.PEER_CTL_LEAVE i 1).setFld Reg.PEER_CTL_RESULT i 0).peerTo i
       peerLeaving)
     ((u.pe i).reqs = [] → (u.pe i).held = [] → exec (.peerLeave i v) s = .next (u.leaveDone i)) ∧
     (((u.pe i).reqs ≠ [] ∨ (u.pe i).held ≠ []) → exec (.peerLeave i v) s = .next u ∧ u.peerState i = peerLeaving))) ∧
  (∀ (s : State) (i : Nat), s.glb.dormant = false → i < 64 → s.peerState i = peerLeaving →
    exec (.leaveEnd i) s = .next (s.leaveDone i))

/-- The boundary clock and the time-base servo (R468 to R471, R475): an Announce is heard and the master elected; the slave port
takes a Sync's arrival, and its Follow_Up gives the offset, to which the clock steps or the servo turns; a master port answers
a delay request, and the answer to ours sets the delay; eight intervals without a Sync make the time base INVALID; a master
port sends Sync, Follow_Up and Announce. -/
def Obligations.TimeBase : Prop :=
  (∀ (s : State) (p : Nat) (m : PtpMsg), s.ptpOn p m 0xB = true →
    exec (.ptpAnnounce p m) s = .next ((s.setPtp p { s.ptp p with heard := some m.gm }).elect)) ∧
  (∀ (s : State) (p : Nat) (m : PtpMsg), s.ptpOn p m 0 = true → s.isSlave p = true → ∃ t : State,
    exec (.ptpSync p m) s = .next t ∧ (t.ptp p).seqId = m.seqId ∧ (t.ptp p).t2 = some m.taken ∧
      (t.ptp p).delay = (s.ptp p).delay ∧ t.regs = s.regs ∧ s.SameBytes t) ∧
  (∀ (s : State) (p : Nat) (m : PtpMsg) (t2 : Int), s.ptpOn p m 8 = true → s.isSlave p = true → m.seqId = (s.ptp p).seqId →
    (s.ptp p).t2 = some t2 →
    (let o := t2 - m.stamp - (s.ptp p).delay
     ∃ y : State, (y.ptp p).t1 = some m.stamp ∧ y.rd Reg.TB_OFS 0 0 = word (unsigned 32 o) ∧
       s.SameRegs y [Reg.TB_OFS.addr 0 0] ∧ s.SameBytes y ∧ ∃ r : PtpMsg, r.type = 1 ∧ r.seqId = m.seqId ∧
       (((s.fld Reg.TB_STAT_STATE 0 = tbFree ∨ s.flag Reg.TB_SERVO_STEP_ANY 0 = true) ∧
           s.fld Reg.TB_SERVO_STEP_TH 0 < o.natAbs →
         exec (.ptpFollowUp p m) s = .next (((y.tbJudge o).timeStep (-o)).ptpSend p r)) ∧
        (o.natAbs ≤ s.fld Reg.TB_SERVO_STEP_TH 0 →
         exec (.ptpFollowUp p m) s = .next (((y.tbJudge o).servoAct o).ptpSend p r))))) ∧
  (∀ (s : State) (p : Nat) (m : PtpMsg), s.ptpOn p m 1 = true → s.fld Reg.PFBP_PSTAT_PTP p = 6 → ∃ r : PtpMsg,
    exec (.ptpDelayReq p m) s = .next (s.ptpSend p r) ∧ r.type = 9 ∧ r.seqId = m.seqId ∧ r.stamp = m.taken) ∧
  (∀ (s : State) (p : Nat) (m : PtpMsg) (t1 t2 t3 : Int), s.ptpOn p m 9 = true → s.isSlave p = true →
    m.seqId = (s.ptp p).seqId → (s.ptp p).t1 = some t1 → (s.ptp p).t2 = some t2 → (s.ptp p).t3 = some t3 → ∃ t : State,
    exec (.ptpDelayResp p m) s = .next t ∧
      (t.ptp p).delay = qz 62 ((((t2 - t1) + (m.stamp - t3) : Int) : Rat) / 2) ∧ (t.ptp p).t3 = none ∧ t.regs = s.regs ∧
      s.SameBytes t) ∧
  (∀ (s : State) (p : Nat), s.glb.dormant = false → s.isSlave p = true →
    (s.pfb.wasValid = true → exec (.syncTimeout p) s =
      .next ({ s with pfb := { s.pfb with okRun := 0 } }.tbState tbInvalid)) ∧
    (s.pfb.wasValid = false → exec (.syncTimeout p) s = .next s)) ∧
  (∀ (s : State) (p : Nat), s.glb.dormant = false → s.peerPortOn p = true → s.fld Reg.PFBP_PSTAT_PTP p ≠ 9 →
    s.fld Reg.PFBP_PSTAT_PTP p ≠ 7 → ∃ (t : State) (a b c : PtpMsg), exec (.syncInterval p) s = .next t ∧
      t.pfb.ptpOut = (p, a) :: (p, b) :: (p, c) :: s.pfb.ptpOut ∧ a.type = 0xB ∧ b.type = 8 ∧ c.type = 0 ∧
      a.seqId = ((s.ptp p).seqId + 1) % 65536 ∧ b.seqId = a.seqId ∧ c.seqId = a.seqId ∧
      (s.fld Reg.TB_STAT_SLAVE 0 = 0 → a.gm = s.ownSet) ∧ t.regs = s.regs ∧ s.SameBytes t)

/-- The service chain (R431, R450 to R455, R473, R533): a frame whose CRC fails is counted and not acted on; an enumeration
gives the unit its address and passes the next one on; a frame addressed to the unit is answered exactly once: with its status
and serial number, with the words read, with the count of words written, or, for a reset, before the reset runs; an access that
the boundary forbids is refused whole; the pass-through trips once and is tried again. -/
def Obligations.ServiceChain : Prop :=
  (∀ (s : State) (f : ChainFrame) (ty : Nat) (i : Instr), (i, ty) ∈ [(Instr.chainStatus f, 2), (.chainRead f, 3),
      (.chainWrite f, 4), (.chainReset f, 5)] → f.type = ty →
    (f.crcOk = false → exec i s = .next ((s.chainOut f).bump Reg.PRC_CNT_CRC 0 1)) ∧
    (f.crcOk = true → bitOf f.flags 6 = true → exec i s = .next (s.chainOut f)) ∧
    (f.crcOk = true → bitOf f.flags 6 = false → bitOf f.flags 7 = false → s.chainMine f = false →
      exec i s = .next (s.chainOut f))) ∧
  (∀ (s : State) (f : ChainFrame) (seg pos o : Byte), f.type = 1 → f.payload = [seg, pos, o] →
    (f.crcOk = false → exec (.chainEnum f) s = .next ((s.chainOut f).bump Reg.PRC_CNT_CRC 0 1)) ∧
    (f.crcOk = true → o.toNat.testBit 0 = true → ∃ t : State, exec (.chainEnum f) s = .next t ∧
      t.fld Reg.PRC_STAT_ADDR_VALID 0 = 0 ∧ t.chain.out = f :: s.chain.out ∧ s.SameRegs t [Reg.PRC_STAT.addr 0 0] ∧
      s.SameBytes t) ∧
    (f.crcOk = true → o.toNat.testBit 0 = false → ∃ t : State, exec (.chainEnum f) s = .next t ∧
      t.fld Reg.PRC_STAT_ADDR_VALID 0 = 1 ∧ t.fld Reg.PRC_STAT_ADDR 0 = seg.toNat * 256 + pos.toNat ∧
      t.chain.out = { f with payload := [seg, pos + 1, if pos = 255 then o ||| 1 else o] } :: s.chain.out ∧
      s.SameRegs t [Reg.PRC_STAT.addr 0 0] ∧ s.SameBytes t)) ∧
  (∀ (s : State) (f : ChainFrame), f.crcOk = true → s.chainMine f = true → bitOf f.flags 6 = false →
    (let u := (s.chainOut f).bump Reg.PRC_CNT_RX 0 1
     (f.type = 2 → ∃ t : State, exec (.chainStatus f) s = .next t ∧
       t.chain.out = { dst := f.src, src := s.unitAddr, type := 2, flags := 0x40, tag := f.tag,
                       payload := [0] ++ beBytes 4 (s.rd Reg.PRC_STAT 0 0).toNat ++ (s.fus.serial ++ List.replicate 20 0).take 20,
                       crcOk := true } :: f :: s.chain.out ∧ s.SameRegs t [Reg.PRC_CNT_RX.addr 0 0] ∧ s.SameBytes t) ∧
     (f.type = 3 → chainSpan f false = none → exec (.chainRead f) s = .next (u.chainAnswer f [5])) ∧
     (∀ a n, f.type = 3 → chainSpan f false = some (a, n) → u.chainCheck a n false ≠ 0 → exec (.chainRead f) s =
       .next ((u.bump Reg.PRC_CNT_REF 0 1).chainAnswer f [BitVec.ofNat 8 (u.chainCheck a n false)])) ∧
     (∀ a, f.type = 3 → chainSpan f false = some (a, 1) → u.chainCheck a 1 false = 0 → exec (.chainRead f) s =
       .next ((u.busRead a).1.chainAnswer f ([0] ++ beBytes 4 (u.busRead a).2.toNat))) ∧
     (∀ a n, f.type = 4 → chainSpan f true = some (a, n) → u.chainCheck a n true ≠ 0 → exec (.chainWrite f) s =
       .next ((u.bump Reg.PRC_CNT_REF 0 1).chainAnswer f ([BitVec.ofNat 8 (u.chainCheck a n true)] ++ [0]))) ∧
     (∀ a n, f.type = 4 → chainSpan f true = some (a, n) → u.chainCheck a n true = 0 → exec (.chainWrite f) s =
       .next (((List.range n).foldl (fun x k => x.busWrite .chain (a + 4 * k)
         (word (beNat ((f.payload.drop (5 + 4 * k)).take 4)))) u).chainAnswer f ([0] ++ [BitVec.ofNat 8 n]))) ∧
     (f.type = 5 → f.payload ≠ [0xC1, 0xEA] → exec (.chainReset f) s = .next (u.chainAnswer f [5])) ∧
     (f.type = 5 → f.payload = [0xC1, 0xEA] → s.glb.dormant = true → exec (.chainReset f) s = .next (u.chainAnswer f [1])) ∧
     (f.type = 5 → f.payload = [0xC1, 0xEA] → s.glb.dormant = false →
       exec (.chainReset f) s = .next ((u.chainAnswer f [0]).resetAsk 2)))) ∧
  (∀ (s : State), (s.chain.tripped = true → exec .chainTrip s = .next s) ∧
    (s.chain.tripped = false → ∃ t : State, exec .chainTrip s = .next t ∧ t.chain.tripped = true ∧
      t.rd Reg.PRC_CNT_TRIP 0 0 = word ((s.rd Reg.PRC_CNT_TRIP 0 0).toNat + 1) ∧
      s.SameRegs t [Reg.PRC_CNT_TRIP.addr 0 0] ∧ s.SameBytes t) ∧
    exec .tripRetry s = .next { s with chain := { s.chain with tripped := false } })


/-- Every command answers a next state in every state: none faults and none is refused. A command of an instance or unit that
is not there, or whose event is not enabled, leaves the state (log entry 40, the model's choice). -/
def Obligations.EveryCommandAnswers : Prop := ∀ (c : Instr) (s : State), ∃ t : State, exec c s = .next t

/-- A device without main rails rests (R33, R528): a command of a unit that the main rails feed has no effect on it, so with
only such commands waiting every step takes one off the queue and changes nothing else, and the device keeps resting; and the
loss of the main rails with no fuse burning begins such a rest. -/
def Obligations.DormantDeviceRests : Prop :=
  (∀ (s : State) (c : Instr), s.glb.dormant = true → c.onMainRails = true → exec c s = .next s) ∧
  (∀ s t : State, s.restsDormant = true → step s = .next t →
    t.restsDormant = true ∧ t = { s with pending := s.pending.tail }) ∧
  (∀ (s : State) (rest : List Instr), s.glb.dormant = false → s.fus.burn = none → s.pending = .mainRailFail :: rest →
    rest.all Instr.onMainRails = true → ∃ t : State, step s = .next t ∧ t.restsDormant = true)

/-- Reads and writes of the register space of an instance that the variant does not implement (R3), by any agent that reaches
it, past every gate of the bus: the read answers zero, and the write changes nothing, so it raises no fault. -/
def Obligations.AbsentInstances : Prop :=
  ∀ (s : State) (ag : Agent) (addr : Nat), s.wipeShut addr = false →
    s.clk.gateWait = none → s.clk.held = [] → s.gatedAddr addr = false →
    (((∃ (d : RegDef) (i j : Nat), regAt s.jd16 addr = some (d, i, j, false)) ∧ ¬ (0x00040000 ≤ addr ∧ addr < 0x00080000) ∧
        ¬ (0x01000000 ≤ addr ∧ addr < 0x01800000)) ∨
      (0x01000000 ≤ addr ∧ addr < 0x01800000 ∧ s.hasSeq (storeOf addr) = false)) →
    (s.reaches ag addr false = true → exec (.lowerHalfRead ag addr) s = .next { s with answer := 0 } ∧
      ∀ n, exec (.readToClear ag addr n) s = .next { s with answer := 0 }) ∧
    (s.reaches ag addr true = true → ∀ v, exec (.registerWrite ag addr v) s = .next s)

/-- A transmitted frame reads back (R37, R38): on 8 or 7 lanes, the blocks that a frame carries are those that its receiver
finds, for every sequence number and every block. The bit order of its CRC is the model's (log entry 62). -/
def Obligations.FrameRoundTrip : Prop :=
  ∀ (lanes : List Nat) (seq : Nat) (blocks : List (List Byte)), (lanes.length = 8 ∨ lanes.length = 7) →
    blocks.length = frameBlocks lanes.length → (∀ b ∈ blocks, b.length = 64) →
    frameParse { lanes := (frameLanes lanes seq blocks).map fun x => { lane := x.1, ok := true, corr := 0, syms := x.2 } } =
      some blocks

/-- The encoder answers a codeword (R106 to R108): of any 33,024 information bits it makes 37,120 bits that begin with them
and satisfy every one of the 4,096 checks. -/
def Obligations.EncodedWordIsACodeword : Prop :=
  ∀ info : List Nat, info.length = 33024 → (∀ b ∈ info, b < 2) →
    (ldpcEncode info).length = 37120 ∧ (ldpcEncode info).take 33024 = info ∧ (∀ b ∈ ldpcEncode info, b < 2) ∧
    ∀ i < 16, ∀ r < 256, checkOdd (ldpcEncode info) i r = false

/-- The scrambler (R110): each bit of the sequence is the exclusive or of the bits 28 and 31 before it, the bits before the
first are the seed's, the seed is the LBA's two halves under exclusive or, or 0x7FFFFFFF for zero, and each bit of a built
sector is the codeword's under exclusive or with the sequence. -/
def Obligations.ScramblerSequence : Prop :=
  ∀ lba : Nat, lba < 2 ^ 64 →
    (let x := (lba % 2 ^ 31).xor (lba / 2 ^ 31 % 2 ^ 31)
     let seed := if x = 0 then 0x7FFFFFFF else x
     let u (n k : Nat) : Bool := if k ≤ n then (scramble lba).getD (n - k) 0 == 1 else seed.testBit (k - n - 1)
     (∀ n < 37120, (scramble lba).getD n 0 < 2 ∧ u n 0 = (u n 28 != u n 31)) ∧
     ∀ (cipher : List Byte) (t : TagF), cipher.length = 4096 → t.lba = lba →
       ∀ n < 37120, (buildSector cipher t).getD n 0 =
         ((ldpcEncode (bitsMsb (cipher ++ t.bytes ++ beBytes 8 (crc64 (cipher ++ t.bytes))))).getD n 0 +
           (scramble lba).getD n 0) % 2)

/-- The layout of a soft slot (R116): value 4g + i is bits 6i + 5 to 6i of the little-endian 24-bit word at bytes 3g to
3g + 2, so the 37,120 values fill bytes 0 to 27,839; and a written value reads back, every other value of every slot
unchanged. -/
def Obligations.SoftSlotLayout : Prop :=
  (∀ (s : State) (slot g i : Nat), i < 4 → 4 * g + i < 37120 →
    s.softVal slot (4 * g + i) = signed 6 (bitsOf ((s.landByte (softKey slot (3 * g))).toNat +
      2 ^ 8 * (s.landByte (softKey slot (3 * g + 1))).toNat + 2 ^ 16 * (s.landByte (softKey slot (3 * g + 2))).toNat)
      (6 * i + 5) (6 * i)) ∧ 3 * g + 2 < 27840) ∧
  (∀ (s : State) (slot n : Nat) (x : Int), slot < s.nSoft → n < 37120 → -32 ≤ x → x ≤ 31 →
    (s.setSoftVal slot n x).softVal slot n = x ∧
    (∀ slot' m, m < 37120 → (slot', m) ≠ (slot, n) → (s.setSoftVal slot n x).softVal slot' m = s.softVal slot' m) ∧
    (∀ k, k < softKey slot 0 ∨ softKey slot 27840 ≤ k → (s.setSoftVal slot n x).landByte k = s.landByte k))

/-- The geometry of the context cache (R290): address bits [9:6] select the bank, [18:10] the set and [39:19] are the tag;
they name exactly the 64-byte line of the address; consecutive lines lie in consecutive banks; and the lines of 16 banks, 16
ways and 512 sets are distinct and hold 8 MiB. -/
def Obligations.CacheGeometry : Prop :=
  (∀ a < 2 ^ 40, lineBank a = bitsOf a 9 6 ∧ lineSet a = bitsOf a 18 10 ∧ lineTag a = bitsOf a 39 19 ∧
    lineAddr (lineBank a) (lineSet a) (lineTag a) = a / 64 * 64 ∧ lineBank (a + 64) = (lineBank a + 1) % 16) ∧
  (∀ a b : Nat, lineBank a = lineBank b → lineSet a = lineSet b → lineTag a = lineTag b → a / 64 = b / 64) ∧
  (∀ k, k < 8 * 2 ^ 20 / 64 ↔ ∃ b w e : Nat, b < 16 ∧ w < 16 ∧ e < 512 ∧ k = lineKey b w e) ∧
  (∀ b w e b' w' e' : Nat, b < 16 → w < 16 → e < 512 → b' < 16 → w' < 16 → e' < 512 → lineKey b w e = lineKey b' w' e' →
    b = b' ∧ w = w' ∧ e = e')
end

