-- ==== Sys2Proof/Laws/Basic.lean ====
section
/-!
SUPPORT. The laws of the sparse maps: a read after a write, a write beside a read, and the canonical form.
-/

namespace Sys2Proof.Machine

theorem mget_append_of_lt {α : Type} (d : Nat → α) (l m : List (Nat × α)) (k : Nat)
    (h : ∀ e ∈ l, e.1 ≠ k) : mget d (l ++ m) k = mget d m k := by
  induction l with
  | nil => rfl
  | cons e l ih =>
    obtain ⟨j, v⟩ := e
    have hj : j ≠ k := h (j, v) (by simp)
    simp [mget, hj]
    exact ih fun e he => h e (by simp [he])

/-- Entries that do not name a key do not matter to it. -/
theorem mget_of_not_mem {α : Type} (d : Nat → α) (l : List (Nat × α)) (k : Nat)
    (h : ∀ e ∈ l, e.1 ≠ k) : mget d l k = d k := by
  have := mget_append_of_lt d l [] k h
  simpa [mget] using this

/-- A read after a write to the same key gives the value written. -/
@[simp] theorem mget_mset_same {α : Type} [DecidableEq α] (d : Nat → α) (m : List (Nat × α)) (k : Nat) (v : α) :
    mget d (mset d m k v) k = v := by
  unfold mset
  rw [List.append_assoc, mget_append_of_lt]
  · split
    · rename_i h
      rw [List.nil_append, mget_of_not_mem]
      · exact h.symm
      · intro e he; simp at he; omega
    · simp [mget]
  · intro e he; simp at he; omega

/-- Entries dropped by a filter that keeps a key do not matter to it. -/
theorem mget_filter {α : Type} (d : Nat → α) (m : List (Nat × α)) (k : Nat) (p : Nat → Bool) (h : p k = true) :
    mget d (m.filter fun e => p e.1) k = mget d m k := by
  induction m with
  | nil => rfl
  | cons e m ih =>
    obtain ⟨j, v⟩ := e
    by_cases hj : j = k
    · subst hj; simp [h, mget]
    · by_cases hp : p j = true <;> simp [hp, mget, hj, ih]

/-- Entries appended that do not name a key do not matter to it. -/
theorem mget_append_left {α : Type} (d : Nat → α) (l r : List (Nat × α)) (k : Nat)
    (h : ∀ e ∈ r, e.1 ≠ k) : mget d (l ++ r) k = mget d l k := by
  induction l with
  | nil => simpa [mget] using mget_of_not_mem d r k h
  | cons e l ih =>
    obtain ⟨j, v⟩ := e
    simp [mget, ih]

/-- A write leaves every other key alone. -/
theorem mget_mset_ne {α : Type} [DecidableEq α] (d : Nat → α) (m : List (Nat × α)) (k j : Nat) (v : α) (h : j ≠ k) :
    mget d (mset d m k v) j = mget d m j := by
  unfold mset
  rcases Nat.lt_or_gt_of_ne h with hlt | hgt
  · rw [List.append_assoc, mget_append_left]
    · exact mget_filter d m j (fun x => decide (x < k)) (by simpa using hlt)
    · intro e he
      simp only [List.mem_append, List.mem_filter, decide_eq_true_eq] at he
      rcases he with he | he
      · split at he <;> simp at he
        subst he; simp; omega
      · omega
  · rw [mget_append_of_lt]
    · exact mget_filter d m j (fun x => decide (k < x)) (by simpa using hgt)
    · intro e he
      simp only [List.mem_append, List.mem_filter, decide_eq_true_eq] at he
      rcases he with he | he
      · omega
      · split at he <;> simp at he
        subst he; simp; omega

/-- What a map reads after a write. -/
theorem mget_mset {α : Type} [DecidableEq α] (d : Nat → α) (m : List (Nat × α)) (k j : Nat) (v : α) :
    mget d (mset d m k v) j = if j = k then v else mget d m j := by
  split
  · subst_vars; exact mget_mset_same d m _ v
  · rename_i h; exact mget_mset_ne d m k j v h

/-- The canonical form as a property of entries: keys rise strictly, and no entry equals what it would read unlisted. -/
theorem mcanon_iff {α : Type} [DecidableEq α] (d : Nat → α) (m : List (Nat × α)) :
    mcanon d m = true ↔ (m.Pairwise fun a b => a.1 < b.1) ∧ ∀ e ∈ m, e.2 ≠ d e.1 := by
  induction m with
  | nil => simp [mcanon]
  | cons e m ih =>
    obtain ⟨k, v⟩ := e
    cases m with
    | nil => simp [mcanon]
    | cons e' m =>
      obtain ⟨k', v'⟩ := e'
      simp only [mcanon, Bool.and_eq_true, decide_eq_true_eq, ih]
      constructor
      · rintro ⟨⟨hv, hk⟩, hp, ha⟩
        refine ⟨List.pairwise_cons.2 ⟨?_, hp⟩, ?_⟩
        · intro e he
          rcases List.mem_cons.1 he with rfl | he
          · exact hk
          · exact Nat.lt_trans hk ((List.pairwise_cons.1 hp).1 e he)
        · intro e he
          rcases List.mem_cons.1 he with rfl | he
          · exact hv
          · exact ha e he
      · rintro ⟨hp, ha⟩
        have hp' := List.pairwise_cons.1 hp
        exact ⟨⟨ha (k, v) (by simp), hp'.1 (k', v') (by simp)⟩, hp'.2, fun e he => ha e (by simp [he])⟩

/-- A write keeps the canonical form. -/
theorem mcanon_mset {α : Type} [DecidableEq α] (d : Nat → α) (m : List (Nat × α)) (k : Nat) (v : α)
    (h : mcanon d m = true) : mcanon d (mset d m k v) = true := by
  rw [mcanon_iff] at h ⊢
  obtain ⟨hp, ha⟩ := h
  unfold mset
  constructor
  · rw [List.pairwise_append, List.pairwise_append]
    refine ⟨⟨hp.filter _, ?_, ?_⟩, hp.filter _, ?_⟩
    · split <;> simp
    · intro a hA b hB
      split at hB <;> simp at hB
      simp only [List.mem_filter, decide_eq_true_eq] at hA; subst hB; exact hA.2
    · intro a hA b hB
      simp only [List.mem_append, List.mem_filter, decide_eq_true_eq] at hA hB
      rcases hA with hA | hA
      · omega
      · split at hA <;> simp at hA
        subst hA; exact hB.2
  · intro e he
    simp only [List.mem_append, List.mem_filter] at he
    rcases he with (he | he) | he
    · exact ha e he.1
    · split at he <;> simp at he
      subst he; assumption
    · exact ha e he.1

end Sys2Proof.Machine
end

