-- ==== Sys2Proof/Laws/State.lean ====
section
/-!
SUPPORT. The laws of the state's named updates: what each leaves alone, and what a read gives after a write of a register
or of a field of one.
-/

namespace Sys2Proof.Machine

/-! ## What an update leaves alone -/

@[simp] theorem State.wrA_jd16 (s : State) (a : Nat) (w : Word) : (s.wrA a w).jd16 = s.jd16 := rfl
@[simp] theorem State.wrA_latch (s : State) (a : Nat) (w : Word) : (s.wrA a w).latch = s.latch := rfl
@[simp] theorem State.wrA_answer (s : State) (a : Nat) (w : Word) : (s.wrA a w).answer = s.answer := rfl
@[simp] theorem State.wrA_freeCtr (s : State) (a : Nat) (w : Word) : (s.wrA a w).freeCtr = s.freeCtr := rfl
@[simp] theorem State.wrA_glb (s : State) (a : Nat) (w : Word) : (s.wrA a w).glb = s.glb := rfl
@[simp] theorem State.wrA_clk (s : State) (a : Nat) (w : Word) : (s.wrA a w).clk = s.clk := rfl
@[simp] theorem State.wrA_atc (s : State) (a : Nat) (w : Word) : (s.wrA a w).atc = s.atc := rfl
@[simp] theorem State.wrA_fus (s : State) (a : Nat) (w : Word) : (s.wrA a w).fus = s.fus := rfl
@[simp] theorem State.wrA_seq (s : State) (a : Nat) (w : Word) : (s.wrA a w).seq = s.seq := rfl
@[simp] theorem State.wrA_hlk (s : State) (a : Nat) (w : Word) : (s.wrA a w).hlk = s.hlk := rfl
@[simp] theorem State.wrA_mem (s : State) (a : Nat) (w : Word) : (s.wrA a w).mem = s.mem := rfl
@[simp] theorem State.wrA_poison (s : State) (a : Nat) (w : Word) : (s.wrA a w).poison = s.poison := rfl
@[simp] theorem State.wrA_pantry (s : State) (a : Nat) (w : Word) : (s.wrA a w).pantry = s.pantry := rfl
@[simp] theorem State.wrA_cch (s : State) (a : Nat) (w : Word) : (s.wrA a w).cch = s.cch := rfl
@[simp] theorem State.wrA_bufc (s : State) (a : Nat) (w : Word) : (s.wrA a w).bufc = s.bufc := rfl
@[simp] theorem State.wrA_cph (s : State) (a : Nat) (w : Word) : (s.wrA a w).cph = s.cph := rfl
@[simp] theorem State.wrA_hif (s : State) (a : Nat) (w : Word) : (s.wrA a w).hif = s.hif := rfl
@[simp] theorem State.wrA_flash (s : State) (a : Nat) (w : Word) : (s.wrA a w).flash = s.flash := rfl
@[simp] theorem State.wrA_stm (s : State) (a : Nat) (w : Word) : (s.wrA a w).stm = s.stm := rfl
@[simp] theorem State.wrA_dmv (s : State) (a : Nat) (w : Word) : (s.wrA a w).dmv = s.dmv := rfl
@[simp] theorem State.wrA_pfb (s : State) (a : Nat) (w : Word) : (s.wrA a w).pfb = s.pfb := rfl
@[simp] theorem State.wrA_chain (s : State) (a : Nat) (w : Word) : (s.wrA a w).chain = s.chain := rfl
@[simp] theorem State.wrA_rch (s : State) (a : Nat) (w : Word) : (s.wrA a w).rch = s.rch := rfl
@[simp] theorem State.wrA_land (s : State) (a : Nat) (w : Word) : (s.wrA a w).land = s.land := rfl
@[simp] theorem State.wrA_dec (s : State) (a : Nat) (w : Word) : (s.wrA a w).dec = s.dec := rfl
@[simp] theorem State.wrA_srv (s : State) (a : Nat) (w : Word) : (s.wrA a w).srv = s.srv := rfl
@[simp] theorem State.wrA_spn (s : State) (a : Nat) (w : Word) : (s.wrA a w).spn = s.spn := rfl
@[simp] theorem State.wrA_pins (s : State) (a : Nat) (w : Word) : (s.wrA a w).pins = s.pins := rfl
@[simp] theorem State.wrA_pending (s : State) (a : Nat) (w : Word) : (s.wrA a w).pending = s.pending := rfl

@[simp] theorem State.wr_jd16 (s : State) (r : Reg) (i j : Nat) (w : Word) : (s.wr r i j w).jd16 = s.jd16 := rfl
@[simp] theorem State.wr_latch (s : State) (r : Reg) (i j : Nat) (w : Word) : (s.wr r i j w).latch = s.latch := rfl
@[simp] theorem State.wr_answer (s : State) (r : Reg) (i j : Nat) (w : Word) : (s.wr r i j w).answer = s.answer := rfl
@[simp] theorem State.wr_freeCtr (s : State) (r : Reg) (i j : Nat) (w : Word) : (s.wr r i j w).freeCtr = s.freeCtr := rfl
@[simp] theorem State.wr_glb (s : State) (r : Reg) (i j : Nat) (w : Word) : (s.wr r i j w).glb = s.glb := rfl
@[simp] theorem State.wr_clk (s : State) (r : Reg) (i j : Nat) (w : Word) : (s.wr r i j w).clk = s.clk := rfl
@[simp] theorem State.wr_atc (s : State) (r : Reg) (i j : Nat) (w : Word) : (s.wr r i j w).atc = s.atc := rfl
@[simp] theorem State.wr_fus (s : State) (r : Reg) (i j : Nat) (w : Word) : (s.wr r i j w).fus = s.fus := rfl
@[simp] theorem State.wr_seq (s : State) (r : Reg) (i j : Nat) (w : Word) : (s.wr r i j w).seq = s.seq := rfl
@[simp] theorem State.wr_hlk (s : State) (r : Reg) (i j : Nat) (w : Word) : (s.wr r i j w).hlk = s.hlk := rfl
@[simp] theorem State.wr_mem (s : State) (r : Reg) (i j : Nat) (w : Word) : (s.wr r i j w).mem = s.mem := rfl
@[simp] theorem State.wr_poison (s : State) (r : Reg) (i j : Nat) (w : Word) : (s.wr r i j w).poison = s.poison := rfl
@[simp] theorem State.wr_pantry (s : State) (r : Reg) (i j : Nat) (w : Word) : (s.wr r i j w).pantry = s.pantry := rfl
@[simp] theorem State.wr_cch (s : State) (r : Reg) (i j : Nat) (w : Word) : (s.wr r i j w).cch = s.cch := rfl
@[simp] theorem State.wr_bufc (s : State) (r : Reg) (i j : Nat) (w : Word) : (s.wr r i j w).bufc = s.bufc := rfl
@[simp] theorem State.wr_cph (s : State) (r : Reg) (i j : Nat) (w : Word) : (s.wr r i j w).cph = s.cph := rfl
@[simp] theorem State.wr_hif (s : State) (r : Reg) (i j : Nat) (w : Word) : (s.wr r i j w).hif = s.hif := rfl
@[simp] theorem State.wr_flash (s : State) (r : Reg) (i j : Nat) (w : Word) : (s.wr r i j w).flash = s.flash := rfl
@[simp] theorem State.wr_stm (s : State) (r : Reg) (i j : Nat) (w : Word) : (s.wr r i j w).stm = s.stm := rfl
@[simp] theorem State.wr_dmv (s : State) (r : Reg) (i j : Nat) (w : Word) : (s.wr r i j w).dmv = s.dmv := rfl
@[simp] theorem State.wr_pfb (s : State) (r : Reg) (i j : Nat) (w : Word) : (s.wr r i j w).pfb = s.pfb := rfl
@[simp] theorem State.wr_chain (s : State) (r : Reg) (i j : Nat) (w : Word) : (s.wr r i j w).chain = s.chain := rfl
@[simp] theorem State.wr_rch (s : State) (r : Reg) (i j : Nat) (w : Word) : (s.wr r i j w).rch = s.rch := rfl
@[simp] theorem State.wr_land (s : State) (r : Reg) (i j : Nat) (w : Word) : (s.wr r i j w).land = s.land := rfl
@[simp] theorem State.wr_dec (s : State) (r : Reg) (i j : Nat) (w : Word) : (s.wr r i j w).dec = s.dec := rfl
@[simp] theorem State.wr_srv (s : State) (r : Reg) (i j : Nat) (w : Word) : (s.wr r i j w).srv = s.srv := rfl
@[simp] theorem State.wr_spn (s : State) (r : Reg) (i j : Nat) (w : Word) : (s.wr r i j w).spn = s.spn := rfl
@[simp] theorem State.wr_pins (s : State) (r : Reg) (i j : Nat) (w : Word) : (s.wr r i j w).pins = s.pins := rfl
@[simp] theorem State.wr_pending (s : State) (r : Reg) (i j : Nat) (w : Word) : (s.wr r i j w).pending = s.pending := rfl

@[simp] theorem State.setFldJ_jd16 (s : State) (f : Fld) (i j v : Nat) : (s.setFldJ f i j v).jd16 = s.jd16 := rfl
@[simp] theorem State.setFldJ_latch (s : State) (f : Fld) (i j v : Nat) : (s.setFldJ f i j v).latch = s.latch := rfl
@[simp] theorem State.setFldJ_answer (s : State) (f : Fld) (i j v : Nat) : (s.setFldJ f i j v).answer = s.answer := rfl
@[simp] theorem State.setFldJ_freeCtr (s : State) (f : Fld) (i j v : Nat) : (s.setFldJ f i j v).freeCtr = s.freeCtr := rfl
@[simp] theorem State.setFldJ_glb (s : State) (f : Fld) (i j v : Nat) : (s.setFldJ f i j v).glb = s.glb := rfl
@[simp] theorem State.setFldJ_clk (s : State) (f : Fld) (i j v : Nat) : (s.setFldJ f i j v).clk = s.clk := rfl
@[simp] theorem State.setFldJ_atc (s : State) (f : Fld) (i j v : Nat) : (s.setFldJ f i j v).atc = s.atc := rfl
@[simp] theorem State.setFldJ_fus (s : State) (f : Fld) (i j v : Nat) : (s.setFldJ f i j v).fus = s.fus := rfl
@[simp] theorem State.setFldJ_seq (s : State) (f : Fld) (i j v : Nat) : (s.setFldJ f i j v).seq = s.seq := rfl
@[simp] theorem State.setFldJ_hlk (s : State) (f : Fld) (i j v : Nat) : (s.setFldJ f i j v).hlk = s.hlk := rfl
@[simp] theorem State.setFldJ_mem (s : State) (f : Fld) (i j v : Nat) : (s.setFldJ f i j v).mem = s.mem := rfl
@[simp] theorem State.setFldJ_poison (s : State) (f : Fld) (i j v : Nat) : (s.setFldJ f i j v).poison = s.poison := rfl
@[simp] theorem State.setFldJ_pantry (s : State) (f : Fld) (i j v : Nat) : (s.setFldJ f i j v).pantry = s.pantry := rfl
@[simp] theorem State.setFldJ_cch (s : State) (f : Fld) (i j v : Nat) : (s.setFldJ f i j v).cch = s.cch := rfl
@[simp] theorem State.setFldJ_bufc (s : State) (f : Fld) (i j v : Nat) : (s.setFldJ f i j v).bufc = s.bufc := rfl
@[simp] theorem State.setFldJ_cph (s : State) (f : Fld) (i j v : Nat) : (s.setFldJ f i j v).cph = s.cph := rfl
@[simp] theorem State.setFldJ_hif (s : State) (f : Fld) (i j v : Nat) : (s.setFldJ f i j v).hif = s.hif := rfl
@[simp] theorem State.setFldJ_flash (s : State) (f : Fld) (i j v : Nat) : (s.setFldJ f i j v).flash = s.flash := rfl
@[simp] theorem State.setFldJ_stm (s : State) (f : Fld) (i j v : Nat) : (s.setFldJ f i j v).stm = s.stm := rfl
@[simp] theorem State.setFldJ_dmv (s : State) (f : Fld) (i j v : Nat) : (s.setFldJ f i j v).dmv = s.dmv := rfl
@[simp] theorem State.setFldJ_pfb (s : State) (f : Fld) (i j v : Nat) : (s.setFldJ f i j v).pfb = s.pfb := rfl
@[simp] theorem State.setFldJ_chain (s : State) (f : Fld) (i j v : Nat) : (s.setFldJ f i j v).chain = s.chain := rfl
@[simp] theorem State.setFldJ_rch (s : State) (f : Fld) (i j v : Nat) : (s.setFldJ f i j v).rch = s.rch := rfl
@[simp] theorem State.setFldJ_land (s : State) (f : Fld) (i j v : Nat) : (s.setFldJ f i j v).land = s.land := rfl
@[simp] theorem State.setFldJ_dec (s : State) (f : Fld) (i j v : Nat) : (s.setFldJ f i j v).dec = s.dec := rfl
@[simp] theorem State.setFldJ_srv (s : State) (f : Fld) (i j v : Nat) : (s.setFldJ f i j v).srv = s.srv := rfl
@[simp] theorem State.setFldJ_spn (s : State) (f : Fld) (i j v : Nat) : (s.setFldJ f i j v).spn = s.spn := rfl
@[simp] theorem State.setFldJ_pins (s : State) (f : Fld) (i j v : Nat) : (s.setFldJ f i j v).pins = s.pins := rfl
@[simp] theorem State.setFldJ_pending (s : State) (f : Fld) (i j v : Nat) : (s.setFldJ f i j v).pending = s.pending := rfl

@[simp] theorem State.setFld_jd16 (s : State) (f : Fld) (i v : Nat) : (s.setFld f i v).jd16 = s.jd16 := rfl
@[simp] theorem State.setFld_latch (s : State) (f : Fld) (i v : Nat) : (s.setFld f i v).latch = s.latch := rfl
@[simp] theorem State.setFld_answer (s : State) (f : Fld) (i v : Nat) : (s.setFld f i v).answer = s.answer := rfl
@[simp] theorem State.setFld_freeCtr (s : State) (f : Fld) (i v : Nat) : (s.setFld f i v).freeCtr = s.freeCtr := rfl
@[simp] theorem State.setFld_glb (s : State) (f : Fld) (i v : Nat) : (s.setFld f i v).glb = s.glb := rfl
@[simp] theorem State.setFld_clk (s : State) (f : Fld) (i v : Nat) : (s.setFld f i v).clk = s.clk := rfl
@[simp] theorem State.setFld_atc (s : State) (f : Fld) (i v : Nat) : (s.setFld f i v).atc = s.atc := rfl
@[simp] theorem State.setFld_fus (s : State) (f : Fld) (i v : Nat) : (s.setFld f i v).fus = s.fus := rfl
@[simp] theorem State.setFld_seq (s : State) (f : Fld) (i v : Nat) : (s.setFld f i v).seq = s.seq := rfl
@[simp] theorem State.setFld_hlk (s : State) (f : Fld) (i v : Nat) : (s.setFld f i v).hlk = s.hlk := rfl
@[simp] theorem State.setFld_mem (s : State) (f : Fld) (i v : Nat) : (s.setFld f i v).mem = s.mem := rfl
@[simp] theorem State.setFld_poison (s : State) (f : Fld) (i v : Nat) : (s.setFld f i v).poison = s.poison := rfl
@[simp] theorem State.setFld_pantry (s : State) (f : Fld) (i v : Nat) : (s.setFld f i v).pantry = s.pantry := rfl
@[simp] theorem State.setFld_cch (s : State) (f : Fld) (i v : Nat) : (s.setFld f i v).cch = s.cch := rfl
@[simp] theorem State.setFld_bufc (s : State) (f : Fld) (i v : Nat) : (s.setFld f i v).bufc = s.bufc := rfl
@[simp] theorem State.setFld_cph (s : State) (f : Fld) (i v : Nat) : (s.setFld f i v).cph = s.cph := rfl
@[simp] theorem State.setFld_hif (s : State) (f : Fld) (i v : Nat) : (s.setFld f i v).hif = s.hif := rfl
@[simp] theorem State.setFld_flash (s : State) (f : Fld) (i v : Nat) : (s.setFld f i v).flash = s.flash := rfl
@[simp] theorem State.setFld_stm (s : State) (f : Fld) (i v : Nat) : (s.setFld f i v).stm = s.stm := rfl
@[simp] theorem State.setFld_dmv (s : State) (f : Fld) (i v : Nat) : (s.setFld f i v).dmv = s.dmv := rfl
@[simp] theorem State.setFld_pfb (s : State) (f : Fld) (i v : Nat) : (s.setFld f i v).pfb = s.pfb := rfl
@[simp] theorem State.setFld_chain (s : State) (f : Fld) (i v : Nat) : (s.setFld f i v).chain = s.chain := rfl
@[simp] theorem State.setFld_rch (s : State) (f : Fld) (i v : Nat) : (s.setFld f i v).rch = s.rch := rfl
@[simp] theorem State.setFld_land (s : State) (f : Fld) (i v : Nat) : (s.setFld f i v).land = s.land := rfl
@[simp] theorem State.setFld_dec (s : State) (f : Fld) (i v : Nat) : (s.setFld f i v).dec = s.dec := rfl
@[simp] theorem State.setFld_srv (s : State) (f : Fld) (i v : Nat) : (s.setFld f i v).srv = s.srv := rfl
@[simp] theorem State.setFld_spn (s : State) (f : Fld) (i v : Nat) : (s.setFld f i v).spn = s.spn := rfl
@[simp] theorem State.setFld_pins (s : State) (f : Fld) (i v : Nat) : (s.setFld f i v).pins = s.pins := rfl
@[simp] theorem State.setFld_pending (s : State) (f : Fld) (i v : Nat) : (s.setFld f i v).pending = s.pending := rfl

@[simp] theorem State.bump_jd16 (s : State) (r : Reg) (i n : Nat) : (s.bump r i n).jd16 = s.jd16 := rfl
@[simp] theorem State.bump_latch (s : State) (r : Reg) (i n : Nat) : (s.bump r i n).latch = s.latch := rfl
@[simp] theorem State.bump_answer (s : State) (r : Reg) (i n : Nat) : (s.bump r i n).answer = s.answer := rfl
@[simp] theorem State.bump_freeCtr (s : State) (r : Reg) (i n : Nat) : (s.bump r i n).freeCtr = s.freeCtr := rfl
@[simp] theorem State.bump_glb (s : State) (r : Reg) (i n : Nat) : (s.bump r i n).glb = s.glb := rfl
@[simp] theorem State.bump_clk (s : State) (r : Reg) (i n : Nat) : (s.bump r i n).clk = s.clk := rfl
@[simp] theorem State.bump_atc (s : State) (r : Reg) (i n : Nat) : (s.bump r i n).atc = s.atc := rfl
@[simp] theorem State.bump_fus (s : State) (r : Reg) (i n : Nat) : (s.bump r i n).fus = s.fus := rfl
@[simp] theorem State.bump_seq (s : State) (r : Reg) (i n : Nat) : (s.bump r i n).seq = s.seq := rfl
@[simp] theorem State.bump_hlk (s : State) (r : Reg) (i n : Nat) : (s.bump r i n).hlk = s.hlk := rfl
@[simp] theorem State.bump_mem (s : State) (r : Reg) (i n : Nat) : (s.bump r i n).mem = s.mem := rfl
@[simp] theorem State.bump_poison (s : State) (r : Reg) (i n : Nat) : (s.bump r i n).poison = s.poison := rfl
@[simp] theorem State.bump_pantry (s : State) (r : Reg) (i n : Nat) : (s.bump r i n).pantry = s.pantry := rfl
@[simp] theorem State.bump_cch (s : State) (r : Reg) (i n : Nat) : (s.bump r i n).cch = s.cch := rfl
@[simp] theorem State.bump_bufc (s : State) (r : Reg) (i n : Nat) : (s.bump r i n).bufc = s.bufc := rfl
@[simp] theorem State.bump_cph (s : State) (r : Reg) (i n : Nat) : (s.bump r i n).cph = s.cph := rfl
@[simp] theorem State.bump_hif (s : State) (r : Reg) (i n : Nat) : (s.bump r i n).hif = s.hif := rfl
@[simp] theorem State.bump_flash (s : State) (r : Reg) (i n : Nat) : (s.bump r i n).flash = s.flash := rfl
@[simp] theorem State.bump_stm (s : State) (r : Reg) (i n : Nat) : (s.bump r i n).stm = s.stm := rfl
@[simp] theorem State.bump_dmv (s : State) (r : Reg) (i n : Nat) : (s.bump r i n).dmv = s.dmv := rfl
@[simp] theorem State.bump_pfb (s : State) (r : Reg) (i n : Nat) : (s.bump r i n).pfb = s.pfb := rfl
@[simp] theorem State.bump_chain (s : State) (r : Reg) (i n : Nat) : (s.bump r i n).chain = s.chain := rfl
@[simp] theorem State.bump_rch (s : State) (r : Reg) (i n : Nat) : (s.bump r i n).rch = s.rch := rfl
@[simp] theorem State.bump_land (s : State) (r : Reg) (i n : Nat) : (s.bump r i n).land = s.land := rfl
@[simp] theorem State.bump_dec (s : State) (r : Reg) (i n : Nat) : (s.bump r i n).dec = s.dec := rfl
@[simp] theorem State.bump_srv (s : State) (r : Reg) (i n : Nat) : (s.bump r i n).srv = s.srv := rfl
@[simp] theorem State.bump_spn (s : State) (r : Reg) (i n : Nat) : (s.bump r i n).spn = s.spn := rfl
@[simp] theorem State.bump_pins (s : State) (r : Reg) (i n : Nat) : (s.bump r i n).pins = s.pins := rfl
@[simp] theorem State.bump_pending (s : State) (r : Reg) (i n : Nat) : (s.bump r i n).pending = s.pending := rfl

@[simp] theorem State.setPair_jd16 (s : State) (lo hi : Reg) (i j v : Nat) : (s.setPair lo hi i j v).jd16 = s.jd16 := rfl
@[simp] theorem State.setPair_latch (s : State) (lo hi : Reg) (i j v : Nat) : (s.setPair lo hi i j v).latch = s.latch := rfl
@[simp] theorem State.setPair_answer (s : State) (lo hi : Reg) (i j v : Nat) : (s.setPair lo hi i j v).answer = s.answer := rfl
@[simp] theorem State.setPair_freeCtr (s : State) (lo hi : Reg) (i j v : Nat) : (s.setPair lo hi i j v).freeCtr = s.freeCtr := rfl
@[simp] theorem State.setPair_glb (s : State) (lo hi : Reg) (i j v : Nat) : (s.setPair lo hi i j v).glb = s.glb := rfl
@[simp] theorem State.setPair_clk (s : State) (lo hi : Reg) (i j v : Nat) : (s.setPair lo hi i j v).clk = s.clk := rfl
@[simp] theorem State.setPair_atc (s : State) (lo hi : Reg) (i j v : Nat) : (s.setPair lo hi i j v).atc = s.atc := rfl
@[simp] theorem State.setPair_fus (s : State) (lo hi : Reg) (i j v : Nat) : (s.setPair lo hi i j v).fus = s.fus := rfl
@[simp] theorem State.setPair_seq (s : State) (lo hi : Reg) (i j v : Nat) : (s.setPair lo hi i j v).seq = s.seq := rfl
@[simp] theorem State.setPair_hlk (s : State) (lo hi : Reg) (i j v : Nat) : (s.setPair lo hi i j v).hlk = s.hlk := rfl
@[simp] theorem State.setPair_mem (s : State) (lo hi : Reg) (i j v : Nat) : (s.setPair lo hi i j v).mem = s.mem := rfl
@[simp] theorem State.setPair_poison (s : State) (lo hi : Reg) (i j v : Nat) : (s.setPair lo hi i j v).poison = s.poison := rfl
@[simp] theorem State.setPair_pantry (s : State) (lo hi : Reg) (i j v : Nat) : (s.setPair lo hi i j v).pantry = s.pantry := rfl
@[simp] theorem State.setPair_cch (s : State) (lo hi : Reg) (i j v : Nat) : (s.setPair lo hi i j v).cch = s.cch := rfl
@[simp] theorem State.setPair_bufc (s : State) (lo hi : Reg) (i j v : Nat) : (s.setPair lo hi i j v).bufc = s.bufc := rfl
@[simp] theorem State.setPair_cph (s : State) (lo hi : Reg) (i j v : Nat) : (s.setPair lo hi i j v).cph = s.cph := rfl
@[simp] theorem State.setPair_hif (s : State) (lo hi : Reg) (i j v : Nat) : (s.setPair lo hi i j v).hif = s.hif := rfl
@[simp] theorem State.setPair_flash (s : State) (lo hi : Reg) (i j v : Nat) : (s.setPair lo hi i j v).flash = s.flash := rfl
@[simp] theorem State.setPair_stm (s : State) (lo hi : Reg) (i j v : Nat) : (s.setPair lo hi i j v).stm = s.stm := rfl
@[simp] theorem State.setPair_dmv (s : State) (lo hi : Reg) (i j v : Nat) : (s.setPair lo hi i j v).dmv = s.dmv := rfl
@[simp] theorem State.setPair_pfb (s : State) (lo hi : Reg) (i j v : Nat) : (s.setPair lo hi i j v).pfb = s.pfb := rfl
@[simp] theorem State.setPair_chain (s : State) (lo hi : Reg) (i j v : Nat) : (s.setPair lo hi i j v).chain = s.chain := rfl
@[simp] theorem State.setPair_rch (s : State) (lo hi : Reg) (i j v : Nat) : (s.setPair lo hi i j v).rch = s.rch := rfl
@[simp] theorem State.setPair_land (s : State) (lo hi : Reg) (i j v : Nat) : (s.setPair lo hi i j v).land = s.land := rfl
@[simp] theorem State.setPair_dec (s : State) (lo hi : Reg) (i j v : Nat) : (s.setPair lo hi i j v).dec = s.dec := rfl
@[simp] theorem State.setPair_srv (s : State) (lo hi : Reg) (i j v : Nat) : (s.setPair lo hi i j v).srv = s.srv := rfl
@[simp] theorem State.setPair_spn (s : State) (lo hi : Reg) (i j v : Nat) : (s.setPair lo hi i j v).spn = s.spn := rfl
@[simp] theorem State.setPair_pins (s : State) (lo hi : Reg) (i j v : Nat) : (s.setPair lo hi i j v).pins = s.pins := rfl
@[simp] theorem State.setPair_pending (s : State) (lo hi : Reg) (i j v : Nat) : (s.setPair lo hi i j v).pending = s.pending := rfl

@[simp] theorem State.setSq_jd16 (s : State) (q : Nat) (x : SeqS) : (s.setSq q x).jd16 = s.jd16 := rfl
@[simp] theorem State.setSq_regs (s : State) (q : Nat) (x : SeqS) : (s.setSq q x).regs = s.regs := rfl
@[simp] theorem State.setSq_latch (s : State) (q : Nat) (x : SeqS) : (s.setSq q x).latch = s.latch := rfl
@[simp] theorem State.setSq_answer (s : State) (q : Nat) (x : SeqS) : (s.setSq q x).answer = s.answer := rfl
@[simp] theorem State.setSq_freeCtr (s : State) (q : Nat) (x : SeqS) : (s.setSq q x).freeCtr = s.freeCtr := rfl
@[simp] theorem State.setSq_glb (s : State) (q : Nat) (x : SeqS) : (s.setSq q x).glb = s.glb := rfl
@[simp] theorem State.setSq_clk (s : State) (q : Nat) (x : SeqS) : (s.setSq q x).clk = s.clk := rfl
@[simp] theorem State.setSq_atc (s : State) (q : Nat) (x : SeqS) : (s.setSq q x).atc = s.atc := rfl
@[simp] theorem State.setSq_fus (s : State) (q : Nat) (x : SeqS) : (s.setSq q x).fus = s.fus := rfl
@[simp] theorem State.setSq_hlk (s : State) (q : Nat) (x : SeqS) : (s.setSq q x).hlk = s.hlk := rfl
@[simp] theorem State.setSq_mem (s : State) (q : Nat) (x : SeqS) : (s.setSq q x).mem = s.mem := rfl
@[simp] theorem State.setSq_poison (s : State) (q : Nat) (x : SeqS) : (s.setSq q x).poison = s.poison := rfl
@[simp] theorem State.setSq_pantry (s : State) (q : Nat) (x : SeqS) : (s.setSq q x).pantry = s.pantry := rfl
@[simp] theorem State.setSq_cch (s : State) (q : Nat) (x : SeqS) : (s.setSq q x).cch = s.cch := rfl
@[simp] theorem State.setSq_bufc (s : State) (q : Nat) (x : SeqS) : (s.setSq q x).bufc = s.bufc := rfl
@[simp] theorem State.setSq_cph (s : State) (q : Nat) (x : SeqS) : (s.setSq q x).cph = s.cph := rfl
@[simp] theorem State.setSq_hif (s : State) (q : Nat) (x : SeqS) : (s.setSq q x).hif = s.hif := rfl
@[simp] theorem State.setSq_flash (s : State) (q : Nat) (x : SeqS) : (s.setSq q x).flash = s.flash := rfl
@[simp] theorem State.setSq_stm (s : State) (q : Nat) (x : SeqS) : (s.setSq q x).stm = s.stm := rfl
@[simp] theorem State.setSq_dmv (s : State) (q : Nat) (x : SeqS) : (s.setSq q x).dmv = s.dmv := rfl
@[simp] theorem State.setSq_pfb (s : State) (q : Nat) (x : SeqS) : (s.setSq q x).pfb = s.pfb := rfl
@[simp] theorem State.setSq_chain (s : State) (q : Nat) (x : SeqS) : (s.setSq q x).chain = s.chain := rfl
@[simp] theorem State.setSq_rch (s : State) (q : Nat) (x : SeqS) : (s.setSq q x).rch = s.rch := rfl
@[simp] theorem State.setSq_land (s : State) (q : Nat) (x : SeqS) : (s.setSq q x).land = s.land := rfl
@[simp] theorem State.setSq_dec (s : State) (q : Nat) (x : SeqS) : (s.setSq q x).dec = s.dec := rfl
@[simp] theorem State.setSq_srv (s : State) (q : Nat) (x : SeqS) : (s.setSq q x).srv = s.srv := rfl
@[simp] theorem State.setSq_spn (s : State) (q : Nat) (x : SeqS) : (s.setSq q x).spn = s.spn := rfl
@[simp] theorem State.setSq_pins (s : State) (q : Nat) (x : SeqS) : (s.setSq q x).pins = s.pins := rfl
@[simp] theorem State.setSq_pending (s : State) (q : Nat) (x : SeqS) : (s.setSq q x).pending = s.pending := rfl

@[simp] theorem State.fresh_jd16 (s : State) : s.fresh.2.jd16 = s.jd16 := rfl
@[simp] theorem State.fresh_regs (s : State) : s.fresh.2.regs = s.regs := rfl
@[simp] theorem State.fresh_latch (s : State) : s.fresh.2.latch = s.latch := rfl
@[simp] theorem State.fresh_answer (s : State) : s.fresh.2.answer = s.answer := rfl
@[simp] theorem State.fresh_glb (s : State) : s.fresh.2.glb = s.glb := rfl
@[simp] theorem State.fresh_clk (s : State) : s.fresh.2.clk = s.clk := rfl
@[simp] theorem State.fresh_atc (s : State) : s.fresh.2.atc = s.atc := rfl
@[simp] theorem State.fresh_fus (s : State) : s.fresh.2.fus = s.fus := rfl
@[simp] theorem State.fresh_seq (s : State) : s.fresh.2.seq = s.seq := rfl
@[simp] theorem State.fresh_hlk (s : State) : s.fresh.2.hlk = s.hlk := rfl
@[simp] theorem State.fresh_mem (s : State) : s.fresh.2.mem = s.mem := rfl
@[simp] theorem State.fresh_poison (s : State) : s.fresh.2.poison = s.poison := rfl
@[simp] theorem State.fresh_pantry (s : State) : s.fresh.2.pantry = s.pantry := rfl
@[simp] theorem State.fresh_cch (s : State) : s.fresh.2.cch = s.cch := rfl
@[simp] theorem State.fresh_bufc (s : State) : s.fresh.2.bufc = s.bufc := rfl
@[simp] theorem State.fresh_cph (s : State) : s.fresh.2.cph = s.cph := rfl
@[simp] theorem State.fresh_hif (s : State) : s.fresh.2.hif = s.hif := rfl
@[simp] theorem State.fresh_flash (s : State) : s.fresh.2.flash = s.flash := rfl
@[simp] theorem State.fresh_stm (s : State) : s.fresh.2.stm = s.stm := rfl
@[simp] theorem State.fresh_dmv (s : State) : s.fresh.2.dmv = s.dmv := rfl
@[simp] theorem State.fresh_pfb (s : State) : s.fresh.2.pfb = s.pfb := rfl
@[simp] theorem State.fresh_chain (s : State) : s.fresh.2.chain = s.chain := rfl
@[simp] theorem State.fresh_rch (s : State) : s.fresh.2.rch = s.rch := rfl
@[simp] theorem State.fresh_land (s : State) : s.fresh.2.land = s.land := rfl
@[simp] theorem State.fresh_dec (s : State) : s.fresh.2.dec = s.dec := rfl
@[simp] theorem State.fresh_srv (s : State) : s.fresh.2.srv = s.srv := rfl
@[simp] theorem State.fresh_spn (s : State) : s.fresh.2.spn = s.spn := rfl
@[simp] theorem State.fresh_pins (s : State) : s.fresh.2.pins = s.pins := rfl
@[simp] theorem State.fresh_pending (s : State) : s.fresh.2.pending = s.pending := rfl

/-! ## Registers -/

@[simp] theorem State.rdA_wrA (s : State) (a b : Nat) (w : Word) :
    (s.wrA a w).rdA b = if b = a then w else s.rdA b := mget_mset _ _ _ _ _

@[simp] theorem State.rd_wrA (s : State) (a : Nat) (w : Word) (r : Reg) (i j : Nat) :
    (s.wrA a w).rd r i j = if r.addr i j = a then w else s.rd r i j := mget_mset _ _ _ _ _

/-- A register read after it is written gives the value written. -/
@[simp] theorem State.rd_wr_same (s : State) (r : Reg) (i j : Nat) (w : Word) : (s.wr r i j w).rd r i j = w := by
  simp [State.wr]

/-- A write leaves the registers at other addresses alone. -/
theorem State.rd_wr_ne (s : State) (r r' : Reg) (i j i' j' : Nat) (w : Word) (h : r'.addr i' j' ≠ r.addr i j) :
    (s.wr r i j w).rd r' i' j' = s.rd r' i' j' := by
  simp [State.wr, h]

/-- What any register reads after a write. -/
theorem State.rdA_wr (s : State) (r : Reg) (i j a : Nat) (w : Word) :
    (s.wr r i j w).rdA a = if a = r.addr i j then w else s.rdA a := mget_mset _ _ _ _ _

theorem State.rdA_setFld_ne (s : State) (f : Fld) (i v a : Nat) (h : a ≠ f.reg.addr i 0) :
    (s.setFld f i v).rdA a = s.rdA a := by
  simp [State.setFld, State.setFldJ, State.rdA_wr, h]

/-! ## Bits -/

theorem testBit_bitsOf (w hi lo k : Nat) : (bitsOf w hi lo).testBit k = (decide (k < hi + 1 - lo) && w.testBit (k + lo)) := by
  simp [bitsOf, Nat.testBit_mod_two_pow, Nat.testBit_div_two_pow]

theorem testBit_putBits (w hi lo v k : Nat) (h : lo ≤ hi + 1) :
    (putBits w hi lo v).testBit k = if lo ≤ k ∧ k ≤ hi then v.testBit (k - lo) else w.testBit k := by
  have e : putBits w hi lo v = 2 ^ lo * (2 ^ (hi + 1 - lo) * (w / 2 ^ (hi + 1)) + v % 2 ^ (hi + 1 - lo)) + w % 2 ^ lo := by
    have : 2 ^ (hi + 1) = 2 ^ lo * 2 ^ (hi + 1 - lo) := by rw [← Nat.pow_add]; congr 1; omega
    unfold putBits
    generalize hg : w / 2 ^ (hi + 1) = g
    rw [this]; ring
  rw [e, Nat.testBit_two_pow_mul_add _ (Nat.mod_lt _ (Nat.two_pow_pos lo))]
  split
  · rw [if_neg (by omega), Nat.testBit_mod_two_pow]; simp; omega
  · rw [Nat.testBit_two_pow_mul_add _ (Nat.mod_lt _ (Nat.two_pow_pos _))]
    split
    · rw [if_pos (by omega), Nat.testBit_mod_two_pow]; simp; omega
    · rw [if_neg (by omega), Nat.testBit_div_two_pow]; congr 1; omega

/-- Bits read back after they are put. -/
theorem bitsOf_putBits_same (w hi lo v : Nat) (h : lo ≤ hi + 1) :
    bitsOf (putBits w hi lo v) hi lo = v % 2 ^ (hi + 1 - lo) := by
  apply Nat.eq_of_testBit_eq; intro k
  rw [testBit_bitsOf, testBit_putBits _ _ _ _ _ h, Nat.testBit_mod_two_pow]
  by_cases hk : k < hi + 1 - lo
  · simp [hk]; intro; omega
  · simp [hk]

/-- Putting bits leaves bits elsewhere alone. -/
theorem bitsOf_putBits_ne (w hi lo v hi' lo' : Nat) (h : lo ≤ hi + 1) (d : hi < lo' ∨ hi' < lo) :
    bitsOf (putBits w hi lo v) hi' lo' = bitsOf w hi' lo' := by
  apply Nat.eq_of_testBit_eq; intro k
  rw [testBit_bitsOf, testBit_bitsOf, testBit_putBits _ _ _ _ _ h]
  by_cases hk : k < hi' + 1 - lo'
  · rw [if_neg (by omega)]
  · simp [hk]

theorem putBits_lt (w hi lo v : Nat) (h : lo ≤ hi) (hh : hi < 32) (hw : w < 2 ^ 32) : putBits w hi lo v < 2 ^ 32 := by
  apply Nat.lt_pow_two_of_testBit
  intro k hk
  rw [testBit_putBits _ _ _ _ _ (by omega), if_neg (by omega)]
  exact Nat.testBit_lt_two_pow (Nat.lt_of_lt_of_le hw (Nat.pow_le_pow_right (by omega) hk))

/-! ## Fields -/

theorem Fld.get_put_same (f : Fld) (w : Word) (v : Nat) (h : f.lo ≤ f.hi) (hh : f.hi < 32) :
    f.get (f.put w v) = v % 2 ^ (f.hi + 1 - f.lo) := by
  simp only [Fld.get, Fld.put, word, BitVec.toNat_ofNat]
  rw [Nat.mod_eq_of_lt (putBits_lt _ _ _ _ h hh w.isLt), bitsOf_putBits_same _ _ _ _ (by omega)]

theorem Fld.get_put_ne (f g : Fld) (w : Word) (v : Nat) (h : f.lo ≤ f.hi) (hh : f.hi < 32)
    (d : f.hi < g.lo ∨ g.hi < f.lo) : g.get (f.put w v) = g.get w := by
  simp only [Fld.get, Fld.put, word, BitVec.toNat_ofNat]
  rw [Nat.mod_eq_of_lt (putBits_lt _ _ _ _ h hh w.isLt), bitsOf_putBits_ne _ _ _ _ _ _ (by omega) d]

/-- A field read after it is set gives the low bits of the value. -/
theorem State.fldJ_setFldJ_same (s : State) (f : Fld) (i j v : Nat) (h : f.lo ≤ f.hi) (hh : f.hi < 32) :
    (s.setFldJ f i j v).fldJ f i j = v % 2 ^ (f.hi + 1 - f.lo) := by
  simp [State.fldJ, State.setFldJ, Fld.get_put_same _ _ _ h hh]

theorem State.fld_setFld_same (s : State) (f : Fld) (i v : Nat) (h : f.lo ≤ f.hi) (hh : f.hi < 32) :
    (s.setFld f i v).fld f i = v % 2 ^ (f.hi + 1 - f.lo) := State.fldJ_setFldJ_same s f i 0 v h hh

/-- Setting a field leaves the fields of other registers alone. -/
theorem State.fldJ_setFldJ_ne (s : State) (f g : Fld) (i j i' j' v : Nat) (h : g.reg.addr i' j' ≠ f.reg.addr i j) :
    (s.setFldJ f i j v).fldJ g i' j' = s.fldJ g i' j' := by
  simp [State.fldJ, State.setFldJ, State.rd_wr_ne _ _ _ _ _ _ _ _ h]

/-- Setting a field leaves the other fields of its register alone. -/
theorem State.fldJ_setFldJ_beside (s : State) (f g : Fld) (i j v : Nat) (hr : g.reg = f.reg) (h : f.lo ≤ f.hi)
    (hh : f.hi < 32) (d : f.hi < g.lo ∨ g.hi < f.lo) : (s.setFldJ f i j v).fldJ g i j = s.fldJ g i j := by
  simp [State.fldJ, State.setFldJ, hr, Fld.get_put_ne _ _ _ _ h hh d]

theorem State.fld_setFld_ne (s : State) (f g : Fld) (i i' v : Nat) (h : g.reg.addr i' 0 ≠ f.reg.addr i 0) :
    (s.setFld f i v).fld g i' = s.fld g i' := State.fldJ_setFldJ_ne s f g i 0 i' 0 v h

theorem State.fld_setFld_beside (s : State) (f g : Fld) (i v : Nat) (hr : g.reg = f.reg) (h : f.lo ≤ f.hi)
    (hh : f.hi < 32) (d : f.hi < g.lo ∨ g.hi < f.lo) : (s.setFld f i v).fld g i = s.fld g i :=
  State.fldJ_setFldJ_beside s f g i 0 v hr h hh d

/-! ## Sequencers -/

@[simp] theorem State.sq_setSq_same (s : State) (q : Nat) (x : SeqS) : (s.setSq q x).sq q = x := by
  simp [State.sq, State.setSq]

theorem State.sq_setSq_ne (s : State) (q p : Nat) (x : SeqS) (h : p ≠ q) : (s.setSq q x).sq p = s.sq p := by
  simp [State.sq, State.setSq, mget_mset_ne _ _ _ _ _ h]

@[simp] theorem State.sq_wr (s : State) (r : Reg) (i j : Nat) (w : Word) (q : Nat) : (s.wr r i j w).sq q = s.sq q := rfl
@[simp] theorem State.sq_setFld (s : State) (f : Fld) (i v q : Nat) : (s.setFld f i v).sq q = s.sq q := rfl
@[simp] theorem State.rd_setSq (s : State) (q : Nat) (x : SeqS) (r : Reg) (i j : Nat) :
    (s.setSq q x).rd r i j = s.rd r i j := rfl
@[simp] theorem State.fld_setSq (s : State) (q : Nat) (x : SeqS) (f : Fld) (i : Nat) :
    (s.setSq q x).fld f i = s.fld f i := rfl

/-! ## Dormant -/

@[simp] theorem State.powered_dormant (s : State) (f : State → Out) (h : s.glb.dormant = true) :
    s.powered f = .next s := by simp [State.powered, h]

@[simp] theorem State.powered_awake (s : State) (f : State → Out) (h : s.glb.dormant = false) :
    s.powered f = f s := by simp [State.powered, h]

/-! ## The canonical form -/

theorem State.canonical_wrA (s : State) (a : Nat) (w : Word) (h : s.canonical = true) : (s.wrA a w).canonical = true := by
  simp only [State.canonical, Bool.and_eq_true] at h ⊢
  exact ⟨⟨⟨mcanon_mset _ _ _ _ h.1.1.1, h.1.1.2⟩, h.1.2⟩, h.2⟩

theorem State.canonical_setSq (s : State) (q : Nat) (x : SeqS) (h : s.canonical = true) :
    (s.setSq q x).canonical = true := h

end Sys2Proof.Machine
end

