-- ==== Sys2Proof/Laws/Link.lean ====
section
/-!
SUPPORT. What the head-link operations can do: a port's own state, and the registers that a link state change writes.
-/

namespace Sys2Proof.Machine

@[simp] theorem State.hl_setHl_same (s : State) (n : Nat) (x : HlkS) : (s.setHl n x).hl n = x := by
  simp [State.hl, State.setHl]

theorem State.hl_setHl_ne (s : State) (n m : Nat) (x : HlkS) (h : m ≠ n) : (s.setHl n x).hl m = s.hl m := by
  simp [State.hl, State.setHl, mget_mset_ne _ _ _ _ _ h]

@[simp] theorem State.regs_setHl (s : State) (n : Nat) (x : HlkS) : (s.setHl n x).regs = s.regs := rfl
@[simp] theorem State.mem_setHl (s : State) (n : Nat) (x : HlkS) : (s.setHl n x).mem = s.mem := rfl
@[simp] theorem State.rd_setHl (s : State) (n : Nat) (x : HlkS) (r : Reg) (i j : Nat) :
    (s.setHl n x).rd r i j = s.rd r i j := rfl
@[simp] theorem State.rdA_setHl (s : State) (n : Nat) (x : HlkS) (a : Nat) : (s.setHl n x).rdA a = s.rdA a := rfl
@[simp] theorem State.fld_setHl (s : State) (n : Nat) (x : HlkS) (f : Fld) (i : Nat) :
    (s.setHl n x).fld f i = s.fld f i := rfl
@[simp] theorem State.flag_setHl (s : State) (n : Nat) (x : HlkS) (f : Fld) (i : Nat) :
    (s.setHl n x).flag f i = s.flag f i := rfl
@[simp] theorem State.linkState_setHl (s : State) (n m : Nat) (x : HlkS) :
    (s.setHl n x).linkState m = s.linkState m := rfl
@[simp] theorem State.hl_wr (s : State) (r : Reg) (i j : Nat) (w : Word) (n : Nat) : (s.wr r i j w).hl n = s.hl n := rfl
@[simp] theorem State.hl_setFld (s : State) (f : Fld) (i v n : Nat) : (s.setFld f i v).hl n = s.hl n := rfl
@[simp] theorem State.hl_setSq (s : State) (q : Nat) (x : SeqS) (n : Nat) : (s.setSq q x).hl n = s.hl n := rfl

/-- A record on its way to a sequencer touches the sequencers alone. -/
theorem State.sendRec_eq (s : State) (q qu : Nat) (r : List Word) : ∃ l, s.sendRec q qu r = { s with seq := l } := by
  unfold State.sendRec; split
  · exact ⟨_, rfl⟩
  · exact ⟨s.seq, rfl⟩

/-- A command failure touches the sequencers and the list of failures of its port alone. -/
theorem State.cmdFailed_eq (s : State) (n cls c r : Nat) (who : Issuer) :
    ∃ l f, s.cmdFailed n cls c r who = { s with seq := l, hlk := mset (fun _ => ({} : HlkS)) s.hlk n { s.hl n with failures := f } }
      ∨ s.cmdFailed n cls c r who = { s with seq := l } := by
  unfold State.cmdFailed
  split
  · obtain ⟨l, h⟩ := s.sendRec_eq _ 2 _
    exact ⟨l, [], Or.inr h⟩
  · exact ⟨s.seq, _, Or.inl rfl⟩
  · exact ⟨s.seq, _, Or.inl rfl⟩
  · exact ⟨s.seq, [], Or.inr rfl⟩

/-- What stays when the waiting commands of a port are dropped: everything but the sequencers' records and the port's
failures. -/
structure State.SameButFailures (s t : State) (n : Nat) : Prop where
  regs : t.regs = s.regs
  jd16 : t.jd16 = s.jd16
  mem : t.mem = s.mem
  glb : t.glb = s.glb
  hl : { t.hl n with failures := (s.hl n).failures } = s.hl n

theorem State.cmdFailed_keeps (s : State) (n cls c r : Nat) (who : Issuer) :
    s.SameButFailures (s.cmdFailed n cls c r who) n := by
  obtain ⟨l, f, h | h⟩ := s.cmdFailed_eq n cls c r who <;> rw [h]
  · exact ⟨rfl, rfl, rfl, rfl, by simp [State.hl]⟩
  · exact ⟨rfl, rfl, rfl, rfl, rfl⟩

theorem State.SameButFailures.refl (s : State) (n : Nat) : s.SameButFailures s n := ⟨rfl, rfl, rfl, rfl, rfl⟩

theorem State.SameButFailures.trans {s t u : State} {n : Nat} (a : s.SameButFailures t n) (b : t.SameButFailures u n) :
    s.SameButFailures u n := by
  refine ⟨b.regs.trans a.regs, b.jd16.trans a.jd16, b.mem.trans a.mem, b.glb.trans a.glb, ?_⟩
  have h1 := a.hl; have h2 := b.hl
  rw [← h1, ← h2]

theorem State.dropCmds_keeps (s : State) (n : Nat) :
    (s.setHl n { s.hl n with cmds := [] }).SameButFailures (s.dropCmds n) n := by
  unfold State.dropCmds
  dsimp only
  generalize (s.hl n).cmds = l
  generalize s.setHl n _ = t
  induction l generalizing t with
  | nil => exact State.SameButFailures.refl _ _
  | cons c l ih => exact (State.cmdFailed_keeps t n _ _ _ _).trans (ih _)

@[simp] theorem State.dropCmds_regs (s : State) (n : Nat) : (s.dropCmds n).regs = s.regs := (s.dropCmds_keeps n).regs
@[simp] theorem State.dropCmds_jd16 (s : State) (n : Nat) : (s.dropCmds n).jd16 = s.jd16 := (s.dropCmds_keeps n).jd16
@[simp] theorem State.dropCmds_mem (s : State) (n : Nat) : (s.dropCmds n).mem = s.mem := (s.dropCmds_keeps n).mem

/-- Registers read the same in two states whose register maps and variant agree. -/
theorem State.rdA_congr {s t : State} (h : t.regs = s.regs) (hj : t.jd16 = s.jd16) (a : Nat) : t.rdA a = s.rdA a := by
  have : t.regDflt = s.regDflt := by funext x; simp [State.regDflt, hj]
  simp [State.rdA, h, this]

theorem State.fld_congr {s t : State} (h : t.regs = s.regs) (hj : t.jd16 = s.jd16) (f : Fld) (i : Nat) :
    t.fld f i = s.fld f i := by
  simp [State.fld, State.fldJ, State.rd, State.rdA_congr h hj]

@[simp] theorem State.dropCmds_rdA (s : State) (n a : Nat) : (s.dropCmds n).rdA a = s.rdA a :=
  State.rdA_congr (s.dropCmds_regs n) (s.dropCmds_jd16 n) a
@[simp] theorem State.dropCmds_fld (s : State) (n : Nat) (f : Fld) (i : Nat) : (s.dropCmds n).fld f i = s.fld f i :=
  State.fld_congr (s.dropCmds_regs n) (s.dropCmds_jd16 n) f i

/-- The link state after a change. -/
theorem State.linkTo_linkState (s : State) (n st : Nat) (h : st < 16) : (s.linkTo n st).linkState n = st := by
  have : (s.setFld Reg.HLK_STAT_LINK_STATE n st).fld Reg.HLK_STAT_LINK_STATE n = st := by
    rw [State.fld_setFld_same _ _ _ _ (by decide) (by decide)]; exact Nat.mod_eq_of_lt (by simpa [Reg.HLK_STAT_LINK_STATE] using h)
  unfold State.linkTo State.linkState
  dsimp only
  split <;> simp [this]

theorem State.linkTo_rdA (s : State) (n st a : Nat) (h : a ≠ Reg.HLK_STAT.addr n 0) :
    (s.linkTo n st).rdA a = s.rdA a := by
  unfold State.linkTo
  dsimp only
  split <;> simp [State.rdA_setFld_ne _ Reg.HLK_STAT_LINK_STATE _ _ _ h]

@[simp] theorem State.linkTo_mem (s : State) (n st : Nat) : (s.linkTo n st).mem = s.mem := by
  unfold State.linkTo; dsimp only; split <;> simp

end Sys2Proof.Machine
end

