-- ==== Sys2Proof/Laws/Seq.lean ====
section
/-!
SUPPORT. What the operations of a sequencer can do: issue, general registers, flags and the flow to the next word.
-/

namespace Sys2Proof.Machine

/-- A state that differs from another in one sequencer's own state alone. -/
theorem State.setSq_setSq (s : State) (q : Nat) (x y : SeqS) : ((s.setSq q x).setSq q y).sq q = y := by simp

@[simp] theorem State.inFast_setSq (s : State) (q p : Nat) (x : SeqS) : (s.setSq q x).inFast p = s.inFast p := rfl
@[simp] theorem State.seqState_setSq (s : State) (q p : Nat) (x : SeqS) : (s.setSq q x).seqState p = s.seqState p := rfl
@[simp] theorem State.rdA_setSq (s : State) (q a : Nat) (x : SeqS) : (s.setSq q x).rdA a = s.rdA a := rfl
@[simp] theorem State.flag_setSq (s : State) (q : Nat) (x : SeqS) (f : Fld) (i : Nat) :
    (s.setSq q x).flag f i = s.flag f i := rfl

/-- Setting a general register is one update of its sequencer. -/
theorem State.setGr_eq (s : State) (q r : Nat) (v : Word) :
    ∃ g sh, s.setGr q r v = s.setSq q { s.sq q with g := g, shadow := sh } := by
  unfold State.setGr; dsimp only; split
  · exact ⟨_, _, rfl⟩
  · exact ⟨_, _, rfl⟩

@[simp] theorem State.gr_setGr_same (s : State) (q r : Nat) (v : Word) : (s.setGr q r v).gr q r = v := by
  unfold State.setGr State.gr; dsimp only
  split <;> simp_all

theorem State.gr_setGr_ne (s : State) (q r e : Nat) (v : Word) (h : e ≠ r) : (s.setGr q r v).gr q e = s.gr q e := by
  have hf : ∀ x, (s.setSq q x).inFast q = s.inFast q := fun _ => rfl
  unfold State.setGr State.gr; dsimp only
  split
  · rename_i h1
    by_cases he : 48 ≤ e
    · simp [hf, h1.1, he, mget_mset_ne _ _ (r - 48) (e - 48) _ (by omega)]
    · simp [he]
  · rename_i h1
    by_cases he : s.inFast q = true ∧ 48 ≤ e
    · simp [he]
    · simp [he, mget_mset_ne _ _ r e _ h]

/-- Setting a flag touches FLAGS alone. -/
@[simp] theorem State.gr_setFl (s : State) (q k : Nat) (b : Bool) (r : Nat) : (s.setFl q k b).gr q r = s.gr q r := by
  simp [State.gr, State.setFl]

theorem State.fl_setFl_same (s : State) (q k : Nat) (b : Bool) (h : k < 32) : (s.setFl q k b).fl q k = b := by
  have : bitOf (word (setBit (s.sq q).flags.toNat k b)).toNat k = b := by
    simp only [bitOf, word, setBit, BitVec.toNat_ofNat]
    rw [Nat.mod_eq_of_lt (putBits_lt _ _ _ _ (Nat.le_refl k) h (s.sq q).flags.isLt),
      testBit_putBits _ _ _ _ _ (by omega)]
    cases b <;> simp
  simpa [State.fl, State.setFl] using this

theorem State.fl_setFl_ne (s : State) (q k j : Nat) (b : Bool) (h : k < 32) (hj : j ≠ k) :
    (s.setFl q k b).fl q j = s.fl q j := by
  have : bitOf (word (setBit (s.sq q).flags.toNat k b)).toNat j = bitOf (s.sq q).flags.toNat j := by
    simp only [bitOf, word, setBit, BitVec.toNat_ofNat]
    rw [Nat.mod_eq_of_lt (putBits_lt _ _ _ _ (Nat.le_refl k) h (s.sq q).flags.isLt),
      testBit_putBits _ _ _ _ _ (by omega), if_neg (by omega)]
  simpa [State.fl, State.setFl] using this

@[simp] theorem State.fl_setGr (s : State) (q r : Nat) (v : Word) (k : Nat) : (s.setGr q r v).fl q k = s.fl q k := by
  obtain ⟨g, sh, h⟩ := s.setGr_eq q r v; rw [h]; simp [State.fl]

end Sys2Proof.Machine
end

