-- ==== Sys2Proof/Tests/Slice0.lean ====
section
/-!
SUPPORT. Tests: ill-formed commands are refused as ill-formed, worked examples of the spec, and for every statement states
and operands that meet the hypotheses of each of its clauses.
-/

namespace Sys2Proof.Tests

open Sys2Proof Sys2Proof.Machine

/-! ## States to test on -/

/-- A device in Service past its wipe, every register else at its reset value. -/
def w0 : State :=
  let s : State := { State.reset with glb := { State.reset.glb with sramWipe := false, bufWipe := false } }
  (s.setFld Reg.GLB_MODE_MODE 0 modeService).setFld Reg.GLB_MODE_WIPING 0 0

/-- A microword with the bit fields named, each as its highest bit, its lowest bit and its value. -/
def mwd (l : List (Nat × Nat × Nat)) : Mw := BitVec.ofNat 128 (l.foldl (fun w f => putBits w f.1 f.2.1 f.2.2) 0)

/-- Sequencer `q` runs and stands before a word. -/
def runs (s : State) (q : Nat) (w : Mw) : State :=
  (s.setFld Reg.SEQ_STAT_STATE q seqRunning).setSq q { store := [(0, w)], loaded := true }

/-- Segment 0 of the buffer mapped from the start of channel 0 and the rest, simplex, with every channel Up. -/
def mapped (s : State) : State :=
  let s : State := ((s.setFldJ Reg.BUF_SEG_VALID 0 0 1).setFldJ Reg.BUF_SEG_DUPLEX 0 0 0).setFldJ Reg.BUF_SEG_DOFS 0 0 0
  (List.range 8).foldl (fun s c => s.setFld Reg.BUFC_STAT_STATE c chUp) s

/-- Words written to mapped buffer memory. -/
def put (s : State) (a : Nat) (ws : List Word) : State := s.putBytes a (wordBytes ws)

/-- A gate request. -/
def greq : GateReq := { start := 256, exp := 128, bank := 0, slot := 5, tag := 9 }

/-- A gate that runs in a processing context. -/
def gctx : GateCtx := { req := greq, params := [], rho := 2 ^ 24, p := 2 ^ 24, g := 0, o := 0, alpha := 0, fir := [] }

/-- A parameter entry of zone 3, for 65,536 samples a wedge at ratio 1.5. -/
def entry : List Word :=
  let ws : List Word := [0x01030001, 0x0AAAA000, 0x10000001, 0, 0] ++ List.replicate 8 0 ++ List.replicate 4 0 ++
    [0x01010101, 0x01010101] ++ List.replicate 12 0
  ws ++ [word (2 ^ 32 - (ws.foldl (fun a w => a + w.toNat) 0) % 2 ^ 32)]

/-- A sector of an operation. -/
def sect (op : Nat) : Sector :=
  { tag := 77, op := op, nsid := 1, lba := 5, copyB := false, act := 3, zone := 2, p0 := 40, p := 40, cls := 1, slot := 4,
    st := .granted, deadline := 1000, soft := some 9, decCredit := true }

end Sys2Proof.Tests
end

section
/-!
PROOFS. The register bus (R3, R8 to R10): where the register map ends, when an agent's access passes every gate, what a read
returns there and what a write does; then the statements on plain registers, counters, pairs and absent instances.
-/

namespace Sys2Proof.Machine

/-! ## The end of the register map (R540) -/

/-- A block's registers end below `e`: its instances do, or the rows of its only copy do. -/
def BlockDef.endsBy (b : BlockDef) (e : Nat) : Bool :=
  if b.stride = 0 then b.regs.all fun d => decide (0 < d.step) && decide (b.base + d.off + d.step * d.count ≤ e)
  else decide (b.base + b.stride * b.n16 ≤ e)

theorem findReg_eq_none_of_past {o : Nat} {ds : List RegDef}
    (h : ∀ d ∈ ds, 0 < d.step ∧ d.off + d.step * d.count ≤ o) : findReg o ds = none := by
  induction ds with
  | nil => rfl
  | cons d ds ih =>
    obtain ⟨hstep, hend⟩ := h d (by simp)
    have hcount : d.count ≤ (o - d.off) / d.step := (Nat.le_div_iff_mul_le hstep).2 (by rw [Nat.mul_comm]; omega)
    rw [findReg, if_neg (by omega)]
    exact ih fun x hx => h x (by simp [hx])

theorem findIn_eq_none_of_past {e addr : Nat} (jd16 : Bool) (he : e ≤ addr) {bs : List BlockDef}
    (h : ∀ b ∈ bs, b.endsBy e = true) : findIn jd16 addr bs = none := by
  induction bs with
  | nil => rfl
  | cons b bs ih =>
    have hrest := ih fun x hx => h x (by simp [hx])
    have hb := h b (by simp)
    by_cases hs : b.stride = 0
    · have hrows : ∀ d ∈ b.regs, 0 < d.step ∧ b.base + d.off + d.step * d.count ≤ e := by
        simpa [BlockDef.endsBy, hs] using hb
      have hnone : findReg (addr - b.base) b.regs = none := by
        apply findReg_eq_none_of_past
        intro d hd
        have hrow := hrows d hd
        omega
      simp [findIn, hs, hnone, hrest]
    · have hend : b.base + b.stride * b.n16 ≤ e := by simpa [BlockDef.endsBy, hs] using hb
      have hi : b.n16 ≤ (addr - b.base) / b.stride :=
        (Nat.le_div_iff_mul_le (Nat.pos_of_ne_zero hs)).2 (by rw [Nat.mul_comm]; omega)
      simp [findIn, hs, hrest, Nat.not_lt.2 hi]

/-- No register lies at the control-store windows or above them. -/
theorem regAt_eq_none_of_past (jd16 : Bool) {addr : Nat} (h : 0x01000000 ≤ addr) : regAt jd16 addr = none := by
  have hblocks : findIn jd16 addr blocks = none := findIn_eq_none_of_past jd16 h (by decide)
  have hfaults : findIn jd16 addr faultBlocks = none := findIn_eq_none_of_past jd16 h (by decide)
  simp [regAt, hblocks, hfaults]

/-- Every fault group starts a 4 KiB page (R476). -/
theorem faultBase_mod_page : ∀ src < 129, faultBase src % 0x1000 = 0 := by decide

/-- The fault groups take the bytes from 0xF00 of their pages. -/
theorem faultOf_eq_none {addr : Nat} (h : addr % 0x1000 < 0xF00) : faultOf addr = none := by
  simp only [faultOf, List.find?_eq_none, List.mem_range]
  intro src hsrc hin
  have hpage := faultBase_mod_page src hsrc
  simp only [within, Bool.and_eq_true, decide_eq_true_eq] at hin
  omega

/-! ## The gates of the bus (R429, R430, R435) -/

/-- What a host port reaches on an access that the device takes. -/
theorem State.reaches_port_iff (s : State) (p addr : Nat) (write : Bool) :
    s.reaches (.port p) addr write = true ↔
      addr % 4 = 0 ∧ p < 2 ∧ s.glb.dormant = false ∧ s.mode ≠ modeSealed ∧ addr < 0x02000000 := by
  simp [State.reaches, and_assoc]

theorem State.wipeShut_of_not_wiping {s : State} (h : s.flag Reg.GLB_MODE_WIPING 0 = false) (addr : Nat) :
    s.wipeShut addr = false := by
  simp [State.wipeShut, h]

theorem State.gatedAddr_of_none_gated {s : State} (h : s.clk.gated = []) (addr : Nat) : s.gatedAddr addr = false := by
  unfold State.gatedAddr
  split
  · simp [h]
  · rfl

/-- With no gate request waiting and no write held, none proceeds late. -/
theorem State.heldGo_of_none_held {s : State} (hwait : s.clk.gateWait = none) (hheld : s.clk.held = []) :
    s.heldGo = s := by
  have hsame : { s with clk := { s.clk with held := [] } } = s := by rw [← hheld]
  rw [State.heldGo, if_neg (by simp [hwait]), hheld]
  exact hsame

section
variable {s : State} {ag : Agent} {addr : Nat} (hwipe : s.wipeShut addr = false) (hgate : s.gatedAddr addr = false)
include hwipe hgate

/-- A read past the gates answers the value found there. -/
theorem State.busRead_of_open :
    s.busRead addr = ({ (s.busValue addr).1 with answer := (s.busValue addr).2 }, (s.busValue addr).2) := by
  simp [State.busRead, hwipe, hgate]

theorem exec_lowerHalfRead_of_open (hreach : s.reaches ag addr false = true) :
    exec (.lowerHalfRead ag addr) s = .next { (s.busValue addr).1 with answer := (s.busValue addr).2 } := by
  show execLowerHalfRead ag addr s = _
  rw [execLowerHalfRead, if_pos hreach, State.busRead_of_open hwipe hgate]

/-- READ_TO_CLEAR where no implemented register lies is a plain read. -/
theorem exec_readToClear_of_absent (hreach : s.reaches ag addr false = true) (events : Nat)
    (hreg : ∀ d i j, regAt (s.busValue addr).1.jd16 addr ≠ some (d, i, j, true)) :
    exec (.readToClear ag addr events) s = .next { (s.busValue addr).1 with answer := (s.busValue addr).2 } := by
  show execReadToClear ag addr events s = _
  rw [execReadToClear, if_pos hreach, State.busRead_of_open hwipe hgate]
  dsimp only
  split
  · next hat => exact absurd hat (hreg _ _ _)
  · rfl

/-- READ_TO_CLEAR leaves the events of its cycle in a register that a read clears (R8, R9). -/
theorem exec_readToClear_of_clearing (hreach : s.reaches ag addr false = true) (events : Nat) {d : RegDef} {i j : Nat}
    (hreg : regAt (s.busValue addr).1.jd16 addr = some (d, i, j, true)) (hrc : d.rc ≠ 0) :
    exec (.readToClear ag addr events) s =
      .next ({ (s.busValue addr).1 with answer := (s.busValue addr).2 }.wrA addr (word events)) := by
  show execReadToClear ag addr events s = _
  rw [execReadToClear, if_pos hreach, State.busRead_of_open hwipe hgate]
  simp [hreg, hrc, hwipe, hgate]

/-- A write past the gates reaches its register, and no write that a gate request held follows it. -/
theorem exec_registerWrite_of_open (hwait : s.clk.gateWait = none) (hheld : s.clk.held = [])
    (hreach : s.reaches ag addr true = true) (v : Word) (hclk : (s.regWrite ag addr v).clk = s.clk) :
    exec (.registerWrite ag addr v) s = .next (s.regWrite ag addr v) := by
  have hone : s.busWriteOne ag addr v = s.regWrite ag addr v := by
    simp [State.busWriteOne, State.gateHolds, hwipe, hgate, hwait]
  show execRegisterWrite ag addr v s = _
  rw [execRegisterWrite, if_pos hreach, State.busWrite, hone,
    State.heldGo_of_none_held (by rw [hclk, hwait]) (by rw [hclk, hheld])]

end

/-- Outside the Attic's records and the control stores a read finds a register. -/
theorem State.busValue_register (s : State) {addr : Nat} (hatc : within addr 0x00040000 0x00080000 = false)
    (hstore : within addr 0x01000000 0x01800000 = false) : s.busValue addr = s.regRead addr := by
  simp [State.busValue, hatc, hstore]

/-! ## Absent instances (R3) -/

/-- The address is one of those that the variant does not implement: a register of it, or its control store. -/
def State.AbsentAt (s : State) (addr : Nat) : Prop :=
  ((∃ (d : RegDef) (i j : Nat), regAt s.jd16 addr = some (d, i, j, false)) ∧ ¬ (0x00040000 ≤ addr ∧ addr < 0x00080000) ∧
      ¬ (0x01000000 ≤ addr ∧ addr < 0x01800000)) ∨
    (0x01000000 ≤ addr ∧ addr < 0x01800000 ∧ s.hasSeq (storeOf addr) = false)

theorem State.AbsentAt.regAt_ne {s : State} {addr : Nat} (h : s.AbsentAt addr) (d : RegDef) (i j : Nat) :
    regAt s.jd16 addr ≠ some (d, i, j, true) := by
  rcases h with ⟨⟨d', i', j', hreg⟩, _, _⟩ | ⟨hlo, _, _⟩
  · simp [hreg]
  · simp [regAt_eq_none_of_past s.jd16 hlo]

theorem State.AbsentAt.busValue_eq {s : State} {addr : Nat} (h : s.AbsentAt addr) : s.busValue addr = (s, 0) := by
  rcases h with ⟨⟨d, i, j, hreg⟩, hatc, hstore⟩ | ⟨hlo, hhi, hseq⟩
  · rw [s.busValue_register (by simpa [within] using hatc) (by simpa [within] using hstore)]
    simp [State.regRead, hreg]
  · have hwin : s.storeWindow addr = 0 := by
      unfold storeOf at hseq
      simp [State.storeWindow, hseq]
    have hatc : ¬ addr < 0x00080000 := by omega
    simp [State.busValue, within, hatc, hlo, hhi, hwin]

theorem State.AbsentAt.regWrite_eq {s : State} {addr : Nat} (h : s.AbsentAt addr) (ag : Agent) (v : Word) :
    s.regWrite ag addr v = s := by
  rcases h with ⟨⟨d, i, j, hreg⟩, _, hstore⟩ | ⟨hlo, hhi, hseq⟩
  · have hwin : within addr 0x01000000 0x01800000 = false := by simpa [within] using hstore
    simp [State.regWrite, hwin, hreg]
  · simp [State.regWrite, within, hlo, hhi, hseq]

/-- Settles O55: past the gates an absent unit has no value to read and no register to write. -/
theorem absentInstances : Obligations.AbsentInstances := by
  intro s ag addr hwipe hwait hheld hgate (habs : s.AbsentAt addr)
  refine ⟨fun hreach => ⟨?_, fun events => ?_⟩, fun hreach v => ?_⟩
  · rw [exec_lowerHalfRead_of_open hwipe hgate hreach, habs.busValue_eq]
  · have hreg : ∀ d i j, regAt (s.busValue addr).1.jd16 addr ≠ some (d, i, j, true) := by
      rw [habs.busValue_eq]; exact habs.regAt_ne
    rw [exec_readToClear_of_absent hwipe hgate hreach events hreg, habs.busValue_eq]
  · have hsame := habs.regWrite_eq ag v
    rw [exec_registerWrite_of_open hwipe hgate hwait hheld hreach v (by rw [hsame]), hsame]

/-! ## Reads of an implemented register (R8, R10) -/

/-- A read at the address returns the stored value: no pending word of an event controller (R406), no word of the owner key
hash (R449) and no sample of the pins (R538). -/
def readsStored (addr : Nat) : Bool :=
  !within addr 0x00B00000 0x00B28000 && !within addr 0x00E00040 0x00E00070 && addr != Reg.OBS_STAT.addr 0 0

section
variable {s : State} {addr i j : Nat} {d : RegDef} (hreg : regAt s.jd16 addr = some (d, i, j, true))
  (hstored : readsStored addr = true)
include hreg hstored

/-- A register of no pair with bits that a read clears (R8). -/
theorem State.regRead_clearing (hrc : d.rc ≠ 0) (hlow : lowHalf i j addr = none) (hhigh : highHalf i j addr = none) :
    s.regRead addr = (s.wrA addr (s.rdA addr &&& ~~~(word d.rc)), s.rdA addr &&& ~~~(word d.wo)) := by
  simp only [readsStored, Bool.and_eq_true, Bool.not_eq_true', bne_iff_ne, ne_eq] at hstored
  simp [State.regRead, hreg, hstored, hrc, hlow, hhigh]

/-- The lower half of a pair: the read latches the upper one (R10). -/
theorem State.regRead_lowHalf {hi : Nat} (hrc : d.rc = 0) (hlow : lowHalf i j addr = some hi) :
    s.regRead addr = ({ s with latch := s.latch.filter (fun e => e.1 != addr) ++ [(addr, s.rdA hi)] },
      s.rdA addr &&& ~~~(word d.wo)) := by
  simp only [readsStored, Bool.and_eq_true, Bool.not_eq_true', bne_iff_ne, ne_eq] at hstored
  simp [State.regRead, hreg, hstored, hrc, hlow]

/-- The upper half of a pair that a read of the lower one has latched (R10). -/
theorem State.regRead_latchedHalf {lo : Nat} {e : Nat × Word} (hrc : d.rc = 0) (hlow : lowHalf i j addr = none)
    (hhigh : highHalf i j addr = some lo) (hlatch : s.latch.find? (fun e => e.1 == lo) = some e) :
    s.regRead addr = ({ s with latch := s.latch.filter fun x => x.1 != e.1 }, e.2) := by
  simp only [readsStored, Bool.and_eq_true, Bool.not_eq_true', bne_iff_ne, ne_eq] at hstored
  simp [State.regRead, hreg, hstored, hrc, hlow, hhigh, hlatch]

end

/-- A register without write-only bits shows every bit (R8). -/
theorem and_not_word_zero (w : Word) : w &&& ~~~(word 0) = w := by
  show w &&& BitVec.allOnes 32 = w
  exact BitVec.and_allOnes

/-- The latch of a lower half holds what its last read put there. -/
theorem find?_latch (l : List (Nat × Word)) (lo : Nat) (w : Word) :
    (l.filter (fun e => e.1 != lo) ++ [(lo, w)]).find? (fun e => e.1 == lo) = some (lo, w) := by
  have hnone : (l.filter fun e => e.1 != lo).find? (fun e => e.1 == lo) = none := by simp [List.find?_eq_none]
  simp [List.find?_append, hnone]

/-! ## A write of a register of a drive (R8) -/

/-- The registers of drive or head `i` whose write starts something. -/
def driveStarts (i : Nat) : List Nat :=
  [Reg.HLK_CTRL, Reg.HLK_LANE, Reg.RCH_CTRL, Reg.RCH_LOAD, Reg.SRV_CTRL, Reg.SRV_LOAD, Reg.SRV_INJ_CTRL, Reg.SRV_CAP_CTRL,
    Reg.SPN_CTRL, Reg.SPN_TARGET].map fun r => r.addr i 0

theorem State.driveWrite_plain (s : State) {i addr : Nat} (v : Word) (h : addr ∉ driveStarts i) :
    s.driveWrite i addr v = s.plainWrite addr v := by
  simp only [driveStarts, List.map_cons, List.map_nil, List.mem_cons, List.not_mem_nil, or_false, not_or] at h
  simp [State.driveWrite, h]

/-- The write of a servo engine's register outside its fault group. -/
theorem State.regWrite_servo {s : State} {addr i j : Nat} {d : RegDef} (ag : Agent) (v : Word)
    (hreg : regAt s.jd16 addr = some (d, i, j, true)) (hin : within addr 0x00400000 0x00500000 = true)
    (hflt : faultOf addr = none) : s.regWrite ag addr v = s.driveWrite i addr v := by
  have hin' := hin
  simp only [within, Bool.and_eq_true, decide_eq_true_eq] at hin'
  have hstore : within addr 0x01000000 0x01800000 = false := by simp [within]; omega
  have hdrive : within addr 0x00400000 0x00600000 = true := by simp [within]; omega
  have hcore : ¬ (addr < 0x00040000 ∨ 0x00E00000 ≤ addr) := by omega
  simp [State.regWrite, hstore, hreg, hflt, hcore, hdrive]

@[simp] theorem State.plainWrite_clk (s : State) (addr : Nat) (v : Word) : (s.plainWrite addr v).clk = s.clk := by
  unfold State.plainWrite
  split
  · split <;> rfl
  · rfl

/-! ## Where the registers of the statement lie -/

/-- The row of SRV_THR1: every bit is read and written. -/
def thr1Row : RegDef := ⟨0x014, 1, 4, 0x1EC14842, 0xFFFFFFFF, 0, 0, 0, 0⟩

/-- The row of HLK_CNT_BLK: every bit is cleared by a read. -/
def cntBlkRow : RegDef := ⟨0x01C, 1, 4, 0, 0, 0, 0, 0, 0xFFFFFFFF⟩

theorem regAt_thr1 : ∀ jd16 : Bool, ∀ a < 32,
    regAt jd16 (Reg.SRV_THR1.addr a 0) = some (thr1Row, a, 0, decide (a < if jd16 then 32 else 16)) := by
  decide

theorem regAt_cntBlk : ∀ jd16 : Bool, ∀ n < 16,
    regAt jd16 (Reg.HLK_CNT_BLK.addr n 0) = some (cntBlkRow, n, 0, decide (n < if jd16 then 16 else 8)) := by
  decide

theorem regAt_tickLo (jd16 : Bool) :
    regAt jd16 (Reg.TB_TICK_LO.addr 0 0) = some (⟨0x014, 1, 4, 0, 0, 0, 0, 0, 0⟩, 0, 0, true) := by
  cases jd16 <;> decide

theorem regAt_tickHi (jd16 : Bool) :
    regAt jd16 (Reg.TB_TICK_HI.addr 0 0) = some (⟨0x018, 1, 4, 0, 0, 0, 0, 0, 0⟩, 0, 0, true) := by
  cases jd16 <;> decide

theorem thr1_not_mem_driveStarts (a : Nat) : Reg.SRV_THR1.addr a 0 ∉ driveStarts a := by
  simp [driveStarts, Reg.addr, Reg.SRV_THR1, Reg.HLK_CTRL, Reg.HLK_LANE, Reg.RCH_CTRL, Reg.RCH_LOAD, Reg.SRV_CTRL,
    Reg.SRV_LOAD, Reg.SRV_INJ_CTRL, Reg.SRV_CAP_CTRL, Reg.SPN_CTRL, Reg.SPN_TARGET]
  omega

/-- The gate counter of a port is in no pair (R10). -/
theorem pair_cntBlk : ∀ n < 16, lowHalf n 0 (Reg.HLK_CNT_BLK.addr n 0) = none ∧
    highHalf n 0 (Reg.HLK_CNT_BLK.addr n 0) = none := by
  decide

/-! ## The three accesses -/

section
variable {s : State} {p : Nat} (hawake : s.glb.dormant = false) (hmode : s.mode ≠ modeSealed)
  (hwiping : s.flag Reg.GLB_MODE_WIPING 0 = false) (hgated : s.clk.gated = []) (hp : p < 2)
include hawake hmode hwiping hgated hp

theorem exec_registerWrite_thr1 (hwait : s.clk.gateWait = none) (hheld : s.clk.held = []) {a : Nat} (ha : a < s.nAct)
    (v : Word) :
    exec (.registerWrite (.port p) (Reg.SRV_THR1.addr a 0) v) s = .next (s.store Reg.SRV_THR1 a 0 v) := by
  have ha' : a < if s.jd16 then 32 else 16 := ha
  have h32 : a < 32 := by split at ha' <;> omega
  have haddr : Reg.SRV_THR1.addr a 0 = 0x00400014 + 0x1000 * a := by simp [Reg.addr, Reg.SRV_THR1]; omega
  have hreg : regAt s.jd16 (Reg.SRV_THR1.addr a 0) = some (thr1Row, a, 0, true) := by
    rw [regAt_thr1 s.jd16 a h32, decide_eq_true ha']
  have hwrite : s.regWrite (.port p) (Reg.SRV_THR1.addr a 0) v = s.store Reg.SRV_THR1 a 0 v := by
    rw [State.regWrite_servo _ v hreg (by simp [within]; omega) (faultOf_eq_none (by omega)),
      State.driveWrite_plain s v (thr1_not_mem_driveStarts a), State.store]
  have hreach : s.reaches (.port p) (Reg.SRV_THR1.addr a 0) true = true :=
    (s.reaches_port_iff ..).2 ⟨by omega, hp, hawake, hmode, by omega⟩
  rw [exec_registerWrite_of_open (State.wipeShut_of_not_wiping hwiping _) (State.gatedAddr_of_none_gated hgated _)
    hwait hheld hreach v (by rw [hwrite]; exact State.plainWrite_clk ..), hwrite]

theorem exec_readToClear_cntBlk {n : Nat} (hn : n < s.nHda) (events : Nat) :
    exec (.readToClear (.port p) (Reg.HLK_CNT_BLK.addr n 0) events) s =
      .next ({ s.wr Reg.HLK_CNT_BLK n 0 0 with answer := s.rd Reg.HLK_CNT_BLK n 0 }.wr Reg.HLK_CNT_BLK n 0 (word events)) := by
  have hn' : n < if s.jd16 then 16 else 8 := hn
  have h16 : n < 16 := by split at hn' <;> omega
  have haddr : Reg.HLK_CNT_BLK.addr n 0 = 0x0010001C + 0x1000 * n := by simp [Reg.addr, Reg.HLK_CNT_BLK]; omega
  have hreg : regAt s.jd16 (Reg.HLK_CNT_BLK.addr n 0) = some (cntBlkRow, n, 0, true) := by
    rw [regAt_cntBlk s.jd16 n h16, decide_eq_true hn']
  have hrc : cntBlkRow.rc ≠ 0 := by decide
  have hstored : readsStored (Reg.HLK_CNT_BLK.addr n 0) = true := by
    simp [readsStored, within, Reg.addr, Reg.HLK_CNT_BLK, Reg.OBS_STAT]; omega
  obtain ⟨hlow, hhigh⟩ := pair_cntBlk n h16
  have hvalue : s.busValue (Reg.HLK_CNT_BLK.addr n 0) = (s.wr Reg.HLK_CNT_BLK n 0 0, s.rd Reg.HLK_CNT_BLK n 0) := by
    rw [s.busValue_register (by simp [within]; omega) (by simp [within]; omega),
      State.regRead_clearing hreg hstored hrc hlow hhigh]
    have hcleared : s.rd Reg.HLK_CNT_BLK n 0 &&& ~~~(word cntBlkRow.rc) = 0 := by simp [cntBlkRow, word]
    exact Prod.ext (congrArg (s.wr Reg.HLK_CNT_BLK n 0) hcleared) (and_not_word_zero _)
  have hreach : s.reaches (.port p) (Reg.HLK_CNT_BLK.addr n 0) false = true :=
    (s.reaches_port_iff ..).2 ⟨by omega, hp, hawake, hmode, by omega⟩
  rw [exec_readToClear_of_clearing (State.wipeShut_of_not_wiping hwiping _) (State.gatedAddr_of_none_gated hgated _)
    hreach events (by rw [hvalue]; exact hreg) hrc, hvalue]
  rfl

/-- The latch after a read of the lower tick register (R10). -/
def State.tickLatch (s : State) : List (Nat × Word) :=
  s.latch.filter (fun e => e.1 != Reg.TB_TICK_LO.addr 0 0) ++ [(Reg.TB_TICK_LO.addr 0 0, s.rd Reg.TB_TICK_HI 0 0)]

theorem exec_lowerHalfRead_tick :
    exec (.lowerHalfRead (.port p) (Reg.TB_TICK_LO.addr 0 0)) s =
      .next { s with latch := s.tickLatch, answer := s.rd Reg.TB_TICK_LO 0 0 } := by
  have hvalue : s.busValue (Reg.TB_TICK_LO.addr 0 0) = ({ s with latch := s.tickLatch }, s.rd Reg.TB_TICK_LO 0 0) := by
    rw [s.busValue_register (by decide) (by decide),
      State.regRead_lowHalf (hi := Reg.TB_TICK_HI.addr 0 0) (regAt_tickLo _) (by decide) rfl (by decide)]
    exact Prod.ext rfl (and_not_word_zero _)
  have hreach : s.reaches (.port p) (Reg.TB_TICK_LO.addr 0 0) false = true :=
    (s.reaches_port_iff ..).2 ⟨by decide, hp, hawake, hmode, by decide⟩
  rw [exec_lowerHalfRead_of_open (State.wipeShut_of_not_wiping hwiping _) (State.gatedAddr_of_none_gated hgated _) hreach,
    hvalue]

end

/-- A read of the upper tick register answers what the read of the lower one latched. -/
theorem State.busRead_tickHi {u : State} {w : Word} (hgated : u.clk.gated = [])
    (hwipe : u.wipeShut (Reg.TB_TICK_HI.addr 0 0) = false)
    (hlatch : u.latch.find? (fun e => e.1 == Reg.TB_TICK_LO.addr 0 0) = some (Reg.TB_TICK_LO.addr 0 0, w)) :
    (u.busRead (Reg.TB_TICK_HI.addr 0 0)).2 = w := by
  rw [State.busRead_of_open hwipe (State.gatedAddr_of_none_gated hgated _), u.busValue_register (by decide) (by decide),
    State.regRead_latchedHalf (regAt_tickHi _) (by decide) rfl (by decide) (by decide) hlatch]

/-- Settles O4: each access passes the gates and meets a plain register, a counter of no pair, or the lower half of a pair. -/
theorem registerAccess : Obligations.RegisterAccess := by
  refine ⟨?_, ?_, ?_⟩
  · intro s p a v hawake hmode hwiping hgated hwait hheld hp ha
    exact exec_registerWrite_thr1 hawake hmode hwiping hgated hp hwait hheld ha v
  · intro s p n events hawake hmode hwiping hgated hp hn
    refine ⟨_, exec_readToClear_cntBlk hawake hmode hwiping hgated hp hn events, rfl, State.rd_wr_same .., ?_,
      rfl, rfl, rfl, rfl⟩
    intro addr hne
    rw [State.rdA_wr, if_neg hne]
    exact (s.rdA_wr ..).trans (if_neg hne)
  · intro s p later hawake hmode hwiping hgated hp
    refine ⟨_, exec_lowerHalfRead_tick hawake hmode hwiping hgated hp, rfl, rfl, rfl, rfl, rfl, rfl, ?_⟩
    intro u hwipe
    exact State.busRead_tickHi hgated hwipe (find?_latch _ _ _)

/-! ## States that meet the hypotheses -/

/-- A JD1608 in Service past its wipe, every other register at its reset value. -/
def smallInService : State := { State.reset with jd16 := false, regs := [(0x00000004, 2), (0x00020000, 0x00000401)] }

/-- Port 8 is on the JD3216 alone: training it does nothing on the JD1608. -/
theorem trainPort8_smallInService :
    exec (.registerWrite (.port 0) (Reg.HLK_CTRL.addr 8 0) 3) smallInService = .next smallInService :=
  (absentInstances smallInService (.port 0) (Reg.HLK_CTRL.addr 8 0) (by decide) rfl rfl (by decide)
    (.inl ⟨⟨⟨0x000, 1, 4, 0x5000, 0xF005, 0, 2, 0, 0⟩, 8, 0, by decide⟩, by decide, by decide⟩)).2 (by decide) 3

/-- Sequencer 16 is on the JD3216 alone: its control store reads zero on the JD1608. -/
theorem readStore16_smallInService :
    exec (.lowerHalfRead (.port 1) 0x01200000) smallInService = .next { smallInService with answer := 0 } :=
  ((absentInstances smallInService (.port 1) 0x01200000 (by decide) rfl rfl (by decide)
    (.inr ⟨by decide, by decide, by decide⟩)).1 (by decide)).1

/-- Servo engine 15, the last one of the JD1608, takes a threshold. -/
theorem writeThr1_smallInService (v : Word) :
    exec (.registerWrite (.port 1) (Reg.SRV_THR1.addr 15 0) v) smallInService =
      .next (smallInService.store Reg.SRV_THR1 15 0 v) :=
  registerAccess.1 smallInService 1 15 v rfl (by decide) (by decide) rfl rfl rfl (by decide) (by decide)

end Sys2Proof.Machine
end

section
/-!
PROOFS. What a write of a register and the record of an event leave alone: a frame with the registers that may change, which
the operations that record compose.
-/

namespace Sys2Proof.Machine

/-! ## States that differ in their records alone -/

/-- `t` is `s` but for registers at addresses of `P`, the Attic's own state and the marks of quiet injections: what recording
an event or a cause, and writing registers, can change (R476, R494). -/
def State.RecordsIn (P : Nat → Prop) (s t : State) : Prop :=
  (∃ quiet atc regs, t = { s with glb := { s.glb with quiet := quiet }, atc := atc, regs := regs }) ∧
    ∀ a, ¬ P a → t.rdA a = s.rdA a

namespace State.RecordsIn

variable {P Q : Nat → Prop} {s t u : State}

theorem refl (P : Nat → Prop) (s : State) : RecordsIn P s s := ⟨⟨s.glb.quiet, s.atc, s.regs, rfl⟩, fun _ _ => rfl⟩

theorem trans (h : RecordsIn P s t) (k : RecordsIn P t u) : RecordsIn P s u := by
  obtain ⟨⟨q, x, r, rfl⟩, hreg⟩ := h
  obtain ⟨⟨q', x', r', rfl⟩, kreg⟩ := k
  exact ⟨⟨q', x', r', rfl⟩, fun a ha => (kreg a ha).trans (hreg a ha)⟩

theorem mono (h : RecordsIn P s t) (hPQ : ∀ a, P a → Q a) : RecordsIn Q s t :=
  ⟨h.1, fun a ha => h.2 a fun hp => ha (hPQ a hp)⟩

theorem rdA_eq (h : RecordsIn P s t) {a : Nat} (ha : ¬ P a) : t.rdA a = s.rdA a := h.2 a ha

theorem dormant_eq (h : RecordsIn P s t) : t.glb.dormant = s.glb.dormant := by obtain ⟨⟨q, x, r, rfl⟩, -⟩ := h; rfl
theorem pending_eq (h : RecordsIn P s t) : t.pending = s.pending := by obtain ⟨⟨q, x, r, rfl⟩, -⟩ := h; rfl
theorem jd16_eq (h : RecordsIn P s t) : t.jd16 = s.jd16 := by obtain ⟨⟨q, x, r, rfl⟩, -⟩ := h; rfl
theorem sameBytes (h : RecordsIn P s t) : s.SameBytes t := by
  obtain ⟨⟨q, x, r, rfl⟩, -⟩ := h; exact ⟨rfl, rfl, rfl, rfl, rfl⟩

theorem foldl {α : Type} {f : State → α → State} {l : List α} (h : ∀ u, ∀ x ∈ l, RecordsIn P u (f u x)) (s : State) :
    RecordsIn P s (l.foldl f s) := by
  induction l generalizing s with
  | nil => exact refl P s
  | cons x l ih => exact (h s x (by simp)).trans (ih (fun u y hy => h u y (by simp [hy])) (f s x))

theorem wrA (s : State) {a : Nat} (w : Word) (ha : P a) : RecordsIn P s (s.wrA a w) :=
  ⟨⟨s.glb.quiet, s.atc, _, rfl⟩, fun b hb => by
    rw [State.rdA_wrA, if_neg]; rintro rfl; exact hb ha⟩

theorem wr (s : State) {r : Reg} {i j : Nat} (w : Word) (ha : P (r.addr i j)) : RecordsIn P s (s.wr r i j w) := wrA s w ha

theorem setFldJ (s : State) {f : Fld} {i j : Nat} (v : Nat) (ha : P (f.reg.addr i j)) : RecordsIn P s (s.setFldJ f i j v) :=
  wrA s _ ha

theorem setFld (s : State) {f : Fld} {i : Nat} (v : Nat) (ha : P (f.reg.addr i 0)) : RecordsIn P s (s.setFld f i v) :=
  wrA s _ ha

theorem setCauses (s : State) {src : Nat} (mask : Nat) (hstat : P ((Reg.FLT_STAT.flt src).addr 0 0))
    (hsum : P (Reg.GLB_FSUM.addr 0 (src / 32))) : RecordsIn P s (s.setCauses src mask) :=
  (wr s _ hstat).trans (wr _ _ hsum)

theorem attic (s : State) (x : AtcS) : RecordsIn P s { s with atc := x } :=
  ⟨⟨s.glb.quiet, x, s.regs, rfl⟩, fun _ _ => rfl⟩

theorem quiet (s : State) (q : List (Nat × Nat)) : RecordsIn P s { s with glb := { s.glb with quiet := q } } :=
  ⟨⟨q, s.atc, s.regs, rfl⟩, fun _ _ => rfl⟩

end State.RecordsIn

/-- Any register may change. -/
def anyReg (_ : Nat) : Prop := True

theorem State.lcSettle_records (s : State) : State.RecordsIn anyReg s s.lcSettle := by
  have hopen (o t st : Nat) : State.RecordsIn anyReg s
      ((((s.setFld Reg.FUS_LC_OBS_OPEN 0 o).setFld Reg.FUS_LC_TAP_OPEN 0 t).setFld Reg.OBS_STAT_OPEN 0 o).setFld
        Reg.PRC_STAT_LC 0 st) :=
    (((RecordsIn.setFld s o trivial).trans (.setFld _ t trivial)).trans (.setFld _ o trivial)).trans (.setFld _ st trivial)
  unfold State.lcSettle
  dsimp only
  split
  · exact hopen _ _ _
  · exact (hopen _ _ _).trans (.foldl (fun u _ _ => .wr u 0 trivial) _)

/-- The registers that an event's record can change: the Attic's block with its fault group, and GLB_FSUM 0, which shows
that group (R494). -/
def atticReg (a : Nat) : Prop := a = 0x20 ∨ 0x30000 ≤ a

theorem State.pushHist_records (s : State) (e : Word) : State.RecordsIn atticReg s (s.pushHist srcATC e) := by
  have hhist (j : Nat) : atticReg ((Reg.FLT_HIST.flt srcATC).addr 0 j) := by
    refine .inr ?_
    simp [Reg.addr, Reg.flt, Reg.FLT_HIST, srcATC, faultBase]
    omega
  unfold State.pushHist
  exact (RecordsIn.foldl (fun u _ _ => .wr u _ (hhist _)) s).trans (.wr _ e (hhist 0))

theorem State.noteCause_records (s : State) (bit : Nat) (inj quiet : Bool) :
    State.RecordsIn atticReg s (s.noteCause srcATC bit inj quiet) := by
  unfold State.noteCause
  dsimp only
  exact .trans (.trans (.trans (.quiet s _) (.setCauses _ _ (.inr (by decide)) (.inl (by decide))))
    (State.pushHist_records _ _)) (.wr _ _ (.inr (by decide)))

/-- An event is recorded, dropped or not a trigger at all: the rest of the device does not see it (R491, R494). -/
theorem State.atticEvent_records (s : State) (trig : Nat) (snaps : List Word) :
    State.RecordsIn atticReg s (s.atticEvent trig snaps) := by
  unfold State.atticEvent State.attic
  split
  · split
    · exact .attic _ _
    · exact ((RecordsIn.wr s _ (.inr (by decide))).trans (State.noteCause_records _ 0 false false)).trans (.attic _ _)
  · exact .refl _ _

end Sys2Proof.Machine
end

section
/-!
PROOFS. A device without main rails (R33, R528): what a command of a unit on the main rails answers in Dormant, what the loss
of the main rails leaves waiting, and that a device at rest stays at rest.
-/
namespace Sys2Proof.Machine

/-! ## The loss of the main rails (R528) -/

@[simp] theorem State.lcSettle_pending (s : State) : s.lcSettle.pending = s.pending := s.lcSettle_records.pending_eq
@[simp] theorem State.lcSettle_dormant (s : State) : s.lcSettle.glb.dormant = s.glb.dormant := s.lcSettle_records.dormant_eq

@[simp] theorem State.burned_pending (s : State) (st : Nat) : (s.burned st).pending = s.pending := by
  unfold State.burned
  split <;> simp

/-- The causes of the units on the housekeeping rail shown again, as `lowState` leaves them. -/
theorem State.settleCauses_records (s : State) (srcs : List Nat) :
    State.RecordsIn anyReg s (srcs.foldl (fun u src => u.setCauses src (u.causes src)) s) :=
  .foldl (fun u _ _ => .setCauses u _ trivial trivial) s

@[simp] theorem State.lowState_pending (s : State) (glb : GlbS) : (s.lowState glb).pending = s.pending :=
  (State.settleCauses_records _ _).pending_eq

@[simp] theorem State.lowState_dormant (s : State) (glb : GlbS) : (s.lowState glb).glb.dormant = glb.dormant :=
  (State.settleCauses_records _ _).dormant_eq

/-- The loss of the main rails makes the device Dormant and leaves its queue. -/
theorem exec_mainRailFail_awake (s : State) (hawake : s.glb.dormant = false) :
    ∃ t : State, exec .mainRailFail s = .next t ∧ t.glb.dormant = true ∧ t.pending = s.pending := by
  refine ⟨_, (congrArg Host.Outcome.next (if_neg (by simp [hawake])) : execMainRailFail s = _), by simp, ?_⟩
  simp only [State.setFld_pending, State.lcSettle_pending, State.lowState_pending, State.burned_pending]
  split <;> simp [(State.atticEvent_records s _ _).pending_eq]

/-! ## Commands without rails (R33) -/

theorem State.ptpOn_dormant {s : State} (hd : s.glb.dormant = true) (p : Nat) (m : PtpMsg) (type : Nat) :
    s.ptpOn p m type = false := by
  simp [State.ptpOn, hd]

theorem State.boundaryDue_dormant {s : State} (hd : s.glb.dormant = true) : s.boundaryDue = false := by
  simp [State.boundaryDue, hd]

/-- A command of a unit that the main rails feed has no effect in Dormant: most are guarded as a whole by `State.powered`;
those of the clocks, the resets, the fences and the time base test the rails beside their own conditions. -/
theorem exec_of_dormant (s : State) (c : Instr) (hd : s.glb.dormant = true) (hrail : c.onMainRails = true) :
    exec c s = .next s := by
  cases c
  all_goals simp only [exec]
  any_goals exact State.powered_dormant s _ hd
  any_goals contradiction
  case timeBaseTick | refSelect | refSourceFail | refSourceGood | holdoverTimeout | pllLock | pllLockLost | clockGate
      | clockUngate | sramWipeEnd | wipeEnd | mainRailFail | serviceRequest | temperatureSample | fenceWrite | syncTimeout
      | syncInterval =>
    simp [execTimeBaseTick, execRefSelect, execRefSourceFail, execRefSourceGood, execHoldoverTimeout, execPllLock,
      execPllLockLost, execClockGate, execClockUngate, execSramWipeEnd, execWipeEnd, execMainRailFail, execServiceRequest,
      execTemperatureSample, execFenceWrite, execSyncTimeout, execSyncInterval, hd]
  case ptpAnnounce | ptpSync | ptpFollowUp | ptpDelayReq | ptpDelayResp =>
    simp [execPtpAnnounce, execPtpSync, execPtpFollowUp, execPtpDelayReq, execPtpDelayResp, State.ptpOn_dormant hd]
  case epochBoundary => simp [execEpochBoundary, State.boundaryDue_dormant hd]
  case refresh => rfl

/-! ## The rest -/

theorem State.restsDormant_iff (s : State) :
    s.restsDormant = true ↔ s.glb.dormant = true ∧ ∀ c ∈ s.pending, c.onMainRails = true := by
  simp [State.restsDormant]

/-- A device at rest takes the oldest command off its queue and stays at rest. -/
theorem step_of_restsDormant (s : State) (hrest : s.restsDormant = true) :
    step s = .next { s with pending := s.pending.tail } ∧
      State.restsDormant { s with pending := s.pending.tail } = true := by
  obtain ⟨hd, hrails⟩ := s.restsDormant_iff.1 hrest
  refine ⟨?_, (State.restsDormant_iff _).2 ⟨hd, fun c hc => hrails c (List.mem_of_mem_tail hc)⟩⟩
  cases hq : s.pending with
  | nil =>
    simp only [step, hq, List.tail_nil]
    rw [← hq]
  | cons c rest =>
    rw [step, hq]
    exact exec_of_dormant { s with pending := rest } c hd (hrails c (by simp [hq]))

/-- Settles O54: no command of a rail-fed unit takes effect in Dormant, and the loss of the rails leaves the queue as it was. -/
theorem dormantDeviceRests : Obligations.DormantDeviceRests := by
  refine ⟨exec_of_dormant, ?_, ?_⟩
  · intro s t hrest hstep
    obtain ⟨hnext, hkeeps⟩ := step_of_restsDormant s hrest
    obtain rfl := Host.Outcome.next.inj (hnext.symm.trans hstep)
    exact ⟨hkeeps, rfl⟩
  · intro s rest hawake _ hpending hrails
    obtain ⟨t, hexec, hd, hqueue⟩ := exec_mainRailFail_awake { s with pending := rest } hawake
    refine ⟨t, by rw [step, hpending]; exact hexec, t.restsDormant_iff.2 ⟨hd, ?_⟩⟩
    rw [hqueue]
    exact List.all_eq_true.1 hrails

/-- A device whose rails have gone with a Read and a tick still waiting. -/
def darkWithRead : State := { State.reset with glb := { dormant := true }, pending := [.read 0 5, .timeBaseTick] }

/-- Its Read is taken and has no effect, and it rests with the tick. -/
theorem step_darkWithRead : step darkWithRead = .next { darkWithRead with pending := [.timeBaseTick] } :=
  (step_of_restsDormant darkWithRead (by decide)).1

end Sys2Proof.Machine
end

section
/-!
PROOFS. How a microword issues and flows (R392, R416): what the issue and the flow leave alone, and what they show in SEQ_STAT
and SEQ_CNT_WORDS; then CREDIT (R25, R398).
-/

namespace Sys2Proof.Machine

/-! ## Issue and flow -/

theorem State.fld_bump_ne (s : State) (f : Fld) (r : Reg) (i n : Nat) (h : f.reg.addr i 0 ≠ r.addr i 0) :
    (s.bump r i n).fld f i = s.fld f i := congrArg f.get (State.rd_wr_ne _ _ _ _ _ _ _ _ h)

/-- The registers of one sequencer lie at different offsets. -/
theorem seqReg_addr_ne {r r' : Reg} (q : Nat) (hbase : r.base = r'.base) (hstride : r.stride = r'.stride)
    (hoff : r.off ≠ r'.off) : r.addr q 0 ≠ r'.addr q 0 := by
  simp only [Reg.addr, hbase, hstride]
  omega

/-- The counts of words and of refusals lie beside SEQ_STAT. -/
theorem State.fld_bump_words (s : State) (q : Nat) {f : Fld} (hf : f.reg = Reg.SEQ_STAT) :
    (s.bump Reg.SEQ_CNT_WORDS q 1).fld f q = s.fld f q :=
  State.fld_bump_ne s f Reg.SEQ_CNT_WORDS q 1 (hf ▸ seqReg_addr_ne (r := Reg.SEQ_STAT) q rfl rfl (by decide))

theorem State.fld_bump_rf (s : State) (q : Nat) {f : Fld} (hf : f.reg = Reg.SEQ_STAT) :
    (s.bump Reg.SEQ_CNT_RF q 1).fld f q = s.fld f q :=
  State.fld_bump_ne s f Reg.SEQ_CNT_RF q 1 (hf ▸ seqReg_addr_ne (r := Reg.SEQ_STAT) q rfl rfl (by decide))

@[simp] theorem State.inFast_issue (s : State) (q : Nat) : (s.issue q).inFast q = s.inFast q := by
  simp only [State.inFast, State.flag, State.issue]
  rw [State.fld_bump_words _ q rfl,
    State.fld_setFld_beside s Reg.SEQ_STAT_PC Reg.SEQ_STAT_IN_FAST q _ rfl (by decide) (by decide) (by decide)]

@[simp] theorem State.gr_issue (s : State) (q r : Nat) : (s.issue q).gr q r = s.gr q r := by
  simp only [State.gr, State.inFast_issue]; rfl

theorem State.rd_issue_words (s : State) (q : Nat) :
    (s.issue q).rd Reg.SEQ_CNT_WORDS q 0 = word ((s.rd Reg.SEQ_CNT_WORDS q 0).toNat + 1) := by
  have hkeep : (s.setFld Reg.SEQ_STAT_PC q (s.sq q).pc).rd Reg.SEQ_CNT_WORDS q 0 = s.rd Reg.SEQ_CNT_WORDS q 0 :=
    State.rd_wr_ne _ Reg.SEQ_STAT _ _ _ _ _ _ (seqReg_addr_ne q rfl rfl (by decide))
  rw [State.issue, State.bump, State.rd_wr_same, hkeep]

theorem State.fld_issue_pc (s : State) (q : Nat) : (s.issue q).fld Reg.SEQ_STAT_PC q = (s.sq q).pc % 2 ^ 15 := by
  rw [State.issue, State.fld_bump_words _ q rfl, State.fld_setFld_same _ _ _ _ (by decide) (by decide)]
  rfl

@[simp] theorem State.gr_goTo (s : State) (q a r : Nat) : (s.goTo q a).gr q r = s.gr q r := by
  simp [State.goTo, State.gr]

@[simp] theorem State.fl_goTo (s : State) (q a k : Nat) : (s.goTo q a).fl q k = s.fl q k := by
  simp [State.goTo, State.fl]

/-- A condition does not look at the address. -/
theorem State.wordCond_goTo (s : State) (q a : Nat) (w : Mw) : (s.goTo q a).wordCond q w = s.wordCond q w := by
  have hlevels : (s.goTo q a).levelBits q = s.levelBits q := by simp [State.levelBits, State.goTo]
  have hpend : (s.goTo q a).pendEnabled q = s.pendEnabled q := by
    simp only [State.pendEnabled, State.pendBits, hlevels]; rfl
  have hcond (k : Nat) : (s.goTo q a).condTrue q k = s.condTrue q k := by
    simp only [State.condTrue, State.fl_goTo, hpend]
    simp [State.goTo, State.claimed, State.fldJ, State.actFenced, State.hdaFenced, State.fenced]
  simp [State.wordCond, hcond]

/-- A word whose work keeps what the issue showed has flowed. -/
theorem State.flowed_flow {s u : State} {q : Nat}
    (hwords : u.rd Reg.SEQ_CNT_WORDS q 0 = (s.issue q).rd Reg.SEQ_CNT_WORDS q 0)
    (hpc : u.fld Reg.SEQ_STAT_PC q = (s.issue q).fld Reg.SEQ_STAT_PC q) : s.Flowed (u.flow q (s.mw q)) q := by
  refine ⟨hwords.trans (s.rd_issue_words q), hpc.trans (s.fld_issue_pc q), ?_⟩
  rw [State.flow, State.wordCond_goTo]
  simp [State.goTo]

theorem State.plainWord_of_canIssue {s : State} {q op : Nat} (h : s.canIssue q op = true) (f : State → Mw → State) :
    s.plainWord q op f = (f (s.issue q) (s.mw q)).flow q (s.mw q) := if_pos h

theorem State.SameBytes.trans {s t u : State} (h : s.SameBytes t) (k : t.SameBytes u) : s.SameBytes u := by
  obtain ⟨h1, h2, h3, h4, h5⟩ := h
  obtain ⟨k1, k2, k3, k4, k5⟩ := k
  exact ⟨k1.trans h1, k2.trans h2, k3.trans h3, k4.trans h4, k5.trans h5⟩

/-! ## What flow, flags and counts leave alone -/

@[simp] theorem State.flow_stm (s : State) (q : Nat) (w : Mw) : (s.flow q w).stm = s.stm := rfl
@[simp] theorem State.flow_sameBytes (s u : State) (q : Nat) (w : Mw) : s.SameBytes (u.flow q w) ↔ s.SameBytes u := Iff.rfl
@[simp] theorem State.setFl_stm (s : State) (q k : Nat) (b : Bool) : (s.setFl q k b).stm = s.stm := rfl

/-! ## A request granted and a request refused (R398) -/

@[simp] theorem State.setRF_false (s : State) (q : Nat) : s.setRF q false = s.setFl q flRF false := rfl
@[simp] theorem State.setRF_true (s : State) (q : Nat) : s.setRF q true = (s.setFl q flRF true).bump Reg.SEQ_CNT_RF q 1 := rfl

@[simp] theorem State.fl_bump (s : State) (r : Reg) (i n q k : Nat) : (s.bump r i n).fl q k = s.fl q k := rfl

@[simp] theorem State.gr_bump_rf (s : State) (q r : Nat) : (s.bump Reg.SEQ_CNT_RF q 1).gr q r = s.gr q r := by
  have hfast : (s.bump Reg.SEQ_CNT_RF q 1).inFast q = s.inFast q := by
    rw [State.inFast, State.flag, State.fld_bump_rf _ q rfl]; rfl
  simp only [State.gr, hfast]; rfl

/-- A word that refuses its request and does nothing else: RF set, everything else as the issue and the flow leave it. -/
theorem State.refuse_flow (s : State) (q : Nat) :
    let t := ((s.issue q).setRF q true).flow q (s.mw q)
    t.fl q flRF = true ∧ (∀ r, t.gr q r = s.gr q r) ∧ t.stm = s.stm ∧ s.Flowed t q ∧ s.SameBytes t := by
  refine ⟨?_, fun r => ?_, ?_, State.flowed_flow ?_ ?_, ?_⟩
  · rw [State.flow, State.fl_goTo, State.setRF_true, State.fl_bump, State.fl_setFl_same _ _ _ _ (by decide)]
  · rw [State.flow, State.gr_goTo, State.setRF_true, State.gr_bump_rf, State.gr_setFl, State.gr_issue]
  · simp [State.issue]
  · rw [State.setRF_true, State.bump, State.rd_wr_ne _ Reg.SEQ_CNT_RF Reg.SEQ_CNT_WORDS _ _ _ _ _
      (seqReg_addr_ne q rfl rfl (by decide)), State.setFl, State.rd_setSq]
  · rw [State.setRF_true, State.fld_bump_rf _ q rfl, State.setFl, State.fld_setSq]
  · rw [State.flow_sameBytes]
    simp [State.SameBytes, State.issue, State.setFl]

/-! ## CREDIT (R25, R398) -/

/-- The soft slot that is taken is the lowest free one. -/
theorem State.freeSoft_spec {s : State} {k : Nat} (h : s.freeSoft = some k) : k ∉ s.stm.soft ∧ k < s.nSoft := by
  have hfree : s.stm.soft.contains k = false := by simpa using List.find?_some h
  exact ⟨by simpa using hfree, List.mem_range.1 (List.mem_of_find?_eq_some h)⟩

theorem State.nSoft_le (s : State) : s.nSoft ≤ 720 := by
  unfold State.nSoft
  split <;> omega

theorem State.takeCredits_of_free {s : State} {k : Nat} (hk : s.freeSoft = some k) (hd : s.stm.dcred < s.nDcred) :
    s.takeCredits = ({ s with stm := { s.stm with soft := s.stm.soft ++ [k], dcred := s.stm.dcred + 1 } }, some k) := by
  simp [State.takeCredits, hk, hd]

/-- With both credits free they are taken, and no register, general register or byte changes. -/
theorem State.takeCredits_frame {s : State} {k : Nat} (hk : s.freeSoft = some k) (hd : s.stm.dcred < s.nDcred) :
    ∃ u : State, s.takeCredits = (u, some k) ∧ u.stm.soft = s.stm.soft ++ [k] ∧ u.stm.dcred = s.stm.dcred + 1 ∧
      u.regs = s.regs ∧ u.jd16 = s.jd16 ∧ (∀ q r, u.gr q r = s.gr q r) ∧ s.SameBytes u :=
  ⟨_, State.takeCredits_of_free hk hd, rfl, rfl, rfl, rfl, fun _ _ => rfl, rfl, rfl, rfl, rfl, rfl⟩

theorem State.takeCredits_exhausted {s : State} (h : s.freeSoft = none ∨ s.nDcred ≤ s.stm.dcred) :
    s.takeCredits = (s, none) := by
  unfold State.takeCredits
  split
  · next k hk =>
    rw [if_neg]
    simp only [hk, reduceCtorEq, false_or] at h
    omega
  · rfl

/-- Bits 9 to 0 of a word replaced by the number of a soft slot (R398). -/
theorem toNat_putSoft (w : Word) {k : Nat} (hk : k < 1024) :
    (word (putBits w.toNat 9 0 k)).toNat = w.toNat / 1024 * 1024 + k := by
  have hw := w.isLt
  have hput : putBits w.toNat 9 0 k = w.toNat / 1024 * 1024 + k := by
    simp only [putBits]
    omega
  rw [hput, word, BitVec.toNat_ofNat, Nat.mod_eq_of_lt]
  omega

theorem State.setGr_sameRest (s : State) (q r : Nat) (v : Word) :
    (s.setGr q r v).regs = s.regs ∧ (s.setGr q r v).jd16 = s.jd16 ∧ (s.setGr q r v).stm = s.stm ∧
      s.SameBytes (s.setGr q r v) := by
  obtain ⟨g, sh, h⟩ := s.setGr_eq q r v
  rw [h]
  exact ⟨rfl, rfl, rfl, rfl, rfl, rfl, rfl, rfl⟩

/-- A word that grants its request with a value in one register, from a state `u` with the registers that the issue left. -/
theorem State.grant_flow {s u : State} {q : Nat} (d : Nat) (v : Word) (hregs : u.regs = (s.issue q).regs)
    (hjd : u.jd16 = (s.issue q).jd16) (hgr : ∀ r, u.gr q r = s.gr q r) :
    let t := ((u.setGr q d v).setRF q false).flow q (s.mw q)
    t.fl q flRF = false ∧ t.gr q d = v ∧ s.SameGrs t q d ∧ t.stm = u.stm ∧ s.Flowed t q ∧ u.SameBytes t := by
  obtain ⟨hr, hj, hstm, hbytes⟩ := u.setGr_sameRest q d v
  refine ⟨?_, ?_, fun r hne => ?_, ?_, State.flowed_flow ?_ ?_, (State.flow_sameBytes ..).2 hbytes⟩
  · rw [State.flow, State.fl_goTo, State.setRF_false, State.fl_setFl_same _ _ _ _ (by decide)]
  · rw [State.flow, State.gr_goTo, State.setRF_false, State.gr_setFl, State.gr_setGr_same]
  · rw [State.flow, State.gr_goTo, State.setRF_false, State.gr_setFl, State.gr_setGr_ne _ _ _ _ _ hne, hgr]
  · rw [State.flow_stm, State.setRF_false, State.setFl_stm, hstm]
  · rw [State.setRF_false, State.setFl, State.rd_setSq]
    exact State.rdA_congr (hr.trans hregs) (hj.trans hjd) _
  · rw [State.setRF_false, State.setFl, State.fld_setSq]
    exact State.fld_congr (hr.trans hregs) (hj.trans hjd) _ _

section
variable {s : State} {q : Nat} (hawake : s.glb.dormant = false) (hissue : s.canIssue q 0x4B = true)
  (hplace : ¬ (32 ≤ q ∨ 9 < (s.mw q).dHead))
include hawake hissue hplace

theorem exec_credit_free {u : State} {k : Nat} (htake : (s.issue q).takeCredits = (u, some k)) :
    exec (.credit q) s = .next (((u.setGr q (s.mw q).dA
      (word (putBits (u.gr q (s.mw q).dA).toNat 9 0 k))).setRF q false).flow q (s.mw q)) := by
  show execCredit q s = _
  rw [execCredit, State.powered_awake _ _ hawake, State.plainWord_of_canIssue hissue, if_neg hplace, htake]

theorem exec_credit_exhausted {u : State} (htake : (s.issue q).takeCredits = (u, none)) :
    exec (.credit q) s = .next ((u.setRF q true).flow q (s.mw q)) := by
  show execCredit q s = _
  rw [execCredit, State.powered_awake _ _ hawake, State.plainWord_of_canIssue hissue, if_neg hplace, htake]

end

@[simp] theorem State.issue_stm (s : State) (q : Nat) : (s.issue q).stm = s.stm := rfl
@[simp] theorem State.freeSoft_issue (s : State) (q : Nat) : (s.issue q).freeSoft = s.freeSoft := rfl
@[simp] theorem State.nDcred_issue (s : State) (q : Nat) : (s.issue q).nDcred = s.nDcred := rfl
theorem State.issue_sameBytes (s : State) (q : Nat) : s.SameBytes (s.issue q) := ⟨rfl, rfl, rfl, rfl, rfl⟩

/-- Settles O13: CREDIT takes what `takeCredits` finds, or is refused. -/
theorem creditWord : Obligations.CreditWord := by
  intro s q hawake hissue hq hhead
  have hplace : ¬ (32 ≤ q ∨ 9 < (s.mw q).dHead) := by omega
  refine ⟨fun k hk hd => ?_, fun hout => ?_⟩
  · obtain ⟨hnot, hlt⟩ := State.freeSoft_spec hk
    have hsmall : k < 1024 := by have := s.nSoft_le; omega
    obtain ⟨u, htake, hsoft, hdcred, hregs, hjd, hgr, hsame⟩ :=
      State.takeCredits_frame (s := s.issue q) (by simpa using hk) (by simpa using hd)
    replace hgr (r : Nat) : u.gr q r = s.gr q r := (hgr q r).trans (s.gr_issue q r)
    obtain ⟨hrf, hslot, hgrs, hstm, hflow, hbytes⟩ := State.grant_flow (s.mw q).dA
      (word (putBits (u.gr q (s.mw q).dA).toNat 9 0 k)) hregs hjd hgr
    refine ⟨_, exec_credit_free hawake hissue hplace htake, hrf, ?_, hgrs, ?_, ?_, hnot, hlt, hflow, ?_⟩
    · rw [hslot, toNat_putSoft _ hsmall, hgr]
    · rw [hstm, hsoft, State.issue_stm]
    · rw [hstm, hdcred, State.issue_stm]
    · exact ((s.issue_sameBytes q).trans hsame).trans hbytes
  · have htake := State.takeCredits_exhausted (s := s.issue q) (by simpa using hout)
    exact ⟨_, exec_credit_exhausted hawake hissue hplace htake, s.refuse_flow q⟩

/-- Sequencer 3 about to issue a CREDIT that names its slot in g5. -/
def creditReady : State := Tests.runs Tests.w0 3 (Tests.mwd [(127, 120, 0x4B), (78, 73, 5)])
/-- It takes soft slot 0 of a device that has granted nothing. -/
theorem credit_creditReady : ∃ t : State, exec (.credit 3) creditReady = .next t ∧ t.fl 3 flRF = false ∧
    t.stm.soft = [0] := by
  have hfree : creditReady.freeSoft = some 0 :=
    List.find?_range_eq_some.2 ⟨by decide, List.mem_range.2 (by decide), fun m hm => absurd hm (Nat.not_lt_zero m)⟩
  obtain ⟨t, hexec, hrf, -, -, hsoft, -⟩ :=
    (creditWord creditReady 3 (by decide) (by decide) (by decide) (by decide)).1 0 hfree (by decide)
  exact ⟨t, hexec, hrf, hsoft⟩

end Sys2Proof.Machine
end

section
/-!
PROOFS. The claim table (R34, R512 to R516): what a claim operation writes, and that its record in the Attic leaves the
claim registers alone.
-/

namespace Sys2Proof.Machine

/-! ## The claim registers (R447) -/

theorem claim_not_atticReg {k : Nat} (hk : k < 4) : ¬ atticReg (Reg.GLB_CLAIM.addr 0 k) := by
  simp only [atticReg, Reg.addr, Reg.GLB_CLAIM]
  omega

theorem claimt_not_atticReg {j : Nat} (hj : j < 32) : ¬ atticReg (Reg.GLB_CLAIMT.addr 0 j) := by
  simp only [atticReg, Reg.addr, Reg.GLB_CLAIMT]
  omega

theorem claimt_addr_ne_claim {j k : Nat} (hk : k < 4) : Reg.GLB_CLAIMT.addr 0 j ≠ Reg.GLB_CLAIM.addr 0 k := by
  simp only [Reg.addr, Reg.GLB_CLAIMT, Reg.GLB_CLAIM]
  omega

theorem claimt_addr_inj {j m : Nat} : Reg.GLB_CLAIMT.addr 0 m = Reg.GLB_CLAIMT.addr 0 j ↔ m = j := by
  simp only [Reg.addr, Reg.GLB_CLAIMT]
  omega

/-- A write of a register changes that register at most (R8, R12). -/
theorem State.store_records (s : State) (r : Reg) (i j : Nat) (v : Word) :
    State.RecordsIn (· = r.addr i j) s (s.store r i j v) := by
  unfold State.store State.plainWrite
  split
  · split
    · exact .wrA s _ rfl
    · exact .refl _ s
  · exact .refl _ s

/-! ## The agents' registers (R515, R516) -/

theorem State.claimWrite_of_other {ag : Agent} {k : Nat} (h : claimAgent ag ≠ some k) (s : State) (v : Word) :
    s.claimWrite ag k v = s := if_pos h

/-- The result of a claim operation fits its field (R514). -/
theorem State.claimResult_lt (s : State) (a : Nat) (release force : Bool) (t i : Nat) :
    s.claimResult a release force t i < 8 := by
  unfold State.claimResult
  repeat' split
  all_goals decide

/-- The state of a claim operation with its operands and its result in the agent's register. -/
def State.claimAnswered (s : State) (k : Nat) (v : Word) (r : Nat) : State :=
  (s.store Reg.GLB_CLAIM 0 k v).setFldJ Reg.GLB_CLAIM_RESULT 0 k r

theorem State.claimAnswered_records (s : State) (k : Nat) (v : Word) (r : Nat) :
    State.RecordsIn (· = Reg.GLB_CLAIM.addr 0 k) s (s.claimAnswered k v r) :=
  (s.store_records ..).trans (.setFldJ _ r rfl)

theorem State.claimAnswered_result (s : State) (k : Nat) (v : Word) {r : Nat} (hr : r < 8) :
    (s.claimAnswered k v r).fldJ Reg.GLB_CLAIM_RESULT 0 k = r := by
  rw [State.claimAnswered, State.fldJ_setFldJ_same _ _ _ _ _ (by decide) (by decide)]
  exact Nat.mod_eq_of_lt hr

/-- The table after an answer is the table that the operation looked at. -/
theorem State.claimAnswered_claimt (s : State) {k : Nat} (hk : k < 4) (v : Word) (r m : Nat) :
    (s.claimAnswered k v r).rd Reg.GLB_CLAIMT 0 m = (s.store Reg.GLB_CLAIM 0 k v).rd Reg.GLB_CLAIMT 0 m :=
  State.rd_wr_ne _ _ _ _ _ _ _ _ (claimt_addr_ne_claim hk)

theorem State.claimRows_congr {s t : State} (h : ∀ m, t.rd Reg.GLB_CLAIMT 0 m = s.rd Reg.GLB_CLAIMT 0 m) (ag : Option Nat)
    (ty i : Nat) : t.claimRows ag ty i = s.claimRows ag ty i := by
  have hf (f : Fld) (hf : f.reg = Reg.GLB_CLAIMT) (m : Nat) : t.fldJ f 0 m = s.fldJ f 0 m := by
    rw [State.fldJ, State.fldJ, hf, h]
  simp only [State.claimRows, hf Reg.GLB_CLAIMT_VALID rfl, hf Reg.GLB_CLAIMT_TYPE rfl, hf Reg.GLB_CLAIMT_INDEX rfl,
    hf Reg.GLB_CLAIMT_AGENT rfl]

/-! ## The table (R512, R514) -/

/-- The rows that a release frees are cleared. -/
def State.freeRows (s : State) (rows : List Nat) : State := rows.foldl (fun u j => u.wr Reg.GLB_CLAIMT 0 j 0) s

theorem State.freeRows_records (s : State) (rows : List Nat) :
    State.RecordsIn (fun a => ∃ j ∈ rows, a = Reg.GLB_CLAIMT.addr 0 j) s (s.freeRows rows) :=
  .foldl (fun u j hj => .wr u 0 ⟨j, hj, rfl⟩) s

theorem State.freeRows_rd (s : State) (rows : List Nat) (m : Nat) :
    (s.freeRows rows).rd Reg.GLB_CLAIMT 0 m = if m ∈ rows then 0 else s.rd Reg.GLB_CLAIMT 0 m := by
  induction rows generalizing s with
  | nil => rfl
  | cons j rows ih =>
    rw [State.freeRows, List.foldl_cons, ← State.freeRows, ih]
    by_cases hm : m ∈ rows
    · simp [hm]
    · by_cases hj : m = j
      · subst hj; simp [hm]
      · simp [hm, hj, State.rd_wr_ne _ Reg.GLB_CLAIMT Reg.GLB_CLAIMT _ _ _ _ _ (claimt_addr_inj.not.2 hj)]

/-- The records of a claim operation in the Attic, one for each row (R493). -/
def State.claimRecords (s : State) (k n : Nat) : State :=
  (List.range n).foldl (fun u _ => u.atticEvent 30 [u.rd Reg.GLB_CLAIM 0 k, u.rd Reg.GLB_MODE 0 0]) s

theorem State.claimRecords_records (s : State) (k n : Nat) : State.RecordsIn atticReg s (s.claimRecords k n) :=
  .foldl (fun u _ _ => u.atticEvent_records 30 _) s

/-- The lowest row with VALID clear is the one that a claim takes. -/
theorem State.freeRow_eq {s : State} {j : Nat} (hj : j < 32) (hfree : s.fldJ Reg.GLB_CLAIMT_VALID 0 j = 0)
    (hlow : ∀ m < j, s.fldJ Reg.GLB_CLAIMT_VALID 0 m = 1) :
    (List.range 32).find? (fun m => s.fldJ Reg.GLB_CLAIMT_VALID 0 m == 0) = some j := by
  rw [List.find?_range_eq_some]
  exact ⟨by simp [hfree], List.mem_range.2 hj, fun m hm => by simp [hlow m hm]⟩

/-! ## A claim operation (R513, R514) -/

section
variable {s : State} {ag : Agent} {k : Nat} {v : Word} (hawake : s.glb.dormant = false) (hk : k < 4)
  (hgo : Reg.GLB_CLAIM_GO.get v = 1)
include hawake hk hgo

theorem exec_claim_eq (hop : Reg.GLB_CLAIM_OP.get v = 0) : exec (.claim ag k v) s = .next (s.claimWrite ag k v) := by
  show execClaim ag k v s = _
  rw [execClaim, State.powered_awake _ _ hawake, if_pos ⟨hk, hgo, hop⟩]

theorem exec_claimRelease_eq (hop : Reg.GLB_CLAIM_OP.get v = 1) :
    exec (.claimRelease ag k v) s = .next (s.claimWrite ag k v) := by
  show execClaimRelease ag k v s = _
  rw [execClaimRelease, State.powered_awake _ _ hawake, if_pos ⟨hk, hgo, hop⟩]

end

section
variable {s : State} {ag : Agent} {k : Nat} {v : Word} (hag : claimAgent ag = some k) (hgo : Reg.GLB_CLAIM_GO.get v = 1)
include hag hgo

/-- An operation that a cause of R514 refuses answers it, and does nothing else. -/
theorem State.claimWrite_refused {r : Nat} (hr : r ≠ 1)
    (hres : (s.store Reg.GLB_CLAIM 0 k v).claimResult k (Reg.GLB_CLAIM_OP.get v == 1)
      (Reg.GLB_CLAIM_FORCE.get v == 1 && decide (k < 2)) (Reg.GLB_CLAIM_TYPE.get v) (Reg.GLB_CLAIM_INDEX.get v) = r) :
    s.claimWrite ag k v = s.claimAnswered k v r := by
  simp only [State.claimWrite, hag, hgo, hres, hr, ne_eq, not_true_eq_false, not_false_eq_true, one_ne_zero, if_false, if_true]
  rfl

/-- A claim that is granted takes the lowest free row. -/
theorem State.claimWrite_granted {j : Nat} (hop : Reg.GLB_CLAIM_OP.get v = 0)
    (hres : (s.store Reg.GLB_CLAIM 0 k v).claimResult k false (Reg.GLB_CLAIM_FORCE.get v == 1 && decide (k < 2))
      (Reg.GLB_CLAIM_TYPE.get v) (Reg.GLB_CLAIM_INDEX.get v) = 1)
    (hrow : (List.range 32).find? (fun m => (s.claimAnswered k v 1).fldJ Reg.GLB_CLAIMT_VALID 0 m == 0) = some j) :
    s.claimWrite ag k v = (((((s.claimAnswered k v 1).wr Reg.GLB_CLAIMT 0 j
      (word (2 ^ 31 + k * 2 ^ 29 + Reg.GLB_CLAIM_TYPE.get v * 2 ^ 20 + Reg.GLB_CLAIM_INDEX.get v))).claimRecords k 1).seqEvents
        (claimSeqs (Reg.GLB_CLAIM_TYPE.get v) (Reg.GLB_CLAIM_INDEX.get v)) 11).claimMode) := by
  rw [State.claimAnswered] at hrow
  simp only [State.claimWrite, hag, hgo, hop, hres, hrow, ne_eq, not_true_eq_false, one_ne_zero, if_false, Nat.reduceBEq,
    Bool.false_eq_true, Option.getD_some]
  rfl

/-- A release that is granted clears the rows of its unit: the agent's own, or with FORCE those of every agent. -/
theorem State.claimWrite_released (hop : Reg.GLB_CLAIM_OP.get v = 1)
    (hres : (s.store Reg.GLB_CLAIM 0 k v).claimResult k true (Reg.GLB_CLAIM_FORCE.get v == 1 && decide (k < 2))
      (Reg.GLB_CLAIM_TYPE.get v) (Reg.GLB_CLAIM_INDEX.get v) = 1) {rows : List Nat}
    (hrows : (s.claimAnswered k v 1).claimRows (if Reg.GLB_CLAIM_FORCE.get v == 1 && decide (k < 2) then none else some k)
      (Reg.GLB_CLAIM_TYPE.get v) (Reg.GLB_CLAIM_INDEX.get v) = rows) :
    s.claimWrite ag k v = (((((s.claimAnswered k v 1).freeRows rows).claimRecords k rows.length).seqEvents
        (claimSeqs (Reg.GLB_CLAIM_TYPE.get v) (Reg.GLB_CLAIM_INDEX.get v)) 11).claimMode) := by
  subst hrows
  simp only [State.claimWrite, hag, hgo, hop, hres, ne_eq, not_true_eq_false, one_ne_zero, if_false, Nat.reduceBEq, if_true]
  rfl

end

/-- Neither command of an agent's register does anything for another agent (R516). -/
theorem exec_claim_of_other {ag : Agent} {k : Nat} (hag : claimAgent ag ≠ some k) (s : State) (v : Word) :
    exec (.claim ag k v) s = .next s ∧ exec (.claimRelease ag k v) s = .next s := by
  have hpowered (c : Prop) [Decidable c] :
      (s.powered fun u => .next (if c then u.claimWrite ag k v else u)) = .next s := by
    simp only [State.powered, State.claimWrite_of_other hag, ite_self]
  exact ⟨hpowered _, hpowered _⟩

theorem exec_claim_refused {s : State} {ag : Agent} {k op : Nat} {v : Word} {i : Instr}
    (hi : (i, op) ∈ [(Instr.claim ag k v, 0), (.claimRelease ag k v, 1)]) (hawake : s.glb.dormant = false) (hk : k < 4)
    (hag : claimAgent ag = some k) (hgo : Reg.GLB_CLAIM_GO.get v = 1) (hop : Reg.GLB_CLAIM_OP.get v = op) {r : Nat}
    (hr : r ≠ 1) (hres : (s.store Reg.GLB_CLAIM 0 k v).claimResult k (op == 1)
      (Reg.GLB_CLAIM_FORCE.get v == 1 && decide (k < 2)) (Reg.GLB_CLAIM_TYPE.get v) (Reg.GLB_CLAIM_INDEX.get v) = r) :
    exec i s = .next (s.claimAnswered k v r) := by
  have hwrite : s.claimWrite ag k v = s.claimAnswered k v r :=
    State.claimWrite_refused hag hgo hr (by rw [hop]; exact hres)
  simp only [List.mem_cons, Prod.mk.injEq, List.not_mem_nil, or_false] at hi
  rcases hi with ⟨rfl, rfl⟩ | ⟨rfl, rfl⟩
  · rw [exec_claim_eq hawake hk hgo hop, hwrite]
  · rw [exec_claimRelease_eq hawake hk hgo hop, hwrite]

/-- What the claim registers show once a claim operation has changed the table and made its records. -/
theorem State.claimRecords_claim (s : State) {k m n : Nat} (hk : k < 4) (hm : m < 32) :
    (s.claimRecords k n).rd Reg.GLB_CLAIMT 0 m = s.rd Reg.GLB_CLAIMT 0 m ∧
      (s.claimRecords k n).fldJ Reg.GLB_CLAIM_RESULT 0 k = s.fldJ Reg.GLB_CLAIM_RESULT 0 k :=
  ⟨(s.claimRecords_records k n).rdA_eq (claimt_not_atticReg hm),
    congrArg Reg.GLB_CLAIM_RESULT.get ((s.claimRecords_records k n).rdA_eq (claim_not_atticReg hk))⟩

/-- The answer leaves the table. -/
theorem State.claimAnswered_claimt_eq (s : State) {k : Nat} (hk : k < 4) (v : Word) (r m : Nat) :
    (s.claimAnswered k v r).rd Reg.GLB_CLAIMT 0 m = s.rd Reg.GLB_CLAIMT 0 m :=
  (s.claimAnswered_records k v r).rdA_eq (claimt_addr_ne_claim hk)

/-- Settles O39: the answer, the table and the records are three writes that do not touch each other's registers. -/
theorem claims : Obligations.Claims := by
  refine ⟨?_, ?_, ?_, ?_⟩
  · intro s ag k v i hi hag
    obtain ⟨hclaim, hrelease⟩ := exec_claim_of_other hag s v
    simp only [List.mem_cons, List.not_mem_nil, or_false] at hi
    rcases hi with rfl | rfl
    · exact hclaim
    · exact hrelease
  · intro s ag k op v i hi hawake hk hag hgo hop u force r hr
    refine ⟨s.claimAnswered k v r, exec_claim_refused hi hawake hk hag hgo hop hr rfl,
      s.claimAnswered_result k v (u.claimResult_lt ..), ?_, (s.claimAnswered_records k v r).sameBytes⟩
    intro a ha
    exact (s.claimAnswered_records k v r).rdA_eq (by simpa using ha)
  · intro s ag k j v hawake hk hag hgo hop u ty i hres hj hfree hlow
    let y := (s.claimAnswered k v 1).wr Reg.GLB_CLAIMT 0 j (word (2 ^ 31 + k * 2 ^ 29 + ty * 2 ^ 20 + i))
    have hvalid (m : Nat) : (s.claimAnswered k v 1).fldJ Reg.GLB_CLAIMT_VALID 0 m = u.fldJ Reg.GLB_CLAIMT_VALID 0 m :=
      congrArg Reg.GLB_CLAIMT_VALID.get (s.claimAnswered_claimt hk v 1 m)
    have hrow := State.freeRow_eq hj ((hvalid j).trans hfree) fun m hm => (hvalid m).trans (hlow m hm)
    refine ⟨y.claimRecords k 1, ?_, ?_, ?_, fun m hm hne => ?_, ?_⟩
    · rw [exec_claim_eq hawake hk hgo hop, State.claimWrite_granted hag hgo hop hres hrow]
    · rw [(y.claimRecords_claim hk hj).1, State.rd_wr_same]
    · rw [(y.claimRecords_claim hk hj).2,
        ← s.claimAnswered_result k v (r := 1) (by decide)]
      exact congrArg Reg.GLB_CLAIM_RESULT.get (State.rd_wr_ne _ _ _ _ _ _ _ _ (claimt_addr_ne_claim hk).symm)
    · rw [(y.claimRecords_claim hk hm).1, State.rd_wr_ne _ _ _ _ _ _ _ _ (claimt_addr_inj.not.2 hne),
        s.claimAnswered_claimt_eq hk]
    · exact (s.claimAnswered_records k v 1).sameBytes.trans
        ((State.RecordsIn.wr (P := anyReg) _ _ trivial).sameBytes.trans (y.claimRecords_records k 1).sameBytes)
  · intro s ag k v hawake hk hag hgo hop u ty i force rows hres
    let y := (s.claimAnswered k v 1).freeRows rows
    have hrows : (s.claimAnswered k v 1).claimRows (if force then none else some k) ty i = rows :=
      State.claimRows_congr (s.claimAnswered_claimt hk v 1) _ _ _
    refine ⟨y.claimRecords k rows.length, ?_, fun j hj => ?_, fun m hm hne => ?_, ?_⟩
    · rw [exec_claimRelease_eq hawake hk hgo hop, State.claimWrite_released hag hgo hop hres hrows]
    · have hj32 : j < 32 := List.mem_range.1 (List.mem_of_mem_filter hj)
      rw [(y.claimRecords_claim hk hj32).1, State.freeRows_rd, if_pos hj]
    · rw [(y.claimRecords_claim hk hm).1, State.freeRows_rd, if_neg hne, s.claimAnswered_claimt_eq hk]
    · exact (s.claimAnswered_records k v 1).sameBytes.trans
        (((s.claimAnswered k v 1).freeRows_records rows).sameBytes.trans (y.claimRecords_records k _).sameBytes)

/-- Port 0 claims actuator 3 of a device that does not serve: result 6 of R514. -/
theorem claim_atReset : exec (.claim (.port 0) 0 0x80100003) State.reset =
    .next (State.reset.claimAnswered 0 0x80100003 6) :=
  exec_claim_refused (op := 0) (.head _) (by decide) (by decide) rfl (by decide) (by decide) (by decide) (by decide)

end Sys2Proof.Machine
end

section
/-!
PROOFS. The I/O commands on LBAs and zones (R19 to R23, R153, R157, R370, R373, R548): a new command in its slot, the checks of
a command on LBAs and its wait for admission, Flush, and the zone commands.
-/

namespace Sys2Proof.Machine

/-! ## A new command in its slot -/

theorem State.newCmd_spec {s : State} {p k op : Nat} {admin : Bool} {c : Cmd} (h : s.newCmd p k admin [op] = some c) :
    s.cmd p k = some c ∧ c.admin = admin ∧ c.opcode = op := by
  unfold State.newCmd at h
  split at h
  · next d hd =>
    simp only [Option.ite_none_right_eq_some, Option.some.injEq, Bool.and_eq_true, beq_iff_eq] at h
    obtain ⟨⟨⟨-, hadmin⟩, hop⟩, rfl⟩ := h
    exact ⟨hd, hadmin, by simpa using hop⟩
  · contradiction

theorem State.onCmd_of_new {s : State} {p k : Nat} {admin : Bool} {ops : List Nat} {c : Cmd}
    (h : s.newCmd p k admin ops = some c) (f : Cmd → State) : s.onCmd p k admin ops f = f c := by
  simp [State.onCmd, h]

/-! ## A command's wait for admission (R268) -/

@[simp] theorem State.cmd_setCmd_same (s : State) (p k : Nat) (c : Option Cmd) : (s.setCmd p k c).cmd p k = c := by
  simp [State.cmd, State.setCmd]

@[simp] theorem State.waitingOf_setWaiting_same (s : State) (cls : Nat) (l : List (Nat × Nat)) :
    (s.setWaiting cls l).waitingOf cls = l := by
  simp [State.waitingOf, State.setWaiting]

/-- What a command that begins to wait changes, and what it leaves. -/
theorem State.queueCmd_spec (s : State) (p k cls : Nat) (c : Cmd) :
    let t := s.queueCmd p k cls c
    t.waitingOf cls = s.waitingOf cls ++ [(p, k)] ∧ t.cmd p k = some { c with begun := true } ∧
      t.stm.zones = s.stm.zones ∧ t.regs = s.regs ∧ s.SameBytes t :=
  ⟨State.waitingOf_setWaiting_same .., State.cmd_setCmd_same .., rfl, rfl, rfl, rfl, rfl, rfl, rfl⟩

/-- A write pointer that moves is a change of a zone alone (R157). -/
theorem State.advanceWp_eq (s : State) (nsid lba n : Nat) :
    ∃ zones, s.advanceWp nsid lba n = { s with stm := { s.stm with zones := zones } } := by
  unfold State.advanceWp
  dsimp only
  split
  · split
    · exact ⟨_, rfl⟩
    · exact ⟨_, rfl⟩
  · exact ⟨_, rfl⟩

/-! ## The checks of a command on LBAs (R370) -/

/-- The command as it waits: its namespace, its LBAs, and for a Zone Append the LBA that it returns. -/
def Cmd.asked (c : Cmd) (lba result : Nat) : Cmd :=
  { c with nsid := c.nsidField, slba := lba, count := c.nlb, result := result }

section
variable {s : State} {p k lba : Nat} {c : Cmd} {mdts : Bool}

theorem State.lbaCmd_refused (he : s.rangeCheck c.nsidField lba c.nlb c.writes mdts ≠ scOk) :
    s.lbaCmd p k c lba mdts = s.complete p k (s.rangeCheck c.nsidField lba c.nlb c.writes mdts) 0 := by
  simp [State.lbaCmd, he]

theorem State.lbaCmd_zoneRefused (hw : c.writes = true) (he : s.rangeCheck c.nsidField lba c.nlb true mdts = scOk)
    (hz : s.zoneWriteCheck c.nsidField lba c.nlb ≠ scOk) :
    s.lbaCmd p k c lba mdts = s.complete p k (s.zoneWriteCheck c.nsidField lba c.nlb) 0 := by
  simp [State.lbaCmd, hw, he, hz]

theorem State.lbaCmd_read (hw : c.writes = false) (he : s.rangeCheck c.nsidField lba c.nlb false mdts = scOk) :
    s.lbaCmd p k c lba mdts = s.queueCmd p k 0 (c.asked lba (if c.opcode = 0x7D then lba else 0)) := by
  simp [State.lbaCmd, hw, he, Cmd.asked]

theorem State.lbaCmd_write (hw : c.writes = true) (he : s.rangeCheck c.nsidField lba c.nlb true mdts = scOk)
    (hz : s.zoneWriteCheck c.nsidField lba c.nlb = scOk) :
    s.lbaCmd p k c lba mdts = (s.advanceWp c.nsidField lba c.nlb).queueCmd p k 0
      (c.asked lba (if c.opcode = 0x7D then lba else 0)) := by
  simp [State.lbaCmd, hw, he, hz, Cmd.asked]

/-- A write that passes its checks waits in class 0 with its zone's write pointer moved. -/
theorem State.lbaCmd_write_spec (hw : c.writes = true) (he : s.rangeCheck c.nsidField lba c.nlb true mdts = scOk)
    (hz : s.zoneWriteCheck c.nsidField lba c.nlb = scOk) :
    let t := s.lbaCmd p k c lba mdts
    t.waitingOf 0 = s.waitingOf 0 ++ [(p, k)] ∧
      t.cmd p k = some { c.asked lba (if c.opcode = 0x7D then lba else 0) with begun := true } ∧
      t.stm.zones = (s.advanceWp c.nsidField lba c.nlb).stm.zones ∧ t.regs = s.regs ∧ s.SameBytes t := by
  rw [State.lbaCmd_write hw he hz]
  obtain ⟨hwait, hcmd, hzones, hregs, hbytes⟩ := (s.advanceWp c.nsidField lba c.nlb).queueCmd_spec p k 0
    (c.asked lba (if c.opcode = 0x7D then lba else 0))
  obtain ⟨zones, hadv⟩ := s.advanceWp_eq c.nsidField lba c.nlb
  refine ⟨?_, hcmd, hzones, ?_, ?_⟩
  · rw [hwait, hadv]; rfl
  · rw [hregs, hadv]
  · rw [hadv] at hbytes ⊢; exact hbytes

end

/-- Which opcodes of the I/O queues write LBAs. -/
theorem Cmd.writes_eq {c : Cmd} {op : Nat} (hadmin : c.admin = false) (hop : c.opcode = op) :
    c.writes = [0x01, 0x08, 0x7D, 0x83].contains op := by
  rw [Cmd.writes, hadmin, hop]; rfl

/-! ## Read, Verify, Write and Write Zeroes (R19 to R21, R370) -/

section
variable {s : State} {p slot op : Nat} {m : Bool} {c : Cmd} {i : Instr} (hawake : s.glb.dormant = false)
  (hnew : s.newCmd p slot false [op] = some c)
include hawake hnew

theorem exec_read_or_verify (hi : (i, op, m) ∈ [(Instr.read p slot, 0x02, true), (.verify p slot, 0x0C, false)]) :
    exec i s = .next (s.lbaCmd p slot c c.lbaField m) := by
  simp only [List.mem_cons, Prod.mk.injEq, List.not_mem_nil, or_false] at hi
  rcases hi with ⟨rfl, rfl, rfl⟩ | ⟨rfl, rfl, rfl⟩
  · show execRead p slot s = _
    rw [execRead, State.powered_awake _ _ hawake, State.onCmd_of_new hnew]
  · show execVerify p slot s = _
    rw [execVerify, State.powered_awake _ _ hawake, State.onCmd_of_new hnew]

theorem exec_write_or_zeroes (hi : (i, op, m) ∈ [(Instr.write p slot, 0x01, true), (.writeZeroes p slot, 0x08, false)])
    (hzoned : op = 0x08 → (s.nsd c.nsidField).zoned = false) : exec i s = .next (s.lbaCmd p slot c c.lbaField m) := by
  simp only [List.mem_cons, Prod.mk.injEq, List.not_mem_nil, or_false] at hi
  rcases hi with ⟨rfl, rfl, rfl⟩ | ⟨rfl, rfl, rfl⟩
  · show execWrite p slot s = _
    rw [execWrite, State.powered_awake _ _ hawake, State.onCmd_of_new hnew]
  · show execWriteZeroes p slot s = _
    rw [execWriteZeroes, State.powered_awake _ _ hawake, State.onCmd_of_new hnew, if_neg (by simp [hzoned rfl])]

end

/-- A command that only reads and passes its check waits in class 0 (R268). -/
theorem State.lbaCmd_read_spec {s : State} {p k lba : Nat} {c : Cmd} {mdts : Bool} (hw : c.writes = false)
    (he : s.rangeCheck c.nsidField lba c.nlb false mdts = scOk) (hop : c.opcode ≠ 0x7D) :
    let t := s.lbaCmd p k c lba mdts
    t.waitingOf 0 = s.waitingOf 0 ++ [(p, k)] ∧ t.cmd p k = some { c.asked lba 0 with begun := true } ∧ t.regs = s.regs ∧
      s.SameBytes t := by
  rw [State.lbaCmd_read hw he, if_neg hop]
  obtain ⟨hwait, hcmd, -, hregs, hbytes⟩ := s.queueCmd_spec p k 0 (c.asked lba 0)
  exact ⟨hwait, hcmd, hregs, hbytes⟩

/-! ## Flush (R22, R153, R548) -/

/-- The failures that no Flush has reported and that are this Flush's to report (R153). -/
def State.owedTo (s : State) (c : Cmd) : List Nat := s.stm.owed.filter fun n => c.nsidField == 0xFFFFFFFF || n == c.nsidField

/-- A Flush that is taken waits in its slot, with the failures that it has to report. -/
theorem exec_flush_waits {s : State} {p slot : Nat} {c : Cmd} (hawake : s.glb.dormant = false)
    (hnew : s.newCmd p slot false [0x00] = some c) (hmode : s.mode ≠ modeQuiescent)
    (hns : c.nsidField = 0xFFFFFFFF ∨ (1 ≤ c.nsidField ∧ c.nsidField ≤ 128 ∧ (s.nsd c.nsidField).valid = true)) :
    exec (.flush p slot) s = .next
      (State.setCmd { s with stm := { s.stm with owed := s.stm.owed.filter fun n => !(s.owedTo c).contains n } } p slot
        (some { c with begun := true, flushFail := c.flushFail || !(s.owedTo c).isEmpty })) := by
  have hok : ¬ (¬ (c.nsidField == 0xFFFFFFFF) = true ∧
      ¬ (1 ≤ c.nsidField ∧ c.nsidField ≤ 128 ∧ (s.nsd c.nsidField).valid = true)) := by
    simpa [beq_iff_eq, ← or_iff_not_imp_left] using hns
  show execFlush p slot s = _
  rw [execFlush, State.powered_awake _ _ hawake, State.onCmd_of_new hnew]
  dsimp only
  rw [if_neg hmode, if_neg hok]
  rfl

theorem exec_flushCompletion_eq {s : State} {p slot : Nat} {c : Cmd} (hawake : s.glb.dormant = false)
    (hcmd : s.cmd p slot = some c) (hbegun : c.begun = true) (hadmin : c.admin = false) (hop : c.opcode = 0) :
    exec (.flushCompletion p slot) s = .next (s.flushEnd p slot c) := by
  show execFlushCompletion p slot s = _
  rw [execFlushCompletion, State.powered_awake _ _ hawake, hcmd]
  simp [hbegun, hadmin, hop]

/-- A Flush that depends on no write still to be admitted, nor on one that neither ended nor waits on a fence, ends. -/
theorem State.flushEnd_ends {s : State} {p slot : Nat} {c : Cmd} (hahead : s.flushAhead c = false)
    (hfence : ∀ x ∈ s.flushSectors c, s.fenceWait x s.stm.sectors.length = true) :
    s.flushEnd p slot c = s.complete p slot
      (if c.flushFail then scWriteFault else if s.flushSectors c = [] then scOk else scPath) 0 := by
  simp only [State.flushEnd, hahead, List.all_eq_true.2 hfence, Bool.false_eq_true, not_true_eq_false, or_self, if_false,
    ne_eq, ite_not]

/-! ## Zones (R157, R373) -/

/-- A command of a serving device names a zone of a ZONED namespace by its first LBA: the zone of extent `e`. -/
structure State.NamesZone (s : State) (c : Cmd) (e : Extent) : Prop where
  serving : s.mode ≠ modeQuiescent
  nsidLo : 1 ≤ c.nsidField
  nsidHi : c.nsidField ≤ 128
  valid : (s.nsd c.nsidField).valid = true
  zoned : (s.nsd c.nsidField).zoned = true
  inside : c.lbaField < (s.nsd c.nsidField).size
  extent : (s.nsd c.nsidField).extents[(s.nsd c.nsidField).zoneOf c.lbaField]? = some e
  first : e.lba = c.lbaField

section
variable {s : State} {p slot : Nat} {c : Cmd} {e : Extent} (hawake : s.glb.dormant = false) (hz : s.NamesZone c e)
include hawake hz

/-- A Zone Append of a zone that has room is a command on LBAs at the zone's write pointer (R373). -/
theorem exec_zoneAppend_eq (hnew : s.newCmd p slot false [0x7D] = some c) :
    exec (.zoneAppend p slot) s = .next (
      if zoneShown (s.zone (zoneKey e.aAct e.aZone)) e.count = 2 then s.complete p slot scZoneFull 0
      else if e.count < (s.zone (zoneKey e.aAct e.aZone)).wp + c.nlb then s.complete p slot scZoneBoundary 0
      else s.lbaCmd p slot c (e.lba + (s.zone (zoneKey e.aAct e.aZone)).wp) true) := by
  show execZoneAppend p slot s = _
  rw [execZoneAppend, State.powered_awake _ _ hawake, State.onCmd_of_new hnew]
  simp only [hz.serving, hz.nsidLo, hz.nsidHi, hz.valid, hz.zoned, and_self, not_true_eq_false, Nat.not_le.2 hz.inside,
    hz.extent, hz.first, ne_eq, if_false]

section
variable (hnew : s.newCmd p slot false [0x79] = some c) (hone : bitOf (c.cdw 13) 8 = false)
include hnew hone

/-- Open, Close, Finish and Set Offline of one zone end with what `zoneAction` makes of it. -/
theorem exec_zoneSend_action {za : Nat} (hza : bitsOf (c.cdw 13) 7 0 = za) (haction : za = 1 ∨ za = 2 ∨ za = 3 ∨ za = 5) :
    exec (.zoneManagementSend p slot) s = .next (
      match zoneAction za (zoneCode (s.zone (zoneKey e.aAct e.aZone)) e.count) (s.zone (zoneKey e.aAct e.aZone)) with
      | some z => (s.setZone (zoneKey e.aAct e.aZone) z).complete p slot scOk 0
      | none => s.complete p slot scZoneState 0) := by
  have hrange : ¬ (za = 0 ∨ 5 < za) := by omega
  have hreset : za ≠ 4 := by omega
  show execZoneManagementSend p slot s = _
  rw [execZoneManagementSend, State.powered_awake _ _ hawake, State.onCmd_of_new hnew]
  cases hact : zoneAction za (zoneCode (s.zone (zoneKey e.aAct e.aZone)) e.count) (s.zone (zoneKey e.aAct e.aZone)) with
  | some z =>
    simp [hz.serving, hz.nsidLo, hz.nsidHi, hz.valid, hz.zoned, Nat.not_le.2 hz.inside, hz.extent, hz.first, hone, hza, hrange,
      hreset, hact]
  | none =>
    simp [hz.serving, hz.nsidLo, hz.nsidHi, hz.valid, hz.zoned, Nat.not_le.2 hz.inside, hz.extent, hz.first, hone, hza, hrange,
      hreset, hact]

/-- Reset of one zone that is neither Read Only nor Offline waits for the zone's slip-table copies (R154, R157). -/
theorem exec_zoneSend_reset (hza : bitsOf (c.cdw 13) 7 0 = 4)
    (hro : zoneCode (s.zone (zoneKey e.aAct e.aZone)) e.count ≠ 0xD)
    (hoff : zoneCode (s.zone (zoneKey e.aAct e.aZone)) e.count ≠ 0xF) {y : State}
    (hy : y = (s.setCmd p slot (some { c with begun := true })).resetZone (zoneKey e.aAct e.aZone)) :
    exec (.zoneManagementSend p slot) s =
      .next { y with stm := { y.stm with zoneResets := y.stm.zoneResets ++ [(zoneKey e.aAct e.aZone, p, slot)] } } := by
  subst hy
  show execZoneManagementSend p slot s = _
  rw [execZoneManagementSend, State.powered_awake _ _ hawake, State.onCmd_of_new hnew]
  simp [hz.serving, hz.nsidLo, hz.nsidHi, hz.valid, hz.zoned, Nat.not_le.2 hz.inside, hz.extent, hz.first, hone, hza, hro, hoff]

end

end

/-- Report Zones answers with the descriptors that fit, from the zone that its first LBA names. -/
theorem exec_zoneReceive_eq {s : State} {p slot : Nat} {c : Cmd} (hawake : s.glb.dormant = false)
    (hnew : s.newCmd p slot false [0x7A] = some c) (hmode : s.mode ≠ modeQuiescent) (hlo : 1 ≤ c.nsidField)
    (hhi : c.nsidField ≤ 128) (hvalid : (s.nsd c.nsidField).valid = true) (hzoned : (s.nsd c.nsidField).zoned = true)
    (hreport : bitsOf (c.cdw 13) 15 0 = 0) (hlen : (c.cdw 12 + 1) * 4 ≤ 2 ^ 21)
    (hsize : c.lbaField < (s.nsd c.nsidField).size) :
    let es := (s.nsd c.nsidField).extents.drop ((s.nsd c.nsidField).zoneOf c.lbaField)
    let len := (c.cdw 12 + 1) * 4
    let fit := es.take (len / 64 - 1)
    let body := (leBytes 8 (if bitOf (c.cdw 13) 16 then fit.length else es.length) ++ List.replicate 56 0)
      ++ (fit.map fun e => zoneDescriptor e (s.zone (zoneKey e.aAct e.aZone))).flatten
    exec (.zoneManagementReceive p slot) s =
      .next (s.completeData p slot ((body ++ List.replicate (len - body.length) 0).take len)) := by
  intro es len fit body
  have hkind : bitsOf (c.cdw 13) 7 0 = 0 := by simp only [bitsOf] at hreport ⊢; omega
  have hall : bitsOf (c.cdw 13) 15 8 = 0 := by simp only [bitsOf] at hreport ⊢; omega
  have hfield : ¬ (bitsOf (c.cdw 13) 7 0 ≠ 0 ∨ 7 < bitsOf (c.cdw 13) 15 8 ∨ 2 ^ 21 < (c.cdw 12 + 1) * 4) := by omega
  show execZoneManagementReceive p slot s = _
  rw [execZoneManagementReceive, State.powered_awake _ _ hawake, State.onCmd_of_new hnew]
  dsimp only
  rw [if_neg hmode, if_neg (by simp [hlo, hhi, hvalid]), if_neg (by simp [hzoned]), if_neg hfield,
    if_neg (Nat.not_le.2 hsize), hall]
  simp only [beq_self_eq_true, Bool.true_or, List.filter_true]
  rfl

/-! ## The statement -/

/-- Read and Verify (R19, R370). -/
theorem readAndVerify {s : State} {p slot op : Nat} {m : Bool} {c : Cmd} {i : Instr} (hawake : s.glb.dormant = false)
    (hi : (i, op, m) ∈ [(Instr.read p slot, 0x02, true), (.verify p slot, 0x0C, false)])
    (hnew : s.newCmd p slot false [op] = some c) :
    let e := s.rangeCheck c.nsidField c.lbaField c.nlb false m
    (e ≠ scOk → exec i s = .next (s.complete p slot e 0)) ∧
    (e = scOk → ∃ t : State, exec i s = .next t ∧ t.waitingOf 0 = s.waitingOf 0 ++ [(p, slot)] ∧
      t.cmd p slot = some { c.asked c.lbaField 0 with begun := true } ∧ t.regs = s.regs ∧ s.SameBytes t) := by
  obtain ⟨-, hadmin, hop⟩ := State.newCmd_spec hnew
  have hops : op = 0x02 ∨ op = 0x0C := by
    simp only [List.mem_cons, Prod.mk.injEq, List.not_mem_nil, or_false] at hi
    omega
  have hw : c.writes = false := by rw [Cmd.writes_eq hadmin hop]; rcases hops with rfl | rfl <;> rfl
  have hexec := exec_read_or_verify hawake hnew hi
  refine ⟨fun he => ?_, fun he => ?_⟩
  · rw [hexec, State.lbaCmd_refused (by rw [hw]; exact he), hw]
  · exact ⟨_, hexec, State.lbaCmd_read_spec hw he (by omega)⟩

/-- Write and Write Zeroes (R20, R21, R370). -/
theorem writeAndWriteZeroes {s : State} {p slot op : Nat} {m : Bool} {c : Cmd} {i : Instr} (hawake : s.glb.dormant = false)
    (hi : (i, op, m) ∈ [(Instr.write p slot, 0x01, true), (.writeZeroes p slot, 0x08, false)])
    (hnew : s.newCmd p slot false [op] = some c) (hzoned : op = 0x08 → (s.nsd c.nsidField).zoned = false) :
    let e := s.rangeCheck c.nsidField c.lbaField c.nlb true m
    let z := s.zoneWriteCheck c.nsidField c.lbaField c.nlb
    (e ≠ scOk → exec i s = .next (s.complete p slot e 0)) ∧
    (e = scOk → z ≠ scOk → exec i s = .next (s.complete p slot z 0)) ∧
    (e = scOk → z = scOk → ∃ t : State, exec i s = .next t ∧ t.waitingOf 0 = s.waitingOf 0 ++ [(p, slot)] ∧
      t.cmd p slot = some { c.asked c.lbaField 0 with begun := true } ∧
      t.stm.zones = (s.advanceWp c.nsidField c.lbaField c.nlb).stm.zones ∧ t.regs = s.regs ∧ s.SameBytes t) := by
  obtain ⟨-, hadmin, hop⟩ := State.newCmd_spec hnew
  have hops : op = 0x01 ∨ op = 0x08 := by
    simp only [List.mem_cons, Prod.mk.injEq, List.not_mem_nil, or_false] at hi
    omega
  have hw : c.writes = true := by rw [Cmd.writes_eq hadmin hop]; rcases hops with rfl | rfl <;> rfl
  have hexec := exec_write_or_zeroes hawake hnew hi hzoned
  refine ⟨fun he => ?_, fun he hz => ?_, fun he hz => ?_⟩
  · rw [hexec, State.lbaCmd_refused (by rw [hw]; exact he), hw]
  · rw [hexec, State.lbaCmd_zoneRefused hw he hz]
  · have hspec := State.lbaCmd_write_spec (p := p) (k := slot) hw he hz
    rw [if_neg (by omega)] at hspec
    exact ⟨_, hexec, hspec⟩

/-- Settles O22: each command is its checks, then its wait in class 0, its wait in its slot, or its completion. -/
theorem mediaCommands : Obligations.MediaCommands := by
  refine ⟨?_, ?_, ?_, ?_, ?_, ?_, ?_⟩
  · intro s p slot op m c i hawake hi hnew
    exact readAndVerify hawake hi hnew
  · intro s p slot op m c i hawake hi hnew hzoned
    exact writeAndWriteZeroes hawake hi hnew hzoned
  · intro s p slot c e hawake hnew hmode hlo hhi x z hvalid hzoned hsize he hlba
    obtain ⟨-, hadmin, hop⟩ := State.newCmd_spec hnew
    have hw : c.writes = true := Cmd.writes_eq hadmin hop
    have hexec := exec_zoneAppend_eq hawake ⟨hmode, hlo, hhi, hvalid, hzoned, hsize, he, hlba.symm⟩ hnew
    refine ⟨fun hfull => ?_, fun hroom hend => ?_, fun hroom hfits hcheck hzone => ?_⟩
    · rw [hexec, if_pos hfull]
    · rw [hexec, if_neg hroom, if_pos hend]
    · rw [if_neg hroom, if_neg (Nat.not_lt.2 hfits)] at hexec
      obtain ⟨hwait, hcmd, -, hrest⟩ := State.lbaCmd_write_spec (p := p) (k := slot) hw hcheck hzone
      rw [if_pos hop] at hcmd
      exact ⟨_, hexec, hwait, hcmd, hrest⟩
  · intro s p slot c hawake hnew
    refine ⟨fun hmode => ?_, fun hmode hns => ?_⟩
    · show execFlush p slot s = _
      rw [execFlush, State.powered_awake _ _ hawake, State.onCmd_of_new hnew]
      exact congrArg Host.Outcome.next (if_pos hmode)
    · exact ⟨_, _, exec_flush_waits hawake hnew hmode hns, State.cmd_setCmd_same .., rfl, rfl, rfl, rfl, rfl, rfl, rfl, rfl⟩
  · intro s p slot c hawake hcmd hbegun hadmin hop
    have hexec := exec_flushCompletion_eq hawake hcmd hbegun hadmin hop
    refine ⟨fun hahead => ?_, fun hahead hfence => ?_⟩
    · rw [hexec, State.flushEnd, if_pos (.inl hahead)]
    · rw [hexec, State.flushEnd_ends hahead hfence]
  · intro s p slot c e hawake hnew hmode hlo hhi x zk za code hvalid hzoned hone hsize he hlba
    have hz : s.NamesZone c e := ⟨hmode, hlo, hhi, hvalid, hzoned, hsize, he, hlba⟩
    refine ⟨fun z haction hsome => ?_, fun haction hnone => ?_, fun hreset hro hoff => ?_⟩
    · rw [exec_zoneSend_action hawake hz hnew hone rfl haction, hsome]
    · rw [exec_zoneSend_action hawake hz hnew hone rfl haction, hnone]
    · exact ⟨_, rfl, exec_zoneSend_reset hawake hz hnew hone hreset hro hoff rfl⟩
  · intro s p slot c hawake hnew hmode hlo hhi x len es fit body hvalid hzoned hreport hlen hsize
    exact exec_zoneReceive_eq hawake hnew hmode hlo hhi hvalid hzoned hreport hlen hsize

/-! ## A state that meets the hypotheses -/

/-- The one zone of the namespace below: 100 LBAs on actuator 3. -/
def zoneOf100 : Extent := { lba := 0, count := 100, aAct := 3, aZone := 2, aP := 0, bAct := 0, bZone := 0, bP := 0 }

/-- Finish of the zone at LBA 0 of namespace 1. -/
def finishCmd : Cmd :=
  { link := 0, qid := 1, cid := 7, sqe := [0x79, 1, 0, 0, 0, 0, 0, 0, 0, 0, 0, 0, 0, 2], prps := [], seqno := 4, tick := 0,
    through := false }

/-- A device in Service with a ZONED namespace of one empty zone, and the Finish in slot 5 of port 0. -/
def zonedDevice : State :=
  { Tests.w0 with
    stm := { Tests.w0.stm with ns := [(1, { valid := true, zoned := true, size := 100, extents := [zoneOf100] })] }
    hif := { Tests.w0.hif with slots := [(slotKey 0 5, some finishCmd)] } }

theorem zonedDevice_namesZone : zonedDevice.NamesZone finishCmd zoneOf100 where
  serving := by decide
  nsidLo := by decide
  nsidHi := by decide
  valid := by decide
  zoned := by decide
  inside := by decide
  extent := by
    have hlba : finishCmd.lbaField = 0 := by decide
    rw [hlba, Ns.zoneOf, Nat.zero_div]
    rfl
  first := by decide

/-- The zone is Full and the command has ended. -/
theorem zoneSend_zonedDevice : exec (.zoneManagementSend 0 5) zonedDevice =
    .next ((zonedDevice.setZone (zoneKey 3 2) { zstate := 2 }).complete 0 5 scOk 0) :=
  exec_zoneSend_action (za := 2) (by decide) zonedDevice_namesZone (by decide) (by decide) (by decide) (by decide)

end Sys2Proof.Machine
end

section
/-!
PROOFS. Admission, the choice of a stripe, and grants (R25, R148, R268, R269, R273, R275, R276), and the clear of a write fence.
-/

namespace Sys2Proof.Machine

/-! ## Pieces (R268) -/

theorem exec_pieceAdmission_eq {s : State} {cls : Nat} (hawake : s.glb.dormant = false) (hcls : cls < 8)
    (hon : s.admitOn = true) : exec (.pieceAdmission cls) s = .next (s.admitPiece cls) := by
  show execPieceAdmission cls s = _
  rw [execPieceAdmission, State.powered_awake _ _ hawake, if_pos ⟨hcls, hon⟩]

/-- No LBA of a write is held back by an earlier write, nor one of a read without such a write (R23). -/
theorem State.piece_goes {s : State} {c : Cmd} {piece : List Nat}
    (h : c.writes = true ∨ ∀ l ∈ piece, s.writeFirst c.seqno c.nsid l 1 = false) :
    (!c.writes && piece.any fun l => s.writeFirst c.seqno c.nsid l 1) = false := by
  rcases h with hw | hnone
  · rw [hw]; rfl
  · rw [List.any_eq_false.2 fun l hl => by simp [hnone l hl], Bool.and_false]

section
variable {s : State} {cls p k : Nat} {rest : List (Nat × Nat)} {c : Cmd} (hwait : s.waitingOf cls = (p, k) :: rest)
  (hcmd : s.cmd p k = some c) (hstream : c.stream = none)
include hwait hcmd hstream

/-- A read does not pass an earlier write of one of its LBAs (R23). -/
theorem State.admitPiece_behindWrite (hread : c.writes = false)
    (hfirst : ∃ l ∈ c.todo.take 64, s.writeFirst c.seqno c.nsid l 1 = true) : s.admitPiece cls = s := by
  have hany : ((c.todo.take 64).any fun l => s.writeFirst c.seqno c.nsid l 1) = true := List.any_eq_true.2 hfirst
  simp [State.admitPiece, hwait, hcmd, hstream, hread, hany]

variable (hfree : c.writes = true ∨ ∀ l ∈ c.todo.take 64, s.writeFirst c.seqno c.nsid l 1 = false)
include hfree

/-- A piece for which its class or a queue has no room is refused and counted (R268, R275, R286). -/
theorem State.admitPiece_refused
    (hroom : s.clsSlots cls < 64 ∨ s.freeSlots cls < (c.todo.take 64).length ∨
      s.queueRoom ((c.todo.take 64).flatMap fun l => s.actsOf c.nsid l c.writes 0) = false) :
    s.admitPiece cls = s.refuseAdmit ((c.todo.take 64).flatMap fun l => s.actsOf c.nsid l c.writes 0) none := by
  simp only [State.admitPiece, hwait, hcmd, hstream, Option.isSome_none, Bool.false_eq_true, false_and, if_false,
    State.piece_goes hfree, Bool.not_eq_true, if_pos hroom]

/-- A piece that is all that its command still asks for is admitted whole (R268). -/
theorem State.admitPiece_admitted (hslots : 64 ≤ s.clsSlots cls) (hplaces : (c.todo.take 64).length ≤ s.freeSlots cls)
    (hqueues : s.queueRoom ((c.todo.take 64).flatMap fun l => s.actsOf c.nsid l c.writes 0) = true)
    (hlast : c.todo.length ≤ 64) :
    s.admitPiece cls = ((c.todo.take 64).foldl (fun u l => u.admitLba p k cls 0 l none)
      ((s.setCmd p k (some { c with admitted := c.count })).setWaiting cls rest)).cmdPoll p k := by
  have hroom : ¬ (s.clsSlots cls < 64 ∨ s.freeSlots cls < (c.todo.take 64).length ∨
      s.queueRoom ((c.todo.take 64).flatMap fun l => s.actsOf c.nsid l c.writes 0) = false) := by
    rintro (h | h | h)
    · omega
    · omega
    · rw [hqueues] at h; contradiction
  have hnext : c.todo[64]? = none := List.getElem?_eq_none hlast
  simp only [State.admitPiece, hwait, hcmd, hstream, Option.isSome_none, Bool.false_eq_true, false_and, if_false,
    State.piece_goes hfree, Bool.not_eq_true, if_neg hroom, hnext, if_true]

end

/-! ## Read-ahead (R269) -/

/-- The sector that read-ahead of a stream asks for at an LBA, before it has a place. -/
def State.aheadSector (s : State) (i l slot : Nat) (ws : List Word) : Sector :=
  let due := if (ws.getD 10 0).toNat = 0 then (s.tick + (s.rd Reg.STM_CLS_RDL 0 (ctxCls ws)).toNat) % 2 ^ 32 else dueAt ws l
  { tag := 0, op := 0, nsid := ctxNs ws, lba := l, copyB := false, act := 0, zone := 0, p0 := 0, p := 0, cls := ctxCls ws,
    slot := slot, deadline := due, stream := some i, seqno := s.hif.seqno, keySlot := cw ws 1 20 8 }

theorem exec_readAheadAdmission_eq {s : State} {i : Nat} (hawake : s.glb.dormant = false)
    (hopen : s.stm.opened.contains i = true) (hon : s.admitOn = true) :
    exec (.readAheadAdmission i) s = .next (s.admitAhead i) := by
  show execReadAheadAdmission i s = _
  rw [execReadAheadAdmission, State.powered_awake _ _ hawake, if_pos ⟨hopen, hon⟩]

/-- What read-ahead does with a free slot: FETCH_LBA moves, the ring names the slot, and the sector enters the queues. -/
def State.aheadAdmit (s : State) (i l : Nat) (ws : List Word) (slot : Nat) : State :=
  ((((((s.ctxWrite i (cwPut64 (cwPut ws 0 31 28 ctxRunning) 4 (l + 1))).setSlot (ctxCls ws) slot 1).streamRing i l 1 0
    slot).admitRead (s.aheadSector i l slot ws) (cw ws 1 1 0)).wakeFor false
      (s.actsOf (ctxNs ws) l false (cw ws 1 1 0))).streamSettle i)

/-- Read-ahead of a mapped LBA that no write precedes keeps 64 slots of its class free beside its own, and room in every
queue. -/
theorem State.admitAhead_eq {s u : State} {i l : Nat} {ws : List Word} (hctx : s.ctxRead i = (u, some ws))
    (hreads : ctxWrites ws = false) (hstate : ctxState ws = ctxOpen ∨ ctxState ws = ctxRunning)
    (hahead : u.aheadLba i ws = some l) (hvalid : (u.nsd (ctxNs ws)).valid = true) (hsize : l < (u.nsd (ctxNs ws)).size)
    (hext : ((u.nsd (ctxNs ws)).extent l).isSome = true) (hfirst : u.writeFirst u.hif.seqno (ctxNs ws) l 1 = false) :
    s.admitAhead i =
      if u.clsSlots (ctxCls ws) < 64 ∨ u.freeSlots (ctxCls ws) < 65 ∨
          u.queueRoom (u.actsOf (ctxNs ws) l false (cw ws 1 1 0)) = false then
        u.refuseAdmit (u.actsOf (ctxNs ws) l false (cw ws 1 1 0)) none
      else ((u.lowSlot (ctxCls ws)).map (u.aheadAdmit i l ws)).getD u := by
  have hgoes : ¬ (ctxWrites ws = true ∨
      ¬ (ctxState ws = ctxOpen ∨ ctxState ws = ctxRunning ∨ ctxState ws = ctxWaiting)) := by
    rcases hstate with h | h <;> simp [hreads, h]
  have hmapped : ¬ ((u.nsd (ctxNs ws)).valid = false ∨ (u.nsd (ctxNs ws)).size ≤ l ∨
      ((u.nsd (ctxNs ws)).extent l).isNone = true) := by
    simpa [hvalid, hsize] using Option.isSome_iff_ne_none.1 hext
  simp only [State.admitAhead, hctx, if_neg hgoes, hahead, if_neg hmapped, hfirst, Bool.false_eq_true, if_false,
    Bool.not_eq_true]
  cases u.lowSlot (ctxCls ws) <;> rfl

/-! ## The choice of a stripe (R275) -/

section
variable {s : State} {a : Nat} (hawake : s.glb.dormant = false) (ha : a < s.nAct) (hon : s.flag Reg.STM_CTRL_EN 0 = true)
  (hfree : s.actOut a = false) (hhda : s.hdaState (a / 2) = hdaTracking ∨ s.hdaState (a / 2) = hdaSlewing)
  (hturns : (s.spnS (a / 2)).omega ≠ 0)
include hawake ha hon hfree hhda hturns

theorem exec_schedulerEvaluation_eq {u : State} {best : Option (Nat × Nat)} (hbest : s.chooseStripe a = (u, best)) :
    exec (.schedulerEvaluation a) s = .next (best.elim (u.setAct a { u.act a with stripe := none }) fun zs =>
      (u.setAct a { u.act a with stripe := some zs }).withdrawTwins a zs) := by
  have hdue : ¬ (¬ (a < s.nAct ∧ s.flag Reg.STM_CTRL_EN 0 = true) ∨ s.actOut a = true ∨
      ¬ (s.hdaState (a / 2) = hdaTracking ∨ s.hdaState (a / 2) = hdaSlewing) ∨ (s.spnS (a / 2)).omega = 0) := by
    simp [ha, hon, hfree, hhda, hturns]
  show execSchedulerEvaluation a s = _
  rw [execSchedulerEvaluation, State.powered_awake _ _ hawake]
  dsimp only
  rw [if_neg hdue, hbest]
  cases best <;> rfl

end

/-! ## Grants (R25, R273) -/

/-- Credits that are not taken are left, both of them (R25). -/
theorem State.takeCredits_none {s u : State} (h : s.takeCredits = (u, none)) : u = s := by
  unfold State.takeCredits at h
  split at h
  · split at h
    · simp at h
    · exact (congrArg Prod.fst h).symm
  · exact (congrArg Prod.fst h).symm

/-- Credits that are taken: the soft slot was free, and one credit of each kind is held more. -/
theorem State.takeCredits_some {s u : State} {k : Nat} (h : s.takeCredits = (u, some k)) :
    k ∉ s.stm.soft ∧ u.stm.soft = s.stm.soft ++ [k] ∧ u.stm.dcred = s.stm.dcred + 1 := by
  unfold State.takeCredits at h
  split at h
  · next j hj =>
    split at h
    · simp only [Prod.mk.injEq, Option.some.injEq] at h
      obtain ⟨rfl, rfl⟩ := h
      exact ⟨(State.freeSoft_spec hj).1, rfl, rfl⟩
    · simp at h
  · simp at h

/-- A sector of the stripe that its actuator has chosen, while the engine is on, can be granted. -/
theorem State.grant_open {s : State} {x : Sector} (hon : s.flag Reg.STM_CTRL_EN 0 = true)
    (hstripe : (s.act x.act).stripe = some (x.zone, x.p / 10)) (hcand : s.candidate x = true) :
    ¬ (¬ s.flag Reg.STM_CTRL_EN 0 = true ∨ (s.act x.act).stripe ≠ some (x.zone, x.p / 10) ∨ ¬ s.candidate x = true) := by
  simp [hon, hstripe, hcand]

section
variable {s u : State} {tag : Nat} {x : Sector} (hawake : s.glb.dormant = false) (hx : s.sector tag = some x)
  (hon : s.flag Reg.STM_CTRL_EN 0 = true) (hstripe : (s.act x.act).stripe = some (x.zone, x.p / 10))
  (hcand : s.candidate x = true)
include hawake hx hon hstripe hcand

/-- A sector for which no credits are free keeps its place. -/
theorem exec_grant_exhausted (hnone : s.takeCredits = (u, none)) : exec (.grant tag) s = .next u := by
  show execGrant tag s = _
  rw [execGrant, State.powered_awake _ _ hawake, hx]
  dsimp only
  rw [if_neg (State.grant_open hon hstripe hcand), hnone]

/-- A sector without a twin is granted with its credits. -/
theorem exec_grant_taken {soft : Nat} (hsoft : s.takeCredits = (u, some soft)) (htwin : x.twin = none) :
    exec (.grant tag) s = .next (u.grantSector x soft) := by
  show execGrant tag s = _
  rw [execGrant, State.powered_awake _ _ hawake, hx]
  dsimp only
  rw [if_neg (State.grant_open hon hstripe hcand), hsoft, htwin]

end

/-! ## The clear of a write fence (R148) -/

/-- A number with bits cleared. -/
theorem testBit_clearBits (l : List Nat) (w a : Nat) :
    (l.foldl (fun w k => setBit w k false) w).testBit a = (w.testBit a && decide (a ∉ l)) := by
  induction l generalizing w with
  | nil => simp
  | cons k l ih =>
    rw [List.foldl_cons, ih, setBit, testBit_putBits _ _ _ _ _ (Nat.le_succ k)]
    by_cases h : a = k
    · subst h; simp
    · rw [if_neg (by omega)]; simp [h]

/-- The actuators whose fence bits a write of STM_WFENCE clears: fenced and not already on their way back. -/
def State.wClears (s : State) (v : Word) : List Nat :=
  (List.range s.nAct).filter fun a => bitOf v.toNat a && s.wFenced a && !s.stm.wReturn.contains a

/-- STM_WFENCE with the bits of those actuators cleared. -/
def State.wFenceLeft (s : State) (v : Word) : Word :=
  word ((s.wClears v).foldl (fun w a => setBit w a false) (s.rd Reg.STM_WFENCE 0 0).toNat)

theorem State.mem_wClears {s : State} {v : Word} {a : Nat} (ha : a < s.nAct) (hv : bitOf v.toNat a = true)
    (hw : bitOf (s.rd Reg.STM_WFENCE 0 0).toNat a = true) (hr : s.stm.wReturn.contains a = false) : a ∈ s.wClears v := by
  have hfenced : s.wFenced a = true := by rw [State.wFenced, hw, Bool.true_or]
  rw [State.wClears, List.mem_filter, hv, hfenced, hr]
  exact ⟨List.mem_range.2 ha, rfl⟩

theorem bitOf_wFenceLeft {s : State} {v : Word} {a : Nat} (h : a ∈ s.wClears v) : bitOf (s.wFenceLeft v).toNat a = false := by
  rw [bitOf, State.wFenceLeft, word, BitVec.toNat_ofNat, Nat.testBit_mod_two_pow, testBit_clearBits]
  simp [h]

section
variable {s : State} (hawake : s.glb.dormant = false)
include hawake

theorem exec_writeFenceClear_refused (hcause : bitOf (s.causes srcSTM) 0 = true) (v : Word) :
    exec (.writeFenceClear v) s = .next s := by
  show execWriteFenceClear v s = _
  rw [execWriteFenceClear, State.powered_awake _ _ hawake, if_pos hcause]

theorem exec_writeFenceClear_accepted (hcause : bitOf (s.causes srcSTM) 0 = false) (v : Word) :
    exec (.writeFenceClear v) s = .next (State.wr { s with stm := { s.stm with wReturn := s.stm.wReturn ++ s.wClears v } }
      Reg.STM_WFENCE 0 0 (s.wFenceLeft v)) := by
  show execWriteFenceClear v s = _
  rw [execWriteFenceClear, State.powered_awake _ _ hawake, if_neg (by simp [hcause])]
  rfl

end

/-! ## The statement -/

/-- Settles O23: each command is its guard, then one of the outcomes that the lemmas above give. -/
theorem admissionAndGrant : Obligations.AdmissionAndGrant := by
  refine ⟨?_, ?_, ?_, ?_, ?_, ?_⟩
  · intro s cls p k rest c hawake hcls hon hwait hcmd hstream piece acts hfree
    have hexec := exec_pieceAdmission_eq hawake hcls hon
    refine ⟨fun hroom => ?_, fun hslots hplaces hqueues hlast => ?_⟩
    · rw [hexec, State.admitPiece_refused hwait hcmd hstream hfree hroom]
    · rw [hexec, State.admitPiece_admitted hwait hcmd hstream hfree hslots hplaces hqueues hlast]
  · intro s cls p k rest c hawake hcls hon hwait hcmd hstream hread hfirst
    rw [exec_pieceAdmission_eq hawake hcls hon, State.admitPiece_behindWrite hwait hcmd hstream hread hfirst]
  · intro s u i l ws hawake hopen hon hctx hreads hstate hahead hvalid hsize hext hfirst cls acts
    have hexec := exec_readAheadAdmission_eq hawake hopen hon
    rw [State.admitAhead_eq hctx hreads hstate hahead hvalid hsize hext hfirst] at hexec
    refine ⟨fun hroom => ?_, fun slot hslots hplaces hqueues hslot => ?_⟩
    · rw [hexec, if_pos hroom]
    · have hroom : ¬ (u.clsSlots cls < 64 ∨ u.freeSlots cls < 65 ∨ u.queueRoom acts = false) := by
        rintro (h | h | h)
        · omega
        · omega
        · rw [hqueues] at h; contradiction
      rw [if_neg hroom, hslot] at hexec
      exact ⟨u.aheadSector i l slot ws, hexec, rfl, rfl, rfl, rfl, rfl, rfl⟩
  · intro s u a hawake ha hon hfree hhda hturns
    exact ⟨exec_schedulerEvaluation_eq hawake ha hon hfree hhda hturns,
      fun zs => exec_schedulerEvaluation_eq hawake ha hon hfree hhda hturns⟩
  · intro s u tag x hawake hx hon hstripe hcand
    refine ⟨fun hnone => ?_, fun soft hsoft htwin => ?_⟩
    · exact ⟨exec_grant_exhausted hawake hx hon hstripe hcand hnone, State.takeCredits_none hnone⟩
    · exact ⟨exec_grant_taken hawake hx hon hstripe hcand hsoft htwin, State.takeCredits_some hsoft⟩
  · intro s v hawake
    refine ⟨fun hcause => exec_writeFenceClear_refused hawake hcause v, fun hcause => ?_⟩
    refine ⟨_, exec_writeFenceClear_accepted hawake hcause v, fun a ha => ?_, ⟨rfl, rfl, rfl, rfl, rfl⟩,
      fun a ha hv hw hr => ?_⟩
    · rw [State.rdA_wr, if_neg (by simpa using ha)]
      rfl
    · have hclears := State.mem_wClears ha hv hw hr
      refine ⟨by rw [State.rd_wr_same]; exact bitOf_wFenceLeft hclears, ?_⟩
      simpa using Or.inr hclears

/-! ## A state that meets the hypotheses -/

/-- A device in Service whose actuator 3 takes no writes. -/
def writeFenced3 : State := Tests.w0.wr Reg.STM_WFENCE 0 0 8

/-- A clear of its bit is accepted and acts at the next epoch boundary. -/
theorem writeFenceClear_writeFenced3 : ∃ t : State, exec (.writeFenceClear 8) writeFenced3 = .next t ∧
    bitOf (t.rd Reg.STM_WFENCE 0 0).toNat 3 = false ∧ t.stm.wReturn.contains 3 = true := by
  obtain ⟨t, hexec, -, -, hclear⟩ := (admissionAndGrant.2.2.2.2.2 writeFenced3 8 (by decide)).2 (by decide)
  exact ⟨t, hexec, hclear 3 (by decide) (by decide) (by decide) (by decide)⟩

end Sys2Proof.Machine
end

section
/-!
PROOFS. A transmitted frame reads back (R37, R38): groups of symbols and of bits, numbers in bits, blocks in bits, and the
lanes of a frame laid side by side.
-/

namespace Sys2Proof.Machine

/-! ## Groups -/

theorem flatten_chunks {α : Type} {n : Nat} (f : Nat) (xs : List α) (h : xs.length ≤ n * f) :
    (chunks n f xs).flatten = xs := by
  induction f generalizing xs with
  | zero => exact (List.length_eq_zero_iff.1 (Nat.le_zero.1 h)).symm
  | succ f ih =>
    rw [chunks]
    split
    · next hnil => exact (List.isEmpty_iff.1 hnil).symm
    · rw [List.flatten_cons, ih _ (by rw [List.length_drop]; rw [Nat.mul_succ] at h; omega), List.take_append_drop]

/-- As many groups as whole groups fill the list have their size each. -/
theorem chunks_whole {α : Type} {n : Nat} (hn : 0 < n) (f : Nat) (xs : List α) (h : xs.length = n * f) :
    (chunks n f xs).length = f ∧ ∀ c ∈ chunks n f xs, c.length = n := by
  induction f generalizing xs with
  | zero => simp [chunks]
  | succ f ih =>
    rw [Nat.mul_succ] at h
    have hne : ¬ xs.isEmpty = true := by
      rw [List.isEmpty_iff_length_eq_zero]; omega
    obtain ⟨hlen, hall⟩ := ih (xs.drop n) (by rw [List.length_drop]; omega)
    rw [chunks, if_neg hne]
    refine ⟨by rw [List.length_cons, hlen], ?_⟩
    rintro c (_ | ⟨_, hc⟩)
    · rw [List.length_take]; omega
    · exact hall c hc

/-- The groups of equal lists put in a row are these lists; what follows them is not looked at. -/
theorem chunks_flatten {α : Type} {n : Nat} (hn : 0 < n) (xss : List (List α)) (rest : List α)
    (h : ∀ xs ∈ xss, xs.length = n) : chunks n xss.length (xss.flatten ++ rest) = xss := by
  induction xss with
  | nil => rfl
  | cons xs xss ih =>
    obtain ⟨hxs, hrest⟩ := List.forall_mem_cons.1 h
    have hne : ¬ ((xs :: xss).flatten ++ rest).isEmpty = true := by
      rw [List.isEmpty_iff_length_eq_zero]
      simp only [List.flatten_cons, List.length_append]
      omega
    rw [List.length_cons, chunks, if_neg hne, List.flatten_cons, List.append_assoc, List.take_left' hxs,
      List.drop_left' hxs, ih hrest]

/-! ## Numbers in bits, most significant first -/

@[simp] theorem length_msbBits (n v : Nat) : (msbBits n v).length = n := by simp [msbBits]

theorem msbBits_lt_two {n v b : Nat} (h : b ∈ msbBits n v) : b < 2 := by
  simp only [msbBits, List.mem_map] at h
  obtain ⟨i, -, rfl⟩ := h
  exact Nat.mod_lt _ (by decide)

theorem msbBits_succ (n v : Nat) : msbBits (n + 1) v = msbBits n (v / 2) ++ [v % 2] := by
  rw [msbBits, List.range_succ, List.map_append]
  congr 1
  · refine List.map_congr_left fun i hi => ?_
    have hexp : n + 1 - 1 - i = n - 1 - i + 1 := by have := List.mem_range.1 hi; omega
    rw [hexp, Nat.pow_succ', Nat.div_div_eq_div_mul]
  · simp

theorem bitsNat_append_single (bs : List Nat) (b : Nat) : bitsNat (bs ++ [b]) = 2 * bitsNat bs + b := by
  simp [bitsNat]

theorem bitsNat_msbBits {n v : Nat} (h : v < 2 ^ n) : bitsNat (msbBits n v) = v := by
  induction n generalizing v with
  | zero => simp [msbBits, bitsNat] at h ⊢; exact h.symm
  | succ n ih =>
    rw [msbBits_succ, bitsNat_append_single, ih (by rw [Nat.pow_succ] at h; omega)]
    omega

theorem msbBits_bitsNat (bs : List Nat) (h : ∀ b ∈ bs, b < 2) : msbBits bs.length (bitsNat bs) = bs := by
  induction bs using List.reverseRecOn with
  | nil => rfl
  | append_singleton bs b ih =>
    have hb : b < 2 := h b (by simp)
    rw [List.length_append, List.length_singleton, msbBits_succ, bitsNat_append_single]
    have hhigh : (2 * bitsNat bs + b) / 2 = bitsNat bs := by omega
    have hlow : (2 * bitsNat bs + b) % 2 = b := by omega
    rw [hhigh, hlow, ih fun x hx => h x (by simp [hx])]

/-! ## Blocks in bits, bit 7 of each byte first (R102) -/

theorem bitsMsb_eq (bs : List Byte) : bitsMsb bs = bs.flatMap fun b => msbBits 8 b.toNat := by
  rw [List.flatMap_def]; rfl

theorem length_bitsMsb (bs : List Byte) : (bitsMsb bs).length = 8 * bs.length := by
  simp [bitsMsb_eq, Nat.mul_comm]

theorem byteMsb_msbBits (b : Byte) : byteMsb (msbBits 8 b.toNat) = b := by
  revert b
  decide

theorem bytesMsb_bitsMsb (bs : List Byte) : bytesMsb bs.length (bitsMsb bs) = bs := by
  induction bs with
  | nil => rfl
  | cons b bs ih =>
    have hsplit : bitsMsb (b :: bs) = msbBits 8 b.toNat ++ bitsMsb bs := by simp [bitsMsb_eq]
    rw [List.length_cons, hsplit, bytesMsb, List.take_left' (length_msbBits ..), List.drop_left' (length_msbBits ..),
      byteMsb_msbBits, ih]

/-! ## The lanes of a frame -/

/-- A list read through its indices. -/
theorem flatMap_range_getD {α β : Type} (xs : List α) (d : α) (f : α → List β) :
    ((List.range xs.length).flatMap fun i => f (xs.getD i d)) = xs.flatMap f := by
  have hxs : (List.range xs.length).map (fun i => xs.getD i d) = xs := by
    refine List.ext_getElem (by simp) fun i h _ => ?_
    have hi : i < xs.length := by simpa using h
    simp [hi]
  conv_rhs => rw [← hxs, List.flatMap_map]

/-- A frame as its receiver holds it when every lane is good. -/
def goodFrame (lanes : List (Nat × List Nat)) : RxFrame :=
  { lanes := lanes.map fun x => { lane := x.1, ok := true, corr := 0, syms := x.2 } }

/-- The bits of a received frame: the symbols of its lanes in turn, row by row (R37). -/
def rxBits (f : RxFrame) : List Nat :=
  (List.range 514).flatMap fun r => f.lanes.flatMap fun x => msbBits 10 (x.syms.getD r 0)

/-- Rows of symbols dealt to lanes are read back row by row. -/
theorem bits_of_rows (rows : List (List Nat)) (lanes : List Nat) (hrows : rows.length = 514)
    (hrow : ∀ row ∈ rows, row.length = lanes.length) :
    rxBits (goodFrame ((List.range lanes.length).map fun i => (lanes.getD i 0, rows.map fun row => row.getD i 0))) =
      rows.flatten.flatMap (msbBits 10) := by
  have hone (row : List Nat) (hmem : row ∈ rows) :
      ((List.range lanes.length).flatMap fun i => msbBits 10 (row.getD i 0)) = row.flatMap (msbBits 10) := by
    rw [← hrow row hmem, flatMap_range_getD]
  have hsym (r i : Nat) : (rows.map fun row => row.getD i 0).getD r 0 = (rows.getD r []).getD i 0 := by
    by_cases h : r < rows.length <;> simp [List.getD_eq_getElem?_getD, h]
  calc rxBits (goodFrame ((List.range lanes.length).map fun i => (lanes.getD i 0, rows.map fun row => row.getD i 0)))
      = (List.range rows.length).flatMap fun r =>
          (List.range lanes.length).flatMap fun i => msbBits 10 ((rows.getD r []).getD i 0) := by
        simp only [rxBits, goodFrame, List.flatMap_map, hsym, hrows]
    _ = rows.flatMap fun row => (List.range lanes.length).flatMap fun i => msbBits 10 (row.getD i 0) :=
        flatMap_range_getD rows [] fun row => (List.range lanes.length).flatMap fun i => msbBits 10 (row.getD i 0)
    _ = rows.flatMap fun row => row.flatMap (msbBits 10) := List.flatMap_congr hone
    _ = rows.flatten.flatMap (msbBits 10) := by rw [← List.flatMap_id, List.flatMap_assoc]; rfl

/-- Bits grouped in symbols of ten are the bits of these symbols. -/
theorem symbols_of_bits {m : Nat} (bits : List Nat) (hlen : bits.length = 10 * m) (hbit : ∀ b ∈ bits, b < 2) :
    ((chunks 10 m bits).map bitsNat).flatMap (msbBits 10) = bits := by
  have hflat := flatten_chunks (n := 10) m bits (Nat.le_of_eq hlen)
  have hone : ∀ c ∈ chunks 10 m bits, msbBits 10 (bitsNat c) = c := by
    intro c hc
    have hten := (chunks_whole (n := 10) (by decide) m bits hlen).2 c hc
    have hbits : ∀ b ∈ c, b < 2 := fun b hb => hbit b (hflat ▸ List.mem_flatten.2 ⟨c, hc, hb⟩)
    rw [← hten, msbBits_bitsNat c hbits]
  rw [List.flatMap_map, List.flatMap_congr hone, List.flatMap_id', hflat]

/-! ## What a frame carries (R37, R38) -/

/-- The header of a data frame: its sequence number, its type and a reserved field. -/
def frameHead (seq : Nat) : List Nat := msbBits 16 seq ++ msbBits 8 1 ++ msbBits 16 0

/-- The bits of a frame behind its CRC: its blocks and the fill of a frame on `l` lanes. -/
def frameBody (l : Nat) (blocks : List (List Byte)) : List Nat :=
  blocks.flatMap bitsMsb ++ List.replicate (5140 * l - (10 * l + 72) - (blocks.flatMap bitsMsb).length) 0

/-- The bits of a frame: markers, header, CRC, blocks and fill. -/
def frameBits (lanes : List Nat) (seq : Nat) (blocks : List (List Byte)) : List Nat :=
  lanes.flatMap (fun k => msbBits 10 (marker k)) ++ (frameHead seq ++ (msbBits 32 (crc32 (frameHead seq ++
    frameBody lanes.length blocks)) ++ frameBody lanes.length blocks))

theorem frameLanes_eq (lanes : List Nat) (seq : Nat) (blocks : List (List Byte)) :
    frameLanes lanes seq blocks = (List.range lanes.length).map fun i => (lanes.getD i 0,
      (chunks lanes.length 514 ((chunks 10 (514 * lanes.length) (frameBits lanes seq blocks)).map bitsNat)).map
        fun row => row.getD i 0) := by
  simp only [frameLanes, frameBits, frameBody, frameHead, List.append_assoc]

theorem crc32_lt (bs : List Nat) : crc32 bs < 2 ^ 32 := by
  unfold crc32
  omega

/-- How a receiver takes apart what follows the markers (R38). -/
theorem frameParse_eq {f : RxFrame} {rest : List Nat} (h : (rxBits f).drop (10 * f.lanes.length) = rest) :
    frameParse f =
      if crc32 (rest.take 40 ++ rest.drop 72) ≠ bitsNat ((rest.drop 40).take 32) then none
      else if bitsNat ((rest.drop 16).take 8) ≠ 1 then some []
      else some ((chunks 512 (frameBlocks f.lanes.length) (rest.drop 72)).map (bytesMsb 64)) := by
  subst h
  rfl

/-- The receiver of a data frame whose CRC holds finds the blocks of its body. -/
theorem frameParse_of_bits {f : RxFrame} {marks body : List Nat} (seq : Nat) (hmarks : marks.length = 10 * f.lanes.length)
    (hbits : rxBits f = marks ++ (frameHead seq ++ (msbBits 32 (crc32 (frameHead seq ++ body)) ++ body))) :
    frameParse f = some ((chunks 512 (frameBlocks f.lanes.length) body).map (bytesMsb 64)) := by
  generalize hcrc : crc32 (frameHead seq ++ body) = crc at hbits
  have hhead : (frameHead seq).length = 40 := by simp [frameHead]
  have hmsb : (msbBits 32 crc).length = 32 := length_msbBits ..
  have hsent : bitsNat (msbBits 32 crc) = crc := bitsNat_msbBits (hcrc ▸ crc32_lt _)
  have hbody : (frameHead seq ++ (msbBits 32 crc ++ body)).drop 72 = body := by
    rw [← List.append_assoc, List.drop_left' (by rw [List.length_append, hhead, hmsb])]
  have htype : bitsNat (((frameHead seq ++ (msbBits 32 crc ++ body)).drop 16).take 8) = 1 := by
    rw [frameHead, List.append_assoc, List.append_assoc, List.drop_left' (length_msbBits ..),
      List.take_left' (length_msbBits ..), bitsNat_msbBits (by decide)]
  rw [frameParse_eq (by rw [hbits, List.drop_left' hmarks]), hbody, htype, List.take_left' hhead, List.drop_left' hhead,
    List.take_left' hmsb, hsent, hcrc, if_neg (by simp), if_neg (by simp)]

theorem frameBits_lt_two {lanes : List Nat} {seq : Nat} {blocks : List (List Byte)} {b : Nat}
    (h : b ∈ frameBits lanes seq blocks) : b < 2 := by
  simp only [frameBits, frameHead, frameBody, bitsMsb_eq, List.mem_append, List.mem_flatMap, List.mem_replicate] at h
  rcases h with ⟨k, -, h⟩ | ((h | h) | h) | h | ⟨x, -, y, -, h⟩ | ⟨-, rfl⟩
  any_goals exact msbBits_lt_two h
  exact Nat.two_pos

section
variable {blocks : List (List Byte)} (hblock : ∀ b ∈ blocks, b.length = 64)
include hblock

theorem length_flatMap_bitsMsb : (blocks.flatMap bitsMsb).length = 512 * blocks.length := by
  rw [List.length_flatMap, List.map_congr_left (g := fun _ => 512) fun b hb => by rw [length_bitsMsb, hblock b hb]]
  simp [Nat.mul_comm]

/-- The blocks of a body are its groups of 512 bits, whatever fills the frame. -/
theorem blocks_of_frameBody (l : Nat) :
    (chunks 512 blocks.length (frameBody l blocks)).map (bytesMsb 64) = blocks := by
  have hbits : ∀ xs ∈ blocks.map bitsMsb, xs.length = 512 := by
    intro xs hxs
    obtain ⟨b, hb, rfl⟩ := List.mem_map.1 hxs
    rw [length_bitsMsb, hblock b hb]
  have hgroups := chunks_flatten (by decide) (blocks.map bitsMsb)
    (List.replicate (5140 * l - (10 * l + 72) - (blocks.flatMap bitsMsb).length) 0) hbits
  rw [List.length_map, ← List.flatMap_def] at hgroups
  rw [frameBody, hgroups, List.map_map, List.map_congr_left (g := id) fun b hb => ?_, List.map_id]
  simp only [Function.comp_apply, id_eq]
  rw [← hblock b hb, bytesMsb_bitsMsb]

/-- The blocks of a frame leave room for its header on 8 lanes and on 7. -/
theorem length_frameBits {lanes : List Nat} (seq : Nat) (hlanes : lanes.length = 8 ∨ lanes.length = 7)
    (hcount : blocks.length = frameBlocks lanes.length) :
    (frameBits lanes seq blocks).length = 10 * (514 * lanes.length) := by
  have hbody := length_flatMap_bitsMsb hblock
  have hmarks : (lanes.flatMap fun k => msbBits 10 (marker k)).length = 10 * lanes.length := by
    simp [List.length_flatMap, Nat.mul_comm]
  rw [hcount] at hbody
  simp only [frameBits, frameHead, frameBody, List.length_append, hmarks, length_msbBits, hbody, List.length_replicate]
  rcases hlanes with h | h
  · simp [h, frameBlocks]
  · simp [h, frameBlocks]

end

/-- Settles O56: the symbols of the lanes, read row by row, are the bits of the frame, whose body holds the blocks. -/
theorem frameRoundTrip : Obligations.FrameRoundTrip := by
  intro lanes seq blocks hlanes hcount hblock
  have hl : 0 < lanes.length := by omega
  have hlen := length_frameBits hblock seq hlanes hcount
  have hsyms : ((chunks 10 (514 * lanes.length) (frameBits lanes seq blocks)).map bitsNat).length = lanes.length * 514 := by
    rw [List.length_map, (chunks_whole (by decide) _ _ hlen).1, Nat.mul_comm]
  obtain ⟨hrows, hrow⟩ := chunks_whole hl 514 _ hsyms
  have hbits : rxBits (goodFrame (frameLanes lanes seq blocks)) = frameBits lanes seq blocks := by
    rw [frameLanes_eq, bits_of_rows _ _ hrows hrow, flatten_chunks 514 _ (Nat.le_of_eq hsyms),
      symbols_of_bits _ hlen fun b => frameBits_lt_two]
  have hgood : (goodFrame (frameLanes lanes seq blocks)).lanes.length = lanes.length := by simp [goodFrame, frameLanes]
  have hparse := frameParse_of_bits seq (by rw [hgood]; simp [List.length_flatMap, Nat.mul_comm]) hbits
  rw [hgood, ← hcount, blocks_of_frameBody hblock] at hparse
  exact hparse

/-- Port lanes 0 to 7 without lane 3 carry a frame of 69 IDLE blocks. -/
theorem frameParse_idleOnSeven :
    frameParse (goodFrame (frameLanes [0, 1, 2, 4, 5, 6, 7] 65535 (List.replicate 69 idleBlock))) =
      some (List.replicate 69 idleBlock) :=
  frameRoundTrip [0, 1, 2, 4, 5, 6, 7] 65535 (List.replicate 69 idleBlock) (.inr rfl) (by simp [frameBlocks])
    (by simp [idleBlock])

end Sys2Proof.Machine
end

section
/-!
PROOFS. Bring-up and the safe pattern of a head-link port (R54, R59, R62, R65): the registers of a port, a port that goes
down, and the write of HLK_CTRL.
-/

namespace Sys2Proof.Machine

/-! ## The registers of a port (R66) -/

/-- The link state does not see the lanes, which lie beside it in HLK_STAT. -/
theorem State.linkState_setLanes (s : State) (n rx tx : Nat) :
    ((s.setFld Reg.HLK_STAT_RX_LANES n rx).setFld Reg.HLK_STAT_TX_LANES n tx).linkState n = s.linkState n := by
  rw [State.linkState, State.fld_setFld_beside _ Reg.HLK_STAT_TX_LANES Reg.HLK_STAT_LINK_STATE _ _ rfl (by decide)
      (by decide) (by decide),
    State.fld_setFld_beside _ Reg.HLK_STAT_RX_LANES Reg.HLK_STAT_LINK_STATE _ _ rfl (by decide) (by decide) (by decide),
    State.linkState]

/-- Fields of a port's other registers lie elsewhere. -/
theorem State.linkState_setFld (s : State) (n v : Nat) {f : Fld} (hbase : f.reg.base = Reg.HLK_STAT.base)
    (hstride : f.reg.stride = Reg.HLK_STAT.stride) (hoff : f.reg.off ≠ Reg.HLK_STAT.off) :
    (s.setFld f n v).linkState n = s.linkState n :=
  State.fld_setFld_ne _ _ _ _ _ _ (seqReg_addr_ne n hbase.symm hstride.symm (Ne.symm hoff))

theorem State.linkState_setTrain (s : State) (n v : Nat) :
    (s.setFld Reg.HLK_CTRL_TRAIN n v).linkState n = s.linkState n := s.linkState_setFld n v rfl rfl (by decide)

theorem State.fld_setTrain (s : State) (n : Nat) {v : Nat} (h : v < 2) :
    (s.setFld Reg.HLK_CTRL_TRAIN n v).fld Reg.HLK_CTRL_TRAIN n = v := by
  rw [State.fld_setFld_same _ _ _ _ (by decide) (by decide)]
  exact Nat.mod_eq_of_lt h

/-! ## A port that goes down (R59) -/

theorem State.portDown_linkState (s : State) (n : Nat) {st : Nat} (h : st < 16) : (s.portDown n st).linkState n = st := by
  unfold State.portDown
  dsimp only
  rw [State.linkState_setLanes, State.linkState_setHl]
  split
  · rw [State.linkState_setFld _ _ _ rfl rfl (by decide), State.linkState_setFld _ _ _ rfl rfl (by decide),
      State.linkTo_linkState _ _ _ h]
  · exact State.linkTo_linkState _ _ _ h

theorem State.bringUp_linkState (s : State) (n : Nat) : (s.bringUp n).linkState n = linkDetect :=
  (State.linkState_setHl (s.portDown n linkDetect) n n _).trans (s.portDown_linkState n (by decide))

@[simp] theorem State.bringUp_cseq (s : State) (n : Nat) : ((s.bringUp n).hl n).cseq = [] :=
  congrArg HlkS.cseq (State.hl_setHl_same (s.portDown n linkDetect) n _)

/-! ## The write of HLK_CTRL (R59, R62) -/

/-- What HLK_TRAIN does to a port that is not Up: bring-up with no failed attempt yet. -/
def State.trainPort (s : State) (n : Nat) : State :=
  let u := (s.bringUp n).setFld Reg.HLK_CTRL_TRAIN n 1
  u.setHl n { u.hl n with attempts := 0 }

theorem State.trainPort_linkState (s : State) (n : Nat) : (s.trainPort n).linkState n = linkDetect := by
  rw [State.trainPort, State.linkState_setHl, State.linkState_setTrain, State.bringUp_linkState]

theorem State.trainPort_train (s : State) (n : Nat) : (s.trainPort n).fld Reg.HLK_CTRL_TRAIN n = 1 := by
  rw [State.trainPort, State.fld_setHl, State.fld_setTrain _ _ (by decide)]

@[simp] theorem State.trainPort_hl (s : State) (n : Nat) :
    (s.trainPort n).hl n = { (s.bringUp n).hl n with attempts := 0 } := by
  rw [State.trainPort, State.hl_setHl_same, State.hl_setFld]

section
variable {s : State} {n : Nat} {v : Word}

theorem State.hlkCtrlWrite_train (htrain : Reg.HLK_CTRL_TRAIN.get v = 1) (hen : Reg.HLK_CTRL_EN.get v = 1)
    (hwanted : (s.store Reg.HLK_CTRL n 0 v).safeWanted n = false)
    (hsafe : (s.store Reg.HLK_CTRL n 0 v).flag Reg.HLK_STAT_SAFE n = false)
    (hfence : (s.store Reg.HLK_CTRL n 0 v).fenced (srcHLK n) = false)
    (hon : (s.store Reg.HLK_CTRL n 0 v).flag Reg.HLK_CTRL_EN n = true)
    (hup : (s.store Reg.HLK_CTRL n 0 v).linkState n ≠ linkUp) (hup7 : (s.store Reg.HLK_CTRL n 0 v).linkState n ≠ linkUp7) :
    s.hlkCtrlWrite n v = (s.store Reg.HLK_CTRL n 0 v).trainPort n := by
  have hsettle : (s.store Reg.HLK_CTRL n 0 v).safeSettle n = s.store Reg.HLK_CTRL n 0 v := by
    rw [State.safeSettle, hwanted, hsafe, if_neg (by decide), if_neg (by decide)]
  rw [State.hlkCtrlWrite]
  dsimp only
  rw [hsettle, hfence, hon, htrain, hen, if_neg (by decide), if_neg (by decide), if_pos (by decide),
    if_neg (by simp [hup, hup7])]
  rfl

theorem State.hlkCtrlWrite_safe (htrain : Reg.HLK_CTRL_TRAIN.get v = 0)
    (hwanted : (s.store Reg.HLK_CTRL n 0 v).safeWanted n = true)
    (hsafe : (s.store Reg.HLK_CTRL n 0 v).flag Reg.HLK_STAT_SAFE n = false)
    (hon : (((s.store Reg.HLK_CTRL n 0 v).startSafe n).spnPortFenced n).flag Reg.HLK_CTRL_EN n = true) :
    s.hlkCtrlWrite n v = ((s.store Reg.HLK_CTRL n 0 v).startSafe n).spnPortFenced n := by
  have hsettle : (s.store Reg.HLK_CTRL n 0 v).safeSettle n =
      ((s.store Reg.HLK_CTRL n 0 v).startSafe n).spnPortFenced n := by
    rw [State.safeSettle, hwanted, hsafe, if_pos rfl, if_neg (by decide)]
  rw [State.hlkCtrlWrite]
  dsimp only
  rw [hsettle, hon, htrain, if_neg (by decide : ¬ (!true) = true),
    if_neg (by simp : ¬ ((0 == 1 && Reg.HLK_CTRL_EN.get v == 1) = true)), ite_self]

end

/-! ## The commands -/

/-- An attempt at bring-up has failed for the `k`th time (R59). -/
def State.bringUpFailed (s : State) (n k : Nat) : State :=
  (s.portDown n linkDetect).setHl n { (s.portDown n linkDetect).hl n with attempts := if k < 8 then k else 0 }

@[simp] theorem State.bringUpFailed_linkState (s : State) (n k : Nat) : (s.bringUpFailed n k).linkState n = linkDetect :=
  (State.linkState_setHl (s.portDown n linkDetect) n n _).trans (s.portDown_linkState n (by decide))

@[simp] theorem State.bringUpFailed_attempts (s : State) (n k : Nat) :
    ((s.bringUpFailed n k).hl n).attempts = if k < 8 then k else 0 := by
  rw [State.bringUpFailed, State.hl_setHl_same]

/-- A port that has come up, before its HDA is looked at (R59). -/
def State.portUp (s : State) (n : Nat) : State :=
  let u := (s.linkTo n linkUp).setFld Reg.HLK_CTRL_TRAIN n 0
  u.setHl n { u.hl n with attempts := 0 }

theorem State.portUp_linkState (s : State) (n : Nat) : (s.portUp n).linkState n = linkUp := by
  rw [State.portUp, State.linkState_setHl, State.linkState_setTrain, State.linkTo_linkState _ _ _ (by decide)]

theorem State.portUp_train (s : State) (n : Nat) : (s.portUp n).fld Reg.HLK_CTRL_TRAIN n = 0 := by
  rw [State.portUp, State.fld_setHl, State.fld_setTrain _ _ (by decide)]

theorem State.portUp_attempts (s : State) (n : Nat) : ((s.portUp n).hl n).attempts = 0 := by
  rw [State.portUp, State.hl_setHl_same]

section
variable {s : State} {n : Nat} (hawake : s.glb.dormant = false) (hn : n < s.nHda)
include hawake hn

theorem exec_hlkTrain_eq {v : Word} (htrain : Reg.HLK_CTRL_TRAIN.get v = 1) (hen : Reg.HLK_CTRL_EN.get v = 1) :
    exec (.hlkTrain n v) s = .next (s.hlkCtrlWrite n v) := by
  show execHlkTrain n v s = _
  rw [execHlkTrain, State.powered_awake _ _ hawake, if_pos ⟨hn, htrain, hen⟩]

theorem exec_forceSafe_eq {v : Word} (hforce : Reg.HLK_CTRL_FORCE_SAFE.get v = 1) :
    exec (.forceSafe n v) s = .next (s.hlkCtrlWrite n v) := by
  show execForceSafe n v s = _
  rw [execForceSafe, State.powered_awake _ _ hawake, if_pos ⟨hn, hforce⟩]

theorem exec_signalDetect_inDetect (hon : s.flag Reg.HLK_CTRL_EN n = true) (hfence : s.fenced (srcHLK n) = false)
    (hst : s.linkState n = linkDetect) : exec (.signalDetect n) s = .next (s.linkTo n linkAdapt) := by
  show execSignalDetect n s = _
  rw [execSignalDetect, State.powered_awake _ _ hawake, if_pos ⟨hn, hon, by simp [hfence]⟩, hst, if_neg (by decide),
    if_pos rfl]

theorem exec_bringUpPhaseEnd_inAdapt (hsafe : s.flag Reg.HLK_STAT_SAFE n = false) (hst : s.linkState n = linkAdapt) :
    exec (.bringUpPhaseEnd n) s =
      .next (((s.linkTo n linkLock).setFld Reg.HLK_STAT_RX_LANES n 0xFF).setFld Reg.HLK_STAT_TX_LANES n 0xFF) := by
  show execBringUpPhaseEnd n s = _
  rw [execBringUpPhaseEnd, State.powered_awake _ _ hawake, if_neg (by simp [hn, hsafe]), if_pos hst]

theorem exec_bringUpPhaseEnd_inLock (hsafe : s.flag Reg.HLK_STAT_SAFE n = false) (hst : s.linkState n = linkLock)
    (haligned : (s.hl n).aligned = 0xFF) (hstatus : (s.hl n).statusSeen = true) :
    exec (.bringUpPhaseEnd n) s = .next (((s.portUp n).identity n).spnPortUp n) := by
  show execBringUpPhaseEnd n s = _
  rw [execBringUpPhaseEnd, State.powered_awake _ _ hawake, if_neg (by simp [hn, hsafe]),
    if_neg (by rw [hst]; decide), if_pos ⟨hst, haligned, hstatus⟩]
  rfl

theorem exec_bringUpTimeout_eq (hst : s.linkState n = linkAdapt ∨ s.linkState n = linkLock) :
    exec (.bringUpTimeout n) s = .next (if (s.hl n).attempts + 1 < 8 then s.bringUpFailed n ((s.hl n).attempts + 1)
      else ((s.bringUpFailed n ((s.hl n).attempts + 1)).setFld Reg.HLK_CTRL_TRAIN n 0).hlkFault n 2) := by
  show execBringUpTimeout n s = _
  rw [execBringUpTimeout, State.powered_awake _ _ hawake, if_pos ⟨hn, hst⟩]
  rfl

theorem exec_signalLoss_eq (hst : s.linkState n = linkUp ∨ s.linkState n = linkUp7) :
    exec (.signalLoss n) s = .next (s.hlkFault n 3) := by
  show execSignalLoss n s = _
  rw [execSignalLoss, State.powered_awake _ _ hawake, if_pos ⟨hn, hst⟩]

end

/-- Settles O5: each command is its guard, then the state change that the lemmas above name. -/
theorem headLinkBringUp : Obligations.HeadLinkBringUp := by
  refine ⟨?_, ?_, ?_, ?_, ?_, ?_, ?_, ?_⟩
  · rintro s n v hawake hn htrain hen ⟨hwanted, hsafe, hfence, hon, hup, hup7⟩
    refine ⟨(s.store Reg.HLK_CTRL n 0 v).trainPort n, ?_, ?_, ?_, fun cls => ?_, ?_⟩
    · rw [exec_hlkTrain_eq hawake hn htrain hen, State.hlkCtrlWrite_train htrain hen hwanted hsafe hfence hon hup hup7]
    · exact State.trainPort_linkState _ n
    · exact State.trainPort_train _ n
    · rw [State.trainPort_hl, State.bringUp_cseq]
      rfl
    · rw [State.trainPort_hl]
  · rintro s n v hawake hn hforce htrain ⟨hwanted, hsafe, hon⟩
    rw [exec_forceSafe_eq hawake hn hforce, State.hlkCtrlWrite_safe htrain hwanted hsafe hon]
  · intro s n hawake hn hon hfence hst
    exact ⟨_, exec_signalDetect_inDetect hawake hn hon hfence hst, s.linkTo_linkState n linkAdapt (by decide),
      s.linkTo_mem n linkAdapt, fun addr => s.linkTo_rdA n linkAdapt addr⟩
  · intro s n hawake hn hsafe hst
    refine ⟨_, exec_bringUpPhaseEnd_inAdapt hawake hn hsafe hst, ?_, ?_, ?_, ?_, fun addr hne => ?_⟩
    · rw [State.linkState_setLanes, State.linkTo_linkState _ _ _ (by decide)]
    · rw [State.fld_setFld_beside _ Reg.HLK_STAT_TX_LANES Reg.HLK_STAT_RX_LANES _ _ rfl (by decide) (by decide) (by decide),
        State.fld_setFld_same _ _ _ _ (by decide) (by decide)]
      rfl
    · rw [State.fld_setFld_same _ _ _ _ (by decide) (by decide)]
      rfl
    · simp
    · rw [State.rdA_setFld_ne _ _ _ _ _ hne, State.rdA_setFld_ne _ _ _ _ _ hne, State.linkTo_rdA _ _ _ _ hne]
  · intro s n hawake hn hsafe hst haligned hstatus
    exact ⟨s.portUp n, exec_bringUpPhaseEnd_inLock hawake hn hsafe hst haligned hstatus, s.portUp_linkState n,
      s.portUp_train n, s.portUp_attempts n⟩
  · intro s n hawake hn hst hfew
    refine ⟨_, (exec_bringUpTimeout_eq hawake hn hst).trans (by rw [if_pos (by omega)]), ?_, ?_⟩
    · exact s.bringUpFailed_linkState n _
    · rw [State.bringUpFailed_attempts, if_pos (by omega)]
  · intro s n hawake hn hst hseven
    refine ⟨_, (exec_bringUpTimeout_eq hawake hn hst).trans (by rw [if_neg (by omega)]), ?_, ?_, ?_⟩
    · rw [State.linkState_setTrain, State.bringUpFailed_linkState]
    · exact State.fld_setTrain _ _ (by decide)
    · rw [State.hl_setFld, State.bringUpFailed_attempts, if_neg (by omega)]
  · intro s n hawake hn hst
    exact exec_signalLoss_eq hawake hn hst

/-! ## States that meet the hypotheses -/

/-- Port 3 in Adapt after seven failed attempts. -/
def adaptAfterSeven : State := (Tests.w0.setFld Reg.HLK_STAT_LINK_STATE 3 linkAdapt).setHl 3 { attempts := 7 }

/-- Its next timeout is the eighth failure. -/
theorem bringUpTimeout_adaptAfterSeven : ∃ u : State, exec (.bringUpTimeout 3) adaptAfterSeven = .next (u.hlkFault 3 2) ∧
    u.linkState 3 = linkDetect ∧ (u.hl 3).attempts = 0 := by
  obtain ⟨-, -, -, -, -, -, heighth, -⟩ := headLinkBringUp
  obtain ⟨u, hexec, hst, -, hattempts⟩ :=
    heighth adaptAfterSeven 3 (by decide) (by decide) (.inl (by decide)) (by decide)
  exact ⟨u, hexec, hst, hattempts⟩

/-- Port 3 of a device in Service takes a write of HLK_CTRL with EN and TRAIN, which starts its bring-up. -/
theorem hlkTrain_inService : ∃ t : State, exec (.hlkTrain 3 0x5003) Tests.w0 = .next t ∧ t.linkState 3 = linkDetect := by
  obtain ⟨htrain, -⟩ := headLinkBringUp
  obtain ⟨t, hexec, hst, -⟩ := htrain Tests.w0 3 0x5003 (by decide) (by decide) (by decide) (by decide)
    ⟨by decide, by decide, by decide, by decide, by decide, by decide⟩
  exact ⟨t, hexec, hst⟩

end Sys2Proof.Machine
end

section
/-!
PROOFS. The frames of a head-link port (R37 to R40, R56, R58): what a frame on good lanes leaves of the receiver, what a port
without commands and bursts transmits, and the wait for an acknowledgement.
-/

namespace Sys2Proof.Machine

/-! ## A port written twice -/

/-- The later of two writes of a key counts. -/
theorem mset_mset {α : Type} [DecidableEq α] (d : Nat → α) (m : List (Nat × α)) (k : Nat) (v w : α) :
    mset d (mset d m k v) k w = mset d m k w := by
  have hmid (p : Nat → Bool) (hp : p k = false) : ((if v = d k then [] else [(k, v)]).filter fun e => p e.1) = [] := by
    split <;> simp [hp]
  have hbelow : (mset d m k v).filter (fun e => e.1 < k) = m.filter fun e => e.1 < k := by
    rw [mset, List.filter_append, List.filter_append, hmid (fun j => decide (j < k)) (by simp), List.filter_filter,
      List.filter_filter]
    simpa using fun (j : Nat) (_ : α) _ (hj : j < k) => hj.le
  have habove : (mset d m k v).filter (fun e => k < e.1) = m.filter fun e => k < e.1 := by
    rw [mset, List.filter_append, List.filter_append, hmid (fun j => decide (k < j)) (by simp), List.filter_filter,
      List.filter_filter]
    simpa using fun (j : Nat) (_ : α) _ (hj : k < j) => hj.le
  rw [mset, hbelow, habove, mset]

@[simp] theorem State.setHl_setHl (s : State) (n : Nat) (x y : HlkS) : (s.setHl n x).setHl n y = s.setHl n y := by
  simp [State.setHl, mset_mset]

/-! ## Lanes of a received frame (R39, R60) -/

/-- A bit set leaves every set bit set. -/
theorem bitOf_setBit_true {w k : Nat} (j : Nat) (h : bitOf w k = true) : bitOf (setBit w j true) k = true := by
  rw [bitOf, setBit, testBit_putBits _ _ _ _ _ (Nat.le_succ j)]
  split
  · have hk : k - j = 0 := by omega
    simp [hk]
  · exact h

section
variable {s : State} {n : Nat} (hup : s.linkState n ≠ linkUp) (hup7 : s.linkState n ≠ linkUp7)
include hup hup7

/-- A lane of a port that is not Up: counts alone change, and a lane whose marker is found loses no alignment. -/
theorem State.rxLane_spec (x : HlkS) (l : RxLane) :
    ∃ y : HlkS, (s.setHl n x).rxLane n l = s.setHl n y ∧ y.rxq = x.rxq ∧ y.winFrames = x.winFrames ∧
      (l.syms.headD 0 = marker l.lane → ∀ k, bitOf x.aligned k = true → bitOf y.aligned k = true) := by
  unfold State.rxLane
  simp only [State.linkState_setHl, beq_false_of_ne hup, beq_false_of_ne hup7, Bool.or_self, Bool.false_and,
    Bool.false_eq_true, if_false, State.setHl_setHl, State.hl_setHl_same]
  refine ⟨_, rfl, rfl, rfl, fun hmark k hk => ?_⟩
  simp only [hmark, beq_self_eq_true, if_true]
  split
  · exact bitOf_setBit_true _ hk
  · exact hk

theorem State.rxLanes_spec (lanes : List RxLane) (x : HlkS) :
    ∃ y : HlkS, lanes.foldl (fun u l => u.rxLane n l) (s.setHl n x) = s.setHl n y ∧ y.rxq = x.rxq ∧
      y.winFrames = x.winFrames ∧ ((∀ l ∈ lanes, l.syms.headD 0 = marker l.lane) →
        ∀ k, bitOf x.aligned k = true → bitOf y.aligned k = true) := by
  induction lanes generalizing x with
  | nil => exact ⟨x, rfl, rfl, rfl, fun _ _ h => h⟩
  | cons l lanes ih =>
    obtain ⟨y, hstep, hrxq, hwin, hal⟩ := State.rxLane_spec hup hup7 x l
    obtain ⟨z, hrest, hrxq', hwin', hal'⟩ := ih y
    refine ⟨z, by rw [List.foldl_cons, hstep, hrest], hrxq'.trans hrxq, hwin'.trans hwin, fun hmark k hk => ?_⟩
    obtain ⟨hl, hlanes⟩ := List.forall_mem_cons.1 hmark
    exact hal' hlanes k (hal hl k hk)

end

/-! ## Blocks of a received frame (R40) -/

/-- A block of a good frame reaches the receiver, or is counted when its type is unknown. -/
def State.rxTake (s : State) (n : Nat) (b : List Byte) : State :=
  if blkByte b 0 = 0 then s
  else if blkByte b 0 = 1 ∨ blkByte b 0 = 2 ∨ blkByte b 0 = 3 then s.setHl n { s.hl n with rxq := (s.hl n).rxq ++ [b] }
  else s.bump Reg.HLK_CNT_BLK n 1

theorem State.rxTakes_eq (s : State) (n : Nat) (bs : List (List Byte)) (x : HlkS)
    (h : ∀ b ∈ bs, blkByte b 0 = 1 ∨ blkByte b 0 = 2 ∨ blkByte b 0 = 3) :
    bs.foldl (fun u b => u.rxTake n b) (s.setHl n x) = s.setHl n { x with rxq := x.rxq ++ bs } := by
  induction bs generalizing x with
  | nil => simp
  | cons b bs ih =>
    obtain ⟨hb, hbs⟩ := List.forall_mem_cons.1 h
    have hone : (s.setHl n x).rxTake n b = s.setHl n { x with rxq := x.rxq ++ [b] } := by
      rw [State.rxTake, if_neg (by omega), if_pos hb, State.setHl_setHl, State.hl_setHl_same]
    rw [List.foldl_cons, hone, ih _ hbs, List.append_assoc]
    rfl

theorem State.windowEnd_running {s : State} {n : Nat} (h : (s.hl n).winFrames < 2 ^ 20) : s.windowEnd n = s := if_pos h

/-- A frame on the receive lanes of a port in Lock, in the middle of a window: one that does not parse is counted, one on good
and aligned lanes gives its blocks to the receiver. -/
theorem exec_receiveFrame_inLock {s : State} {n : Nat} {f : RxFrame} (hawake : s.glb.dormant = false) (hn : n < s.nHda)
    (hst : s.linkState n = linkLock) (hlanes : f.lanes.map RxLane.lane = setBitsList (s.fld Reg.HLK_STAT_RX_LANES n) 8)
    (hwin : (s.hl n).winFrames + 1 < 2 ^ 20) :
    ∃ y : HlkS, y.rxq = (s.hl n).rxq ∧
      (frameParse f = none → exec (.receiveFrame n f) s = .next ((s.setHl n y).bump Reg.HLK_CNT_BAD n 1)) ∧
      (∀ bs, frameParse f = some bs → (∀ b ∈ bs, blkByte b 0 = 1 ∨ blkByte b 0 = 2 ∨ blkByte b 0 = 3) →
        (∀ l ∈ f.lanes, l.ok = true ∧ l.syms.headD 0 = marker l.lane ∧ bitOf (s.hl n).aligned l.lane = true) →
        exec (.receiveFrame n f) s = .next (s.setHl n { y with rxq := y.rxq ++ bs })) := by
  obtain ⟨y, hfold, hrxq, hframes, hal⟩ := State.rxLanes_spec (s := s) (n := n) (by rw [hst]; decide) (by rw [hst]; decide)
    f.lanes { s.hl n with winFrames := (s.hl n).winFrames + 1 }
  have hguard : ¬ (¬ n < s.nHda ∨ ¬ (s.linkState n = linkLock ∨ s.linkState n = linkUp ∨ s.linkState n = linkUp7) ∨
      f.lanes.map RxLane.lane ≠ setBitsList (s.fld Reg.HLK_STAT_RX_LANES n) 8) := by simp [hn, hst, hlanes]
  have hwindow : (s.setHl n y).windowEnd n = s.setHl n y :=
    State.windowEnd_running (by rw [State.hl_setHl_same, hframes]; exact hwin)
  refine ⟨y, hrxq, fun hparse => ?_, fun bs hparse htypes hgood => ?_⟩
  · show execReceiveFrame n f s = _
    rw [execReceiveFrame, State.powered_awake _ _ hawake, if_neg hguard]
    dsimp only
    rw [hfold, hwindow, if_neg (by simp), hparse, ite_self]
  · have hwhole : (f.lanes.all fun l => l.ok && bitOf ((s.setHl n y).hl n).aligned l.lane) = true := by
      rw [State.hl_setHl_same, List.all_eq_true]
      intro l hl
      obtain ⟨hok, -, haligned⟩ := hgood l hl
      rw [hok, hal (fun m hm => (hgood m hm).2.1) _ haligned]
      rfl
    rw [← State.rxTakes_eq s n bs y htypes]
    show execReceiveFrame n f s = _
    rw [execReceiveFrame, State.powered_awake _ _ hawake, if_neg hguard]
    dsimp only
    rw [hfold, hwindow, if_neg (by simp), hwhole, if_pos rfl, hparse]
    rfl

/-! ## Transmission (R38, R40) -/

theorem HlkS.bindOpens_of_no_bursts {x : HlkS} (h : x.bursts = []) : x.bindOpens = x := by
  rw [HlkS.bindOpens, h]
  rfl

theorem HlkS.takeWrites_of_no_bursts {x : HlkS} (h : x.bursts = []) (now k : Nat) : x.takeWrites now k = (x, []) := by
  have hone : x.takeWrite now = (x, none) := by
    rw [HlkS.takeWrite, h]
    rfl
  cases k with
  | zero => rfl
  | succ k => rw [HlkS.takeWrites, hone]

/-- The frame of a port with nothing to send (R38, R40). -/
def State.idleFrame (s : State) (n : Nat) : TxFrame :=
  { seq := (s.hl n).frame % 65536, lanes := s.fld Reg.HLK_STAT_TX_LANES n
    blocks := List.replicate (frameBlocks (laneCount (s.fld Reg.HLK_STAT_TX_LANES n))) idleBlock }

theorem exec_transmitFrameStart_idle {s : State} {n : Nat} (hawake : s.glb.dormant = false) (hn : n < s.nHda)
    (hsafe : s.flag Reg.HLK_STAT_SAFE n = false) (hst : s.linkState n = linkLock) (hcmds : (s.hl n).cmds = [])
    (hbursts : (s.hl n).bursts = []) :
    exec (.transmitFrameStart n) s =
      .next ((s.setHl n { s.hl n with tx := some (s.idleFrame n), frame := ((s.hl n).frame + 1) % 2 ^ 26 }).bump
        Reg.HLK_CNT_RETRY n 0) := by
  have hguard : ¬ (¬ n < s.nHda ∨ s.flag Reg.HLK_STAT_SAFE n = true ∨
      ¬ (s.linkState n = linkLock ∨ s.linkState n = linkUp ∨ s.linkState n = linkUp7)) := by simp [hn, hsafe, hst]
  have hsame : ({ s.hl n with cmds := [] } : HlkS) = s.hl n := by rw [← hcmds]
  show execTransmitFrameStart n s = _
  rw [execTransmitFrameStart, State.powered_awake _ _ hawake, if_neg hguard]
  simp only [hst, if_true, hcmds, List.filter_nil, List.append_nil, List.take_nil, List.map_nil, List.length_nil,
    hsame, HlkS.bindOpens_of_no_bursts hbursts, HlkS.takeWrites_of_no_bursts hbursts, Nat.sub_zero, List.nil_append]
  rfl

/-! ## The wait for an acknowledgement (R56, R58) -/

section
variable {s : State} {n cls cseq : Nat} {c : LinkCmd} (hawake : s.glb.dormant = false) (hn : n < s.nHda)
  (hfind : (s.hl n).cmds.find? (fun c => c.cls == cls && c.cseq == cseq && decide (0 < c.sends) && !c.due) = some c)
include hawake hn hfind

theorem exec_ackWaitExpiry_again (hfew : c.sends < 3) :
    exec (.ackWaitExpiry n cls cseq) s = .next (s.setHl n { s.hl n with
      cmds := (s.hl n).cmds.map fun d => if d == c then { d with due := true } else d }) := by
  show execAckWaitExpiry n cls cseq s = _
  rw [execAckWaitExpiry, State.powered_awake _ _ hawake]
  dsimp only
  rw [hfind]
  dsimp only
  rw [if_pos hn, if_neg (by omega)]

theorem exec_ackWaitExpiry_spent (hthree : 3 ≤ c.sends) :
    exec (.ackWaitExpiry n cls cseq) s = .next (s.hlkFault n 0) := by
  show execAckWaitExpiry n cls cseq s = _
  rw [execAckWaitExpiry, State.powered_awake _ _ hawake]
  dsimp only
  rw [hfind]
  dsimp only
  rw [if_pos hn, if_pos hthree]

end

/-- A count raised changes its own register alone. -/
theorem State.rdA_bump_ne (s : State) {r : Reg} {i addr : Nat} (k : Nat) (h : addr ≠ r.addr i 0) :
    (s.bump r i k).rdA addr = s.rdA addr := by
  rw [State.bump, State.rdA_wr, if_neg h]

/-- Settles O6: a frame changes the counts of its lanes and then the receiver or HLK_CNT_BAD; an idle port sends IDLE blocks; a
wait that ends finds its command. -/
theorem headLinkFrames : Obligations.HeadLinkFrames := by
  refine ⟨?_, ?_, ?_, ?_, ?_⟩
  · intro s n f hawake hn hst hlanes _ hparse hwin
    obtain ⟨y, hrxq, hbad, -⟩ := exec_receiveFrame_inLock hawake hn hst hlanes hwin
    refine ⟨_, hbad hparse, State.rd_wr_same .., ?_, fun addr hne => State.rdA_bump_ne _ 1 hne, rfl⟩
    rw [State.bump, State.hl_wr, State.hl_setHl_same, hrxq]
  · intro s n f bs hawake hn hst hlanes hgood hparse htypes hwin
    obtain ⟨y, hrxq, -, htaken⟩ := exec_receiveFrame_inLock hawake hn hst hlanes hwin
    have hgood' : ∀ l ∈ f.lanes, l.ok = true ∧ l.syms.headD 0 = marker l.lane ∧ bitOf (s.hl n).aligned l.lane = true := by
      simpa [and_assoc] using hgood
    exact ⟨_, htaken bs hparse htypes hgood', by rw [State.hl_setHl_same, hrxq], rfl, rfl⟩
  · intro s n hawake hn hsafe hst hcmds hbursts
    refine ⟨_, exec_transmitFrameStart_idle hawake hn hsafe hst hcmds hbursts, ?_, ?_, ?_,
      fun addr hne => State.rdA_bump_ne _ 0 hne, rfl⟩
    · rw [State.bump, State.hl_wr, State.hl_setHl_same]
    · rw [State.bump, State.hl_wr, State.hl_setHl_same]
      rfl
    · rw [State.bump, State.rd_wr_same, State.rd_setHl, Nat.add_zero, word, BitVec.ofNat_toNat, BitVec.setWidth_eq]
  · intro s n cls cseq c hawake hn hfind hfew
    exact ⟨_, exec_ackWaitExpiry_again hawake hn hfind hfew, by rw [State.hl_setHl_same], rfl, rfl⟩
  · intro s n cls cseq c hawake hn hfind hthree
    exact exec_ackWaitExpiry_spent hawake hn hfind hthree

/-! ## States that meet the hypotheses -/

/-- Port 3 in Lock on eight lanes at the last frame of its count. -/
def lockedPort : State :=
  ((Tests.w0.setFld Reg.HLK_STAT_LINK_STATE 3 linkLock).setFld Reg.HLK_STAT_TX_LANES 3 0xFF).setHl 3 { frame := 2 ^ 26 - 1 }

/-- The count starts again at zero, and the frame carries its low 16 bits. -/
theorem transmitFrameStart_lockedPort : ∃ t : State, exec (.transmitFrameStart 3) lockedPort = .next t ∧
    (t.hl 3).frame = 0 ∧ (t.hl 3).tx = some { seq := 65535, lanes := 0xFF, blocks := List.replicate 80 idleBlock } := by
  obtain ⟨-, -, hsend, -⟩ := headLinkFrames
  obtain ⟨t, hexec, hframe, htx, -⟩ :=
    hsend lockedPort 3 (by decide) (by decide) (by decide) (by decide) (by decide) (by decide)
  exact ⟨t, hexec, hframe, htx⟩

/-- Port 3 with a command sent three times that no acknowledgement has answered. -/
def unansweredPort : State :=
  Tests.w0.setHl 3 { cmds := [{ cls := 4, cseq := 9, block := configBlock 9 [], sends := 3, due := false, issuer := .link }] }

/-- Its budget is spent. -/
theorem ackWaitExpiry_unansweredPort : exec (.ackWaitExpiry 3 4 9) unansweredPort = .next (unansweredPort.hlkFault 3 0) := by
  obtain ⟨-, -, -, -, hspent⟩ := headLinkFrames
  exact hspent unansweredPort 3 4 9
    { cls := 4, cseq := 9, block := configBlock 9 [], sends := 3, due := false, issuer := .link } (by decide) (by decide)
    (by decide) (by decide)

/-- Port 3 in Lock with its eight receive lanes aligned. -/
def alignedPort : State :=
  ((Tests.w0.setFld Reg.HLK_STAT_LINK_STATE 3 linkLock).setFld Reg.HLK_STAT_RX_LANES 3 0xFF).setHl 3 { aligned := 0xFF }

/-- A frame full of SAMPLE blocks of link head 0. -/
def sampleFrame : RxFrame := goodFrame (frameLanes (List.range 8) 7 (List.replicate 80 (block64 [1])))

/-- Its blocks reach the receiver. -/
theorem receiveFrame_alignedPort : ∃ t : State, exec (.receiveFrame 3 sampleFrame) alignedPort = .next t ∧
    (t.hl 3).rxq = List.replicate 80 (block64 [1]) := by
  have hparse := frameRoundTrip (List.range 8) 7 (List.replicate 80 (block64 [1])) (.inl rfl) (by simp [frameBlocks])
    (by simp [block64])
  obtain ⟨-, hreceive, -⟩ := headLinkFrames
  obtain ⟨t, hexec, hrxq, -⟩ := hreceive alignedPort 3 sampleFrame (List.replicate 80 (block64 [1])) (by decide) (by decide)
    (by decide) (by decide) (by decide) hparse (by simp [block64, blkByte]) (by decide)
  exact ⟨t, hexec, hrxq⟩

end Sys2Proof.Machine
end

section
/-!
PROOFS. The device words to the companion (R51, R81, R134, R139, R142, R398, R399): what WRSEND adds to a port's bursts, and
what an HLCMD word sends or refuses.
-/

namespace Sys2Proof.Machine

/-! ## Issue and refusal beside the ports -/

/-- The issue of a word writes registers of the sequencers alone (R416). -/
theorem State.fld_issue_below (s : State) (q : Nat) {f : Fld} {i : Nat} (h : f.reg.addr i 0 < 0x00B00000) :
    (s.issue q).fld f i = s.fld f i := by
  have hpc : f.reg.addr i 0 ≠ Reg.SEQ_STAT_PC.reg.addr q 0 := by
    simp only [Reg.addr, Reg.SEQ_STAT_PC, Reg.SEQ_STAT] at h ⊢
    omega
  have hwords : f.reg.addr i 0 ≠ Reg.SEQ_CNT_WORDS.addr q 0 := by
    simp only [Reg.addr, Reg.SEQ_CNT_WORDS] at h ⊢
    omega
  exact (congrArg f.get (State.rd_wr_ne _ Reg.SEQ_CNT_WORDS f.reg q 0 i 0 _ hwords)).trans
    (State.fld_setFld_ne s Reg.SEQ_STAT_PC f q i _ hpc)

theorem State.canCommand_issue (s : State) {q : Nat} (hq : q < 32) :
    (s.issue q).canCommand (q / 2) = s.canCommand (q / 2) := by
  have hstat : Reg.HLK_STAT.addr (q / 2) 0 < 0x00B00000 := by
    simp only [Reg.addr, Reg.HLK_STAT]
    omega
  rw [State.canCommand, State.linkState, State.flag, State.fld_issue_below s q (f := Reg.HLK_STAT_LINK_STATE) hstat,
    State.fld_issue_below s q (f := Reg.HLK_STAT_SAFE) hstat]
  rfl

@[simp] theorem State.canCommand_setFl (s : State) (q k : Nat) (b : Bool) (n : Nat) :
    (s.setFl q k b).canCommand n = s.canCommand n := rfl

theorem State.refuse_flow_sameUnits (s : State) (q : Nat) :
    s.SameUnits (((s.issue q).setRF q true).flow q (s.mw q)) :=
  ⟨rfl, rfl, rfl, rfl, rfl, rfl, rfl, rfl, rfl, rfl, rfl, rfl, rfl, rfl, rfl, rfl, rfl, rfl, rfl⟩

/-- A command that only refuses its word sets RF, flows and sends nothing. -/
theorem exec_refused {s : State} {q : Nat} {c : Instr}
    (h : exec c s = .next (((s.issue q).setRF q true).flow q (s.mw q))) :
    ∃ t : State, exec c s = .next t ∧ t.fl q flRF = true ∧ s.Flowed t q ∧ s.SameBytes t ∧ s.SameUnits t := by
  obtain ⟨hrf, -, -, hflow, hbytes⟩ := s.refuse_flow q
  exact ⟨_, h, hrf, hflow, hbytes, s.refuse_flow_sameUnits q⟩

/-! ## WRSEND (R134, R399) -/

/-- The bursts of an encoded sector: one, or with a count inside the sector two (R399). -/
def sectorBursts (h k : Nat) (b : List Nat) : List Burst :=
  (if k = 0 then [b] else [b.take k, b.drop k].filter fun p => !p.isEmpty).map fun p =>
    { head := h, blocks := writeBlocks h p }

theorem sectorBursts_whole {k : Nat} (h : Nat) (b : List Nat) (hk : k = 0) :
    sectorBursts h k b = [{ head := h, blocks := writeBlocks h b }] := by
  subst hk
  rfl

theorem sectorBursts_split {k : Nat} (h : Nat) {b : List Nat} (hk : 0 < k) (hlen : k < b.length) :
    sectorBursts h k b =
      [{ head := h, blocks := writeBlocks h (b.take k) }, { head := h, blocks := writeBlocks h (b.drop k) }] := by
  have htake : (b.take k).isEmpty = false := by
    rw [Bool.eq_false_iff, ne_eq, List.isEmpty_iff_length_eq_zero, List.length_take]
    omega
  have hdrop : (b.drop k).isEmpty = false := by
    rw [Bool.eq_false_iff, ne_eq, List.isEmpty_iff_length_eq_zero, List.length_drop]
    omega
  rw [sectorBursts, if_neg (by omega)]
  simp [htake, hdrop]

/-- The channel bits of the sector that a WRSEND names (R101, R398). -/
def State.sentBits (s : State) (q : Nat) : List Nat :=
  (s.issue q).channelBits ((s.issue q).encodedBits (((s.issue q).gr q (s.mw q).dB).toNat % 1024))

section
variable {s : State} {q : Nat} (hawake : s.glb.dormant = false) (hissue : s.canIssue q 0x4A = true)
include hawake hissue

theorem exec_wrsend_refused (hplace : 32 ≤ q ∨ 9 < (s.mw q).dHead) :
    exec (.wrsend q) s = .next (((s.issue q).setRF q true).flow q (s.mw q)) := by
  show execWrsend q s = _
  rw [execWrsend, State.powered_awake _ _ hawake, State.plainWord_of_canIssue hissue, if_neg (by omega)]

theorem exec_wrsend_sent (hq : q < 32) (hhead : (s.mw q).dHead ≤ 9) (hcan : s.canCommand (q / 2) = true) {u : State}
    {bs : List Burst} (hu : (s.issue q).setRF q false = u)
    (hbs : sectorBursts (q % 2 * 10 + (s.mw q).dHead) (((s.issue q).gr q (s.mw q).dE).toNat % 65536) (s.sentBits q) = bs) :
    exec (.wrsend q) s = .next ((u.setHl (q / 2) ({ u.hl (q / 2) with
      bursts := (u.hl (q / 2)).bursts ++ bs } : HlkS).bindOpens).flow q (s.mw q)) := by
  subst hu hbs
  have hport : ((s.issue q).setRF q false).canCommand (q / 2) = true := by
    rw [State.setRF_false, State.canCommand_setFl, s.canCommand_issue hq, hcan]
  show execWrsend q s = _
  rw [execWrsend, State.powered_awake _ _ hawake, State.plainWord_of_canIssue hissue, if_pos ⟨hq, hhead⟩]
  dsimp only
  rw [if_pos hport]
  rfl

end

/-! ## HLCMD (R51, R398) -/

section
variable {s : State} {q sub : Nat} {c : Instr} {f : State → List Byte → Option (State × List Byte)}
  (hawake : s.glb.dormant = false) (hissue : s.canIssue q 0x49 = true)
  (hc : exec c s = s.powered fun s => .next (s.hlcmd q sub f))
include hawake hissue hc

/-- A word of the command's subcommand on which `f` acts: its block is sent and RF cleared. -/
theorem exec_hlcmd_sent {u : State} {ops : List Byte} (hsub : (s.mw q).bits 54 47 = sub) (hq : q < 32)
    (hhead : (s.mw q).dHead ≤ 9) (hf : f (s.issue q) ((s.issue q).hlOps q (s.mw q)) = some (u, ops)) :
    exec c s = .next (((u.sendCmd (q / 2) 4 (configBlock sub ops) (.micro q sub)).setRF q false).flow q (s.mw q)) := by
  rw [hc, State.powered_awake _ _ hawake, State.hlcmd, if_pos (by simp [hissue, hsub]),
    State.plainWord_of_canIssue hissue, if_neg (by omega), hf]

theorem exec_hlcmd_refused (hsub : (s.mw q).bits 54 47 = sub)
    (hf : f (s.issue q) ((s.issue q).hlOps q (s.mw q)) = none) :
    exec c s = .next (((s.issue q).setRF q true).flow q (s.mw q)) := by
  rw [hc, State.powered_awake _ _ hawake, State.hlcmd, if_pos (by simp [hissue, hsub]),
    State.plainWord_of_canIssue hissue, hf, ite_self]

/-- A word whose subcommand no HLCMD command carries is refused by each of them. -/
theorem exec_hlcmd_notAllowed (hallowed : sub ∈ hlSubs) (hnone : hlSubs.contains ((s.mw q).bits 54 47) = false) :
    exec c s = .next (((s.issue q).setRF q true).flow q (s.mw q)) := by
  have hne : (s.mw q).bits 54 47 ≠ sub := by
    rintro rfl
    simp [hallowed] at hnone
  rw [hc, State.powered_awake _ _ hawake, State.hlcmd,
    if_pos (by rw [hissue, hnone, Bool.not_false, Bool.or_true]; rfl), State.plainWord_of_canIssue hissue,
    if_pos (.inl hne)]

end

/-- Operand bytes of an HLCMD with the actuator's side in the first (R51). -/
def State.sideOps (s : State) (q : Nat) : List Byte :=
  BitVec.ofNat 8 (q % 2) :: ((s.issue q).hlOps q (s.mw q)).tail

/-- The link head that the operand bytes of a WRITE_OPEN or a WRITE_ABORT name (R51). -/
def State.opsHead (s : State) (q : Nat) : Nat := (((s.issue q).hlOps q (s.mw q)).headD 0).toNat

/-- The gate that the operand bytes of a WRITE_OPEN describe (R139). -/
def State.opsOpen (s : State) (q : Nat) : WriteOpen :=
  let ops := (s.issue q).hlOps q (s.mw q)
  { start := beNat ((ops.drop 1).take 5), period := beNat ((ops.drop 6).take 4), length := beNat ((ops.drop 10).take 4) }

section
variable {s : State} {q : Nat} (hawake : s.glb.dormant = false) (hissue : s.canIssue q 0x49 = true) (hq : q < 32)
  (hhead : (s.mw q).dHead ≤ 9)
include hawake hissue hq hhead

/-- The head's bursts leave the port (R51). -/
theorem exec_hlcmdWriteAbort_sent (hsub : (s.mw q).bits 54 47 = 4) (hown : ownHead q (s.opsHead q) = true) :
    ∃ u : State, (u.hl (q / 2)).bursts = (s.hl (q / 2)).bursts.filter (fun b => b.head != s.opsHead q) ∧
      u.regs = (s.issue q).regs ∧ exec (.hlcmdWriteAbort q) s = .next (((u.sendCmd (q / 2) 4
        (configBlock 4 ((s.issue q).hlOps q (s.mw q))) (.micro q 4)).setRF q false).flow q (s.mw q)) := by
  refine ⟨_, ?_, ?_, exec_hlcmd_sent hawake hissue rfl hsub hq hhead (if_pos hown)⟩
  · rw [State.hl_setHl_same]
    rfl
  · rfl

variable (hcan : s.canCommand (q / 2) = true)
include hcan

/-- N of the actuator's newest ADC_RATE command is the operand's (R81). -/
theorem exec_hlcmdAdcRate_sent (hsub : (s.mw q).bits 54 47 = 1) :
    ∃ u : State, mget (fun _ => 4096) (u.hl (q / 2)).adcNext (q % 2) =
        beNat ((((s.issue q).hlOps q (s.mw q)).drop 1).take 2) ∧ u.regs = (s.issue q).regs ∧
      exec (.hlcmdAdcRate q) s =
        .next (((u.sendCmd (q / 2) 4 (configBlock 1 (s.sideOps q)) (.micro q 1)).setRF q false).flow q (s.mw q)) := by
  have hport := (s.canCommand_issue hq).trans hcan
  refine ⟨_, ?_, ?_, exec_hlcmd_sent hawake hissue rfl hsub hq hhead
    (congrArg (fun u => some (u, s.sideOps q)) (if_pos hport))⟩
  · rw [State.hl_setHl_same, mget_mset_same]
  · rfl

theorem exec_hlcmdWriteOpen_sent (hsub : (s.mw q).bits 54 47 = 3) (hown : ownHead q (s.opsHead q) = true) :
    exec (.hlcmdWriteOpen q) s = .next (((((s.issue q).pushOpen (q / 2) (s.opsHead q) (s.opsOpen q)).sendCmd (q / 2) 4
      (configBlock 3 ((s.issue q).hlOps q (s.mw q))) (.micro q 3)).setRF q false).flow q (s.mw q)) := by
  have hport := (s.canCommand_issue hq).trans hcan
  exact exec_hlcmd_sent hawake hissue rfl hsub hq hhead ((if_pos hown).trans
    (congrArg (fun u => some (u, (s.issue q).hlOps q (s.mw q))) (if_pos hport)))

end

/-- Settles O8: WRSEND and each subcommand of HLCMD act on the port, or refuse as the lemmas above say. -/
theorem deviceWords : Obligations.DeviceWords := by
  refine ⟨?_, ?_, ?_, ?_⟩
  · intro s q hawake hissue hq hhead hcan w n h u b k two
    refine ⟨fun hk => ?_, fun hk hlen => ?_⟩
    · exact exec_wrsend_sent hawake hissue hq hhead hcan rfl (sectorBursts_whole h b hk)
    · exact exec_wrsend_sent hawake hissue hq hhead hcan rfl (sectorBursts_split h hk hlen)
  · intro s q hawake hissue hplace
    exact exec_refused (exec_wrsend_refused hawake hissue hplace)
  · intro s q hawake hissue hq hhead hcan w n ops side h o
    refine ⟨?_, fun hsub => ?_, ?_, ?_, fun hsub => ?_, fun hsub hown => ?_⟩
    · exact exec_hlcmdAdcRate_sent hawake hissue hq hhead hcan
    · exact exec_hlcmd_sent hawake hissue rfl hsub hq hhead rfl
    · exact exec_hlcmdWriteOpen_sent hawake hissue hq hhead hcan
    · exact exec_hlcmdWriteAbort_sent hawake hissue hq hhead
    · exact exec_hlcmd_sent hawake hissue rfl hsub hq hhead rfl
    · exact exec_refused (exec_hlcmd_refused hawake hissue rfl hsub
        (if_neg (by rw [show ownHead q _ = false from hown]; decide)))
  · intro s q c hawake hissue hnone hc
    refine exec_refused ?_
    simp only [List.mem_cons, List.not_mem_nil, or_false] at hc
    rcases hc with rfl | rfl | rfl | rfl | rfl
    · exact exec_hlcmd_notAllowed hawake hissue (sub := 1) rfl (by decide) hnone
    · exact exec_hlcmd_notAllowed hawake hissue (sub := 2) rfl (by decide) hnone
    · exact exec_hlcmd_notAllowed hawake hissue (sub := 3) rfl (by decide) hnone
    · exact exec_hlcmd_notAllowed hawake hissue (sub := 4) rfl (by decide) hnone
    · exact exec_hlcmd_notAllowed hawake hissue (sub := 8) rfl (by decide) hnone

/-! ## States that meet the hypotheses -/

/-- Sequencer 3 about to issue an HLCMD of a subcommand, with port 1 Up. -/
def hlcmdReady (sub : Nat) : State :=
  Tests.runs (Tests.w0.setFld Reg.HLK_STAT_LINK_STATE 1 linkUp) 3 (Tests.mwd [(127, 120, 0x49), (54, 47, sub)])

/-- A SOURCE is sent. -/
theorem hlcmdSource_hlcmdReady : ∃ t : State, exec (.hlcmdSource 3) (hlcmdReady 2) = .next t ∧ t.fl 3 flRF = false := by
  obtain ⟨-, -, hsent, -⟩ := deviceWords
  obtain ⟨-, hsource, -⟩ := hsent (hlcmdReady 2) 3 (by decide) (by decide) (by decide) (by decide) (by decide)
  refine ⟨_, hsource (by decide), ?_⟩
  rw [State.flow, State.fl_goTo, State.setRF_false, State.fl_setFl_same _ _ _ _ (by decide)]

/-- LANE_MAP is no subcommand of HLCMD. -/
theorem hlcmdSource_laneMap : ∃ t : State, exec (.hlcmdSource 3) (hlcmdReady 6) = .next t ∧ t.fl 3 flRF = true := by
  obtain ⟨-, -, -, hrefused⟩ := deviceWords
  obtain ⟨t, hexec, hrf, -⟩ := hrefused (hlcmdReady 6) 3 (.hlcmdSource 3) (by decide) (by decide) (by decide) (by simp)
  exact ⟨t, hexec, hrf⟩

end Sys2Proof.Machine
end

section
/-!
PROOFS. The head pipelines (R67, R93, R96, R100): a pipeline's own state after a write, what RCH_STAT and the issue of a word
leave alone, and a word that acts on a pipeline or is refused.
-/

namespace Sys2Proof.Machine

/-! ## A pipeline's own state -/

@[simp] theorem State.rc_setRc_same (s : State) (h : Nat) (x : RchS) : (s.setRc h x).rc h = x := by
  simp [State.rc, State.setRc]

@[simp] theorem State.rdA_setRc (s : State) (h : Nat) (x : RchS) (a : Nat) : (s.setRc h x).rdA a = s.rdA a := rfl

@[simp] theorem State.fl_setRc (s : State) (h : Nat) (x : RchS) (q k : Nat) : (s.setRc h x).fl q k = s.fl q k := rfl

theorem State.setRc_sameBytes (s : State) (h : Nat) (x : RchS) : s.SameBytes (s.setRc h x) := ⟨rfl, rfl, rfl, rfl, rfl⟩

theorem State.setFl_sameBytes (s : State) (q k : Nat) (b : Bool) : s.SameBytes (s.setFl q k b) := ⟨rfl, rfl, rfl, rfl, rfl⟩

theorem State.setFld_sameBytes (s : State) (f : Fld) (i v : Nat) : s.SameBytes (s.setFld f i v) := ⟨rfl, rfl, rfl, rfl, rfl⟩

@[simp] theorem State.rc_issue (s : State) (q h : Nat) : (s.issue q).rc h = s.rc h := rfl

@[simp] theorem State.rc_setFl (s : State) (q k : Nat) (b : Bool) (h : Nat) : (s.setFl q k b).rc h = s.rc h := rfl

@[simp] theorem State.rc_setFld (s : State) (f : Fld) (i v h : Nat) : (s.setFld f i v).rc h = s.rc h := rfl

@[simp] theorem State.rc_flow (s : State) (q : Nat) (w : Mw) (h : Nat) : (s.flow q w).rc h = s.rc h := rfl

/-- What records its work in registers leaves the pipelines alone. -/
theorem State.RecordsIn.rch_eq {P : Nat → Prop} {s t : State} (h : State.RecordsIn P s t) : t.rch = s.rch := by
  obtain ⟨⟨q, x, r, rfl⟩, -⟩ := h
  rfl

theorem State.RecordsIn.rc_eq {P : Nat → Prop} {s t : State} (h : State.RecordsIn P s t) (n : Nat) : t.rc n = s.rc n :=
  congrArg (mget _ · n) h.rch_eq

theorem State.RecordsIn.fl_eq {P : Nat → Prop} {s t : State} (h : State.RecordsIn P s t) (q k : Nat) :
    t.fl q k = s.fl q k := by
  obtain ⟨⟨_, x, r, rfl⟩, -⟩ := h
  rfl

theorem State.SameUnits.rch_eq {s t : State} (h : s.SameUnits t) : t.rch = s.rch := by
  obtain ⟨-, -, -, -, -, -, -, -, -, -, -, -, -, hrch, -⟩ := h
  exact hrch

/-- RCH_STAT shows the pipeline and nothing else is written (R100). -/
theorem State.rchStat_records (s : State) (h : Nat) :
    State.RecordsIn (· = Reg.RCH_STAT.addr h 0) s (s.rchStat h) := by
  have hfld (u : State) (f : Fld) (v : Nat) (hf : f.reg = Reg.RCH_STAT) :
      State.RecordsIn (· = Reg.RCH_STAT.addr h 0) u (u.setFld f h v) := .setFld u v (congrArg (·.addr h 0) hf)
  unfold State.rchStat
  dsimp only
  exact ((((hfld s _ _ rfl).trans (hfld _ _ _ rfl)).trans (hfld _ _ _ rfl)).trans (hfld _ _ _ rfl)).trans (hfld _ _ _ rfl)

/-- RCH_STAT lies below the sequencers' registers (R540). -/
theorem ne_rchStat_addr {h a : Nat} (hh : h < 320) (ha : 0x00B00000 ≤ a) : a ≠ Reg.RCH_STAT.addr h 0 := by
  simp only [Reg.addr, Reg.RCH_STAT]
  omega

/-! ## Raw slots and banks (R93, R96) -/

@[simp] theorem RchS.rawRec_setRaw_same (x : RchS) (k : Nat) (r : RawRec) : (x.setRaw k r).rawRec k = r := by
  by_cases hk : k = 0 <;> simp [RchS.rawRec, RchS.setRaw, hk]

theorem RchS.rawRec_setRaw_other (x : RchS) {k : Nat} (hk : k < 2) (r : RawRec) :
    (x.setRaw k r).rawRec (1 - k) = x.rawRec (1 - k) := by
  obtain rfl | rfl : k = 0 ∨ k = 1 := by omega
  · rfl
  · rfl

@[simp] theorem RchS.live_setRaw (x : RchS) (k : Nat) (r : RawRec) : (x.setRaw k r).live = x.live := by
  by_cases hk : k = 0 <;> simp [RchS.setRaw, hk]

/-- A bank that takes an entry holds it, and the other bank keeps its own. -/
theorem State.setBank_bank (s : State) (h : Nat) {b : Nat} (hb : b < 2) (ws : List Word) :
    ((s.setBank h b ws).rc h).bank b = some ws ∧ ((s.setBank h b ws).rc h).bank (1 - b) = (s.rc h).bank (1 - b) := by
  rw [State.setBank, (State.rchStat_records _ h).rc_eq, State.rc_setRc_same]
  obtain rfl | rfl : b = 0 ∨ b = 1 := by omega
  · exact ⟨rfl, rfl⟩
  · exact ⟨rfl, rfl⟩

theorem State.setBank_sameBytes (s : State) (h b : Nat) (ws : List Word) : s.SameBytes (s.setBank h b ws) :=
  (s.setRc_sameBytes h _).trans (State.rchStat_records _ h).sameBytes

/-! ## A word that acts on a pipeline (R398) -/

/-- The head that a device word of sequencer `q` names (R42, R398). -/
def State.headOf (s : State) (q : Nat) : Nat := 10 * q + (s.mw q).dHead

/-- EN of a pipeline does not see the issue of a word. -/
theorem State.rchEnabled_issue (s : State) (q : Nat) {h : Nat} (hh : h < 320) :
    (s.issue q).flag Reg.RCH_CTRL_EN h = s.flag Reg.RCH_CTRL_EN h := by
  have haddr : Reg.RCH_CTRL.addr h 0 < 0x00B00000 := by
    simp only [Reg.addr, Reg.RCH_CTRL]
    omega
  rw [State.flag, s.fld_issue_below q (f := Reg.RCH_CTRL_EN) haddr]
  rfl

theorem State.headOf_lt {s : State} {q : Nat} (hq : q < 32) (hhead : (s.mw q).dHead ≤ 9) : s.headOf q < 320 := by
  rw [State.headOf]
  omega

/-- A word flows when its work writes no register of a sequencer. -/
theorem State.flowed_of_below {s u : State} {q : Nat} (h : ∀ a, 0x00B00000 ≤ a → u.rdA a = (s.issue q).rdA a) :
    s.Flowed (u.flow q (s.mw q)) q := by
  have hstat : 0x00B00000 ≤ Reg.SEQ_STAT.addr q 0 := by
    simp only [Reg.addr, Reg.SEQ_STAT]
    omega
  have hwords : 0x00B00000 ≤ Reg.SEQ_CNT_WORDS.addr q 0 := by
    simp only [Reg.addr, Reg.SEQ_CNT_WORDS]
    omega
  exact State.flowed_flow (h _ hwords) (congrArg Reg.SEQ_STAT_PC.get (h _ hstat))

/-- A word that only refuses its request leaves every pipeline as it was. -/
theorem exec_refused_rch {s : State} {q : Nat} {c : Instr}
    (h : exec c s = .next (((s.issue q).setRF q true).flow q (s.mw q))) :
    ∃ t : State, exec c s = .next t ∧ t.fl q flRF = true ∧ t.rch = s.rch ∧ s.Flowed t q ∧ s.SameBytes t ∧ s.SameUnits t := by
  obtain ⟨t, hexec, hrf, hflow, hbytes, hunits⟩ := exec_refused h
  exact ⟨t, hexec, hrf, hunits.rch_eq, hflow, hbytes, hunits⟩

end Sys2Proof.Machine
end

section
/-!
PROOFS. Read gates (R70 to R72, R80, R82, R93, R96, R115, R398): GATE, the opening of the oldest request, the change of phase,
a raw slot that its gate overruns, and the end of a gate.
-/

namespace Sys2Proof.Machine

/-! ## GATE (R70, R398) -/

@[simp] theorem State.gateReq_issue (s : State) (q : Nat) (w : Mw) : (s.issue q).gateReq q w = s.gateReq q w := by
  simp only [State.gateReq, State.gPair, State.gr_issue]

/-- A request as it waits behind those of its head, shown in RCH_STAT. -/
def State.queueGate (s : State) (h : Nat) (g : GateReq) : State :=
  (s.setRc h { s.rc h with queue := (s.rc h).queue ++ [g] }).rchStat h

section
variable {s : State} {q : Nat} (hawake : s.glb.dormant = false) (hissue : s.canIssue q 0x40 = true)
include hawake hissue

/-- A request that the input takes is queued, or ends with OVERLAP. -/
theorem exec_gate_taken (hq : q < 32) (hhead : (s.mw q).dHead ≤ 9) (hen : s.flag Reg.RCH_CTRL_EN (s.headOf q) = true)
    (hroom : (s.rc (s.headOf q)).queue.length < 4) :
    exec (.gate q) s = .next ((if s.gateOverlaps (s.headOf q) (s.gateReq q (s.mw q))
      then ((s.issue q).setRF q false).refuseGate (s.headOf q) 6 (s.gateReq q (s.mw q))
      else ((s.issue q).setRF q false).queueGate (s.headOf q) (s.gateReq q (s.mw q))).flow q (s.mw q)) := by
  have hen' := (s.rchEnabled_issue q (State.headOf_lt hq hhead)).trans hen
  show execGate q s = _
  rw [execGate, State.powered_awake _ _ hawake, State.plainWord_of_canIssue hissue, if_pos ⟨hq, hhead, hen', hroom⟩,
    State.gateReq_issue]
  rfl

theorem exec_gate_refused (hplace : 32 ≤ q ∨ 9 < (s.mw q).dHead ∨ s.flag Reg.RCH_CTRL_EN (s.headOf q) = false ∨
    4 ≤ (s.rc (s.headOf q)).queue.length) :
    exec (.gate q) s = .next (((s.issue q).setRF q true).flow q (s.mw q)) := by
  show execGate q s = _
  rw [execGate, State.powered_awake _ _ hawake, State.plainWord_of_canIssue hissue, if_neg]
  rintro ⟨hq, hhead, hen, hroom⟩
  have hen' := (s.rchEnabled_issue q (State.headOf_lt hq hhead)).symm.trans hen
  simp only [State.rc_issue] at hroom
  rcases hplace with h | h | h | h
  · omega
  · omega
  · simp [h] at hen'
  · exact absurd hroom (Nat.not_lt.2 h)

end

/-- What a queued request changes, and what it leaves. -/
theorem State.queueGate_spec (s : State) (h : Nat) (g : GateReq) :
    (s.queueGate h g).rc h = { s.rc h with queue := (s.rc h).queue ++ [g] } ∧
      (∀ q k, (s.queueGate h g).fl q k = s.fl q k) ∧
      (∀ a, a ≠ Reg.RCH_STAT.addr h 0 → (s.queueGate h g).rdA a = s.rdA a) ∧ s.SameBytes (s.queueGate h g) := by
  have hrec := (s.setRc h { s.rc h with queue := (s.rc h).queue ++ [g] }).rchStat_records h
  refine ⟨?_, fun q k => ?_, fun a ha => ?_, ?_⟩
  · rw [State.queueGate, hrec.rc_eq, State.rc_setRc_same]
  · rw [State.queueGate, hrec.fl_eq, State.fl_setRc]
  · rw [State.queueGate, hrec.rdA_eq ha, State.rdA_setRc]
  · exact (s.setRc_sameBytes h _).trans hrec.sameBytes

/-- A GATE word that queues its request: RF clear, the request last, the live gate as it was. -/
theorem State.queueGate_flow (s : State) {q h : Nat} (hh : h < 320) (g : GateReq) :
    let t := (((s.issue q).setRF q false).queueGate h g).flow q (s.mw q)
    t.fl q flRF = false ∧ (t.rc h).queue = (s.rc h).queue ++ [g] ∧ (t.rc h).live = (s.rc h).live ∧ s.Flowed t q ∧
      s.SameBytes t := by
  rw [State.setRF_false]
  obtain ⟨hrc, hfl, hregs, hbytes⟩ := ((s.issue q).setFl q flRF false).queueGate_spec h g
  rw [State.rc_setFl, State.rc_issue] at hrc
  refine ⟨?_, ?_, ?_, State.flowed_of_below fun a ha => ?_, ?_⟩
  · rw [State.flow, State.fl_goTo, hfl, State.fl_setFl_same _ _ _ _ (by decide)]
  · rw [State.rc_flow, hrc]
  · rw [State.rc_flow, hrc]
  · rw [hregs a (ne_rchStat_addr hh ha), State.setFl, State.rdA_setSq]
  · rw [State.flow_sameBytes]
    exact ((s.issue_sameBytes q).trans (State.setFl_sameBytes ..)).trans hbytes

/-! ## GATE_OPEN (R80, R93, R96) -/

/-- The oldest request has left the queue. -/
def State.dequeued (s : State) (h : Nat) (rest : List GateReq) : State :=
  (s.setRc h { s.rc h with queue := rest }).rchStat h

section
variable {s : State} {h : Nat} {g : GateReq} {rest : List GateReq} (hawake : s.glb.dormant = false)
  (hqueue : (s.rc h).queue = g :: rest) (hlive : (s.rc h).live = none)
  (hdue : (s.rc h).fifo.any (fun e => decide (g.start / 256 ≤ e.1)) = true)
include hawake hqueue hlive hdue

theorem exec_gateOpen_noParam (hbank : (s.rc h).bank g.bank = none) :
    exec (.gateOpen h) s = .next ((s.dequeued h rest).refuseGate h 7 g) := by
  show execGateOpen h s = _
  rw [execGateOpen, State.powered_awake _ _ hawake, State.dequeued]
  simp only [hqueue, hlive, hdue, hbank, if_true]

section
variable {ws : List Word} (hbank : (s.rc h).bank g.bank = some ws)
include hbank

theorem exec_gateOpen_rate (hrho : (s.dequeued h rest).ratio (h / 10) ws < 104 / 100 ∨
    225 / 100 < (s.dequeued h rest).ratio (h / 10) ws) :
    exec (.gateOpen h) s = .next ((s.dequeued h rest).refuseGate h 4 g) := by
  simp only [State.dequeued, hlive] at hrho
  show execGateOpen h s = _
  rw [execGateOpen, State.powered_awake _ _ hawake, State.dequeued]
  simp only [hqueue, hlive, hdue, hbank, if_true, if_pos hrho]

variable {e : Nat × Int} {es : List (Nat × Int)} (hlo : 104 / 100 ≤ (s.dequeued h rest).ratio (h / 10) ws)
  (hhi : (s.dequeued h rest).ratio (h / 10) ws ≤ 225 / 100) (hfifo : (s.rc h).fifo = e :: es)
include hlo hhi hfifo

theorem exec_gateOpen_late (hlate : g.start / 256 < e.1) :
    exec (.gateOpen h) s = .next ((s.dequeued h rest).refuseGate h 5 g) := by
  have hrho := not_or.2 ⟨Rat.not_lt.2 hlo, Rat.not_lt.2 hhi⟩
  simp only [State.dequeued, hlive, hfifo] at hrho
  rw [hfifo] at hdue
  show execGateOpen h s = _
  rw [execGateOpen, State.powered_awake _ _ hawake, State.dequeued]
  simp only [hqueue, hlive, hfifo, hdue, hbank, if_true, if_neg hrho, decide_eq_true hlate]

/-- The context opens on the request with its bank's entry, P at START and F zero, and takes the samples that wait (R80). -/
theorem exec_gateOpen_opens (hintime : e.1 ≤ g.start / 256) :
    ∃ (c : GateCtx) (y : State), exec (.gateOpen h) s = .next ((y.feedLive h).rchStat h) ∧ (y.rc h).live = some c ∧
      c.req = g ∧ c.params = ws ∧ c.p = (g.start : Int) * 65536 ∧ c.f = 0 := by
  have hrho := not_or.2 ⟨Rat.not_lt.2 hlo, Rat.not_lt.2 hhi⟩
  simp only [State.dequeued, hlive, hfifo] at hrho
  rw [hfifo] at hdue
  have hexec : exec (.gateOpen h) s = execGateOpen h s := rfl
  rw [execGateOpen, State.powered_awake _ _ hawake] at hexec
  simp only [hqueue, hlive, hfifo, hdue, hbank, if_true, if_neg hrho, decide_eq_false (Nat.not_lt.2 hintime),
    Bool.false_eq_true, if_false] at hexec
  exact ⟨_, _, hexec, congrArg RchS.live (State.rc_setRc_same ..), rfl, rfl, rfl, rfl⟩

end

end

/-! ## A gate that runs (R71, R72, R82, R115) -/

section
variable {s : State} {h : Nat} {c : GateCtx} (hawake : s.glb.dormant = false)
include hawake

theorem exec_gatePhaseChange_live (hlive : (s.rc h).live = some c) (hdue : c.phaseDue = true) :
    exec (.gatePhaseChange h) s = .next ((s.setRc h { s.rc h with live := some (s.nextPhase c) }).runLive h) := by
  show execGatePhaseChange h s = _
  rw [execGatePhaseChange, State.powered_awake _ _ hawake]
  simp only [hlive, if_pos hdue]

theorem exec_gatePhaseChange_replay (hlive : (s.rc h).live = none) (hreplay : (s.rc h).replay = some c)
    (hdue : c.phaseDue = true) :
    exec (.gatePhaseChange h) s = .next ((s.setRc h { s.rc h with replay := some (s.nextPhase c) }).runReplay h) := by
  show execGatePhaseChange h s = _
  rw [execGatePhaseChange, State.powered_awake _ _ hawake]
  simp only [hlive, hreplay, if_pos hdue]

/-- The slot of a gate that overruns it is marked cut. -/
theorem exec_rawCapturePartial_cut {k : Nat} (hlive : (s.rc h).live = some c) (hraw : c.raw = some k)
    (hover : rawMax < c.captureList.length) :
    exec (.rawCapturePartial h) s =
      .next (s.setRc h ((s.rc h).setRaw k { (s.rc h).rawRec k with cut := true })) := by
  show execRawCapturePartial h s = _
  rw [execRawCapturePartial, State.powered_awake _ _ hawake]
  simp only [hlive, hraw, if_pos hover]

/-- A context that has run all its bits ends with its status; one that is no replay of the accumulator does nothing more. -/
theorem exec_gateEnd_plain {replay : Bool} (hctx : (if replay then (s.rc h).replay else (s.rc h).live) = some c)
    (hdone : c.finished = true) (hplain : ∀ r, c.replay = some r → r.passes = none) :
    exec (.gateEnd h replay) s = .next (s.endCtx h replay c.status) := by
  show execGateEnd h replay s = _
  rw [execGateEnd, State.powered_awake _ _ hawake]
  dsimp only
  rw [hctx]
  cases hr : c.replay with
  | none => simp [hdone, hr]
  | some r => simp [hdone, hr, hplain r hr]

end

/-- Settles O9: each command is one of the cases that the lemmas above name. -/
theorem readGates : Obligations.ReadGates := by
  refine ⟨?_, ?_, ?_, ?_, ?_, ?_, ?_⟩
  · intro s q hawake hissue w h
    refine ⟨fun hq hhead hen hroom hclear => ?_, fun hq hhead hen hroom hoverlap => ?_, fun hplace => ?_⟩
    · refine ⟨_, exec_gate_taken hawake hissue hq hhead hen hroom, ?_⟩
      rw [show s.gateOverlaps (s.headOf q) (s.gateReq q (s.mw q)) = false from hclear, if_neg Bool.false_ne_true]
      exact s.queueGate_flow (State.headOf_lt hq hhead) _
    · rw [exec_gate_taken hawake hissue hq hhead hen hroom]
      exact congrArg (fun u : State => Host.Outcome.next (u.flow q w)) (if_pos hoverlap)
    · exact exec_refused_rch (exec_gate_refused hawake hissue hplace)
  · intro s h g rest hawake hqueue hlive hdue u
    refine ⟨?_, fun ws => ?_, fun ws e es hbank hlo hhi hfifo => ?_, fun ws e es hbank hlo hhi hfifo => ?_⟩
    · exact exec_gateOpen_noParam hawake hqueue hlive hdue
    · exact exec_gateOpen_rate hawake hqueue hlive hdue
    · exact exec_gateOpen_late hawake hqueue hlive hdue hbank hlo hhi hfifo
    · exact exec_gateOpen_opens hawake hqueue hlive hdue hbank hlo hhi hfifo
  · intro s h c hawake
    exact exec_gatePhaseChange_live hawake
  · intro s h c hawake
    exact exec_gatePhaseChange_replay hawake
  · intro s h k c hawake hlive hraw hover
    refine ⟨_, exec_rawCapturePartial_cut hawake hlive hraw hover, ?_, ?_, rfl, s.setRc_sameBytes ..⟩
    · rw [State.rc_setRc_same, RchS.rawRec_setRaw_same]
    · rw [State.rc_setRc_same, RchS.live_setRaw, hlive]
  · intro s h c hawake hlive hdone hno
    exact exec_gateEnd_plain hawake hlive hdone (by simp [hno])
  · intro s h c r hawake hreplay hdone hr hpasses
    refine exec_gateEnd_plain hawake hreplay hdone fun r' hr' => ?_
    obtain rfl : r = r' := Option.some.inj (hr.symm.trans hr')
    exact hpasses

/-! ## States that meet the hypotheses -/

/-- Sequencer 3 about to issue a GATE for a head of its own, with g5 for the split; the pipeline of head 32 is enabled. -/
def gateReady (head : Nat) : State :=
  Tests.runs (Tests.w0.setFld Reg.RCH_CTRL_EN 32 1) 3
    (Tests.mwd [(127, 120, 0x40), (82, 79, head), (60, 55, 5), (54, 47, 128)])

/-- The first request of head 32 is queued. -/
theorem gate_gateReady : ∃ t : State, exec (.gate 3) (gateReady 2) = .next t ∧
    (t.rc 32).queue = [(gateReady 2).gateReq 3 ((gateReady 2).mw 3)] := by
  obtain ⟨hgate, -⟩ := readGates
  obtain ⟨hqueued, -⟩ := hgate (gateReady 2) 3 (by decide) (by decide)
  obtain ⟨t, hexec, -, hqueue, -⟩ := hqueued (by decide) (by decide) (by decide) (by decide) (by decide)
  exact ⟨t, hexec, hqueue⟩

/-- The word names a split at bit 239. -/
def gateSplitEarly : State := (gateReady 2).setGr 3 5 (word (239 * 2 ^ 16))

/-- The request ends with OVERLAP. -/
theorem gate_gateSplitEarly : exec (.gate 3) gateSplitEarly = .next ((((gateSplitEarly.issue 3).setRF 3 false).refuseGate 32 6
    (gateSplitEarly.gateReq 3 (gateSplitEarly.mw 3))).flow 3 (gateSplitEarly.mw 3)) := by
  obtain ⟨hgate, -⟩ := readGates
  obtain ⟨-, hoverlap, -⟩ := hgate gateSplitEarly 3 (by decide) (by decide)
  exact hoverlap (by decide) (by decide) (by decide) (by decide) (by decide)

/-- Head 10 is above the heads of an actuator. -/
theorem gate_head10 : ∃ t : State, exec (.gate 3) (gateReady 10) = .next t ∧ t.fl 3 flRF = true := by
  obtain ⟨hgate, -⟩ := readGates
  obtain ⟨-, -, hrefused⟩ := hgate (gateReady 10) 3 (by decide) (by decide)
  obtain ⟨t, hexec, hrf, -⟩ := hrefused (.inr (.inl (by decide)))
  exact ⟨t, hexec, hrf⟩

/-- Head 32 with its oldest request due at its only sample, and the last four wedges of its actuator 65,536 samples long. -/
def gateDue (bank : Option (List Word)) : State :=
  (Tests.w0.setSv 3 { ints := [2 ^ 24] }).setRc 32 { queue := [Tests.greq], fifo := [(1, 0)], bank0 := bank }

/-- Its bank is empty: NOPARAM. -/
theorem gateOpen_gateDue_noParam :
    exec (.gateOpen 32) (gateDue none) = .next (((gateDue none).dequeued 32 []).refuseGate 32 7 Tests.greq) :=
  exec_gateOpen_noParam (by decide) (by decide) (by decide) (by decide) (by decide)

/-- 65,536 samples for the 43,690 bit periods of the entry. -/
theorem ratio_gateDue : ((gateDue (some Tests.entry)).dequeued 32 []).ratio (32 / 10) Tests.entry = 65536 / 43690 := by
  have hbpw : ent Tests.entry 1 31 0 = 178954240 := by decide
  have hint : (((gateDue (some Tests.entry)).dequeued 32 []).sv (32 / 10)).ints = [2 ^ 24] := by decide
  rw [State.ratio, State.wAvg, hbpw, hint]
  norm_num

/-- Its bank holds an entry of ratio 1.5: it opens. -/
theorem gateOpen_gateDue_opens : ∃ (c : GateCtx) (y : State), exec (.gateOpen 32) (gateDue (some Tests.entry)) =
    .next ((y.feedLive 32).rchStat 32) ∧ (y.rc 32).live = some c ∧ c.req = Tests.greq := by
  obtain ⟨c, y, hexec, hlive, hreq, -⟩ := exec_gateOpen_opens (s := gateDue (some Tests.entry)) (h := 32) (g := Tests.greq)
    (rest := []) (ws := Tests.entry) (e := (1, 0)) (es := []) (by decide) (by decide) (by decide) (by decide) (by decide)
    (by rw [ratio_gateDue]; norm_num) (by rw [ratio_gateDue]; norm_num) (by decide) (by decide)
  exact ⟨c, y, hexec, hlive, hreq⟩

/-- A gate of head 32 that captures into raw slot 1, one sample past its 52,424. -/
def overrun : GateCtx := { Tests.gctx with raw := some 1, smp := List.replicate (rawMax + 1) 0 }

/-- Its slot is marked. -/
theorem rawCapturePartial_overrun : ∃ t : State,
    exec (.rawCapturePartial 32) (Tests.w0.setRc 32 { live := some overrun }) = .next t ∧ (t.rc 32).raw1.cut = true := by
  obtain ⟨-, -, -, -, hpartial, -⟩ := readGates
  have hover : rawMax < overrun.captureList.length := by
    have hlist : overrun.captureList = List.replicate (rawMax + 1) 0 := rfl
    rw [hlist, List.length_replicate]
    exact Nat.lt_succ_self _
  obtain ⟨t, hexec, hcut, -⟩ := hpartial (Tests.w0.setRc 32 { live := some overrun }) 32 1 overrun (by decide)
    (by rw [State.rc_setRc_same]) rfl hover
  exact ⟨t, hexec, hcut⟩

/-- A gate of 37,384 bits that has formed them all. -/
def ranOut : GateCtx := { Tests.gctx with phase := 3, z := List.replicate (gateBits Tests.greq.exp) 0 }

/-- It ends with the status that it has. -/
theorem gateEnd_ranOut : exec (.gateEnd 32 false) (Tests.w0.setRc 32 { live := some ranOut }) =
    .next ((Tests.w0.setRc 32 { live := some ranOut }).endCtx 32 false 0) := by
  obtain ⟨-, -, -, -, -, hend, -⟩ := readGates
  have hprogress : ranOut.progress = gateBits Tests.greq.exp := List.length_replicate
  exact hend _ 32 ranOut (by decide) (by rw [State.rc_setRc_same])
    (by rw [GateCtx.finished, hprogress]; decide) rfl

end Sys2Proof.Machine
end

section
/-!
PROOFS. Replays, coefficient banks and raw slots (R94, R96, R100, R164, R169, R170, R398): REPLAY, the load of an entry by
RCH_LOAD and BLOAD, the clearing of EN, and PIN.
-/

namespace Sys2Proof.Machine

/-! ## REPLAY (R94, R398) -/

@[simp] theorem State.replayReq_issue (s : State) (q : Nat) (w : Mw) : (s.issue q).replayReq q w = s.replayReq q w := by
  simp only [State.replayReq, State.gr_issue]

section
variable {s : State} {q : Nat} (hawake : s.glb.dormant = false) (hissue : s.canIssue q 0x41 = true)
include hawake hissue

theorem exec_replay_started (hq : q < 32) (hhead : (s.mw q).dHead ≤ 9) (hen : s.flag Reg.RCH_CTRL_EN (s.headOf q) = true)
    (hfree : (s.rc (s.headOf q)).replay = none) (hok : (s.replayReq q (s.mw q)).ok = true) :
    exec (.replay q) s = .next ((((s.issue q).setRF q false).startReplay (s.headOf q) (s.replayReq q (s.mw q))).flow q
      (s.mw q)) := by
  have hen' := (s.rchEnabled_issue q (State.headOf_lt hq hhead)).trans hen
  have hfree' : ((s.issue q).rc (s.headOf q)).replay.isNone = true := by rw [State.rc_issue, hfree]; rfl
  show execReplay q s = _
  rw [execReplay, State.powered_awake _ _ hawake, State.plainWord_of_canIssue hissue, State.replayReq_issue,
    if_pos ⟨hq, hhead, hen', hfree', hok⟩]
  rfl

theorem exec_replay_refused (hplace : 9 < (s.mw q).dHead ∨ s.flag Reg.RCH_CTRL_EN (s.headOf q) = false ∨
    (s.rc (s.headOf q)).replay ≠ none ∨ (s.replayReq q (s.mw q)).ok = false) :
    exec (.replay q) s = .next (((s.issue q).setRF q true).flow q (s.mw q)) := by
  show execReplay q s = _
  rw [execReplay, State.powered_awake _ _ hawake, State.plainWord_of_canIssue hissue, State.replayReq_issue, if_neg]
  rintro ⟨hq, hhead, hen, hfree, hok⟩
  have hen' := (s.rchEnabled_issue q (State.headOf_lt hq hhead)).symm.trans hen
  rcases hplace with h | h | h | h
  · omega
  · simp [h] at hen'
  · exact h (Option.isNone_iff_eq_none.1 hfree)
  · simp [h] at hok

end

/-! ## The load of an entry (R96, R100) -/

theorem State.loadEntry_busy {s : State} {h b : Nat} (hbusy : (s.rc h).bankBusy b = true) (addr zone reader band : Nat) :
    s.loadEntry h b addr zone reader band = (s, 2) := if_pos hbusy

theorem State.loadEntry_good {s : State} {h b addr zone reader band : Nat} {ws : List Word}
    (hfree : (s.rc h).bankBusy b = false) (hws : s.bufWordsRaw addr 32 = some ws)
    (hgood : entryResult ws zone reader band = 1) :
    s.loadEntry h b addr zone reader band = (s.setBank h b ws, 1) := by
  rw [State.loadEntry, if_neg (by simp [hfree]), hws]
  simp only [hgood, if_true]

/-- The result that RCH_LOAD shows. -/
theorem State.loadResult_setFld (s : State) (h : Nat) {r : Nat} (hr : r < 8) :
    (s.setFld Reg.RCH_LOAD_RESULT h r).fld Reg.RCH_LOAD_RESULT h = r := by
  rw [State.fld_setFld_same _ _ _ _ (by decide) (by decide)]
  exact Nat.mod_eq_of_lt hr

/-- A write of a register leaves the pipelines. -/
theorem State.rc_store (s : State) (r : Reg) (i j : Nat) (v : Word) (h : Nat) : (s.store r i j v).rc h = s.rc h :=
  (s.store_records r i j v).rc_eq h

/-- RCH_LOAD with GO: the result of the load that the written parameters name. -/
theorem exec_rchLoad_eq {s u : State} {h r : Nat} {v : Word} (hawake : s.glb.dormant = false) (hh : h < s.nHead)
    (hgo : Reg.RCH_LOAD_GO.get v = 1) (hwritable : s.regWritable Reg.RCH_LOAD h 0 v = true)
    (hload : (s.store Reg.RCH_LOAD h 0 v).loadEntry h (Reg.RCH_LOAD_BANK.get v)
      ((s.store Reg.RCH_LOAD h 0 v).entryAddr h (Reg.RCH_LOAD_ZONE.get v) (Reg.RCH_LOAD_READER.get v)
        (Reg.RCH_LOAD_BAND.get v))
      (Reg.RCH_LOAD_ZONE.get v) (Reg.RCH_LOAD_READER.get v) (Reg.RCH_LOAD_BAND.get v) = (u, r)) :
    exec (.rchLoad h v) s = .next (u.setFld Reg.RCH_LOAD_RESULT h r) := by
  show execRchLoad h v s = _
  rw [execRchLoad, State.powered_awake _ _ hawake, if_pos ⟨hh, hgo⟩, State.rchLoadWrite, if_pos hwritable]
  simp only [hgo, if_true, hload]

/-- BLOAD of MODE 0 is the load of RCH_LOAD with its parameters from the word (log entry 61). -/
theorem exec_bload_table {s : State} {q : Nat} (hawake : s.glb.dormant = false) (hissue : s.canIssue q 0x48 = true)
    (hq : q < 32) (hhead : (s.mw q).dHead ≤ 9) (hmode : (s.mw q).bits 53 53 = 0) :
    let w := s.mw q
    let u := (s.issue q).setRF q false
    let l := u.loadEntry (s.headOf q) (w.bits 54 54) (u.entryAddr (s.headOf q) (w.bits 52 45) (w.bits 44 44) (w.bits 43 43))
      (w.bits 52 45) (w.bits 44 44) (w.bits 43 43)
    exec (.bload q) s = .next ((l.1.setFld Reg.RCH_LOAD_RESULT (s.headOf q) l.2).flow q w) := by
  intro w u l
  show execBload q s = _
  rw [execBload, State.powered_awake _ _ hawake, State.plainWord_of_canIssue hissue]
  simp only [hmode, Nat.reduceBEq, Bool.false_eq_true, false_and, if_false, not_false_eq_true, and_true]
  rw [if_pos ⟨hq, hhead⟩]
  rfl

/-! ## EN cleared (R100) -/

theorem exec_pipelineDisable_eq {s : State} {h : Nat} {v : Word} (hawake : s.glb.dormant = false) (hh : h < s.nHead)
    (hen : Reg.RCH_CTRL_EN.get v = 0) (hoff : (s.store Reg.RCH_CTRL h 0 v).flag Reg.RCH_CTRL_EN h = false) :
    exec (.pipelineDisable h v) s = .next ((s.store Reg.RCH_CTRL h 0 v).endHead h 8) := by
  show execPipelineDisable h v s = _
  rw [execPipelineDisable, State.powered_awake _ _ hawake, if_pos ⟨hh, hen⟩, State.rchCtrlWrite, if_neg (by simp [hoff])]

/-! ## PIN (R164, R398) -/

/-- A raw slot is pinned or unpinned. -/
def State.pinRaw (s : State) (h k : Nat) (pin : Bool) : State :=
  s.setRc h ((s.rc h).setRaw k { (s.rc h).rawRec k with pin := pin })

theorem exec_pin_eq {s : State} {q : Nat} (hawake : s.glb.dormant = false) (hissue : s.canIssue q 0x47 = true)
    (hq : q < 32) (hhead : (s.mw q).dHead ≤ 9) :
    exec (.pin q) s = .next ((((s.issue q).pinRaw (s.headOf q) ((s.mw q).bits 54 54)
      ((s.mw q).bits 53 53 == 1)).setRF q false).flow q (s.mw q)) := by
  show execPin q s = _
  rw [execPin, State.powered_awake _ _ hawake, State.plainWord_of_canIssue hissue, if_pos ⟨hq, hhead⟩]
  rfl

/-- A PIN word: its slot takes the pin, the other slot of the head keeps its record, and RF is clear. -/
theorem State.pinRaw_flow (s : State) (q h : Nat) {k : Nat} (hk : k < 2) (pin : Bool) :
    let t := (((s.issue q).pinRaw h k pin).setRF q false).flow q (s.mw q)
    ((t.rc h).rawRec k).pin = pin ∧ t.fl q flRF = false ∧ (t.rc h).rawRec (1 - k) = (s.rc h).rawRec (1 - k) ∧
      s.Flowed t q ∧ s.SameBytes t := by
  rw [State.setRF_false]
  refine ⟨?_, ?_, ?_, State.flowed_of_below fun a _ => ?_, ?_⟩
  · rw [State.rc_flow, State.rc_setFl, State.pinRaw, State.rc_setRc_same, RchS.rawRec_setRaw_same]
  · rw [State.flow, State.fl_goTo, State.fl_setFl_same _ _ _ _ (by decide)]
  · rw [State.rc_flow, State.rc_setFl, State.pinRaw, State.rc_setRc_same, RchS.rawRec_setRaw_other _ hk, State.rc_issue]
  · rw [State.setFl, State.rdA_setSq, State.pinRaw, State.rdA_setRc]
  · rw [State.flow_sameBytes]
    exact ((s.issue_sameBytes q).trans (State.setRc_sameBytes ..)).trans (State.setFl_sameBytes ..)

/-- Settles O10: each command is one of the cases that the lemmas above name. -/
theorem replaysAndBanks : Obligations.ReplaysAndBanks := by
  refine ⟨?_, ?_, ?_, ?_, ?_⟩
  · intro s q hawake hissue w h r
    refine ⟨?_, fun hplace => ?_⟩
    · exact exec_replay_started hawake hissue
    · exact exec_refused_rch (exec_replay_refused hawake hissue hplace)
  · intro s h v hawake hh hgo hwritable u b zone reader band
    have hrc : u.rc h = s.rc h := s.rc_store ..
    have hstore := s.store_records Reg.RCH_LOAD h 0 v
    refine ⟨fun hbusy => ?_, fun ws hfree hws hgood => ?_⟩
    · have hload := State.loadEntry_busy (hrc ▸ hbusy) (u.entryAddr h zone reader band) zone reader band
      refine ⟨_, exec_rchLoad_eq hawake hh hgo hwritable hload, u.loadResult_setFld h (by decide), ?_, ?_⟩
      · rw [State.setFld_rch, hstore.rch_eq]
      · exact hstore.sameBytes.trans (u.setFld_sameBytes ..)
    · have hload := State.loadEntry_good (hrc ▸ hfree) hws hgood
      have hb : b < 2 := Nat.mod_lt _ (by decide)
      obtain ⟨hbank, hother⟩ := u.setBank_bank h hb ws
      refine ⟨_, exec_rchLoad_eq hawake hh hgo hwritable hload, State.loadResult_setFld _ h (by decide), ?_, ?_, ?_⟩
      · rw [State.rc_setFld, hbank]
      · rw [State.rc_setFld, hother, hrc]
      · exact (hstore.sameBytes.trans (u.setBank_sameBytes h b ws)).trans (State.setFld_sameBytes ..)
  · intro s q hawake hissue hq hhead hmode
    exact exec_bload_table hawake hissue hq hhead hmode
  · intro s h v hawake hh hen hoff
    exact exec_pipelineDisable_eq hawake hh hen hoff
  · intro s q hawake hissue hq hhead w h k
    exact ⟨_, exec_pin_eq hawake hissue hq hhead, s.pinRaw_flow q h (Nat.mod_lt _ (by decide)) _⟩

/-! ## States that meet the hypotheses -/

/-- Sequencer 3 about to issue a REPLAY of head 32 with a candidate; its pipeline is enabled. -/
def replayReady (cand : Nat) : State :=
  Tests.runs (Tests.w0.setFld Reg.RCH_CTRL_EN 32 1) 3 (Tests.mwd [(127, 120, 0x41), (82, 79, 2), (53, 52, cand)])

/-- Candidate 2 is the last one. -/
theorem replay_candidate2 : exec (.replay 3) (replayReady 2) =
    .next (((((replayReady 2).issue 3).setRF 3 false).startReplay 32 ((replayReady 2).replayReq 3 ((replayReady 2).mw 3))).flow
      3 ((replayReady 2).mw 3)) :=
  exec_replay_started (by decide) (by decide) (by decide) (by decide) (by decide) (by decide) (by decide)

/-- There is no candidate 3. -/
theorem replay_candidate3 : ∃ t : State, exec (.replay 3) (replayReady 3) = .next t ∧ t.fl 3 flRF = true := by
  obtain ⟨hreplay, -⟩ := replaysAndBanks
  obtain ⟨-, hrefused⟩ := hreplay (replayReady 3) 3 (by decide) (by decide)
  obtain ⟨t, hexec, hrf, -⟩ := hrefused (.inr (.inr (.inr (by decide))))
  exact ⟨t, hexec, hrf⟩

/-- A queued gate names bank 0 of head 32: the load of it reports BUSY. -/
theorem rchLoad_busy : ∃ t : State,
    exec (.rchLoad 32 0x80000003) (Tests.w0.setRc 32 { queue := [Tests.greq] }) = .next t ∧
      t.fld Reg.RCH_LOAD_RESULT 32 = 2 := by
  obtain ⟨-, hload, -⟩ := replaysAndBanks
  obtain ⟨hbusy, -⟩ := hload (Tests.w0.setRc 32 { queue := [Tests.greq] }) 32 0x80000003 (by decide) (by decide) (by decide)
    (by decide)
  obtain ⟨t, hexec, hresult, -⟩ := hbusy (by decide)
  exact ⟨t, hexec, hresult⟩

/-- Sequencer 3 about to issue a BLOAD of zone 3 into bank 1 of head 32. -/
def bloadReady : State :=
  Tests.runs Tests.w0 3 (Tests.mwd [(127, 120, 0x48), (82, 79, 2), (54, 54, 1), (52, 45, 3)])

/-- The entry is looked for in its place in the table. -/
theorem bload_bloadReady :
    let u := (bloadReady.issue 3).setRF 3 false
    let l := u.loadEntry 32 1 (u.entryAddr 32 3 0 0) 3 0 0
    exec (.bload 3) bloadReady = .next ((l.1.setFld Reg.RCH_LOAD_RESULT 32 l.2).flow 3 (bloadReady.mw 3)) :=
  exec_bload_table (by decide) (by decide) (by decide) (by decide) (by decide)

/-- EN of head 32 is cleared while a gate runs. -/
theorem pipelineDisable_running :
    let s := (Tests.w0.setFld Reg.RCH_CTRL_EN 32 1).setRc 32 { live := some Tests.gctx }
    exec (.pipelineDisable 32 0) s = .next ((s.store Reg.RCH_CTRL 32 0 0).endHead 32 8) :=
  exec_pipelineDisable_eq (by decide) (by decide) (by decide) (by decide)

/-- Sequencer 3 about to unpin raw slot 1 of head 32, which is pinned. -/
def pinReady : State :=
  (Tests.runs Tests.w0 3 (Tests.mwd [(127, 120, 0x47), (82, 79, 2), (54, 54, 1)])).setRc 32 { raw1 := { pin := true } }

/-- The slot is free for the next gate. -/
theorem pin_pinReady : ∃ t : State, exec (.pin 3) pinReady = .next t ∧ (t.rc 32).raw1.pin = false := by
  obtain ⟨-, -, -, -, hpin⟩ := replaysAndBanks
  obtain ⟨t, hexec, hslot, -⟩ := hpin pinReady 3 (by decide) (by decide) (by decide) (by decide)
  exact ⟨t, hexec, hslot⟩

end Sys2Proof.Machine
end

section
/-!
PROOFS. The encoder of the sector code answers a codeword (R106 to R108): the parity blocks one from another, the blocks of a
codeword, and the checks of a block row.
-/

namespace Sys2Proof.Machine

/-! ## Blocks of 256 bits -/

@[simp] theorem length_xorBits (a b : List Nat) : (xorBits a b).length = min a.length b.length := by simp [xorBits]

theorem xorBits_lt_two (a b : List Nat) : ∀ x ∈ xorBits a b, x < 2 := by
  intro x hx
  rw [xorBits, ← List.map_uncurry_zip_eq_zipWith, List.mem_map] at hx
  obtain ⟨y, -, rfl⟩ := hx
  exact Nat.mod_lt _ (by decide)

theorem getD_xorBits {a b : List Nat} {r : Nat} (ha : r < a.length) (hb : r < b.length) :
    (xorBits a b).getD r 0 = (a.getD r 0 + b.getD r 0) % 2 := by
  simp [xorBits, List.getD_eq_getElem?_getD, ha, hb]

/-- A block of zeros. -/
def zeroBlock : List Nat := List.replicate 256 0

@[simp] theorem length_zeroBlock : zeroBlock.length = 256 := List.length_replicate

@[simp] theorem getD_zeroBlock (r : Nat) : zeroBlock.getD r 0 = 0 := by
  rw [zeroBlock, List.getD_eq_getElem?_getD, List.getElem?_replicate]
  split <;> rfl

theorem zeroBlock_lt_two : ∀ x ∈ zeroBlock, x < 2 := by
  intro x hx
  rw [List.eq_of_mem_replicate hx]
  decide

@[simp] theorem length_infoSum (info : List Nat) (i : Nat) : (infoSum info i).length = 256 := by simp [infoSum]

/-- The block columns of the information in a block row, with their shifts. -/
def infoCols (i : Nat) : List (Nat × Nat) := (rowBlocks i).filter fun js => decide (js.1 ≤ 128)

/-- The sum of a word's bits that check `r` finds in block columns with their shifts. -/
def colsSum (c : List Nat) (cols : List (Nat × Nat)) (r : Nat) : Nat :=
  (cols.map fun js => c.getD (js.1 * 256 + (r + js.2) % 256) 0).sum

theorem colsSum_append (c : List Nat) (xs ys : List (Nat × Nat)) (r : Nat) :
    colsSum c (xs ++ ys) r = colsSum c xs r + colsSum c ys r := by
  simp [colsSum]

theorem colsSum_single (c : List Nat) (j r : Nat) : colsSum c [(j, 0)] r = c.getD (j * 256 + r % 256) 0 := rfl

theorem getD_infoSum (info : List Nat) (i : Nat) {r : Nat} (hr : r < 256) :
    (infoSum info i).getD r 0 = colsSum info (infoCols i) r % 2 := by
  simp [infoSum, colsSum, infoCols, hr, List.sum_eq_foldl, List.foldl_map, List.getD_eq_getElem?_getD]

@[simp] theorem length_rotBlock (k : Nat) (b : List Nat) : (rotBlock k b).length = 256 := by simp [rotBlock]

theorem getD_rotBlock (k : Nat) (b : List Nat) {r : Nat} (hr : r < 256) :
    (rotBlock k b).getD r 0 = b.getD ((r + k) % 256) 0 := by
  simp [rotBlock, hr, List.getD_eq_getElem?_getD]

/-- Blocks of 256 bits put in a row are read back block by block. -/
theorem getD_flatMap_blocks {f : Nat → List Nat} (hf : ∀ i, (f i).length = 256) {r : Nat} (hr : r < 256) {n k : Nat}
    (hk : k < n) (t : Nat) : ((List.range' t n).flatMap f).getD (k * 256 + r) 0 = (f (t + k)).getD r 0 := by
  induction n generalizing t k with
  | zero => omega
  | succ n ih =>
    rw [List.range'_succ, List.flatMap_cons]
    cases k with
    | zero => rw [List.getD_append _ _ _ _ (by rw [hf]; omega), Nat.zero_mul, Nat.zero_add, Nat.add_zero]
    | succ k =>
      have hrest : (k + 1) * 256 + r - 256 = k * 256 + r := by omega
      rw [List.getD_append_right _ _ _ _ (by rw [hf]; omega), hf, hrest, ih (by omega), Nat.add_right_comm, Nat.add_assoc]

/-! ## The parity blocks (R108) -/

/-- Block 129: the sum of every row's information part. -/
def parityHead (info : List Nat) : List Nat :=
  (List.range 16).foldl (fun a i => xorBits a (infoSum info i)) (zeroBlock)

/-- What block 129 adds to a block row: rotated in rows 0 and 15, as it stands in row 8. -/
def headShare (p0 : List Nat) (t : Nat) : List Nat :=
  if t = 0 ∨ t = 15 then rotBlock 1 p0 else if t = 8 then p0 else zeroBlock

/-- Block 129 + t of the recurrence: block row t gives the next block from the one above it. Before the first one and behind
the last one stands a zero block. -/
def parityBlock (info p0 : List Nat) : Nat → List Nat
  | 0 => zeroBlock
  | t + 1 => xorBits (xorBits (infoSum info t) (headShare p0 t)) (parityBlock info p0 t)

theorem parityBlock_lt_two (info p0 : List Nat) (t : Nat) : ∀ x ∈ parityBlock info p0 t, x < 2 := by
  cases t with
  | zero => exact zeroBlock_lt_two
  | succ t => exact xorBits_lt_two _ _

theorem foldl_xorBits_spec (info : List Nat) (n : Nat) :
    let b := (List.range n).foldl (fun a i => xorBits a (infoSum info i)) (zeroBlock)
    b.length = 256 ∧ (∀ x ∈ b, x < 2) ∧
      ∀ r < 256, b.getD r 0 = (∑ i ∈ Finset.range n, (infoSum info i).getD r 0) % 2 := by
  induction n with
  | zero => exact ⟨length_zeroBlock, zeroBlock_lt_two, fun r _ => getD_zeroBlock r⟩
  | succ n ih =>
    obtain ⟨hlen, -, hget⟩ := ih
    rw [List.range_succ, List.foldl_append, List.foldl_cons, List.foldl_nil]
    refine ⟨by simp [hlen], xorBits_lt_two _ _, fun r hr => ?_⟩
    rw [getD_xorBits (by omega) (by simpa using hr), hget r hr, Finset.sum_range_succ]
    omega

section
variable {info p0 : List Nat} (hp0 : p0.length = 256)
include hp0

theorem length_headShare (t : Nat) : (headShare p0 t).length = 256 := by
  unfold headShare
  split_ifs <;> simp [hp0]

theorem length_parityBlock (t : Nat) : (parityBlock info p0 t).length = 256 := by
  induction t with
  | zero => simp [parityBlock]
  | succ t ih => simp [parityBlock, length_headShare hp0, ih]

theorem getD_parityBlock_succ (t : Nat) {r : Nat} (hr : r < 256) : (parityBlock info p0 (t + 1)).getD r 0 =
    ((infoSum info t).getD r 0 + (headShare p0 t).getD r 0 + (parityBlock info p0 t).getD r 0) % 2 := by
  have hshare := length_headShare hp0 t
  rw [parityBlock, getD_xorBits (by simpa [hshare] using hr) (by rw [length_parityBlock hp0]; exact hr),
    getD_xorBits (by simpa using hr) (by omega)]
  omega

/-- A parity block holds the sum of everything above it. -/
theorem getD_parityBlock (t : Nat) {r : Nat} (hr : r < 256) : (parityBlock info p0 t).getD r 0 =
    (∑ i ∈ Finset.range t, ((infoSum info i).getD r 0 + (headShare p0 i).getD r 0)) % 2 := by
  induction t with
  | zero => exact getD_zeroBlock r
  | succ t ih =>
    rw [getD_parityBlock_succ hp0 t hr, ih, Finset.sum_range_succ]
    omega

end

/-- The chain of the encoder is the blocks of the recurrence. -/
theorem parityChain_eq (info p0 : List Nat) {n t : Nat} (h : t + n ≤ 15) :
    parityChain info p0 n t (parityBlock info p0 t) = (List.range' (t + 1) n).flatMap (parityBlock info p0) := by
  induction n generalizing t with
  | zero => rfl
  | succ n ih =>
    have hshare : headShare p0 t = if t = 0 then rotBlock 1 p0 else if t = 8 then p0 else zeroBlock := by
      simp [headShare, show t ≠ 15 by omega]
    rw [List.range'_succ, List.flatMap_cons, ← ih (by omega), parityBlock, hshare]
    rfl

/-- The chain closes: block row 15 gives a zero block from block 144. -/
theorem parityBlock_sixteen (info : List Nat) {r : Nat} (hr : r < 256) :
    (parityBlock info (parityHead info) 16).getD r 0 = 0 := by
  obtain ⟨hlen, -, hhead⟩ := foldl_xorBits_spec info 16
  rw [← parityHead] at hlen hhead
  have hshares : ∑ i ∈ Finset.range 16, (headShare (parityHead info) i).getD r 0 =
      2 * (rotBlock 1 (parityHead info)).getD r 0 + (parityHead info).getD r 0 := by
    simp only [Finset.sum_range_succ, Finset.sum_range_zero, headShare, Nat.reduceEqDiff, reduceIte, or_true, true_or, or_self,
      OfNat.ofNat_ne_zero, one_ne_zero, OfNat.zero_ne_ofNat, getD_zeroBlock]
    omega
  rw [getD_parityBlock hlen 16 hr, Finset.sum_add_distrib, hshares, hhead r hr]
  omega

/-! ## The blocks of a codeword (R106) -/

/-- Block column 129 in a block row, with its shift. -/
def headCols (i : Nat) : List (Nat × Nat) :=
  if i = 0 ∨ i = 15 then [(129, 1)] else if i = 8 then [(129, 0)] else []

/-- The parity block columns of a block row, with their shifts: block 129, the block above the row's own, and its own. -/
def parityCols (i : Nat) : List (Nat × Nat) :=
  headCols i ++ ((if i = 0 then [] else [(129 + i, 0)]) ++ (if i = 15 then [] else [(130 + i, 0)]))

theorem rowBlocks_eq : ∀ i < 16, rowBlocks i = infoCols i ++ parityCols i := by decide

theorem checkOdd_eq (c : List Nat) (i r : Nat) : checkOdd c i r = (colsSum c (rowBlocks i) r % 2 == 1) := by
  simp [checkOdd, checkBits, colsSum, List.sum_eq_foldl, List.foldl_map]

theorem ldpcEncode_eq (info : List Nat) : ldpcEncode info =
    info ++ (parityHead info ++ (List.range' 1 15).flatMap (parityBlock info (parityHead info))) := by
  rw [← parityChain_eq info _ (by decide), ← List.append_assoc]
  rfl

theorem length_ldpcEncode (info : List Nat) : (ldpcEncode info).length = info.length + 4096 := by
  have hlen : (parityHead info).length = 256 := (foldl_xorBits_spec info 16).1
  simp [ldpcEncode_eq, List.length_flatMap, length_parityBlock hlen, hlen]

theorem ldpcEncode_lt_two {info : List Nat} (hbits : ∀ b ∈ info, b < 2) : ∀ b ∈ ldpcEncode info, b < 2 := by
  intro b hb
  simp only [ldpcEncode_eq, List.mem_append, List.mem_flatMap] at hb
  obtain hb | hb | ⟨t, -, hb⟩ := hb
  · exact hbits b hb
  · exact (foldl_xorBits_spec info 16).2.1 b hb
  · exact parityBlock_lt_two info _ t b hb

section
variable {info : List Nat} (hinfo : info.length = 33024)
include hinfo

theorem colsSum_infoCols (i r : Nat) : colsSum (ldpcEncode info) (infoCols i) r = colsSum info (infoCols i) r := by
  unfold colsSum
  congr 1
  refine List.map_congr_left fun js hjs => ?_
  have hcol : js.1 ≤ 128 := by simpa using (List.mem_filter.1 hjs).2
  rw [ldpcEncode_eq, List.getD_append _ _ _ _ (by omega)]

theorem getD_ldpcEncode_head {r : Nat} (hr : r < 256) :
    (ldpcEncode info).getD (129 * 256 + r) 0 = (parityHead info).getD r 0 := by
  obtain ⟨hlen, -⟩ := foldl_xorBits_spec info 16
  rw [ldpcEncode_eq, List.getD_append_right _ _ _ _ (by omega), List.getD_append _ _ _ _ (by rw [parityHead]; omega),
    hinfo, Nat.add_sub_cancel_left]

theorem getD_ldpcEncode_parity {k r : Nat} (hk : k < 15) (hr : r < 256) :
    (ldpcEncode info).getD ((130 + k) * 256 + r) 0 = (parityBlock info (parityHead info) (k + 1)).getD r 0 := by
  have hlen : (parityHead info).length = 256 := (foldl_xorBits_spec info 16).1
  have hplace : (130 + k) * 256 + r - 33024 - 256 = k * 256 + r := by omega
  rw [ldpcEncode_eq, List.getD_append_right _ _ _ _ (by omega), List.getD_append_right _ _ _ _ (by omega), hinfo, hlen,
    hplace, getD_flatMap_blocks (length_parityBlock hlen) hr hk, Nat.add_comm]

theorem colsSum_headCols (i : Nat) {r : Nat} (hr : r < 256) :
    colsSum (ldpcEncode info) (headCols i) r = (headShare (parityHead info) i).getD r 0 := by
  unfold headCols headShare
  split_ifs
  · rw [getD_rotBlock 1 _ hr, ← getD_ldpcEncode_head hinfo (Nat.mod_lt _ (by decide))]
    rfl
  · rw [colsSum_single, Nat.mod_eq_of_lt hr, getD_ldpcEncode_head hinfo hr]
  · exact (getD_zeroBlock r).symm

/-- The parity part of a check: the share of block 129, the block above the row's and the row's own. -/
theorem colsSum_parityCols {i r : Nat} (hi : i < 16) (hr : r < 256) :
    colsSum (ldpcEncode info) (parityCols i) r = (headShare (parityHead info) i).getD r 0 +
      ((parityBlock info (parityHead info) i).getD r 0 + (parityBlock info (parityHead info) (i + 1)).getD r 0) := by
  rw [parityCols, colsSum_append, colsSum_append, colsSum_headCols hinfo i hr]
  congr 2
  · split_ifs with h
    · subst h
      exact (getD_zeroBlock r).symm
    · obtain ⟨k, rfl⟩ := Nat.exists_eq_succ_of_ne_zero h
      rw [colsSum_single, Nat.mod_eq_of_lt hr, ← getD_ldpcEncode_parity hinfo (by omega) hr, Nat.succ_eq_one_add,
        ← Nat.add_assoc]
  · split_ifs with h
    · subst h
      exact (parityBlock_sixteen info hr).symm
    · rw [colsSum_single, Nat.mod_eq_of_lt hr, getD_ldpcEncode_parity hinfo (by omega) hr]

/-- Every check of a codeword is satisfied. -/
theorem checkOdd_ldpcEncode {i r : Nat} (hi : i < 16) (hr : r < 256) : checkOdd (ldpcEncode info) i r = false := by
  have hlen : (parityHead info).length = 256 := (foldl_xorBits_spec info 16).1
  have hsum : colsSum (ldpcEncode info) (rowBlocks i) r =
      colsSum info (infoCols i) r + colsSum (ldpcEncode info) (parityCols i) r := by
    rw [rowBlocks_eq i hi, colsSum_append, colsSum_infoCols hinfo]
  have hnext := getD_parityBlock_succ (info := info) hlen i hr
  rw [getD_infoSum info i hr] at hnext
  rw [checkOdd_eq, hsum, colsSum_parityCols hinfo hi hr, hnext, beq_eq_false_iff_ne]
  omega

end

/-- Settles O57: rows 0 to 14 hold as their parity blocks are made, and row 15 holds because the chain closes. -/
theorem encodedWordIsACodeword : Obligations.EncodedWordIsACodeword := by
  intro info hinfo hbits
  exact ⟨by rw [length_ldpcEncode, hinfo], by rw [ldpcEncode_eq, List.take_left' hinfo], ldpcEncode_lt_two hbits,
    fun i hi r hr => checkOdd_ldpcEncode hinfo hi hr⟩

/-- The last check of a codeword of information ones. -/
theorem checkOdd_ldpcEncode_ones : checkOdd (ldpcEncode (List.replicate 33024 1)) 15 255 = false := by
  obtain ⟨-, -, -, hchecks⟩ := encodedWordIsACodeword (List.replicate 33024 1) List.length_replicate
    fun b hb => by rw [List.eq_of_mem_replicate hb]; decide
  exact hchecks 15 (by decide) 255 (by decide)

end Sys2Proof.Machine
end

section
/-!
PROOFS. The scrambler (R110): its register bit by bit, what the register remembers of the sequence, and a built sector.
-/

namespace Sys2Proof.Machine

/-! ## The register -/

/-- The bit that a register gives. -/
def scramBit (r : Nat) : Nat := (r / 2 ^ 27 + r / 2 ^ 30) % 2

/-- The register after it has given its bit. -/
def scramNext (r : Nat) : Nat := r * 2 % 2 ^ 31 + scramBit r

theorem scramBit_lt_two (r : Nat) : scramBit r < 2 := Nat.mod_lt _ (by decide)

theorem scramBit_eq_one (r : Nat) : (scramBit r == 1) = (r.testBit 27 != r.testBit 30) := by
  rw [Nat.testBit_eq_decide_div_mod_eq, Nat.testBit_eq_decide_div_mod_eq, scramBit]
  generalize r / 2 ^ 27 = x
  generalize r / 2 ^ 30 = y
  rcases Nat.mod_two_eq_zero_or_one x with hx | hx <;> rcases Nat.mod_two_eq_zero_or_one y with hy | hy <;>
    simp [Nat.add_mod, hx, hy]

theorem testBit_scramNext_zero (r : Nat) : (scramNext r).testBit 0 = (scramBit r == 1) := by
  have hbit := scramBit_lt_two r
  have hlow : scramNext r % 2 = scramBit r := by
    rw [scramNext]
    omega
  rw [Nat.testBit_zero, hlow]
  rfl

/-- The register moves up by one place. -/
theorem testBit_scramNext_succ (r : Nat) {k : Nat} (hk : k < 30) : (scramNext r).testBit (k + 1) = r.testBit k := by
  have hbit := scramBit_lt_two r
  have hhigh : scramNext r / 2 = r % 2 ^ 30 := by
    rw [scramNext]
    omega
  rw [Nat.testBit_succ, hhigh, Nat.testBit_mod_two_pow, decide_eq_true hk, Bool.true_and]

theorem length_scramRun (n r : Nat) : (scramRun n r).length = n := by
  induction n generalizing r with
  | zero => rfl
  | succ n ih => exact congrArg Nat.succ (ih _)

/-- The sequence is the bits that the register gives step by step. -/
theorem getD_scramRun {m n : Nat} (h : n < m) (r : Nat) : (scramRun m r).getD n 0 = scramBit (scramNext^[n] r) := by
  induction m generalizing n r with
  | zero => omega
  | succ m ih =>
    cases n with
    | zero => rfl
    | succ n =>
      rw [Function.iterate_succ_apply, ← ih (by omega)]
      rfl

/-! ## The sequence -/

/-- The bit k places before bit n of the sequence of an LBA, the bits before the first being the seed's. -/
def scramBefore (lba n k : Nat) : Bool :=
  if k ≤ n then (scramble lba).getD (n - k) 0 == 1 else (scramSeed lba).testBit (k - n - 1)

theorem getD_scramble (lba : Nat) {n : Nat} (h : n < 37120) :
    (scramble lba).getD n 0 = scramBit (scramNext^[n] (scramSeed lba)) := getD_scramRun h _

/-- Bit k - 1 of the register is the bit k places before. -/
theorem testBit_register (lba : Nat) {n k : Nat} (hn : n < 37120) (hk : k < 31) :
    (scramNext^[n] (scramSeed lba)).testBit k = scramBefore lba n (k + 1) := by
  induction n generalizing k with
  | zero => rfl
  | succ n ih =>
    rw [Function.iterate_succ_apply']
    cases k with
    | zero =>
      rw [testBit_scramNext_zero, ← getD_scramble lba (by omega)]
      rfl
    | succ k =>
      rw [testBit_scramNext_succ _ (by omega), ih (by omega) (by omega)]
      simp only [scramBefore, Nat.add_le_add_iff_right, Nat.add_sub_add_right]

/-- The recurrence of the sequence. -/
theorem scramBefore_zero (lba : Nat) {n : Nat} (hn : n < 37120) :
    scramBefore lba n 0 = (scramBefore lba n 28 != scramBefore lba n 31) := by
  rw [← testBit_register lba hn (k := 27) (by decide), ← testBit_register lba hn (k := 30) (by decide), ← scramBit_eq_one,
    ← getD_scramble lba hn]
  rfl

/-! ## A built sector (R109, R110) -/

theorem length_leBytes (n v : Nat) : (leBytes n v).length = n := by
  induction n generalizing v with
  | zero => rfl
  | succ n ih => exact congrArg Nat.succ (ih _)

theorem length_beBytes (n v : Nat) : (beBytes n v).length = n := by rw [beBytes, List.length_reverse, length_leBytes]

theorem TagF.length_bytes (t : TagF) : t.bytes.length = 24 := by simp [TagF.bytes, length_beBytes]

/-- The information bits of a sector: ciphertext, tag and CRC (R102 to R105). -/
def sectorBits (cipher : List Byte) (t : TagF) : List Nat :=
  bitsMsb (cipher ++ t.bytes ++ beBytes 8 (crc64 (cipher ++ t.bytes)))

theorem length_sectorBits {cipher : List Byte} (t : TagF) (h : cipher.length = 4096) :
    (sectorBits cipher t).length = 33024 := by
  simp [sectorBits, length_bitsMsb, length_beBytes, TagF.length_bytes, h]

theorem getD_buildSector {cipher : List Byte} (t : TagF) (h : cipher.length = 4096) {n : Nat} (hn : n < 37120) :
    (buildSector cipher t).getD n 0 =
      ((ldpcEncode (sectorBits cipher t)).getD n 0 + (scramble t.lba).getD n 0) % 2 :=
  getD_xorBits (a := ldpcEncode (sectorBits cipher t)) (by rw [length_ldpcEncode, length_sectorBits t h]; exact hn)
    (by rw [scramble, length_scramRun]; exact hn)

/-- Settles O58: the register holds the last 31 bits, so its two taps are the bits 28 and 31 before. -/
theorem scramblerSequence : Obligations.ScramblerSequence := by
  intro lba _ x seed u
  refine ⟨fun n hn => ⟨?_, scramBefore_zero lba hn⟩, ?_⟩
  · rw [getD_scramble lba hn]
    exact scramBit_lt_two _
  · rintro cipher t hcipher rfl n hn
    exact getD_buildSector t hcipher hn

/-- Bit 37,119, the last one of a sector's, on LBA 0, whose seed is the one that replaces zero. -/
theorem scramBefore_lba0 : scramBefore 0 37119 0 = (scramBefore 0 37119 28 != scramBefore 0 37119 31) := by
  obtain ⟨hsequence, -⟩ := scramblerSequence 0 (by decide)
  exact (hsequence 37119 (by decide)).2

end Sys2Proof.Machine
end

section
/-!
PROOFS. The Landing (R114 to R117): bytes that are put, numbers in little-endian bytes bit by bit, and the layout of the soft
values of a slot.
-/

namespace Sys2Proof.Machine

/-! ## Bytes put in the Landing -/

/-- What any byte of the Landing reads after bytes are put at a key. -/
theorem State.landByte_putLand (s : State) (k : Nat) (bs : List Byte) (a : Nat) :
    (s.putLand k bs).landByte a = if k ≤ a ∧ a < k + bs.length then bs.getD (a - k) 0 else s.landByte a := by
  induction bs generalizing s k with
  | nil => rw [if_neg (by simp), State.putLand]
  | cons b bs ih =>
    rw [State.putLand, ih]
    rcases Nat.lt_trichotomy a k with h | rfl | h
    · rw [if_neg (by omega), if_neg (by omega)]
      exact mget_mset_ne _ _ _ _ _ (by omega)
    · rw [if_neg (by omega), if_pos (by simp), Nat.sub_self, List.getD_cons_zero]
      exact mget_mset_same ..
    · obtain ⟨j, rfl⟩ := Nat.exists_eq_add_of_lt h
      have hk : k + j + 1 - k = j + 1 := by omega
      have hk' : k + j + 1 - (k + 1) = j := by omega
      rw [hk, hk', List.getD_cons_succ, List.length_cons]
      refine ite_congr (by simp only [eq_iff_iff]; omega) (fun _ => rfl) fun _ => ?_
      exact mget_mset_ne _ _ _ _ _ (by omega)

theorem State.landBytes_putLand (s : State) (k : Nat) (bs : List Byte) :
    (s.putLand k bs).landBytes k bs.length = bs := by
  refine List.ext_getElem (by simp [State.landBytes]) fun i hi hi' => ?_
  simp [State.landBytes, State.landByte_putLand, hi']

/-- Bytes put in the Landing touch nothing else. -/
theorem State.putLand_eq (s : State) (k : Nat) (bs : List Byte) : ∃ l, s.putLand k bs = { s with land := l } := by
  induction bs generalizing s k with
  | nil => exact ⟨s.land, rfl⟩
  | cons b bs ih =>
    obtain ⟨l, h⟩ := ih { s with land := mset (fun _ => (0 : Byte)) s.land k b } (k + 1)
    exact ⟨l, h⟩

/-! ## Numbers in little-endian bytes (R11) -/

theorem testBit_leNat (bs : List Byte) (p : Nat) : (leNat bs).testBit p = (bs.getD (p / 8) 0).toNat.testBit (p % 8) := by
  induction bs generalizing p with
  | nil => simp [leNat]
  | cons b bs ih =>
    rw [leNat, Nat.add_comm, show (256 : Nat) = 2 ^ 8 from rfl, Nat.testBit_two_pow_mul_add _ b.isLt]
    split
    · next h => rw [Nat.div_eq_of_lt h, Nat.mod_eq_of_lt h, List.getD_cons_zero]
    · next h =>
      have hdiv : p / 8 = (p - 8) / 8 + 1 := by omega
      have hmod : p % 8 = (p - 8) % 8 := by omega
      rw [ih, hdiv, hmod, List.getD_cons_succ]

theorem testBit_leBytes {n i j : Nat} (v : Nat) (hi : i < n) (hj : j < 8) :
    ((leBytes n v).getD i 0).toNat.testBit j = v.testBit (8 * i + j) := by
  induction n generalizing i v with
  | zero => omega
  | succ n ih =>
    cases i with
    | zero =>
      rw [leBytes, List.getD_cons_zero, BitVec.toNat_ofNat, Nat.testBit_mod_two_pow, decide_eq_true hj, Bool.true_and,
        Nat.mul_zero, Nat.zero_add]
    | succ i =>
      have hplace : 8 * i + j + 8 = 8 * (i + 1) + j := by omega
      rw [leBytes, List.getD_cons_succ, ih _ (by omega), show (256 : Nat) = 2 ^ 8 from rfl, Nat.testBit_div_two_pow, hplace]

/-- Bit `p` of the Landing's bytes from a key upward, bit 0 of each byte first. -/
def State.landBit (s : State) (base p : Nat) : Bool := (s.landByte (base + p / 8)).toNat.testBit (p % 8)

theorem State.landBit_add (s : State) (base b p : Nat) : s.landBit (base + b) p = s.landBit base (8 * b + p) := by
  have hdiv : (8 * b + p) / 8 = b + p / 8 := by omega
  rw [State.landBit, State.landBit, hdiv, Nat.mul_add_mod, Nat.add_assoc]

theorem State.testBit_landBytes (s : State) (k : Nat) {n p : Nat} (hp : p < 8 * n) :
    (leNat (s.landBytes k n)).testBit p = s.landBit k p := by
  have hbyte : p / 8 < n := by omega
  rw [testBit_leNat, State.landBytes, State.landBit]
  simp [hbyte]

theorem State.testBit_landBits (s : State) (base lo k : Nat) {n : Nat} (hn : 0 < n) :
    (s.landBits base lo n).testBit k = (decide (k < n) && s.landBit base (lo + k)) := by
  have hwidth : lo % 8 + n - 1 + 1 - lo % 8 = n := by omega
  rw [State.landBits, testBit_bitsOf, hwidth]
  by_cases hk : k < n
  · have hplace : 8 * (lo / 8) + (k + lo % 8) = lo + k := by omega
    rw [State.testBit_landBytes _ _ (by omega), State.landBit_add, hplace]
  · simp [hk]

/-- What any bit of the Landing reads after bits are put. -/
theorem State.landBit_putLandBits (s : State) (base b lo v p : Nat) {n : Nat} (hn : 0 < n) :
    (s.putLandBits (base + b) lo n v).landBit base p =
      if 8 * b + lo ≤ p ∧ p < 8 * b + lo + n then v.testBit (p - (8 * b + lo)) else s.landBit base p := by
  rw [State.landBit, State.putLandBits, State.landByte_putLand, length_leBytes]
  by_cases hbyte : b + lo / 8 ≤ p / 8 ∧ p / 8 < b + lo / 8 + (lo % 8 + n + 7) / 8
  · have hindex : base + p / 8 - (base + b + lo / 8) = p / 8 - (b + lo / 8) := by omega
    rw [if_pos (by omega), hindex, testBit_leBytes _ (by omega) (Nat.mod_lt _ (by decide)),
      testBit_putBits _ _ _ _ _ (by omega), State.testBit_landBytes _ _ (by omega)]
    refine ite_congr (by simp only [eq_iff_iff]; omega) (fun h => ?_) fun h => ?_
    · congr 1
      omega
    · rw [Nat.add_assoc, State.landBit_add]
      congr 1
      omega
  · rw [if_neg (by omega), if_neg (by omega)]
    rfl

/-- Bits that are put touch only the bytes that hold them. -/
theorem State.landByte_putLandBits_ne (s : State) (base lo n v : Nat) {a : Nat}
    (h : a < base + lo / 8 ∨ base + (lo + n + 7) / 8 ≤ a) : (s.putLandBits base lo n v).landByte a = s.landByte a := by
  rw [State.putLandBits, State.landByte_putLand, length_leBytes, if_neg (by omega)]

/-! ## Soft values (R116) -/

theorem softKey_eq (slot byte : Nat) : softKey slot byte = softKey slot 0 + byte := rfl

/-- Soft value `n` is bits 6n to 6n + 5 of its slot. -/
theorem State.testBit_softBits (s : State) (slot n k : Nat) :
    (s.landBits (softKey slot (n / 4 * 3)) (n % 4 * 6) 6).testBit k =
      (decide (k < 6) && s.landBit (softKey slot 0) (6 * n + k)) := by
  have hplace : 8 * (n / 4 * 3) + (n % 4 * 6 + k) = 6 * n + k := by omega
  rw [State.testBit_landBits _ _ _ _ (by decide), softKey_eq, State.landBit_add, hplace]

/-- A soft value is read off its six bits. -/
theorem State.softVal_eq_of_bits (s : State) {slot n v : Nat} (hv : v < 2 ^ 6)
    (hbits : ∀ k < 6, s.landBit (softKey slot 0) (6 * n + k) = v.testBit k) : s.softVal slot n = signed 6 v := by
  rw [State.softVal]
  congr 1
  refine Nat.eq_of_testBit_eq fun k => ?_
  rw [State.testBit_softBits]
  by_cases hk : k < 6
  · simp [hk, hbits k hk]
  · simp only [hk, decide_false, Bool.false_and]
    exact (Nat.testBit_lt_two_pow (hv.trans_le (Nat.pow_le_pow_right (by decide) (by omega)))).symm

theorem State.softVal_congr {s t : State} {slot n : Nat}
    (h : ∀ k < 6, t.landBit (softKey slot 0) (6 * n + k) = s.landBit (softKey slot 0) (6 * n + k)) :
    t.softVal slot n = s.softVal slot n := by
  rw [State.softVal, State.softVal]
  congr 1
  refine Nat.eq_of_testBit_eq fun k => ?_
  rw [State.testBit_softBits, State.testBit_softBits]
  by_cases hk : k < 6
  · rw [h k hk]
  · simp [hk]

theorem unsigned_six_lt (x : Int) : unsigned 6 x < 2 ^ 6 := by
  unfold unsigned
  omega

theorem signed_unsigned_six {x : Int} (hlo : -32 ≤ x) (hhi : x ≤ 31) : signed 6 (unsigned 6 x) = x := by
  unfold signed unsigned
  split <;> omega

section
variable {s : State} {slot n : Nat} (hslot : slot < s.nSoft) (x : Int)
include hslot

theorem State.landBit_setSoftVal (p : Nat) : (s.setSoftVal slot n x).landBit (softKey slot 0) p =
    if 6 * n ≤ p ∧ p < 6 * n + 6 then (unsigned 6 x).testBit (p - 6 * n) else s.landBit (softKey slot 0) p := by
  have hplace : 8 * (n / 4 * 3) + n % 4 * 6 = 6 * n := by omega
  rw [State.setSoftVal, if_pos hslot, softKey_eq, State.landBit_putLandBits _ _ _ _ _ _ (by decide), hplace]

/-- A soft value that is written touches bytes of its slot below 27,840. -/
theorem State.landByte_setSoftVal_ne (hn : n < 37120) {k : Nat} (hk : k < softKey slot 0 ∨ softKey slot 27840 ≤ k) :
    (s.setSoftVal slot n x).landByte k = s.landByte k := by
  rw [softKey_eq slot 27840] at hk
  rw [State.setSoftVal, if_pos hslot, softKey_eq, State.landByte_putLandBits_ne]
  omega

end

/-- Settles O59: value `n` is bits 6n to 6n + 5 of its slot, whichever bytes they cross. -/
theorem softSlotLayout : Obligations.SoftSlotLayout := by
  refine ⟨fun s slot g i hi hn => ⟨?_, by omega⟩, fun s slot n x hslot hn hlo hhi => ⟨?_, fun slot' m hm hne => ?_, ?_⟩⟩
  · have hword : (s.landByte (softKey slot (3 * g))).toNat + 2 ^ 8 * (s.landByte (softKey slot (3 * g + 1))).toNat +
        2 ^ 16 * (s.landByte (softKey slot (3 * g + 2))).toNat = leNat (s.landBytes (softKey slot (3 * g)) 3) := by
      simp only [State.landBytes, List.range_succ, List.range_zero, List.nil_append, List.cons_append, List.map_cons,
        List.map_nil, leNat, softKey, Nat.add_zero, Nat.add_assoc]
      omega
    rw [hword]
    refine State.softVal_eq_of_bits s (Nat.mod_lt _ (Nat.two_pow_pos _) |>.trans_le ?_) fun k hk => ?_
    · exact Nat.pow_le_pow_right (by decide) (by omega)
    · have hplace : 8 * (3 * g) + (k + 6 * i) = 6 * (4 * g + i) + k := by omega
      rw [testBit_bitsOf, decide_eq_true (by omega), Bool.true_and, State.testBit_landBytes _ _ (by omega),
        softKey_eq slot (3 * g), State.landBit_add, hplace]
  · rw [State.softVal_eq_of_bits (v := unsigned 6 x) _ (unsigned_six_lt x), signed_unsigned_six hlo hhi]
    intro k hk
    rw [State.landBit_setSoftVal hslot, if_pos (by omega), Nat.add_sub_cancel_left]
  · refine State.softVal_congr fun k hk => ?_
    by_cases hsame : slot' = slot
    · subst hsame
      have hmn : m ≠ n := fun h => hne (h ▸ rfl)
      rw [State.landBit_setSoftVal hslot, if_neg (by omega)]
    · rw [State.landBit, State.landByte_setSoftVal_ne hslot x hn, State.landBit]
      simp only [softKey]
      omega
  · exact fun k hk => State.landByte_setSoftVal_ne hslot x hn hk

/-- The last soft value of the last slot takes the lowest value. -/
theorem softVal_last : (Tests.w0.setSoftVal 719 37119 (-32)).softVal 719 37119 = -32 := by
  obtain ⟨-, hwrite⟩ := softSlotLayout
  exact (hwrite Tests.w0 719 37119 (-32) (by decide) (by decide) (by decide) (by decide)).1

end Sys2Proof.Machine
end

section
/-!
PROOFS. The decoder pool's own state (R109, R120 to R133): a decoder and an encoder after a write, what DEC_STAT, the fence
bits, a reissue and the end of a codeword leave alone, and what the issue of a word leaves of the pool.
-/

namespace Sys2Proof.Machine

/-! ## Decoders, encoders and the queue -/

@[simp] theorem State.decoder_setDecoder_same (s : State) (d : Nat) (x : Decoder) : (s.setDecoder d x).decoder d = x := by
  simp [State.decoder, State.setDecoder]

theorem State.decoder_setDecoder_ne (s : State) {d k : Nat} (x : Decoder) (h : k ≠ d) :
    (s.setDecoder d x).decoder k = s.decoder k := by
  simp [State.decoder, State.setDecoder, mget_mset_ne _ _ _ _ _ h]

theorem State.setDecoder_sameBytes (s : State) (d : Nat) (x : Decoder) : s.SameBytes (s.setDecoder d x) :=
  ⟨rfl, rfl, rfl, rfl, rfl⟩

@[simp] theorem State.encJob_setEnc_same (s : State) (e : Nat) (j : Option EncJob) : (s.setEnc e j).encJob e = j := by
  simp [State.encJob, State.setEnc]

theorem State.encJob_setEnc_ne (s : State) {e k : Nat} (j : Option EncJob) (h : k ≠ e) :
    (s.setEnc e j).encJob k = s.encJob k := by
  simp [State.encJob, State.setEnc, mget_mset_ne _ _ _ _ _ h]

theorem State.setDecQueue_sameBytes (s : State) (xs : List Codeword) : s.SameBytes (s.setDecQueue xs) :=
  ⟨rfl, rfl, rfl, rfl, rfl⟩

/-- What waits after a codeword has entered the queue (R122). -/
theorem State.mem_enqueueCw (s : State) (c y : Codeword) :
    y ∈ (s.enqueueCw c).dec.queue ↔ y = c ∨ (y ∈ s.dec.queue ∧ y.age ≠ c.age) := by
  simp only [State.enqueueCw, State.setDecQueue, List.mem_append, List.mem_filter, List.mem_singleton, decide_eq_true_eq,
    ne_iff_lt_or_gt]
  tauto

/-! ## DEC_STAT (R133) -/

theorem State.RecordsIn.dec_eq {P : Nat → Prop} {s t : State} (h : State.RecordsIn P s t) : t.dec = s.dec := by
  obtain ⟨⟨q, x, r, rfl⟩, -⟩ := h
  rfl

theorem State.RecordsIn.cph_eq {P : Nat → Prop} {s t : State} (h : State.RecordsIn P s t) : t.cph = s.cph := by
  obtain ⟨⟨q, x, r, rfl⟩, -⟩ := h
  rfl

theorem State.RecordsIn.decoder_eq {P : Nat → Prop} {s t : State} (h : State.RecordsIn P s t) (d : Nat) :
    t.decoder d = s.decoder d :=
  congrArg (fun x : DecS => mget (fun _ => ({} : Decoder)) x.dec d) h.dec_eq

/-- DEC_STAT shows the pool and nothing else is written. -/
theorem State.decStat_records (s : State) : State.RecordsIn (· = Reg.DEC_STAT.addr 0 0) s s.decStat := by
  have hfld (u : State) (f : Fld) (v : Nat) (hf : f.reg = Reg.DEC_STAT) :
      State.RecordsIn (· = Reg.DEC_STAT.addr 0 0) u (u.setFld f 0 v) := .setFld u v (congrArg (·.addr 0 0) hf)
  unfold State.decStat
  dsimp only
  exact ((hfld s _ _ rfl).trans (hfld _ _ _ rfl)).trans (hfld _ _ _ rfl)

/-! ## The end of a codeword (R27, R126, R127) -/

@[simp] theorem State.releaseSoft_cph (s : State) (slot tag : Nat) : (s.releaseSoft slot tag).cph = s.cph := by
  unfold State.releaseSoft
  dsimp only
  split
  · split <;> rfl
  · rfl

@[simp] theorem State.releaseDcred_cph (s : State) (tag : Nat) : (s.releaseDcred tag).cph = s.cph := by
  unfold State.releaseDcred
  dsimp only
  split <;> rfl

@[simp] theorem State.sendRec_cph (s : State) (q qu : Nat) (r : List Word) : (s.sendRec q qu r).cph = s.cph := by
  obtain ⟨l, h⟩ := s.sendRec_eq q qu r
  rw [h]

/-- The end of a codeword does not concern the cipher. -/
@[simp] theorem State.endCw_cph (s : State) (c : Codeword) (res : Nat) (taken : Bool) (unsat flips : Nat) (t : TagF) :
    (s.endCw c res taken unsat flips t).cph = s.cph := by
  unfold State.endCw State.cwRecord
  dsimp only
  rw [(State.decStat_records _).cph_eq]
  split_ifs <;> simp

/-! ## Fence bits (R131, R132) -/

theorem bitOf_word_setBit (w : Word) {k j : Nat} (b : Bool) (hk : k < 32) :
    bitOf (word (setBit w.toNat k b)).toNat j = if j = k then b else bitOf w.toNat j := by
  simp only [bitOf, word, setBit, BitVec.toNat_ofNat]
  rw [Nat.mod_eq_of_lt (putBits_lt _ _ _ _ (Nat.le_refl k) hk w.isLt), testBit_putBits _ _ _ _ _ (by omega)]
  by_cases h : j = k
  · subst h
    cases b <;> simp
  · rw [if_neg (by omega), if_neg h]

/-- The fence bit of a decoder set to a value. -/
def State.putFence (s : State) (d : Nat) (b : Bool) : State :=
  s.wr Reg.DEC_DFENCE 0 (d / 32) (word (setBit (s.rd Reg.DEC_DFENCE 0 (d / 32)).toNat (d % 32) b))

theorem State.decFenced_putFence (s : State) (d : Nat) (b : Bool) (k : Nat) :
    (s.putFence d b).decFenced k = if k = d then b else s.decFenced k := by
  rw [State.decFenced, State.putFence]
  by_cases hreg : k / 32 = d / 32
  · rw [hreg, State.rd_wr_same, bitOf_word_setBit _ _ (Nat.mod_lt _ (by decide)), ← hreg]
    exact ite_congr (by simp only [eq_iff_iff]; omega) (fun _ => rfl) fun _ => rfl
  · rw [State.rd_wr_ne, if_neg (by rintro rfl; exact hreg rfl)]
    · rfl
    · simp only [Reg.addr, Reg.DEC_DFENCE]
      omega

theorem State.decFaulted_putFence (s : State) {d k : Nat} (b : Bool) (hd : d < 64) :
    (s.putFence d b).decFaulted k = s.decFaulted k := by
  rw [State.decFaulted, State.putFence, State.rd_wr_ne]
  · rfl
  · simp only [Reg.addr, Reg.DEC_DFENCE, Reg.DEC_DFAULT]
    omega

/-- What a fence of a decoder, or its return, does: its fence bit takes a value, and every other fence bit, every fault bit,
the variant and all bytes stay. -/
structure State.FenceStep (s t : State) (d : Nat) (b : Bool) : Prop where
  fenced : ∀ k < 64, t.decFenced k = if k = d then b else s.decFenced k
  faulted : ∀ k < 64, t.decFaulted k = s.decFaulted k
  jd16 : t.jd16 = s.jd16
  bytes : s.SameBytes t

theorem State.fenceStep_putFence (s : State) {d : Nat} (b : Bool) (hd : d < 64) : s.FenceStep (s.putFence d b) d b :=
  ⟨fun k _ => s.decFenced_putFence d b k, fun _ _ => s.decFaulted_putFence b hd, rfl, rfl, rfl, rfl, rfl, rfl⟩

/-- Work of the pool beside its fences: the variant, all bytes, and every register but the count of reissues and DEC_STAT stay. -/
structure State.PoolWork (s t : State) : Prop where
  regs : s.SameRegs t [Reg.DEC_CNT_REISSUE.addr 0 0, Reg.DEC_STAT.addr 0 0]
  jd16 : t.jd16 = s.jd16
  bytes : s.SameBytes t

theorem State.PoolWork.trans {s t u : State} (h : s.PoolWork t) (k : t.PoolWork u) : s.PoolWork u :=
  ⟨fun a ha => (k.regs a ha).trans (h.regs a ha), k.jd16.trans h.jd16, h.bytes.trans k.bytes⟩

theorem State.PoolWork.foldl {α : Type} {f : State → α → State} (h : ∀ u x, State.PoolWork u (f u x)) (l : List α)
    (s : State) : s.PoolWork (l.foldl f s) := by
  induction l generalizing s with
  | nil => exact ⟨fun _ _ => rfl, rfl, rfl, rfl, rfl, rfl, rfl⟩
  | cons x l ih => exact (h s x).trans (ih _)

theorem State.decStat_poolWork (s : State) : s.PoolWork s.decStat :=
  ⟨fun _ ha => s.decStat_records.rdA_eq fun h => ha (by simp [h]), s.decStat_records.jd16_eq, s.decStat_records.sameBytes⟩

/-- A codeword that goes back to the queue (R131). -/
theorem State.reissueCw_poolWork (s : State) (w : DecWork) (restart : Bool) : s.PoolWork (s.reissueCw w restart) := by
  refine ⟨fun a ha => ?_, rfl, rfl, rfl, rfl, rfl, rfl⟩
  unfold State.reissueCw
  exact State.rdA_bump_ne _ _ fun h => ha (by simp [h])

theorem State.FenceStep.of_poolWork {s t u : State} {d : Nat} {b : Bool} (h : s.FenceStep t d b) (hwork : t.PoolWork u) :
    s.FenceStep u d b := by
  have hfence (k : Nat) (hk : k < 64) : u.decFenced k = t.decFenced k := by
    rw [State.decFenced, State.decFenced, State.rd, State.rd, hwork.regs]
    simp only [Reg.addr, Reg.DEC_DFENCE, Reg.DEC_CNT_REISSUE, Reg.DEC_STAT, List.mem_cons, List.not_mem_nil, or_false]
    omega
  have hfault (k : Nat) (hk : k < 64) : u.decFaulted k = t.decFaulted k := by
    rw [State.decFaulted, State.decFaulted, State.rd, State.rd, hwork.regs]
    simp only [Reg.addr, Reg.DEC_DFAULT, Reg.DEC_CNT_REISSUE, Reg.DEC_STAT, List.mem_cons, List.not_mem_nil, or_false]
    omega
  exact ⟨fun k hk => (hfence k hk).trans (h.fenced k hk), fun k hk => (hfault k hk).trans (h.faulted k hk),
    hwork.jd16.trans h.jd16, h.bytes.trans hwork.bytes⟩

/-- A decoder fenced without a fault: what it has not begun goes back to the queue (R131). -/
theorem State.decHostFence_step (s : State) {d : Nat} (hd : d < 64) : s.FenceStep (s.decHostFence d) d true := by
  refine (s.fenceStep_putFence true hd).of_poolWork ?_
  unfold State.decHostFence
  refine .trans (.trans ?_ (State.PoolWork.foldl (fun u w => u.reissueCw_poolWork w false) _ _)) (State.decStat_poolWork _)
  exact ⟨fun _ _ => rfl, rfl, rfl, rfl, rfl, rfl, rfl⟩

/-- A decoder that is to return: one with a fault stays as it was (R131). -/
theorem State.decReturn_step (s : State) {d : Nat} (hd : d < 64) :
    s.FenceStep (s.decReturn d) d (s.decFenced d && s.decFaulted d) := by
  unfold State.decReturn
  split
  · next h =>
    obtain ⟨hfenced, hfault⟩ := h
    rw [hfenced, Bool.true_and, Bool.eq_false_iff.2 hfault]
    exact (s.fenceStep_putFence false hd).of_poolWork ⟨fun _ _ => rfl, rfl, rfl, rfl, rfl, rfl, rfl⟩
  · next h =>
    have hkeep : (s.decFenced d && s.decFaulted d) = s.decFenced d := by
      cases hf : s.decFenced d <;> simp_all
    rw [hkeep]
    refine ⟨fun k _ => ?_, fun _ _ => rfl, rfl, rfl, rfl, rfl, rfl, rfl⟩
    split
    · next hk => rw [hk]
    · rfl

/-! ## Words to the pool (R398) -/

@[simp] theorem State.grs_issue (s : State) (q r n : Nat) : (s.issue q).grs q r n = s.grs q r n := by
  simp [State.grs]

@[simp] theorem State.decEnabled_issue (s : State) (q : Nat) :
    (s.issue q).flag Reg.DEC_CTRL_EN 0 = s.flag Reg.DEC_CTRL_EN 0 := by
  rw [State.flag, s.fld_issue_below q (by decide)]
  rfl

@[simp] theorem State.cwOf_issue (s : State) (q : Nat) (b : List Word) : (s.issue q).cwOf q b = s.cwOf q b := by
  rw [State.cwOf, State.cwOf, s.fld_issue_below q (by decide)]
  rfl

@[simp] theorem State.issue_dec (s : State) (q : Nat) : (s.issue q).dec = s.dec := rfl
@[simp] theorem State.issue_cph (s : State) (q : Nat) : (s.issue q).cph = s.cph := rfl
@[simp] theorem State.storeSize_issue (s : State) (q : Nat) : (s.issue q).storeSize = s.storeSize := rfl

end Sys2Proof.Machine
end

section
/-!
PROOFS. The encoders and the fences of decoders (R109, R117, R131, R132, R398): ENCODE, the start and the end of encoder work, a
write of DEC_DFENCE, and the fault of a decoder.
-/

namespace Sys2Proof.Machine

/-! ## ENCODE (R109, R398) -/

/-- The sector block of a word to the pool. -/
def State.blockOf (s : State) (q : Nat) : List Word := s.grs q (s.mw q).dA 16

section
variable {s : State} {q : Nat} (hawake : s.glb.dormant = false) (hissue : s.canIssue q 0x44 = true)
include hawake hissue

theorem exec_encode_taken (hq : q < 32) (hhead : (s.mw q).dHead ≤ 9) (hen : s.flag Reg.DEC_CTRL_EN 0 = true)
    (hroom : s.cph.store < s.storeSize) :
    ∃ u : State, exec (.encode q) s =
        .next (((u.cphEnqueue (encodeRequest (s.blockOf q))).setRF q false).flow q (s.mw q)) ∧
      u.dec.encq = s.dec.encq ++ [({ q := q, block := s.blockOf q } : EncJob)] ∧ u.cph.store = s.cph.store + 1 := by
  have hexec : exec (.encode q) s = execEncode q s := rfl
  rw [execEncode, State.powered_awake _ _ hawake, State.plainWord_of_canIssue hissue, if_pos (by simp [*])] at hexec
  simp only [State.grs_issue] at hexec
  exact ⟨_, hexec, rfl, rfl⟩

theorem exec_encode_refused
    (hplace : 9 < (s.mw q).dHead ∨ s.flag Reg.DEC_CTRL_EN 0 = false ∨ s.storeSize ≤ s.cph.store) :
    exec (.encode q) s = .next (((s.issue q).setRF q true).flow q (s.mw q)) := by
  show execEncode q s = _
  rw [execEncode, State.powered_awake _ _ hawake, State.plainWord_of_canIssue hissue, if_neg]
  rintro ⟨-, hhead, hen, hroom⟩
  rw [State.decEnabled_issue] at hen
  rw [State.issue_cph, State.storeSize_issue] at hroom
  rcases hplace with h | h | h
  · omega
  · simp [h] at hen
  · omega

end

/-! ## Encoder work (R109, R117) -/

theorem exec_encoderStart_eq {s : State} {e i : Nat} {j : EncJob} (hawake : s.glb.dormant = false) (he : e < s.nEnc)
    (hfree : s.encJob e = none) (hlowest : ∀ k < e, (s.encJob k).isSome = true)
    (hfind : s.dec.encq.findIdx? (fun j => j.cipher.isSome) = some i) (hwork : s.dec.encq[i]? = some j) :
    exec (.encoderStart e) s =
      .next (({ s with dec := { s.dec with encq := s.dec.encq.eraseIdx i } } : State).setEnc e (some j)) := by
  show execEncoderStart e s = _
  rw [execEncoderStart, State.powered_awake _ _ hawake, if_pos (by simpa [he, hfree] using hlowest), hfind]
  simp only [hwork]

theorem length_bytesMsb (n : Nat) (xs : List Nat) : (bytesMsb n xs).length = n := by
  induction n generalizing xs with
  | zero => rfl
  | succ n ih => exact congrArg Nat.succ (ih _)

/-- Encoder `e` has built a sector: its bytes stand at a key of the Landing, it counts, and its record is on its way in `l`. -/
def State.builtSector (s : State) (e key : Nat) (bs : List Byte) (l : List (Nat × SeqS)) : State :=
  { ((s.setEnc e none).bump Reg.DEC_CNT_ENC 0 1).putLand key bs with seq := l }

theorem State.builtSector_spec (s : State) (e key : Nat) (bs : List Byte) (l : List (Nat × SeqS)) :
    let t := s.builtSector e key bs l
    t.encJob e = none ∧ t.landBytes key bs.length = bs ∧
      (∀ k, (k < key ∨ key + bs.length ≤ k) → t.landByte k = s.landByte k) ∧
      t.rd Reg.DEC_CNT_ENC 0 0 = word ((s.rd Reg.DEC_CNT_ENC 0 0).toNat + 1) ∧
      s.SameRegs t [Reg.DEC_CNT_ENC.addr 0 0] ∧ t.mem = s.mem := by
  obtain ⟨m, hput⟩ := State.putLand_eq ((s.setEnc e none).bump Reg.DEC_CNT_ENC 0 1) key bs
  refine ⟨?_, State.landBytes_putLand _ key bs, fun k hk => ?_, ?_, fun a ha => ?_, ?_⟩
  · rw [State.builtSector, hput]
    exact State.encJob_setEnc_same s e none
  · exact (State.landByte_putLand _ key bs k).trans (if_neg (by omega))
  · rw [State.builtSector, hput]
    exact State.rd_wr_same (s.setEnc e none) Reg.DEC_CNT_ENC 0 0 _
  · rw [State.builtSector, hput]
    exact State.rdA_bump_ne (s.setEnc e none) 1 (by simpa using ha)
  · rw [State.builtSector, hput]
    rfl

section
variable {s : State} {e : Nat} {j : EncJob} (hawake : s.glb.dormant = false) (hjob : s.encJob e = some j)
include hawake hjob

/-- Work without an error: the encoded sector in its slot, the count, and a record to the sequencer. -/
theorem exec_encodeDone_built (hok : j.result = 0) (hslot : bitsOf (j.block.getD 0 0).toNat 9 0 < s.nSoft) :
    ∃ l : List (Nat × SeqS), exec (.encodeDone e) s = .next (s.builtSector e
      (softKey (bitsOf (j.block.getD 0 0).toNat 9 0) 24032)
      (bytesMsb 4640 (buildSector (j.cipher.getD []) (blockTag j.block))) l) := by
  have hput : ((s.setEnc e none).bump Reg.DEC_CNT_ENC 0 1).putEncoded (bitsOf (j.block.getD 0 0).toNat 9 0)
      (buildSector (j.cipher.getD []) (blockTag j.block)) = _ := if_pos hslot
  obtain ⟨l, hsend⟩ := State.sendRec_eq (((s.setEnc e none).bump Reg.DEC_CNT_ENC 0 1).putLand
      (softKey (bitsOf (j.block.getD 0 0).toNat 9 0) 24032)
      (bytesMsb 4640 (buildSector (j.cipher.getD []) (blockTag j.block)))) j.q 1
    [word (4 * 2 ^ 28 + encResult j.result * 2 ^ 24), word (j.block.getD 1 0).toNat, 0, 0, 0,
      word (bitsOf (j.block.getD 0 0).toNat 9 0)]
  refine ⟨l, ?_⟩
  rw [State.builtSector, ← hsend]
  show execEncodeDone e s = _
  rw [execEncodeDone, State.powered_awake _ _ hawake, hjob]
  simp only [if_pos hok, hput]

/-- Work with an error: only its record goes out. -/
theorem exec_encodeDone_failed (herr : j.result ≠ 0) :
    ∃ l : List (Nat × SeqS), exec (.encodeDone e) s = .next { s.setEnc e none with seq := l } := by
  obtain ⟨l, hsend⟩ := State.sendRec_eq (s.setEnc e none) j.q 1
    [word (4 * 2 ^ 28 + encResult j.result * 2 ^ 24), word (j.block.getD 1 0).toNat, 0, 0, 0,
      word (bitsOf (j.block.getD 0 0).toNat 9 0)]
  refine ⟨l, ?_⟩
  rw [← hsend]
  show execEncodeDone e s = _
  rw [execEncodeDone, State.powered_awake _ _ hawake, hjob]
  simp only [if_neg herr]

end

/-! ## DEC_DFENCE (R131, R132) -/

/-- What a write of DEC_DFENCE register `j` does to the decoder of bit `k`. -/
def State.fenceWriteBit (s : State) (j : Nat) (v : Word) (k : Nat) : State :=
  if s.nDec ≤ 32 * j + k then s
  else if bitOf v.toNat k then s.decHostFence (32 * j + k) else s.decReturn (32 * j + k)

theorem State.nDec_le (s : State) : s.nDec ≤ 64 := by
  unfold State.nDec
  split <;> decide

theorem State.nDec_congr {s t : State} (h : t.jd16 = s.jd16) : t.nDec = s.nDec := by
  rw [State.nDec, State.nDec, h]

theorem State.fenceWriteBit_step (s : State) {j k : Nat} (v : Word) (hd : 32 * j + k < s.nDec) :
    s.FenceStep (s.fenceWriteBit j v k) (32 * j + k)
      (v.getLsbD k || (s.decFenced (32 * j + k) && s.decFaulted (32 * j + k))) := by
  have hlt := hd.trans_le s.nDec_le
  rw [State.fenceWriteBit, if_neg (Nat.not_le.2 hd), bitOf, BitVec.testBit_toNat]
  cases v.getLsbD k with
  | true => exact s.decHostFence_step hlt
  | false => exact s.decReturn_step hlt

/-- The first `n` bits of a write of DEC_DFENCE: each decides over its own decoder alone. -/
theorem State.fenceWriteBits_spec (s : State) {j : Nat} (v : Word) (n : Nat) :
    let t := (List.range n).foldl (fun s k => s.fenceWriteBit j v k) s
    t.jd16 = s.jd16 ∧ s.SameBytes t ∧ ∀ k, 32 * j + k < s.nDec →
      t.decFaulted (32 * j + k) = s.decFaulted (32 * j + k) ∧
      t.decFenced (32 * j + k) = if k < n then
          v.getLsbD k || (s.decFenced (32 * j + k) && s.decFaulted (32 * j + k)) else s.decFenced (32 * j + k) := by
  induction n with
  | zero => exact ⟨rfl, ⟨rfl, rfl, rfl, rfl, rfl⟩, fun k _ => ⟨rfl, (if_neg (Nat.not_lt_zero k)).symm⟩⟩
  | succ n ih =>
    rw [List.range_succ, List.foldl_append, List.foldl_cons, List.foldl_nil]
    obtain ⟨hjd, hbytes, hbits⟩ := ih
    generalize (List.range n).foldl (fun s k => s.fenceWriteBit j v k) s = t at hjd hbytes hbits
    have hnDec := State.nDec_congr hjd
    by_cases hd : 32 * j + n < s.nDec
    · obtain ⟨hfenced, hfaulted, hjd', hbytes'⟩ := t.fenceWriteBit_step v (hnDec.symm ▸ hd)
      obtain ⟨hfault, hfence⟩ := hbits n hd
      rw [hfault, hfence, if_neg (Nat.lt_irrefl n)] at hfenced
      refine ⟨hjd'.trans hjd, hbytes.trans hbytes', fun k hk => ?_⟩
      have hlt := hk.trans_le s.nDec_le
      refine ⟨(hfaulted _ hlt).trans (hbits k hk).1, (hfenced _ hlt).trans ?_⟩
      rcases Nat.lt_trichotomy k n with h | rfl | h
      · rw [if_neg (by omega), (hbits k hk).2, if_pos h, if_pos (by omega)]
      · rw [if_pos rfl, if_pos (by omega)]
      · rw [if_neg (by omega), (hbits k hk).2, if_neg (by omega), if_neg (by omega)]
    · have hsame : t.fenceWriteBit j v n = t := if_pos (by omega)
      rw [hsame]
      refine ⟨hjd, hbytes, fun k hk => ⟨(hbits k hk).1, (hbits k hk).2.trans ?_⟩⟩
      exact ite_congr (by simp only [eq_iff_iff]; omega) (fun _ => rfl) fun _ => rfl

theorem exec_decoderFenceWrite_eq {s : State} {j : Nat} (v : Word) (hawake : s.glb.dormant = false) (hj : j < 2) :
    exec (.decoderFenceWrite j v) s = .next ((List.range 32).foldl (fun s k => s.fenceWriteBit j v k) s) := by
  show execDecoderFenceWrite j v s = _
  rw [execDecoderFenceWrite, State.powered_awake _ _ hawake, if_pos hj]
  rfl

theorem exec_decoderFault_eq {s : State} {d : Nat} (hawake : s.glb.dormant = false) (hd : d < s.nDec) :
    exec (.decoderFault d) s = .next (s.raise srcDEC 0 d false) := by
  show execDecoderFault d s = _
  rw [execDecoderFault, State.powered_awake _ _ hawake, if_pos hd]

/-- Settles O12: each command is the case that the lemmas above name. -/
theorem encodersAndDecoderFences : Obligations.EncodersAndDecoderFences := by
  refine ⟨?_, ?_, ?_, ?_, ?_, ?_⟩
  · intro s q hawake hissue w b
    exact ⟨exec_encode_taken hawake hissue, fun hplace => exec_refused (exec_encode_refused hawake hissue hplace)⟩
  · intro s e i j hawake he hfree hlowest hfind hwork
    exact ⟨_, exec_encoderStart_eq hawake he hfree hlowest hfind hwork, State.encJob_setEnc_same .., rfl,
      fun k hk => State.encJob_setEnc_ne _ _ hk, rfl, rfl, rfl, rfl, rfl, rfl⟩
  · intro s e j hawake hjob hok hslot
    obtain ⟨l, hexec⟩ := exec_encodeDone_built hawake hjob hok hslot
    have hspec := s.builtSector_spec e (softKey (bitsOf (j.block.getD 0 0).toNat 9 0) 24032)
      (bytesMsb 4640 (buildSector (j.cipher.getD []) (blockTag j.block))) l
    rw [length_bytesMsb] at hspec
    exact ⟨_, hexec, hspec⟩
  · intro s e j hawake hjob herr
    obtain ⟨l, hexec⟩ := exec_encodeDone_failed hawake hjob herr
    exact ⟨_, hexec, State.encJob_setEnc_same s e none, rfl, rfl, rfl, rfl, rfl, rfl⟩
  · intro s j v hawake hj
    obtain ⟨-, hbytes, hbits⟩ := s.fenceWriteBits_spec (j := j) v 32
    refine ⟨_, exec_decoderFenceWrite_eq v hawake hj, fun k hk hd hv => ?_, fun k hk hd hv hf => ?_,
      fun k hk hd hv hf => ?_, hbytes⟩
    all_goals
      rw [(hbits k hd).2, if_pos hk, hv]
      simp [*]
  · intro s d hawake hd
    exact exec_decoderFault_eq hawake hd

/-! ## States that meet the hypotheses -/

/-- Sequencer 3 about to issue an ENCODE of the block from g8 for a head; the pool is on. -/
def encodeReady (head : Nat) : State :=
  Tests.runs (Tests.w0.setFld Reg.DEC_CTRL_EN 0 1) 3 (Tests.mwd [(127, 120, 0x44), (82, 79, head), (78, 73, 8)])

/-- Head 9 is the last one of its actuator. -/
theorem encode_head9 : ∃ t : State, exec (.encode 3) (encodeReady 9) = .next t := by
  obtain ⟨hencode, -⟩ := encodersAndDecoderFences
  obtain ⟨u, hexec, -⟩ := (hencode (encodeReady 9) 3 (by decide) (by decide)).1 (by decide) (by decide) (by decide)
    (by decide)
  exact ⟨_, hexec⟩

theorem encode_head10 : ∃ t : State, exec (.encode 3) (encodeReady 10) = .next t ∧ t.fl 3 flRF = true := by
  obtain ⟨hencode, -⟩ := encodersAndDecoderFences
  obtain ⟨t, hexec, hrf, -⟩ := (hencode (encodeReady 10) 3 (by decide) (by decide)).2 (.inl (by decide))
  exact ⟨t, hexec, hrf⟩

/-- Work for soft slot 719, whose ciphertext has come, or an error in its place. -/
def lastSlotJob (result : Nat) : EncJob := { q := 3, block := [719], cipher := some [], result := result }

theorem encoderStart_lastSlotJob : ∃ t : State,
    exec (.encoderStart 0) { Tests.w0 with dec := { Tests.w0.dec with encq := [lastSlotJob 0] } } = .next t ∧
      t.encJob 0 = some (lastSlotJob 0) := by
  obtain ⟨-, hstart, -⟩ := encodersAndDecoderFences
  obtain ⟨t, hexec, hjob, -⟩ := hstart { Tests.w0 with dec := { Tests.w0.dec with encq := [lastSlotJob 0] } } 0 0
    (lastSlotJob 0) (by decide) (by decide) (by decide) (by decide) (by decide) (by decide)
  exact ⟨t, hexec, hjob⟩

/-- The last encoder frees itself. -/
theorem encodeDone_lastSlotJob : ∃ t : State,
    exec (.encodeDone 15) (Tests.w0.setEnc 15 (some (lastSlotJob 0))) = .next t ∧ t.encJob 15 = none := by
  obtain ⟨-, -, hdone, -⟩ := encodersAndDecoderFences
  obtain ⟨t, hexec, hfree, -⟩ := hdone (Tests.w0.setEnc 15 (some (lastSlotJob 0))) 15 (lastSlotJob 0) (by decide) (by decide)
    (by decide) (by decide)
  exact ⟨t, hexec, hfree⟩

theorem encodeDone_keyError : ∃ t : State,
    exec (.encodeDone 15) (Tests.w0.setEnc 15 (some (lastSlotJob 1))) = .next t ∧ t.encJob 15 = none := by
  obtain ⟨-, -, -, hfailed, -⟩ := encodersAndDecoderFences
  obtain ⟨t, hexec, hfree, -⟩ := hfailed (Tests.w0.setEnc 15 (some (lastSlotJob 1))) 15 (lastSlotJob 1) (by decide)
    (by decide) (by decide)
  exact ⟨t, hexec, hfree⟩

/-- Decoder 63, the last one, is fenced. -/
theorem decoderFenceWrite_last : ∃ t : State, exec (.decoderFenceWrite 1 0x80000000) Tests.w0 = .next t ∧
    t.decFenced 63 = true := by
  obtain ⟨-, -, -, -, hfence, -⟩ := encodersAndDecoderFences
  obtain ⟨t, hexec, hset, -⟩ := hfence Tests.w0 1 0x80000000 (by decide) (by decide)
  exact ⟨t, hexec, hset 31 (by decide) (by decide) (by decide)⟩

/-- Decoder 5 fenced with its fault bit, decoder 6 without. -/
def fencedPair : State := (Tests.w0.wr Reg.DEC_DFENCE 0 0 0x60).wr Reg.DEC_DFAULT 0 0 0x20

/-- A write of zeros lets decoder 6 return and not decoder 5. -/
theorem decoderFenceWrite_fencedPair : ∃ t : State, exec (.decoderFenceWrite 0 0) fencedPair = .next t ∧
    t.decFenced 6 = false ∧ t.decFenced 5 = true := by
  obtain ⟨-, -, -, -, hfence, -⟩ := encodersAndDecoderFences
  obtain ⟨t, hexec, -, hclear, hkeep, -⟩ := hfence fencedPair 0 0 (by decide) (by decide)
  refine ⟨t, hexec, hclear 6 (by decide) (by decide) (by decide) (by decide), ?_⟩
  exact (hkeep 5 (by decide) (by decide) (by decide) (by decide)).trans (by decide)

end Sys2Proof.Machine
end

section
/-!
PROOFS. The decoder pool (R120 to R126, R128, R130, R351, R398): CWREQ and CWCAN, the dispatch and the intake of a codeword, an
iteration of a decoder, and a result that waited for a place of the cipher's store.
-/

namespace Sys2Proof.Machine

/-! ## CWREQ and CWCAN (R120, R121, R130, R398) -/

/-- A codeword that a request brings: it enters the queue, and the next one is younger. -/
def State.queueCw (s : State) (c : Codeword) : State :=
  (({ s with dec := { s.dec with age := s.dec.age + 1 } } : State).enqueueCw c).decStat

/-- What a queued codeword changes, and what it leaves. -/
theorem State.queueCw_spec (s : State) (c : Codeword) :
    (s.queueCw c).dec.age = s.dec.age + 1 ∧
      (∀ y, y ∈ (s.queueCw c).dec.queue ↔ y = c ∨ (y ∈ s.dec.queue ∧ y.age ≠ c.age)) ∧
      (s.queueCw c).dec.dec = s.dec.dec ∧ (∀ a, a ≠ Reg.DEC_STAT.addr 0 0 → (s.queueCw c).rdA a = s.rdA a) ∧
      s.SameBytes (s.queueCw c) := by
  have hrec := (({ s with dec := { s.dec with age := s.dec.age + 1 } } : State).enqueueCw c).decStat_records
  refine ⟨?_, fun y => ?_, ?_, fun a ha => hrec.rdA_eq ha, hrec.sameBytes⟩
  · rw [State.queueCw, hrec.dec_eq]
    rfl
  · rw [State.queueCw, hrec.dec_eq, State.mem_enqueueCw]
  · rw [State.queueCw, hrec.dec_eq]
    rfl

/-- DEC_STAT lies below the sequencers' registers (R540). -/
theorem ne_decStat_addr {a : Nat} (ha : 0x00B00000 ≤ a) : a ≠ Reg.DEC_STAT.addr 0 0 := by
  simp only [Reg.addr, Reg.DEC_STAT]
  omega

section
variable {s : State} {q : Nat} (hawake : s.glb.dormant = false)
include hawake

theorem exec_cwreq_taken (hissue : s.canIssue q 0x42 = true) (hq : q < 32) (hhead : (s.mw q).dHead ≤ 9)
    (hen : s.flag Reg.DEC_CTRL_EN 0 = true) (hroom : s.dec.queue.length < s.nDcred)
    (hkind : (s.cwOf q (s.blockOf q)).kind ≠ 3) :
    exec (.cwreq q) s =
      .next ((((s.issue q).queueCw (s.cwOf q (s.blockOf q))).setRF q false).flow q (s.mw q)) := by
  show execCwreq q s = _
  rw [execCwreq, State.powered_awake _ _ hawake, State.plainWord_of_canIssue hissue]
  simp only [State.grs_issue, State.cwOf_issue, State.decEnabled_issue, State.issue_dec, State.nDcred_issue]
  rw [if_pos ⟨hq, hhead, hen, hroom, hkind⟩]
  rfl

theorem exec_cwreq_refused (hissue : s.canIssue q 0x42 = true)
    (hplace : 9 < (s.mw q).dHead ∨ s.flag Reg.DEC_CTRL_EN 0 = false ∨ s.nDcred ≤ s.dec.queue.length ∨
      (s.cwOf q (s.blockOf q)).kind = 3) :
    exec (.cwreq q) s = .next (((s.issue q).setRF q true).flow q (s.mw q)) := by
  show execCwreq q s = _
  rw [execCwreq, State.powered_awake _ _ hawake, State.plainWord_of_canIssue hissue]
  simp only [State.grs_issue, State.cwOf_issue, State.decEnabled_issue, State.issue_dec, State.nDcred_issue]
  rw [if_neg]
  rintro ⟨-, hhead, hen, hroom, hkind⟩
  rcases hplace with h | h | h | h
  · omega
  · simp [h] at hen
  · omega
  · exact hkind h

theorem exec_cwcan_eq (hissue : s.canIssue q 0x43 = true) (hq : q < 32) (hhead : (s.mw q).dHead ≤ 9) :
    exec (.cwcan q) s =
      .next ((((s.issue q).cancelCw (s.gr q (s.mw q).dC).toNat).setRF q false).flow q (s.mw q)) := by
  show execCwcan q s = _
  rw [execCwcan, State.powered_awake _ _ hawake, State.plainWord_of_canIssue hissue, if_pos ⟨hq, hhead⟩, State.gr_issue]

end

/-- A word that grants its request and whose work writes no register of a sequencer: RF clear, and it flows. -/
theorem State.granted_flow_of_below {s u : State} {q : Nat} (hregs : ∀ a, 0x00B00000 ≤ a → u.rdA a = (s.issue q).rdA a)
    (hbytes : s.SameBytes u) :
    let t := (u.setRF q false).flow q (s.mw q)
    t.fl q flRF = false ∧ t.dec = u.dec ∧ s.Flowed t q ∧ s.SameBytes t := by
  refine ⟨?_, rfl, State.flowed_of_below fun a ha => ?_, hbytes⟩
  · rw [State.flow, State.fl_goTo, State.setRF_false, State.fl_setFl_same _ _ _ _ (by decide)]
  · exact hregs a ha

/-- A CWREQ word that queues its codeword flows. -/
theorem State.queueCw_flow (s : State) (q : Nat) (c : Codeword) :
    let t := (((s.issue q).queueCw c).setRF q false).flow q (s.mw q)
    t.fl q flRF = false ∧ t.dec.age = s.dec.age + 1 ∧
      (∀ y, y ∈ t.dec.queue ↔ y = c ∨ (y ∈ s.dec.queue ∧ y.age ≠ c.age)) ∧ t.dec.dec = s.dec.dec ∧ s.Flowed t q ∧
      s.SameBytes t := by
  obtain ⟨hage, hqueue, hdec, hregs, hbytes⟩ := (s.issue q).queueCw_spec c
  obtain ⟨hrf, hpool, hflow, hsame⟩ := State.granted_flow_of_below (s := s) (u := (s.issue q).queueCw c) (q := q)
    (fun a ha => hregs a (ne_decStat_addr ha)) ((s.issue_sameBytes q).trans hbytes)
  refine ⟨hrf, ?_, fun y => ?_, ?_, hflow, hsame⟩
  · rw [hpool, hage, State.issue_dec]
  · rw [hpool, hqueue, State.issue_dec]
  · rw [hpool, hdec, State.issue_dec]

/-! ## Dispatch and intake (R122, R125) -/

/-- A codeword as a decoder takes it. -/
def State.intakeWork (s : State) (c : Codeword) : DecWork :=
  { cw := c, input := s.intake c, post := s.intake c, unsat := unsatCount (hardBits (s.intake c)) }

/-- Decoder `d` has taken a codeword from the queue into the buffer that it decodes. -/
def State.dispatched (s : State) (d : Nat) (c : Codeword) : State :=
  ((s.setDecQueue (s.dec.queue.filter fun y => y.age != c.age)).setDecoder d
    { s.decoder d with run := some (s.intakeWork c) }).decStat

theorem State.dispatched_spec (s : State) (d : Nat) (c : Codeword) :
    ((s.dispatched d c).decoder d).run = some (s.intakeWork c) ∧
      (s.dispatched d c).dec.queue = s.dec.queue.filter (fun y => y.age != c.age) ∧
      (∀ k, k ≠ d → (s.dispatched d c).decoder k = s.decoder k) ∧ s.SameBytes (s.dispatched d c) := by
  unfold State.dispatched
  generalize s.intakeWork c = w
  have hrec := ((s.setDecQueue (s.dec.queue.filter fun y => y.age != c.age)).setDecoder d
    { s.decoder d with run := some w }).decStat_records
  refine ⟨?_, ?_, fun k hk => ?_, ?_⟩
  · rw [hrec.decoder_eq, State.decoder_setDecoder_same]
  · rw [hrec.dec_eq]
    rfl
  · rw [hrec.decoder_eq, State.decoder_setDecoder_ne _ _ hk]
    rfl
  · exact ((s.setDecQueue_sameBytes _).trans (State.setDecoder_sameBytes ..)).trans hrec.sameBytes

theorem exec_decoderDispatch_eq {s : State} {d : Nat} {c : Codeword} (hawake : s.glb.dormant = false) (hd : d < s.nDec)
    (hfree : s.decFree d = true) (hlowest : ∀ k < d, s.decFree k = false) (hnext : s.nextCw = some c)
    (hidle : (s.decoder d).run = none) : exec (.decoderDispatch d) s = .next (s.dispatched d c) := by
  show execDecoderDispatch d s = _
  rw [execDecoderDispatch, State.powered_awake _ _ hawake, if_pos (by simpa [hd, hfree] using hlowest), hnext]
  simp only [hidle, Option.isNone_none, if_true]
  rfl

/-- Only codewords of priority 3 wait for the cap on extended decoding (R123). -/
theorem State.extStopped_standard (s : State) {c : Codeword} (hpri : c.pri ≠ 3) (busy : Nat) :
    s.extStopped c busy = false := by
  simp [State.extStopped, hpri]

theorem exec_codewordTaken_standard {s : State} {d : Nat} {w : DecWork} (hawake : s.glb.dormant = false)
    (hfill : (s.decoder d).filling = some (0, w)) (hpri : w.cw.pri ≠ 3) :
    exec (.codewordTaken d) s = .next (((s.setDecoder d
      { s.decoder d with run := some { w with taken := true } }).releaseSoft w.cw.slot w.cw.tag).decStat) := by
  show execCodewordTaken d s = _
  rw [execCodewordTaken, State.powered_awake _ _ hawake, hfill]
  simp only [if_true, if_neg hpri, State.extStopped_standard _ hpri, Bool.false_eq_true, and_false, if_false]

/-! ## An iteration (R123, R124, R126) -/

/-- With no gate request waiting nothing settles (R430). -/
theorem State.gateSettle_of_none_waiting {s : State} (h : s.clk.gateWait = none) : s.gateSettle = s := by
  rw [State.gateSettle, h]

theorem exec_decodeIterationEnd_eq {s : State} {d : Nat} (hawake : s.glb.dormant = false) (hd : d < s.nDec) :
    exec (.decodeIterationEnd d) s = .next ((s.iterate d).gateSettle) := by
  show execDecodeIterationEnd d s = _
  rw [execDecodeIterationEnd, State.powered_awake _ _ hawake, if_pos hd]

/-- The work of a decoder after one more iteration, which has left posteriors and messages (R124). -/
def DecWork.iterated (w : DecWork) (post : List Int) (msgs : List (List Int)) : DecWork :=
  { w with cw := { w.cw with used := w.cw.used + 1 }, post := post, msgs := msgs, unsat := unsatCount (hardBits post),
           stall := if unsatCount (hardBits post) < w.unsat then 0 else w.stall + 1 }

theorem DecWork.iterated_spec (w : DecWork) (post : List Int) (msgs : List (List Int)) :
    (w.iterated post msgs).post = post ∧ (w.iterated post msgs).msgs = msgs ∧
      (w.iterated post msgs).cw = { w.cw with used := w.cw.used + 1 } ∧ (w.iterated post msgs).input = w.input ∧
      (w.iterated post msgs).unsat = unsatCount (hardBits post) := by
  simp only [DecWork.iterated, and_self]

section
variable {s : State} {d : Nat} {w : DecWork} (hrun : (s.decoder d).run = some w) (hhold : (s.decoder d).hold = none)
  (htaken : w.taken = true)
include hrun hhold htaken

/-- A cancelled codeword ends at the boundary (R130). -/
theorem State.iterate_cancelled (hcancel : w.cw.cancel = true) :
    s.iterate d = (s.endCw w.cw 5 true w.unsat 0 noTag).decNext d := by
  simp [State.iterate, hrun, hhold, htaken, hcancel]

variable {post : List Int} {msgs : List (List Int)} (hlive : w.cw.cancel = false) (hbudget : w.cw.used + 1 < w.cw.iter)
  (hiter : ldpcIterate ((s.fld Reg.DEC_CTRL_OFS 0 : Nat) : Int) w.post w.msgs = (post, msgs))
include hlive hbudget hiter

/-- With every check satisfied the codeword is delivered (R126). -/
theorem State.iterate_converged (hzero : unsatCount (hardBits post) = 0) :
    s.iterate d = (s.bump Reg.DEC_CNT_ITER 0 1).deliver d (w.iterated post msgs)
      (goodCheck (w.iterated post msgs).cw (infoBytes (hardBits post))) 0 := by
  have hready : (!w.taken || (s.decoder d).hold.isSome) = false := by simp [htaken, hhold]
  have hnocancel : ¬ w.cw.cancel = true := Bool.eq_false_iff.1 hlive
  have hrunning : decide (w.cw.used < w.cw.iter) = true := decide_eq_true (by omega)
  rw [State.iterate, hrun]
  simp only [hready, Bool.false_eq_true, if_false, if_neg hnocancel, hrunning, if_true, hiter, if_pos hzero]
  rfl

/-- Without a stall limit a standard codeword whose checks are not all satisfied goes on. -/
theorem State.iterate_continues (hpri : w.cw.pri ≠ 3) (hlimit : s.fld Reg.DEC_CTRL_STALL_ITER 0 = 0)
    (hunsat : unsatCount (hardBits post) ≠ 0) :
    s.iterate d = (s.bump Reg.DEC_CNT_ITER 0 1).setDecoder d { s.decoder d with run := some (w.iterated post msgs) } := by
  have hready : (!w.taken || (s.decoder d).hold.isSome) = false := by simp [htaken, hhold]
  have hnocancel : ¬ w.cw.cancel = true := Bool.eq_false_iff.1 hlive
  have hrunning : decide (w.cw.used < w.cw.iter) = true := decide_eq_true (by omega)
  have hlimit' : (s.bump Reg.DEC_CNT_ITER 0 1).fld Reg.DEC_CTRL_STALL_ITER 0 = 0 :=
    (State.fld_bump_ne s Reg.DEC_CTRL_STALL_ITER Reg.DEC_CNT_ITER 0 1 (by decide)).trans hlimit
  have hnolimit : ¬ (w.cw.pri ≠ 3 ∧ (s.bump Reg.DEC_CNT_ITER 0 1).fld Reg.DEC_CTRL_STALL_ITER 0 ≠ 0 ∧
      (s.bump Reg.DEC_CNT_ITER 0 1).fld Reg.DEC_CTRL_STALL_ITER 0 ≤
        if unsatCount (hardBits post) < w.unsat then 0 else w.stall + 1) := fun h => h.2.1 hlimit'
  rw [State.iterate, hrun]
  simp only [hready, Bool.false_eq_true, if_false, if_neg hnocancel, hrunning, if_true, hiter, if_neg hunsat,
    if_neg (Nat.not_le.2 hbudget), if_neg hnolimit]
  rw [if_neg (Bool.eq_false_iff.1 (State.extStopped_standard (c := { w.cw with used := w.cw.used + 1 }) _ hpri _))]
  rfl

end

/-- What a decoder that goes on changes, and what it leaves. -/
theorem State.goesOn_spec (s : State) (d : Nat) (x : Decoder) :
    let t := (s.bump Reg.DEC_CNT_ITER 0 1).setDecoder d x
    t.decoder d = x ∧ t.rd Reg.DEC_CNT_ITER 0 0 = word ((s.rd Reg.DEC_CNT_ITER 0 0).toNat + 1) ∧
      s.SameRegs t [Reg.DEC_CNT_ITER.addr 0 0] ∧ s.SameBytes t :=
  ⟨State.decoder_setDecoder_same .., State.rd_wr_same s Reg.DEC_CNT_ITER 0 0 _,
    fun _ ha => s.rdA_bump_ne 1 (by simpa using ha), rfl, rfl, rfl, rfl, rfl⟩

/-! ## A result that waited for a place (R351) -/

theorem exec_storePlaceReserved_eq {s : State} {d : Nat} {rest : List Nat} {w : DecWork} {r : CipherReq}
    (hawake : s.glb.dormant = false) (hwait : s.cph.storeWait = d :: rest) (hrun : (s.decoder d).run = some w)
    (hhold : (s.decoder d).hold = some r) (hroom : s.cph.store < s.storeSize) :
    ∃ u : State, exec (.storePlaceReserved d) s = .next (((u.cphEnqueue r).decNext d).gateSettle) ∧
      u.cph.store = s.cph.store + 1 ∧ u.cph.storeWait = rest := by
  have hexec : exec (.storePlaceReserved d) s = execStorePlaceReserved d s := rfl
  rw [execStorePlaceReserved, State.powered_awake _ _ hawake] at hexec
  simp only [hwait, hrun, hhold, hroom, and_self, if_true] at hexec
  refine ⟨_, hexec, ?_, ?_⟩
  · rw [State.endCw_cph]
  · rw [State.endCw_cph]

/-- Settles O11: each command is the case that the lemmas above name. -/
theorem decoderPool : Obligations.DecoderPool := by
  refine ⟨?_, ?_, ?_, ?_, ?_, ?_, ?_⟩
  · intro s q hawake hissue w c
    refine ⟨fun hq hhead hen hroom hkind => ?_, fun hplace => ?_⟩
    · exact ⟨_, exec_cwreq_taken hawake hissue hq hhead hen hroom hkind, s.queueCw_flow q _⟩
    · exact exec_refused (exec_cwreq_refused hawake hissue hplace)
  · exact fun s q hawake hissue hq hhead => exec_cwcan_eq hawake hissue hq hhead
  · intro s d c hawake hd hfree hlowest hnext hidle
    obtain ⟨hrun, hqueue, hothers, hbytes⟩ := s.dispatched_spec d c
    exact ⟨_, _, exec_decoderDispatch_eq hawake hd hfree hlowest hnext hidle, hrun, rfl, rfl, rfl, rfl, hqueue, hothers,
      hbytes⟩
  · exact fun s d w hawake hfill hpri => exec_codewordTaken_standard hawake hfill hpri
  · intro s d w hawake hd hsettled hrun hhold htaken hlive hpri hbudget hlimit r n
    have hiter := (Prod.mk.eta (p := r)).symm
    obtain ⟨hpost, hmsgs, hcw, hinput, hn⟩ := w.iterated_spec r.1 r.2
    refine ⟨fun hunsat => ?_, fun hzero => ?_⟩
    · have hexec := exec_decodeIterationEnd_eq hawake hd
      rw [State.iterate_continues hrun hhold htaken hlive hbudget hiter hpri hlimit hunsat,
        State.gateSettle_of_none_waiting (s := (s.bump Reg.DEC_CNT_ITER 0 1).setDecoder d _) hsettled] at hexec
      obtain ⟨hdec, hcount, hregs, hbytes⟩ := s.goesOn_spec d { s.decoder d with run := some (w.iterated r.1 r.2) }
      exact ⟨_, _, hexec, congrArg Decoder.run hdec, hpost, hmsgs, hcw, hinput, hn, hcount, hregs, hbytes⟩
    · have hexec := exec_decodeIterationEnd_eq hawake hd
      rw [State.iterate_converged hrun hhold htaken hlive hbudget hiter hzero] at hexec
      exact ⟨_, _, hexec, hpost, hcw, rfl⟩
  · intro s d w hawake hd hrun hhold htaken hcancel
    rw [exec_decodeIterationEnd_eq hawake hd, State.iterate_cancelled hrun hhold htaken hcancel]
  · exact fun s d rest w r hawake hwait hrun hhold hroom => exec_storePlaceReserved_eq hawake hwait hrun hhold hroom

/-! ## States that meet the hypotheses -/

/-- Sequencer 3 about to issue a word of an opcode to the pool, for a head; the pool is on. -/
def poolReady (op head : Nat) : State :=
  Tests.runs (Tests.w0.setFld Reg.DEC_CTRL_EN 0 1) 3 (Tests.mwd [(127, 120, op), (82, 79, head), (78, 73, 8)])

/-- Head 9 is the last one of its actuator. -/
theorem cwreq_head9 : ∃ t : State, exec (.cwreq 3) (poolReady 0x42 9) = .next t ∧ t.dec.age = 1 := by
  obtain ⟨hcwreq, -⟩ := decoderPool
  obtain ⟨t, hexec, -, hage, -⟩ := (hcwreq (poolReady 0x42 9) 3 (by decide) (by decide)).1 (by decide) (by decide)
    (by decide) (by decide) (by decide)
  exact ⟨t, hexec, hage⟩

theorem cwreq_head10 : ∃ t : State, exec (.cwreq 3) (poolReady 0x42 10) = .next t ∧ t.fl 3 flRF = true := by
  obtain ⟨hcwreq, -⟩ := decoderPool
  obtain ⟨t, hexec, hrf, -⟩ := (hcwreq (poolReady 0x42 10) 3 (by decide) (by decide)).2 (.inl (by decide))
  exact ⟨t, hexec, hrf⟩

theorem cwcan_head9 : ∃ t : State, exec (.cwcan 3) (poolReady 0x43 9) = .next t := by
  obtain ⟨-, hcwcan, -⟩ := decoderPool
  exact ⟨_, hcwcan (poolReady 0x43 9) 3 (by decide) (by decide) (by decide) (by decide)⟩

/-- A codeword of priority 0 with two iterations to run, in soft slot 9 that its sector holds. -/
def standardCw : Codeword :=
  { age := 0, q := 3, slot := 9, kind := 0, pri := 0, iter := 2, nsid := 1, lba := 5, psa := 40, keyslot := 0, bufaddr := 0,
    tag := 77 }

/-- The codeword waits, and decoder 0 is the lowest free one. -/
theorem decoderDispatch_standardCw : ∃ t : State,
    exec (.decoderDispatch 0) (Tests.w0.setDecQueue [standardCw]) = .next t ∧ t.dec.queue = [] := by
  obtain ⟨-, -, hdispatch, -⟩ := decoderPool
  obtain ⟨t, w, hexec, -, -, -, -, -, hqueue, -⟩ := hdispatch (Tests.w0.setDecQueue [standardCw]) 0 standardCw (by decide)
    (by decide) (by decide) (by decide) (by decide) (by decide)
  exact ⟨t, hexec, hqueue⟩

/-- Work on the codeword; its posteriors are those of the zero word. -/
def standardWork (taken cancel : Bool) : DecWork :=
  { cw := { standardCw with cancel := cancel }, input := [], post := List.replicate 37120 1, taken := taken }

/-- Decoder 63, the last one, with the work and with a result that may wait. -/
def decoding (taken cancel : Bool) (hold : Option CipherReq) : State :=
  Tests.w0.setDecoder 63 { run := some (standardWork taken cancel), hold := hold }

theorem decoder_decoding (taken cancel : Bool) (hold : Option CipherReq) :
    (decoding taken cancel hold).decoder 63 = { run := some (standardWork taken cancel), hold := hold } :=
  State.decoder_setDecoder_same ..

/-- Its last value has been read. -/
theorem codewordTaken_decoding : ∃ t : State, exec (.codewordTaken 63) (decoding false false none) = .next t := by
  obtain ⟨-, -, -, htaken, -⟩ := decoderPool
  exact ⟨_, htaken (decoding false false none) 63 (standardWork false false) (by decide) (by rw [decoder_decoding]; rfl)
    (by decide)⟩

/-- Whether the checks are all satisfied or not, the first of the two iterations ends. -/
theorem decodeIterationEnd_decoding : ∃ t : State,
    exec (.decodeIterationEnd 63) ((decoding true false none).setFld Reg.DEC_CTRL_STALL_ITER 0 0) = .next t := by
  obtain ⟨-, -, -, -, hiteration, -⟩ := decoderPool
  have hdec : ((decoding true false none).setFld Reg.DEC_CTRL_STALL_ITER 0 0).decoder 63 = _ := decoder_decoding true false none
  obtain ⟨hmore, hdone⟩ := hiteration ((decoding true false none).setFld Reg.DEC_CTRL_STALL_ITER 0 0) 63
    (standardWork true false) (by decide) (by decide) rfl (by rw [hdec]) (by rw [hdec]) rfl rfl (by decide) (by decide)
    (by decide)
  by_cases hn : unsatCount (hardBits (ldpcIterate ((((decoding true false none).setFld Reg.DEC_CTRL_STALL_ITER 0 0).fld
      Reg.DEC_CTRL_OFS 0 : Nat) : Int) (standardWork true false).post (standardWork true false).msgs).1) = 0
  · obtain ⟨u, w, hexec, -⟩ := hdone hn
    exact ⟨_, hexec⟩
  · obtain ⟨t, w, hexec, -⟩ := hmore hn
    exact ⟨t, hexec⟩

/-- The cancelled codeword ends ABANDONED. -/
theorem decodeIterationEnd_cancelled : ∃ t : State,
    exec (.decodeIterationEnd 63) (decoding true true none) = .next t := by
  obtain ⟨-, -, -, -, -, hcancelled, -⟩ := decoderPool
  exact ⟨_, hcancelled (decoding true true none) 63 (standardWork true true) (by decide) (by decide)
    (by rw [decoder_decoding]) (by rw [decoder_decoding]) rfl rfl⟩

/-- Its good result waits for a place of the cipher's store, and one is free. -/
def waitsForPlace : State :=
  let s := decoding true false (some (goodRequest standardCw []))
  { s with cph := { s.cph with storeWait := [63] } }

theorem storePlaceReserved_waitsForPlace : ∃ t : State, exec (.storePlaceReserved 63) waitsForPlace = .next t := by
  obtain ⟨-, -, -, -, -, -, hplace⟩ := decoderPool
  have hdec : waitsForPlace.decoder 63 = _ := decoder_decoding true false (some (goodRequest standardCw []))
  obtain ⟨u, hexec, -⟩ := hplace waitsForPlace 63 [] (standardWork true false) (goodRequest standardCw []) (by decide)
    (by decide) (by rw [hdec]) (by rw [hdec]) (by decide)
  exact ⟨_, hexec⟩

end Sys2Proof.Machine
end

section
/-!
PROOFS. REPORT (R144 to R147, R152, R170, R171, R402): the sector that a TAG names after its credits came back or it was
replaced, what the word does with a live sector, and the outcome of each code.
-/

namespace Sys2Proof.Machine

/-! ## The sectors of the stream engine -/

/-- `t` is `s` but for the stream engine's own state, in which the same TAGs hold sectors in the same order. -/
def State.InSectors (s t : State) : Prop :=
  ∃ m : StmS, t = { s with stm := m } ∧ m.sectors.map Sector.tag = s.stm.sectors.map Sector.tag

namespace State.InSectors

variable {s t u : State}

theorem refl (s : State) : s.InSectors s := ⟨s.stm, rfl, rfl⟩

theorem trans (h : s.InSectors t) (k : t.InSectors u) : s.InSectors u := by
  obtain ⟨m, rfl, hm⟩ := h
  obtain ⟨m', rfl, hm'⟩ := k
  exact ⟨m', rfl, hm'.trans hm⟩

theorem sameBytes (h : s.InSectors t) : s.SameBytes t := by
  obtain ⟨m, rfl, -⟩ := h
  exact ⟨rfl, rfl, rfl, rfl, rfl⟩

theorem fl_eq (h : s.InSectors t) (q k : Nat) : t.fl q k = s.fl q k := by
  obtain ⟨m, rfl, -⟩ := h
  rfl

theorem rd_eq (h : s.InSectors t) (r : Reg) (i j : Nat) : t.rd r i j = s.rd r i j := by
  obtain ⟨m, rfl, -⟩ := h
  rfl

end State.InSectors

theorem State.sector_isSome_iff (s : State) (tag : Nat) :
    (s.sector tag).isSome = true ↔ tag ∈ s.stm.sectors.map Sector.tag := by
  simp [State.sector, List.find?_isSome]

theorem State.InSectors.sector_isSome {s t : State} (h : s.InSectors t) {tag : Nat} (hs : (s.sector tag).isSome = true) :
    (t.sector tag).isSome = true := by
  obtain ⟨m, rfl, hm⟩ := h
  rw [State.sector_isSome_iff, hm]
  exact (s.sector_isSome_iff tag).1 hs

theorem State.tag_of_sector {s : State} {tag : Nat} {x : Sector} (h : s.sector tag = some x) : x.tag = tag := by
  simpa using List.find?_some h

theorem State.setSector_inSectors (s : State) (x : Sector) : s.InSectors (s.setSector x) := by
  refine ⟨_, rfl, ?_⟩
  rw [List.map_map]
  refine List.map_congr_left fun y _ => ?_
  rw [Function.comp_apply]
  split
  · next h => exact h.symm
  · rfl

/-- The sector that replaces one of its TAG is found under the TAG. -/
theorem State.sector_setSector_same {s : State} {x : Sector} (h : (s.sector x.tag).isSome = true) :
    (s.setSector x).sector x.tag = some x := by
  obtain ⟨y, hy⟩ := Option.isSome_iff_exists.1 ((s.setSector_inSectors x).sector_isSome h)
  obtain ⟨z, -, hz⟩ := List.mem_map.1 (List.mem_of_find?_eq_some hy)
  have htag := State.tag_of_sector hy
  rw [hy, ← hz]
  split at hz
  · next heq => rw [if_pos heq]
  · next hne => exact absurd (hz ▸ htag) hne

/-! ## What a count leaves alone -/

theorem State.rd_bump_same (s : State) (r : Reg) (i n : Nat) : (s.bump r i n).rd r i 0 = word ((s.rd r i 0).toNat + n) :=
  State.rd_wr_same ..

theorem State.sector_bump (s : State) (r : Reg) (i n tag : Nat) : (s.bump r i n).sector tag = s.sector tag := rfl

theorem State.bump_sameBytes (s : State) (r : Reg) (i n : Nat) : s.SameBytes (s.bump r i n) := ⟨rfl, rfl, rfl, rfl, rfl⟩

/-! ## Credits given up (R26, R27) -/

theorem State.releaseSoft_inSectors (s : State) (slot tag : Nat) : s.InSectors (s.releaseSoft slot tag) := by
  have hslot : s.InSectors { s with stm := { s.stm with soft := s.stm.soft.filter (· != slot) } } := ⟨_, rfl, rfl⟩
  unfold State.releaseSoft
  dsimp only
  split
  · split
    · exact hslot.trans (State.setSector_inSectors ..)
    · exact hslot
  · exact hslot

theorem State.releaseDcred_inSectors (s : State) (tag : Nat) : s.InSectors (s.releaseDcred tag) := by
  have hcred : s.InSectors { s with stm := { s.stm with dcred := s.stm.dcred - 1 } } := ⟨_, rfl, rfl⟩
  unfold State.releaseDcred
  dsimp only
  split
  · exact hcred.trans (State.setSector_inSectors ..)
  · exact hcred

theorem State.giveCredits_inSectors (s : State) (x : Sector) : s.InSectors (s.giveCredits x) := by
  have hsoft : s.InSectors (match x.soft with | some k => s.releaseSoft k x.tag | none => s) := by
    split
    · exact s.releaseSoft_inSectors ..
    · exact .refl s
  unfold State.giveCredits
  split
  · exact .refl s
  · dsimp only
    split
    · exact hsoft.trans (State.releaseDcred_inSectors ..)
    · exact hsoft

/-- A sector that waits for another pass: its TAG names it, queued and without credits (R275). -/
theorem State.giveCredits_requeue {s : State} {x y : Sector} (hx : s.sector x.tag = some x) (htag : y.tag = x.tag) :
    s.InSectors ((s.giveCredits x).requeue y) ∧ ((s.giveCredits x).requeue y).sector x.tag =
      some { y with st := .queued, soft := none, decCredit := false } := by
  have hgive := s.giveCredits_inSectors x
  refine ⟨hgive.trans (State.setSector_inSectors ..), ?_⟩
  rw [← htag]
  refine State.sector_setSector_same (hgive.sector_isSome ?_)
  rw [htag, hx]
  rfl

/-! ## The word (R398, R402) -/

theorem State.SameUnits.stm_eq {s t : State} (h : s.SameUnits t) : t.stm = s.stm := by
  obtain ⟨-, -, -, -, -, -, -, -, -, hstm, -⟩ := h
  exact hstm

/-- What a REPORT word leaves for the outcome of its sector: it has issued, and RF is clear. -/
def State.heard (s : State) (q : Nat) : State := (s.issue q).setRF q false

theorem State.heard_sameBytes (s : State) (q : Nat) : s.SameBytes (s.heard q) := ⟨rfl, rfl, rfl, rfl, rfl⟩

theorem State.fl_heard (s : State) (q : Nat) : (s.heard q).fl q flRF = false := by
  rw [State.heard, State.setRF_false, State.fl_setFl_same _ _ _ _ (by decide)]

/-- The issue of a word writes registers of the sequencers alone (R416). -/
theorem State.rd_heard_below (s : State) (q : Nat) {r : Reg} {i j : Nat} (h : r.addr i j < 0x00B00000) :
    (s.heard q).rd r i j = s.rd r i j := by
  have hpc : r.addr i j ≠ Reg.SEQ_STAT.addr q 0 := by
    simp only [Reg.addr, Reg.SEQ_STAT] at h ⊢
    omega
  have hwords : r.addr i j ≠ Reg.SEQ_CNT_WORDS.addr q 0 := by
    simp only [Reg.addr, Reg.SEQ_CNT_WORDS] at h ⊢
    omega
  rw [State.heard, State.setRF_false, State.setFl, State.rd_setSq]
  exact (State.rd_wr_ne _ Reg.SEQ_CNT_WORDS r q 0 i j _ hwords).trans (State.rd_wr_ne s Reg.SEQ_STAT r q 0 i j _ hpc)

theorem exec_report_unnamed {s : State} {q : Nat} (hawake : s.glb.dormant = false) (hissue : s.canIssue q 0x4C = true)
    (hcode : ¬ (1 ≤ (s.mw q).bits 54 51 ∧ (s.mw q).bits 54 51 ≤ 8)) :
    exec (.report q) s = .next (((s.issue q).setRF q true).flow q (s.mw q)) := by
  show execReport q s = _
  rw [execReport, State.powered_awake _ _ hawake, if_pos ⟨hissue, hcode⟩, State.plainWord_of_canIssue hissue]

section
variable {s : State} {q : Nat} {x : Sector} (hawake : s.glb.dormant = false) (hissue : s.canIssue q 0x4C = true)
  (hq : q < 32) (hhead : (s.mw q).dHead ≤ 9)
  (hx : (s.heard q).sector ((s.heard q).gr q (s.mw q).dC).toNat = some x) (hlive : x.dropped = false)
include hawake hissue hq hhead hx hlive

/-- The outcome that a code names meets the live sector of the TAG, and the word flows. -/
theorem reportWord_live {code : Nat} (hcode : (s.mw q).bits 54 51 = code) (f : State → Sector → State) :
    (s.powered fun s => .next (s.reportWord q code f)) = .next ((f (s.heard q) x).flow q (s.mw q)) := by
  have hplace : ¬ (32 ≤ q ∨ 9 < (s.mw q).dHead) := by omega
  have hmeet : (s.canIssue q 0x4C && (s.mw q).bits 54 51 == code) = true := by simp [hissue, hcode]
  rw [State.powered_awake _ _ hawake, State.reportWord, if_pos hmeet, State.plainWord_of_canIssue hissue, if_neg hplace]
  dsimp only
  rw [← State.heard, hx]
  simp only [hlive, Bool.false_eq_true, if_false]

/-! ## Outcomes of a write -/

theorem exec_reportVerified_write (hcode : (s.mw q).bits 54 51 = 1) (hop : x.op = 1) (hslip : x.slipOf = none) :
    exec (.reportVerified q) s = .next (((((s.heard q).giveCredits x).setSector
      { x with verified := true, st := .served, soft := none, decCredit := false }).durableCheck x.tag).flow q (s.mw q)) := by
  show execReportVerified q s = _
  rw [execReportVerified, reportWord_live hawake hissue hq hhead hx hlive hcode, if_neg (not_not_intro hop), hslip]

theorem exec_reportVfail_write (hcode : (s.mw q).bits 54 51 = 2) (hop : x.op = 1) :
    exec (.reportVfail q) s = .next (((((s.heard q).bump Reg.DEC_CNT_VFAIL 0 1).writeEntry x).1.rewriteForward x
      (rfwdMax (((s.heard q).bump Reg.DEC_CNT_VFAIL 0 1).writeEntry x).2)).flow q (s.mw q)) := by
  show execReportVfail q s = _
  rw [execReportVfail, reportWord_live hawake hissue hq hhead hx hlive hcode, if_neg (not_not_intro hop)]

/-- In a zone that is not shingled another try needs no look at higher cylinders (R147). -/
theorem exec_reportInterrupted_again {u : State} {y : Sector} {e : State × List Word} (hcode : (s.mw q).bits 54 51 = 3)
    (hop : x.op = 1) (hu : (s.heard q).abortGates x.act x.tag = u) (hy : (u.sector x.tag).getD x = y)
    (he : u.writeEntry y = e) (htry : y.retries < wretry e.2) (hzone : (e.1.zone (zoneKey y.act y.zone)).shingled = false) :
    exec (.reportInterrupted q) s =
      .next (((e.1.giveCredits y).requeue { y with retries := y.retries + 1, late := false }).flow q (s.mw q)) := by
  show execReportInterrupted q s = _
  rw [execReportInterrupted, reportWord_live hawake hissue hq hhead hx hlive hcode, if_neg (not_not_intro hop), hu]
  dsimp only
  rw [hy, he, if_pos ⟨htry, by rw [hzone]; rfl⟩]

theorem exec_reportUndecided_write (hcode : (s.mw q).bits 54 51 = 4) (hop : x.op = 1) :
    exec (.reportUndecided q) s = .next (((((s.heard q).bump Reg.DEC_CNT_VLATE 0 1).giveCredits x).requeue
      { x with late := true }).flow q (s.mw q)) := by
  show execReportUndecided q s = _
  rw [execReportUndecided, reportWord_live hawake hissue hq hhead hx hlive hcode, if_neg (not_not_intro hop)]

/-! ## Another pass -/

theorem exec_reportReread_eq (hcode : (s.mw q).bits 54 51 = 5) :
    exec (.reportReread q) s = .next ((((s.heard q).giveCredits x).requeue x).flow q (s.mw q)) :=
  reportWord_live hawake hissue hq hhead hx hlive hcode _

theorem exec_reportMissed_eq (hcode : (s.mw q).bits 54 51 = 8) :
    exec (.reportMissed q) s = .next ((((s.heard q).giveCredits x).requeue x).flow q (s.mw q)) :=
  reportWord_live hawake hissue hq hhead hx hlive hcode _

/-! ## The last rungs of a read (R170, R171) -/

theorem exec_reportMirror_moved (hcode : (s.mw q).bits 54 51 = 6) (hop : x.op ≠ 1)
    (hcopy : ((s.heard q).otherCopy x false).isSome = true) :
    exec (.reportMirror q) s = .next (((s.heard q).moveCopy x).flow q (s.mw q)) := by
  show execReportMirror q s = _
  rw [execReportMirror, reportWord_live hawake hissue hq hhead hx hlive hcode, if_neg hop, if_pos hcopy]

theorem exec_reportMirror_alone (hcode : (s.mw q).bits 54 51 = 6) (hop : x.op ≠ 1)
    (hcopy : (s.heard q).otherCopy x false = none) :
    exec (.reportMirror q) s = .next (((s.heard q).unrecovered x).flow q (s.mw q)) := by
  show execReportMirror q s = _
  rw [execReportMirror, reportWord_live hawake hissue hq hhead hx hlive hcode, if_neg hop, hcopy]
  rfl

theorem exec_reportUnrecovered_read (hcode : (s.mw q).bits 54 51 = 7) (hop : x.op ≠ 1) :
    exec (.reportUnrecovered q) s = .next (((s.heard q).unrecovered x).flow q (s.mw q)) := by
  show execReportUnrecovered q s = _
  rw [execReportUnrecovered, reportWord_live hawake hissue hq hhead hx hlive hcode, if_neg hop]

end

/-- What a word leaves whose sector waits for another pass, from a state `v` with the flags that the word left. -/
theorem State.requeue_flow {v : State} {q : Nat} {x y : Sector} (hx : v.sector x.tag = some x) (htag : y.tag = x.tag)
    (hrf : v.fl q flRF = false) (w : Mw) :
    let t := ((v.giveCredits x).requeue y).flow q w
    t.sector x.tag = some { y with st := .queued, soft := none, decCredit := false } ∧
      (∀ (r : Reg) (i j : Nat), t.rd r i j = v.rd r i j) ∧ t.fl q flRF = false ∧ v.SameBytes t := by
  obtain ⟨hin, hsector⟩ := State.giveCredits_requeue hx htag
  refine ⟨hsector, fun r i j => hin.rd_eq r i j, ?_, (State.flow_sameBytes ..).2 hin.sameBytes⟩
  rw [State.flow, State.fl_goTo, hin.fl_eq, hrf]

/-- The late verify is counted (R145). -/
theorem State.undecided_flow {s : State} {q : Nat} {x : Sector} (hx : (s.heard q).sector x.tag = some x) :
    let t := ((((s.heard q).bump Reg.DEC_CNT_VLATE 0 1).giveCredits x).requeue { x with late := true }).flow q (s.mw q)
    t.sector x.tag = some { x with late := true, st := .queued, soft := none, decCredit := false } ∧
      t.rd Reg.DEC_CNT_VLATE 0 0 = word ((s.rd Reg.DEC_CNT_VLATE 0 0).toNat + 1) ∧ t.fl q flRF = false ∧ s.SameBytes t := by
  obtain ⟨hsector, hregs, hrf, hbytes⟩ := State.requeue_flow (v := (s.heard q).bump Reg.DEC_CNT_VLATE 0 1)
    (y := { x with late := true }) ((State.sector_bump ..).trans hx) rfl ((State.fl_bump ..).trans (s.fl_heard q)) (s.mw q)
  refine ⟨hsector, ?_, hrf, ((s.heard_sameBytes q).trans (State.bump_sameBytes ..)).trans hbytes⟩
  rw [hregs, State.rd_bump_same, s.rd_heard_below q (by decide)]

/-! ## The statement -/

/-- Settles O14: a word whose code R402 does not name is refused; any other meets the live sector of its TAG, with the
outcome of its code. -/
theorem reportWords : Obligations.ReportWords := by
  refine ⟨?_, ?_⟩
  · intro s q hawake hissue hcode
    obtain ⟨t, hexec, hrf, hflow, hbytes, hunits⟩ := exec_refused (exec_report_unnamed hawake hissue hcode)
    exact ⟨t, hexec, hrf, hunits.stm_eq, hflow, hbytes⟩
  intro s q x hawake hissue hq hhead u w code hx hlive
  have htag : u.sector x.tag = some x := by rw [State.tag_of_sector hx, hx]
  have hpass := State.requeue_flow htag rfl (s.fl_heard q) w
  refine ⟨exec_reportVerified_write hawake hissue hq hhead hx hlive, exec_reportVfail_write hawake hissue hq hhead hx hlive,
    ?interrupted, ?undecided, ?reread, exec_reportMirror_moved hawake hissue hq hhead hx hlive,
    exec_reportMirror_alone hawake hissue hq hhead hx hlive, exec_reportUnrecovered_read hawake hissue hq hhead hx hlive,
    ?missed⟩
  case interrupted =>
    intro hcode hop v y e htry hzone
    exact exec_reportInterrupted_again hawake hissue hq hhead hx hlive hcode hop rfl rfl rfl htry hzone
  case undecided => exact fun hcode hop =>
    ⟨_, exec_reportUndecided_write hawake hissue hq hhead hx hlive hcode hop, State.undecided_flow htag⟩
  case reread =>
    intro hcode
    obtain ⟨hsector, -, hrf, hbytes⟩ := hpass
    exact ⟨_, exec_reportReread_eq hawake hissue hq hhead hx hlive hcode, hsector, hrf, (s.heard_sameBytes q).trans hbytes⟩
  case missed =>
    intro hcode
    obtain ⟨hsector, -, hrf, hbytes⟩ := hpass
    exact ⟨_, exec_reportMissed_eq hawake hissue hq hhead hx hlive hcode, hsector, hrf, (s.heard_sameBytes q).trans hbytes⟩

/-! ## States that meet the hypotheses -/

/-- Sequencer 3 about to issue a REPORT with a code for head 9, the last one, whose TAG in g5 names a sector. -/
def reporting (s : State) (code : Nat) (x : Sector) : State :=
  let t := (Tests.runs s 3 (Tests.mwd [(127, 120, 0x4C), (82, 79, 9), (66, 61, 5), (54, 51, code)])).setGr 3 5 (word x.tag)
  { t with stm := { t.stm with sectors := [x] } }

/-- Code 9 is past the last one. -/
theorem report_code9 : ∃ t : State, exec (.report 3) (reporting Tests.w0 9 (Tests.sect 1)) = .next t ∧
    t.fl 3 flRF = true := by
  obtain ⟨t, hexec, hrf, -⟩ := reportWords.1 (reporting Tests.w0 9 (Tests.sect 1)) 3 (by decide) (by decide) (by decide)
  exact ⟨t, hexec, hrf⟩

theorem reportVerified_write : ∃ t : State, exec (.reportVerified 3) (reporting Tests.w0 1 (Tests.sect 1)) = .next t := by
  obtain ⟨hverified, -⟩ := reportWords.2 (reporting Tests.w0 1 (Tests.sect 1)) 3 (Tests.sect 1) (by decide) (by decide)
    (by decide) (by decide) (by decide) (by decide)
  exact ⟨_, hverified (by decide) (by decide) (by decide)⟩

theorem reportVfail_write : ∃ t : State, exec (.reportVfail 3) (reporting Tests.w0 2 (Tests.sect 1)) = .next t := by
  obtain ⟨-, hvfail, -⟩ := reportWords.2 (reporting Tests.w0 2 (Tests.sect 1)) 3 (Tests.sect 1) (by decide) (by decide)
    (by decide) (by decide) (by decide) (by decide)
  exact ⟨_, hvfail (by decide) (by decide)⟩

/-- The write entry of head 0 of actuator 3 in zone 2 allows one try in place. -/
def oneTry : State := Tests.put (Tests.mapped Tests.w0) ((30 * 256 + 2) * 16) [0, 0, 0, 0x00010000]

theorem reportInterrupted_oneTry : ∃ t : State, exec (.reportInterrupted 3) (reporting oneTry 3 (Tests.sect 1)) = .next t := by
  obtain ⟨-, -, hinterrupted, -⟩ := reportWords.2 (reporting oneTry 3 (Tests.sect 1)) 3 (Tests.sect 1) (by decide) (by decide)
    (by decide) (by decide) (by decide) (by decide)
  exact ⟨_, hinterrupted (by decide) (by decide) (by decide +kernel) (by decide +kernel)⟩

theorem reportUndecided_write : ∃ t : State, exec (.reportUndecided 3) (reporting Tests.w0 4 (Tests.sect 1)) = .next t ∧
    t.rd Reg.DEC_CNT_VLATE 0 0 = 1 := by
  obtain ⟨-, -, -, hundecided, -⟩ := reportWords.2 (reporting Tests.w0 4 (Tests.sect 1)) 3 (Tests.sect 1) (by decide)
    (by decide) (by decide) (by decide) (by decide) (by decide)
  obtain ⟨t, hexec, -, hcount, -⟩ := hundecided (by decide) (by decide)
  exact ⟨t, hexec, hcount⟩

theorem reportReread_read : ∃ t : State, exec (.reportReread 3) (reporting Tests.w0 5 (Tests.sect 0)) = .next t ∧
    t.sector 77 = some { Tests.sect 0 with st := .queued, soft := none, decCredit := false } := by
  obtain ⟨-, -, -, -, hreread, -⟩ := reportWords.2 (reporting Tests.w0 5 (Tests.sect 0)) 3 (Tests.sect 0) (by decide)
    (by decide) (by decide) (by decide) (by decide) (by decide)
  obtain ⟨t, hexec, hsector, -⟩ := hreread (by decide)
  exact ⟨t, hexec, hsector⟩

/-- 8 LBAs with copy A on actuator 3 and copy B on actuator 5. -/
def twoCopies : Extent :=
  { lba := 0, count := 8, aAct := 3, aZone := 2, aP := 35, bAct := 5, bZone := 2, bP := 0 }

def mirrored : State := Tests.w0.setNsd 1 { valid := true, mirror := true, size := 8, extents := [twoCopies] }

theorem reportMirror_mirrored : ∃ t : State, exec (.reportMirror 3) (reporting mirrored 6 (Tests.sect 0)) = .next t := by
  obtain ⟨-, -, -, -, -, hmirror, -⟩ := reportWords.2 (reporting mirrored 6 (Tests.sect 0)) 3 (Tests.sect 0) (by decide)
    (by decide) (by decide) (by decide) (by decide) (by decide)
  exact ⟨_, hmirror (by decide) (by decide) (by decide)⟩

theorem reportMirror_alone : ∃ t : State, exec (.reportMirror 3) (reporting Tests.w0 6 (Tests.sect 0)) = .next t := by
  obtain ⟨-, -, -, -, -, -, halone, -⟩ := reportWords.2 (reporting Tests.w0 6 (Tests.sect 0)) 3 (Tests.sect 0) (by decide)
    (by decide) (by decide) (by decide) (by decide) (by decide)
  exact ⟨_, halone (by decide) (by decide) (by decide)⟩

theorem reportUnrecovered_read : ∃ t : State, exec (.reportUnrecovered 3) (reporting Tests.w0 7 (Tests.sect 0)) = .next t := by
  obtain ⟨-, -, -, -, -, -, -, hunrecovered, -⟩ := reportWords.2 (reporting Tests.w0 7 (Tests.sect 0)) 3 (Tests.sect 0)
    (by decide) (by decide) (by decide) (by decide) (by decide) (by decide)
  exact ⟨_, hunrecovered (by decide) (by decide)⟩

theorem reportMissed_write : ∃ t : State, exec (.reportMissed 3) (reporting Tests.w0 8 (Tests.sect 1)) = .next t ∧
    t.sector 77 = some { Tests.sect 1 with st := .queued, soft := none, decCredit := false } := by
  obtain ⟨-, -, -, -, -, -, -, -, hmissed⟩ := reportWords.2 (reporting Tests.w0 8 (Tests.sect 1)) 3 (Tests.sect 1) (by decide)
    (by decide) (by decide) (by decide) (by decide) (by decide)
  obtain ⟨t, hexec, hsector, -⟩ := hmissed (by decide)
  exact ⟨t, hexec, hsector⟩

end Sys2Proof.Machine
end

section
/-!
PROOFS. The servo engines' own state (R181, R212): an engine and a head after a write, what the issue and the flow of a word
leave of them, and that a change of an engine's state touches registers and sequencers alone.
-/

namespace Sys2Proof.Machine

/-! ## An engine and its heads -/

@[simp] theorem State.sv_setSv_same (s : State) (a : Nat) (x : SrvS) : (s.setSv a x).sv a = x := by
  simp [State.sv, State.setSv]

@[simp] theorem SrvS.head_setHead_same (x : SrvS) (j : Nat) (y : SrvHead) : (x.setHead j y).head j = y := by
  simp [SrvS.head, SrvS.setHead]

theorem SrvS.head_setHead_ne (x : SrvS) {j k : Nat} (y : SrvHead) (h : k ≠ j) : (x.setHead j y).head k = x.head k := by
  simp [SrvS.head, SrvS.setHead, mget_mset_ne _ _ _ _ _ h]

@[simp] theorem State.sv_issue (s : State) (q a : Nat) : (s.issue q).sv a = s.sv a := rfl
@[simp] theorem State.sv_bump (s : State) (r : Reg) (i n a : Nat) : (s.bump r i n).sv a = s.sv a := rfl
@[simp] theorem State.sv_setFl (s : State) (q k : Nat) (b : Bool) (a : Nat) : (s.setFl q k b).sv a = s.sv a := rfl
@[simp] theorem State.sv_flow (s : State) (q : Nat) (w : Mw) (a : Nat) : (s.flow q w).sv a = s.sv a := rfl

/-- One head of an engine takes a new state. -/
def State.putHead (s : State) (a j : Nat) (h : SrvHead) : State := s.setSv a ((s.sv a).setHead j h)

@[simp] theorem State.head_putHead_same (s : State) (a j : Nat) (h : SrvHead) : ((s.putHead a j h).sv a).head j = h := by
  rw [State.putHead, State.sv_setSv_same, SrvS.head_setHead_same]

theorem State.head_putHead_ne (s : State) (a : Nat) {j k : Nat} (h : SrvHead) (hk : k ≠ j) :
    ((s.putHead a j h).sv a).head k = (s.sv a).head k := by
  rw [State.putHead, State.sv_setSv_same, SrvS.head_setHead_ne _ _ hk]

@[simp] theorem State.rdA_putHead (s : State) (a j : Nat) (h : SrvHead) (b : Nat) : (s.putHead a j h).rdA b = s.rdA b := rfl

theorem State.putHead_sameBytes (s : State) (a j : Nat) (h : SrvHead) : s.SameBytes (s.putHead a j h) :=
  ⟨rfl, rfl, rfl, rfl, rfl⟩

/-! ## The state that an engine shows (R207, R403) -/

@[simp] theorem State.seqEvent_srv (s : State) (q i : Nat) : (s.seqEvent q i).srv = s.srv := by
  unfold State.seqEvent
  split <;> rfl

@[simp] theorem State.seqEvents_srv (s : State) (qs : List Nat) (i : Nat) : (s.seqEvents qs i).srv = s.srv := by
  induction qs generalizing s with
  | nil => rfl
  | cons q qs ih => exact (ih (s.seqEvent q i)).trans (s.seqEvent_srv q i)

/-- A change of state is shown in SRV_STAT and reaches the sequencers; the engines keep their own state. -/
@[simp] theorem State.sv_srvTo (s : State) (a st b : Nat) : (s.srvTo a st).sv b = s.sv b := by
  unfold State.srvTo
  split
  · rfl
  · rw [State.sv, State.hdaEvent, State.seqEvents_srv]
    rfl

/-- SRV_STAT does not see the issue of a word. -/
theorem State.srvState_issue (s : State) {q : Nat} (hq : q < 32) : (s.issue q).srvState q = s.srvState q := by
  refine s.fld_issue_below q (f := Reg.SRV_STAT_STATE) ?_
  simp only [Reg.addr, Reg.SRV_STAT_STATE, Reg.SRV_STAT]
  omega

/-! ## A word that acts on an engine (R398) -/

@[simp] theorem State.gPair_issue (s : State) (q r : Nat) : (s.issue q).gPair q r = s.gPair q r := by
  simp only [State.gPair, State.gr_issue]

/-- A word that gives a head of its own engine a new state: RF clear, and it flows. -/
theorem State.putHead_flow (s : State) (q j : Nat) (h : SrvHead) :
    let t := (((s.issue q).putHead q j h).setRF q false).flow q (s.mw q)
    (t.sv q).head j = h ∧ t.fl q flRF = false ∧ s.Flowed t q ∧ s.SameBytes t := by
  obtain ⟨hrf, -, hflow, hbytes⟩ := State.granted_flow_of_below (s := s) (u := (s.issue q).putHead q j h) (q := q)
    (fun b _ => State.rdA_putHead _ q j h b) ((s.issue_sameBytes q).trans (State.putHead_sameBytes ..))
  refine ⟨?_, hrf, hflow, hbytes⟩
  rw [State.sv_flow, State.setRF_false, State.sv_setFl, State.head_putHead_same]

end Sys2Proof.Machine
end

section
/-!
PROOFS. Servo windows, wedges, seeks and offsets (R168, R181 to R184, R196 to R199, R202, R203, R398): what closes a head's
window, the end of a wedge, SEEK and its limit, the faults of a comb that strays or is lost, and OFFSET.
-/

namespace Sys2Proof.Machine

/-! ## Windows and demodulation (R181 to R183) -/

/-- A demodulation has put its head's result into the window, and a Gray code that differs by more than one has counted. -/
def State.demodulated (s : State) (a j : Nat) (dem : Demod) : State :=
  let u := s.putHead a j (s.demod a j dem).1
  if (s.demod a j dem).2 then u.bump Reg.SRV_CNT_GRAY a 1 else u

theorem State.sv_demodulated (s : State) (a j : Nat) (dem : Demod) :
    (s.demodulated a j dem).sv a = (s.putHead a j (s.demod a j dem).1).sv a := by
  unfold State.demodulated
  dsimp only
  split
  · rw [State.sv_bump]
  · rfl

theorem State.demodulated_sameRegs (s : State) (a j : Nat) (dem : Demod) :
    s.SameRegs (s.demodulated a j dem) [Reg.SRV_CNT_GRAY.addr a 0] := by
  intro b hb
  unfold State.demodulated
  dsimp only
  split
  · exact State.rdA_bump_ne (s.putHead a j _) 1 (by simpa using hb)
  · rfl

theorem State.demodulated_sameBytes (s : State) (a j : Nat) (dem : Demod) : s.SameBytes (s.demodulated a j dem) := by
  unfold State.demodulated
  dsimp only
  split
  · exact (s.putHead_sameBytes a j _).trans (State.bump_sameBytes ..)
  · exact s.putHead_sameBytes a j _

section
variable {s : State} {a j : Nat} (hawake : s.glb.dormant = false) (ha : a < s.nAct) (hj : j < 10)
  (hopen : s.windows a = true) (hdone : ((s.sv a).head j).done = false)
include hawake ha hj hopen hdone

theorem exec_servoWindowClose_open :
    exec (.servoWindowClose a j) s =
      .next (s.putHead a j { (s.sv a).head j with done := true, found := false }) := by
  show execServoWindowClose a j s = _
  rw [execServoWindowClose, State.powered_awake _ _ hawake]
  dsimp only
  rw [if_pos ⟨ha, hj, hopen, by simp [hdone]⟩, State.putHead]

theorem exec_headDemodulationEnd_open (dem : Demod) :
    exec (.headDemodulationEnd a j dem) s = .next ((s.demodulated a j dem).earlyInhibit a j) := by
  show execHeadDemodulationEnd a j dem s = _
  rw [execHeadDemodulationEnd, State.powered_awake _ _ hawake]
  dsimp only
  rw [if_pos ⟨ha, hj, hopen, by simp [hdone]⟩]
  rfl

end

/-! ## The end of a wedge (R184) -/

/-- With every head done the comb acquires or follows, by its state once a step of a test has ended. -/
theorem exec_wedgeComplete_eq {s : State} {a : Nat} (hawake : s.glb.dormant = false) (ha : a < s.nAct)
    (hopen : s.windows a = true) (hdone : s.allDone a = true) :
    exec (.wedgeComplete a) s = .next ((if (s.injStepEnd a).srvState a = srvAcquiring then (s.injStepEnd a).acquireWedge a
      else (s.injStepEnd a).followWedge a).driveSettle (a / 2)) := by
  show execWedgeComplete a s = _
  rw [execWedgeComplete, State.powered_awake _ _ hawake, if_pos ⟨ha, hopen, hdone⟩]

/-! ## SEEK (R196 to R198, R398) -/

/-- The engine takes seeks: it follows, seeks or settles (R196). -/
def State.takesSeeks (s : State) (q : Nat) : Prop :=
  s.srvState q = srvFollowing ∨ s.srvState q = srvSeeking ∨ s.srvState q = srvSettling

theorem State.takesSeeks_issue (s : State) {q : Nat} (hq : q < 32) : (s.issue q).takesSeeks q ↔ s.takesSeeks q := by
  rw [State.takesSeeks, State.takesSeeks, s.srvState_issue hq]

/-- A seek requested is the engine's seek, whatever ran before it. -/
theorem State.requestSeek_seek (s : State) (a target : Nat) (write : Bool) (tag : Option (Nat × Nat)) :
    ∃ k : SeekS, ((s.requestSeek a target write tag).sv a).seek = some k ∧ k.target = target ∧ k.write = write ∧
      k.tag = tag := by
  simp only [State.requestSeek, State.sv_srvTo, State.sv_setSv_same]
  exact ⟨_, rfl, rfl, rfl, rfl⟩

section
variable {s : State} {q : Nat} (hawake : s.glb.dormant = false) (hissue : s.canIssue q 0x45 = true)
include hawake hissue

theorem exec_seek_taken (hq : q < 32) (htakes : s.takesSeeks q) :
    exec (.seek q) s = .next ((((s.issue q).requestSeek q ((s.gr q (s.mw q).dA).toNat % 2 ^ 24) ((s.mw q).bits 54 54 == 1)
      (some (q, (s.mw q).bits 53 38))).setRF q false).flow q (s.mw q)) := by
  show execSeek q s = _
  rw [execSeek, State.powered_awake _ _ hawake, State.plainWord_of_canIssue hissue]
  dsimp only
  rw [if_pos ⟨hq, (s.takesSeeks_issue hq).2 htakes⟩, State.gr_issue]

theorem exec_seek_refused (hplace : ¬ (q < 32 ∧ s.takesSeeks q)) :
    exec (.seek q) s = .next (((s.issue q).setRF q true).flow q (s.mw q)) := by
  show execSeek q s = _
  rw [execSeek, State.powered_awake _ _ hawake, State.plainWord_of_canIssue hissue]
  dsimp only
  rw [if_neg]
  rintro ⟨hq, htakes⟩
  exact hplace ⟨hq, (s.takesSeeks_issue hq).1 htakes⟩

end

/-- A SEEK word that is taken: RF clear, and the engine has its seek. -/
theorem State.requestSeek_flow (s : State) (q target : Nat) (write : Bool) (tag : Option (Nat × Nat)) (w : Mw) :
    let t := ((s.requestSeek q target write tag).setRF q false).flow q w
    ∃ k : SeekS, (t.sv q).seek = some k ∧ k.target = target ∧ k.write = write ∧ k.tag = tag ∧ t.fl q flRF = false := by
  obtain ⟨k, hseek, htarget, hwrite, htag⟩ := s.requestSeek_seek q target write tag
  refine ⟨k, ?_, htarget, hwrite, htag, ?_⟩
  · rw [State.sv_flow, State.setRF_false, State.sv_setFl, hseek]
  · rw [State.flow, State.fl_goTo, State.setRF_false, State.fl_setFl_same _ _ _ _ (by decide)]

/-! ## Limits and faults (R199, R202, R203) -/

section
variable {s : State} {a : Nat} (hawake : s.glb.dormant = false) (ha : a < s.nAct)
include hawake ha

/-- A seek at its limit ends failed; one on the way to the ramp goes on to the unload profile. -/
theorem exec_seekTimeout_over {k : SeekS} (hseek : (s.sv a).seek = some k) (hlimit : s.fld Reg.SRV_FE_SEEK_MAX a ≤ k.wedges) :
    exec (.seekTimeout a) s = .next ((if (s.sv a).parking then (s.seekEnd a true).startUnloadProfile a
      else s.seekEnd a true).driveSettle (a / 2)) := by
  show execSeekTimeout a s = _
  rw [execSeekTimeout, State.powered_awake _ _ hawake]
  simp only [hseek, if_pos (And.intro ha hlimit)]

theorem exec_followingErrorTimeout_run (hrun : (s.sv a).feRun = true) :
    exec (.followingErrorTimeout a) s =
      .next (((s.setSv a { s.sv a with feRun := false }).srvFault a 0).driveSettle (a / 2)) := by
  show execFollowingErrorTimeout a s = _
  rw [execFollowingErrorTimeout, State.powered_awake _ _ hawake, if_pos ⟨ha, hrun⟩]

theorem exec_servoLost_missed (hopen : s.windows a = true) (hmiss : s.fld Reg.SRV_THR2_MISS_MAX a ≤ (s.sv a).cmiss) :
    exec (.servoLost a) s = .next (((s.setSv a { s.sv a with cmiss := 0 }).srvFault a 1).driveSettle (a / 2)) := by
  show execServoLost a s = _
  rw [execServoLost, State.powered_awake _ _ hawake, if_pos ⟨ha, hopen, hmiss⟩]

end

/-! ## OFFSET (R168, R398) -/

/-- The read offset that an OFFSET word asks for: its value, and START and the length of its gate. -/
def State.ofsReq (s : State) (q : Nat) : OfsReq :=
  { value := signed 8 ((s.mw q).bits 54 47), start := s.gPair q (s.mw q).dA % 2 ^ 48, len := (s.gr q (s.mw q).dB).toNat,
    stage := 0 }

section
variable {s : State} {q : Nat} (hawake : s.glb.dormant = false) (hissue : s.canIssue q 0x46 = true)
include hawake hissue

theorem exec_offset_taken (hq : q < 32) (hhead : (s.mw q).dHead ≤ 9) (hlo : -64 ≤ signed 8 ((s.mw q).bits 54 47))
    (hhi : signed 8 ((s.mw q).bits 54 47) ≤ 64) (hfree : ((s.sv q).head (s.mw q).dHead).ofs = none) :
    exec (.offset q) s = .next ((((s.issue q).putHead q (s.mw q).dHead
      { (s.sv q).head (s.mw q).dHead with ofs := some (s.ofsReq q) }).setRF q false).flow q (s.mw q)) := by
  show execOffset q s = _
  rw [execOffset, State.powered_awake _ _ hawake, State.plainWord_of_canIssue hissue]
  dsimp only
  rw [if_pos ⟨hq, hhead, hlo, hhi, hfree⟩, State.gPair_issue, State.gr_issue]
  rfl

theorem exec_offset_refused (hplace : 9 < (s.mw q).dHead ∨ signed 8 ((s.mw q).bits 54 47) < -64 ∨
    64 < signed 8 ((s.mw q).bits 54 47) ∨ ((s.sv q).head (s.mw q).dHead).ofs ≠ none) :
    exec (.offset q) s = .next (((s.issue q).setRF q true).flow q (s.mw q)) := by
  show execOffset q s = _
  rw [execOffset, State.powered_awake _ _ hawake, State.plainWord_of_canIssue hissue]
  dsimp only
  rw [if_neg]
  rintro ⟨-, hhead, hlo, hhi, hfree⟩
  rw [State.sv_issue] at hfree
  rcases hplace with h | h | h | h
  · omega
  · omega
  · omega
  · exact h hfree

end

/-! ## The statement -/

/-- Settles O15: each command is the case that the lemmas above name. -/
theorem servoWedgesAndSeeks : Obligations.ServoWedgesAndSeeks := by
  refine ⟨?windowClose, ?demodulation, ?wedgeComplete, ?seek, ?seekRefused, ?seekTimeout, ?parkTimeout, ?followingError,
    ?servoLost, ?offset⟩
  case windowClose =>
    intro s a j hawake ha hj hopen hdone
    refine ⟨_, exec_servoWindowClose_open hawake ha hj hopen hdone, ?_, ?_, fun k hk => s.head_putHead_ne a _ hk, rfl,
      s.putHead_sameBytes a j _⟩
    · rw [State.head_putHead_same]
    · rw [State.head_putHead_same]
  case demodulation =>
    intro s a j dem hawake ha hj hopen hdone
    refine ⟨s.demodulated a j dem, exec_headDemodulationEnd_open hawake ha hj hopen hdone dem, ?_, fun k hk => ?_,
      s.demodulated_sameRegs a j dem, s.demodulated_sameBytes a j dem⟩
    · rw [State.sv_demodulated, State.head_putHead_same]
    · rw [State.sv_demodulated, s.head_putHead_ne a _ hk]
  case wedgeComplete =>
    intro s a hawake ha hopen hdone u
    have hexec := exec_wedgeComplete_eq hawake ha hopen hdone
    exact ⟨fun hacq => by rw [hexec, if_pos hacq], fun hacq => by rw [hexec, if_neg hacq]⟩
  case seek =>
    intro s q hawake hissue hq htakes
    obtain ⟨k, hseek⟩ := (s.issue q).requestSeek_flow q ((s.gr q (s.mw q).dA).toNat % 2 ^ 24) ((s.mw q).bits 54 54 == 1)
      (some (q, (s.mw q).bits 53 38)) (s.mw q)
    exact ⟨_, k, exec_seek_taken hawake hissue hq htakes, hseek⟩
  case seekRefused => exact fun s q hawake hissue hplace => exec_refused (exec_seek_refused hawake hissue hplace)
  case seekTimeout =>
    intro s a k hawake ha hseek hlimit hpark
    rw [exec_seekTimeout_over hawake ha hseek hlimit, hpark]
    rfl
  case parkTimeout =>
    intro s a k hawake ha hseek hlimit hpark
    rw [exec_seekTimeout_over hawake ha hseek hlimit, hpark]
    rfl
  case followingError => exact fun s a hawake ha hrun => exec_followingErrorTimeout_run hawake ha hrun
  case servoLost => exact fun s a hawake ha hopen hmiss => exec_servoLost_missed hawake ha hopen hmiss
  case offset =>
    intro s q hawake hissue w o
    refine ⟨fun hq hhead hlo hhi hfree => ?_, fun hplace => exec_refused (exec_offset_refused hawake hissue hplace)⟩
    obtain ⟨hput, hrf, hflow, hbytes⟩ := s.putHead_flow q w.dHead
      { (s.sv q).head w.dHead with ofs := some (s.ofsReq q) }
    exact ⟨_, s.ofsReq q, exec_offset_taken hawake hissue hq hhead hlo hhi hfree, congrArg SrvHead.ofs hput, rfl, rfl, rfl,
      hrf, hflow, hbytes⟩

/-! ## States that meet the hypotheses -/

/-- Engine 3 of a device in Service shows a state, and holds a state of its own. -/
def engineIn (st : Nat) (x : SrvS) : State := (Tests.w0.setFld Reg.SRV_STAT_STATE 3 st).setSv 3 x

/-- The window of head 9, the last one, closes without a SAM. -/
theorem servoWindowClose_head9 : ∃ t : State, exec (.servoWindowClose 3 9) (engineIn srvFollowing {}) = .next t ∧
    ((t.sv 3).head 9).done = true ∧ ((t.sv 3).head 9).found = false := by
  obtain ⟨hclose, -⟩ := servoWedgesAndSeeks
  obtain ⟨t, hexec, hdone, hfound, -⟩ := hclose (engineIn srvFollowing {}) 3 9 (by decide) (by decide) (by decide) (by decide)
    (by decide)
  exact ⟨t, hexec, hdone, hfound⟩

/-- A window with one SAM position at its predicted place, without a mismatch. -/
def oneSam : Demod :=
  { sams := [{ ofs := 0, errs := 0, samEnd := 512 }], pre := (4, 0), n1 := (4, 0), n2 := (0, 0), gray := 6, wid := 0, rro := 0 }

theorem headDemodulationEnd_oneSam : ∃ u : State,
    exec (.headDemodulationEnd 3 9 oneSam) (engineIn srvFollowing {}) = .next (u.earlyInhibit 3 9) ∧
      ((u.sv 3).head 9).found = true := by
  obtain ⟨-, hdemod, -⟩ := servoWedgesAndSeeks
  obtain ⟨u, hexec, hhead, -⟩ := hdemod (engineIn srvFollowing {}) 3 9 oneSam (by decide) (by decide) (by decide) (by decide)
    (by decide)
  exact ⟨u, hexec, by rw [hhead]; rfl⟩

/-- Every head of the comb has closed its window. -/
def allMissed : SrvS := ({} : SrvS).mapHeads fun _ h => { h with done := true }

theorem wedgeComplete_allMissed :
    (exec (.wedgeComplete 3) (engineIn srvAcquiring allMissed) =
      .next (((engineIn srvAcquiring allMissed).acquireWedge 3).driveSettle 1)) ∧
    (exec (.wedgeComplete 3) (engineIn srvFollowing allMissed) =
      .next (((engineIn srvFollowing allMissed).followWedge 3).driveSettle 1)) := by
  obtain ⟨-, -, hwedge, -⟩ := servoWedgesAndSeeks
  obtain ⟨hacquire, -⟩ := hwedge (engineIn srvAcquiring allMissed) 3 (by decide) (by decide) (by decide) (by decide)
  obtain ⟨-, hfollow⟩ := hwedge (engineIn srvFollowing allMissed) 3 (by decide) (by decide) (by decide) (by decide)
  exact ⟨hacquire (by decide), hfollow (by decide)⟩

/-- Sequencer 3 about to issue a device word for its engine. -/
def asking (st : Nat) (x : SrvS) (w : Mw) : State := Tests.runs (engineIn st x) 3 w

/-- A SEEK for a write, with tag 9. -/
def seekWord : Mw := Tests.mwd [(127, 120, 0x45), (54, 54, 1), (53, 38, 9)]

theorem seek_following : ∃ (t : State) (k : SeekS), exec (.seek 3) (asking srvFollowing {} seekWord) = .next t ∧
    (t.sv 3).seek = some k ∧ k.tag = some (3, 9) := by
  obtain ⟨-, -, -, hseek, -⟩ := servoWedgesAndSeeks
  obtain ⟨t, k, hexec, hk, -, -, htag, -⟩ := hseek (asking srvFollowing {} seekWord) 3 (by decide) (by decide) (by decide)
    (.inl (by decide))
  exact ⟨t, k, hexec, hk, htag⟩

theorem seek_unloaded : ∃ t : State, exec (.seek 3) (asking srvUnloaded {} seekWord) = .next t ∧ t.fl 3 flRF = true := by
  obtain ⟨-, -, -, -, hrefused, -⟩ := servoWedgesAndSeeks
  obtain ⟨t, hexec, hrf, -⟩ := hrefused (asking srvUnloaded {} seekWord) 3 (by decide) (by decide) (by decide)
  exact ⟨t, hexec, hrf⟩

/-- A seek that has run for as many wedges as SEEK_MAX can name. -/
def longSeek : SeekS := { target := 100, write := false, tag := none, wedges := 2 ^ 16 - 1 }

theorem seekTimeout_longSeek :
    (exec (.seekTimeout 3) (engineIn srvSeeking { seek := some longSeek }) =
      .next (((engineIn srvSeeking { seek := some longSeek }).seekEnd 3 true).driveSettle 1)) ∧
    (exec (.seekTimeout 3) (engineIn srvUnloading { seek := some longSeek, parking := true }) =
      .next ((((engineIn srvUnloading { seek := some longSeek, parking := true }).seekEnd 3 true).startUnloadProfile
        3).driveSettle 1)) := by
  obtain ⟨-, -, -, -, -, hplain, hpark, -⟩ := servoWedgesAndSeeks
  exact ⟨hplain _ 3 longSeek (by decide) (by decide) (by decide) (by decide) (by decide),
    hpark _ 3 longSeek (by decide) (by decide) (by decide) (by decide) (by decide)⟩

theorem followingErrorTimeout_run : exec (.followingErrorTimeout 3) (engineIn srvFollowing { feRun := true }) =
    .next ((((engineIn srvFollowing { feRun := true }).setSv 3 {}).srvFault 3 0).driveSettle 1) := by
  obtain ⟨-, -, -, -, -, -, -, hfollowing, -⟩ := servoWedgesAndSeeks
  exact hfollowing (engineIn srvFollowing { feRun := true }) 3 (by decide) (by decide) (by decide)

theorem servoLost_missed : exec (.servoLost 3) (engineIn srvFollowing { cmiss := 255 }) =
    .next ((((engineIn srvFollowing { cmiss := 255 }).setSv 3 {}).srvFault 3 1).driveSettle 1) := by
  obtain ⟨-, -, -, -, -, -, -, -, hlost, -⟩ := servoWedgesAndSeeks
  exact hlost (engineIn srvFollowing { cmiss := 255 }) 3 (by decide) (by decide) (by decide) (by decide)

/-- An OFFSET for a head with an offset in two's complement. -/
def offsetWord (head ofs : Nat) : Mw := Tests.mwd [(127, 120, 0x46), (82, 79, head), (54, 47, ofs)]

/-- The largest offset, for the last head. -/
theorem offset_head9 : ∃ (t : State) (r : OfsReq), exec (.offset 3) (asking srvFollowing {} (offsetWord 9 64)) = .next t ∧
    ((t.sv 3).head 9).ofs = some r ∧ r.value = 64 := by
  obtain ⟨-, -, -, -, -, -, -, -, -, hoffset⟩ := servoWedgesAndSeeks
  obtain ⟨htaken, -⟩ := hoffset (asking srvFollowing {} (offsetWord 9 64)) 3 (by decide) (by decide)
  obtain ⟨t, r, hexec, hofs, hvalue, -⟩ := htaken (by decide) (by decide) (by decide) (by decide) (by decide)
  exact ⟨t, r, hexec, hofs, hvalue⟩

/-- There is no head 10. -/
theorem offset_head10 : ∃ t : State, exec (.offset 3) (asking srvFollowing {} (offsetWord 10 64)) = .next t ∧
    t.fl 3 flRF = true := by
  obtain ⟨-, -, -, -, -, -, -, -, -, hoffset⟩ := servoWedgesAndSeeks
  obtain ⟨-, hrefused⟩ := hoffset (asking srvFollowing {} (offsetWord 10 64)) 3 (by decide) (by decide)
  obtain ⟨t, hexec, hrf, -⟩ := hrefused (.inl (by decide))
  exact ⟨t, hexec, hrf⟩

/-- One step past the largest offset. -/
theorem offset_beyond64 : ∃ t : State, exec (.offset 3) (asking srvFollowing {} (offsetWord 9 65)) = .next t ∧
    t.fl 3 flRF = true := by
  obtain ⟨-, -, -, -, -, -, -, -, -, hoffset⟩ := servoWedgesAndSeeks
  obtain ⟨-, hrefused⟩ := hoffset (asking srvFollowing {} (offsetWord 9 65)) 3 (by decide) (by decide)
  obtain ⟨t, hexec, hrf, -⟩ := hrefused (.inr (.inr (.inl (by decide))))
  exact ⟨t, hexec, hrf⟩

end Sys2Proof.Machine
end

section
/-!
PROOFS. What the servo engines' operations leave alone (R54, R204, R207, R403): a frame for what writes registers at the
addresses named and no byte, an engine's own state through a write of registers, and the registers that a change of state and a
profile's code write.
-/

namespace Sys2Proof.Machine

/-! ## States that differ by writes of registers -/

/-- No byte changes from `s` to `t`, nor any register but those at addresses of `P`. -/
def State.WritesIn (P : Nat → Prop) (s t : State) : Prop := s.SameBytes t ∧ ∀ b, ¬ P b → t.rdA b = s.rdA b

namespace State.WritesIn

variable {P Q : Nat → Prop} {s t u : State}

theorem refl (P : Nat → Prop) (s : State) : WritesIn P s s := ⟨⟨rfl, rfl, rfl, rfl, rfl⟩, fun _ _ => rfl⟩

theorem trans (h : WritesIn P s t) (k : WritesIn P t u) : WritesIn P s u :=
  ⟨h.1.trans k.1, fun b hb => (k.2 b hb).trans (h.2 b hb)⟩

theorem mono (h : WritesIn P s t) (hPQ : ∀ b, P b → Q b) : WritesIn Q s t := ⟨h.1, fun b hb => h.2 b fun hp => hb (hPQ b hp)⟩

theorem of_records (h : State.RecordsIn P s t) : WritesIn P s t := ⟨h.sameBytes, fun _ hb => h.rdA_eq hb⟩

theorem sameBytes (h : WritesIn P s t) : s.SameBytes t := h.1

theorem sameRegs {r : Nat} (h : WritesIn (· = r) s t) : s.SameRegs t [r] := fun b hb => h.2 b (by simpa using hb)

theorem fld_eq (h : WritesIn P s t) {f : Fld} {i : Nat} (hf : ¬ P (f.reg.addr i 0)) : t.fld f i = s.fld f i :=
  congrArg f.get (h.2 _ hf)

theorem foldl {α : Type} {f : State → α → State} (h : ∀ u x, WritesIn P u (f u x)) (l : List α) (s : State) :
    WritesIn P s (l.foldl f s) := by
  induction l generalizing s with
  | nil => exact refl P s
  | cons x l ih => exact (h s x).trans (ih (f s x))

theorem setSv (P : Nat → Prop) (s : State) (a : Nat) (x : SrvS) : WritesIn P s (s.setSv a x) :=
  ⟨⟨rfl, rfl, rfl, rfl, rfl⟩, fun _ _ => rfl⟩

end State.WritesIn

/-- What records its work in registers leaves the servo engines alone. -/
theorem State.RecordsIn.srv_eq {P : Nat → Prop} {s t : State} (h : State.RecordsIn P s t) : t.srv = s.srv := by
  obtain ⟨⟨q, x, r, rfl⟩, -⟩ := h
  rfl

theorem State.RecordsIn.sv_eq {P : Nat → Prop} {s t : State} (h : State.RecordsIn P s t) (a : Nat) : t.sv a = s.sv a :=
  congrArg (mget _ · a) h.srv_eq

@[simp] theorem State.sv_setFld (s : State) (f : Fld) (i v a : Nat) : (s.setFld f i v).sv a = s.sv a := rfl

@[simp] theorem State.fld_setSv (s : State) (a : Nat) (x : SrvS) (f : Fld) (i : Nat) : (s.setSv a x).fld f i = s.fld f i := rfl

theorem State.store_writes (s : State) (r : Reg) (i j : Nat) (v : Word) :
    State.WritesIn (· = r.addr i j) s (s.store r i j v) := .of_records (s.store_records r i j v)

@[simp] theorem State.srv_store (s : State) (r : Reg) (i j : Nat) (v : Word) : (s.store r i j v).srv = s.srv :=
  (s.store_records r i j v).srv_eq

@[simp] theorem State.sv_store (s : State) (r : Reg) (i j : Nat) (v : Word) (a : Nat) : (s.store r i j v).sv a = s.sv a :=
  (s.store_records r i j v).sv_eq a

/-! ## Two fields of one register -/

/-- Two fields of one register that share no bit. -/
abbrev Fld.Beside (f g : Fld) : Prop :=
  g.reg = f.reg ∧ (f.lo ≤ f.hi ∧ f.hi < 32) ∧ (g.lo ≤ g.hi ∧ g.hi < 32) ∧ (f.hi < g.lo ∨ g.hi < f.lo)

/-- Two fields of a register set one after the other: each holds its value, and no other register changes. -/
theorem State.setFld_setFld_spec (s : State) {f g : Fld} (hbeside : f.Beside g) (i : Nat) {v w : Nat}
    (hv : v < 2 ^ (f.hi + 1 - f.lo)) (hw : w < 2 ^ (g.hi + 1 - g.lo)) :
    let t := (s.setFld f i v).setFld g i w
    t.fld f i = v ∧ t.fld g i = w ∧ State.WritesIn (· = f.reg.addr i 0) s t := by
  obtain ⟨hreg, ⟨hf, hf'⟩, ⟨hg, hg'⟩, hdisjoint⟩ := hbeside
  refine ⟨?_, ?_, .of_records (.trans (.setFld s v rfl) (.setFld _ w (congrArg (·.addr i 0) hreg)))⟩
  · rw [State.fld_setFld_beside _ g f _ _ hreg.symm hg hg' hdisjoint.symm, State.fld_setFld_same _ _ _ _ hf hf',
      Nat.mod_eq_of_lt hv]
  · rw [State.fld_setFld_same _ _ _ _ hg hg', Nat.mod_eq_of_lt hw]

/-! ## A change of an engine's state (R207, R403) -/

/-- A source made pending writes the sequencers' registers alone (R540). -/
theorem State.seqEvent_writes (s : State) (q i : Nat) : State.WritesIn (0x00B00000 ≤ ·) s (s.seqEvent q i) := by
  unfold State.seqEvent
  split
  · refine ⟨⟨rfl, rfl, rfl, rfl, rfl⟩, fun b hb => (s.rdA_wr ..).trans (if_neg ?_)⟩
    simp only [Reg.addr, Reg.SEQ_EVC_PEND]
    omega
  · exact .refl _ s

theorem State.hdaEvent_writes (s : State) (n : Nat) : State.WritesIn (0x00B00000 ≤ ·) s (s.hdaEvent n) :=
  .foldl (fun u q => u.seqEvent_writes q 9) _ s

/-- An engine's registers lie below the sequencers' (R540). -/
theorem srv_addr_lt {r : Reg} {a : Nat} (ha : a < 32) (hbase : r.base = 0x00400000) (hstride : r.stride = 0x1000)
    (hoff : r.off < 0x1000) : r.addr a 0 < 0x00B00000 := by
  simp only [Reg.addr, hbase, hstride]
  omega

theorem State.srvTo_writes (s : State) (a st : Nat) :
    State.WritesIn (fun b => b = Reg.SRV_STAT.addr a 0 ∨ 0x00B00000 ≤ b) s (s.srvTo a st) := by
  unfold State.srvTo
  split
  · exact .refl _ s
  · exact (State.WritesIn.of_records (.setFld s st (.inl rfl))).trans ((State.hdaEvent_writes _ _).mono fun _ => .inr)

/-- The state that an engine has gone to is the one that it shows. -/
theorem State.srvState_srvTo (s : State) {a st : Nat} (ha : a < 32) (hst : st < 16) : (s.srvTo a st).srvState a = st := by
  unfold State.srvTo
  split
  · assumption
  · have hbelow := srv_addr_lt (r := Reg.SRV_STAT) ha rfl rfl (by decide)
    rw [State.srvState, (State.hdaEvent_writes _ _).fld_eq (f := Reg.SRV_STAT_STATE) (Nat.not_le.2 hbelow),
      State.fld_setFld_same _ _ _ _ (by decide) (by decide)]
    exact Nat.mod_eq_of_lt hst

/-! ## A profile's code (R204 to R206) -/

/-- New states for every head change nothing else of an engine. -/
theorem SrvS.mapHeads_eq (x : SrvS) (f : Nat → SrvHead → SrvHead) : ∃ hs, x.mapHeads f = { x with heads := hs } := by
  unfold SrvS.mapHeads
  generalize List.range 10 = js
  induction js generalizing x with
  | nil => exact ⟨x.heads, rfl⟩
  | cons j js ih => exact ih (x.setHead j (f j (x.head j)))

@[simp] theorem SrvS.prof_mapHeads (x : SrvS) (f : Nat → SrvHead → SrvHead) : (x.mapHeads f).prof = x.prof := by
  obtain ⟨hs, h⟩ := x.mapHeads_eq f
  rw [h]

theorem State.inhAll_writes (s : State) (a : Nat) :
    State.WritesIn (fun b => ∃ j, b = Reg.SRV_HFLAG.addr a j) s (s.inhAll a) :=
  (State.WritesIn.setSv _ s a _).trans (.foldl (fun u j => .of_records (.setFldJ u 1 ⟨j, rfl⟩)) _ _)

@[simp] theorem State.prof_inhAll (s : State) (a : Nat) : ((s.inhAll a).sv a).prof = (s.sv a).prof := by
  have hrec : State.RecordsIn anyReg (s.setSv a ((s.sv a).mapHeads fun _ h => { h with inh := true })) (s.inhAll a) :=
    .foldl (fun u j _ => .setFldJ u 1 trivial) _
  rw [hrec.sv_eq, State.sv_setSv_same, SrvS.prof_mapHeads]

/-- A SERVO block goes to its port, or comes back to it as a failure (R54, R545). -/
theorem State.sendServo_eq (s : State) (a ap : Nat) : ∃ h, s.sendServo a ap = { s with hlk := h } := by
  unfold State.sendServo State.sendCmd
  dsimp only
  split
  · exact ⟨_, rfl⟩
  · exact ⟨_, rfl⟩

theorem State.sendServo_writes (P : Nat → Prop) (s : State) (a ap : Nat) : State.WritesIn P s (s.sendServo a ap) := by
  obtain ⟨h, hsend⟩ := s.sendServo_eq a ap
  rw [hsend]
  exact ⟨⟨rfl, rfl, rfl, rfl, rfl⟩, fun _ _ => rfl⟩

@[simp] theorem State.sv_sendServo (s : State) (a ap b : Nat) : (s.sendServo a ap).sv b = s.sv b := by
  obtain ⟨h, hsend⟩ := s.sendServo_eq a ap
  rw [hsend]
  rfl

/-- The INH bits of a comb's heads are the only registers that a profile's code writes. -/
theorem State.profileCode_writes (s : State) (a : Nat) (code : Int) :
    State.WritesIn (fun b => ∃ j, b = Reg.SRV_HFLAG.addr a j) s (s.profileCode a code) :=
  (State.WritesIn.setSv _ s a _).trans ((State.inhAll_writes _ a).trans (State.sendServo_writes _ _ a _))

/-- The code sent leaves the profile that plays. -/
@[simp] theorem State.prof_profileCode (s : State) (a : Nat) (code : Int) :
    ((s.profileCode a code).sv a).prof = (s.sv a).prof := by
  unfold State.profileCode
  dsimp only
  rw [State.sv_sendServo, State.prof_inhAll, State.sv_setSv_same, SrvS.prof_mapHeads]

end Sys2Proof.Machine
end

section
/-!
PROOFS. Loading, coefficient sets and tests of a servo engine (R205, R206, R210 to R212, R217 to R221): LOAD, UNLOAD and EN,
the steps of a profile, the load and switch of a set, injection from GO to its end, and capture.
-/

namespace Sys2Proof.Machine

theorem State.nAct_le (s : State) : s.nAct ≤ 32 := by
  unfold State.nAct
  split <;> omega

/-! ## LOAD and UNLOAD (R205, R206, R212) -/

/-- An engine as its load begins: the profile plays its first step, and no wedge of before counts. -/
def State.loadReset (s : State) (a : Nat) : State :=
  let x := (s.sv a).mapHeads fun _ h => { h with lastSam := none, lastY := none, lastW := none, done := false, missRun := 0 }
  s.setSv a { x with prof := some (true, 0), acq := 0, cmiss := 0, ebar := none, ymean := none, ints := [], feRun := false,
                     unloadReq := false, parking := false }

/-- The load profile has started. -/
def State.loadStarted (s : State) (a : Nat) : State :=
  (((s.loadReset a).setFld Reg.SRV_CTRL_LOAD a 1).srvTo a srvLoading).profileCode a (s.profStep a true 0).1

theorem State.loadStarted_spec (s : State) {a : Nat} (ha : a < 32) :
    (s.loadStarted a).srvState a = srvLoading ∧ ((s.loadStarted a).sv a).prof = some (true, 0) ∧
      (s.loadStarted a).fld Reg.SRV_CTRL_LOAD a = 1 ∧ s.SameBytes (s.loadStarted a) := by
  have hcode := State.profileCode_writes (((s.loadReset a).setFld Reg.SRV_CTRL_LOAD a 1).srvTo a srvLoading) a
    (s.profStep a true 0).1
  have hto := ((s.loadReset a).setFld Reg.SRV_CTRL_LOAD a 1).srvTo_writes a srvLoading
  have hstat : ¬ ∃ j, Reg.SRV_STAT.addr a 0 = Reg.SRV_HFLAG.addr a j := by
    simp only [Reg.addr, Reg.SRV_STAT, Reg.SRV_HFLAG]
    omega
  have hctrl : ¬ ∃ j, Reg.SRV_CTRL.addr a 0 = Reg.SRV_HFLAG.addr a j := by
    simp only [Reg.addr, Reg.SRV_CTRL, Reg.SRV_HFLAG]
    omega
  have hbeside : ¬ (Reg.SRV_CTRL.addr a 0 = Reg.SRV_STAT.addr a 0 ∨ 0x00B00000 ≤ Reg.SRV_CTRL.addr a 0) := by
    simp only [Reg.addr, Reg.SRV_CTRL, Reg.SRV_STAT]
    omega
  refine ⟨?_, ?_, ?_, ?_⟩
  · rw [State.srvState, State.loadStarted, hcode.fld_eq (f := Reg.SRV_STAT_STATE) hstat]
    exact State.srvState_srvTo _ ha (by decide)
  · rw [State.loadStarted, State.prof_profileCode, State.sv_srvTo, State.sv_setFld, State.loadReset, State.sv_setSv_same]
  · rw [State.loadStarted, hcode.fld_eq (f := Reg.SRV_CTRL_LOAD) hctrl, hto.fld_eq (f := Reg.SRV_CTRL_LOAD) hbeside,
      State.fld_setFld_same _ _ _ _ (by decide) (by decide)]
    rfl
  · exact ((State.WritesIn.setSv anyReg s a _).sameBytes.trans (State.setFld_sameBytes _ _ _ _)).trans
      (hto.sameBytes.trans hcode.sameBytes)

/-- A load asked for where R205 and R437 allow it starts the profile. -/
theorem State.servoLoad_starts {s : State} {a : Nat} (hen : s.flag Reg.SRV_CTRL_EN a = true)
    (hst : s.srvState a = srvUnloaded) (hspin : s.hdaState (a / 2) = hdaSpinning) (hmode : s.mode ≠ modeQuiescent)
    (hfence : s.actFenced a = false) (hrejoin : s.glb.rejoin.contains (srcSRV a) = false) (hstep : (s.profStep a true 0).2 ≠ 0) :
    s.servoLoad a = (s.loadStarted a).engineSettle a := by
  unfold State.servoLoad
  dsimp only
  rw [hen, hst, hspin, hfence, hrejoin, if_pos (by simp [hmode]), if_neg hstep]
  rfl

section
variable {s : State} {a : Nat} {v : Word} (hawake : s.glb.dormant = false) (ha : a < s.nAct)
include hawake ha

section
variable (hwritable : s.regWritable Reg.SRV_CTRL a 0 v = true)
include hwritable

theorem exec_servoLoad_alone (hload : Reg.SRV_CTRL_LOAD.get v = 1) (hunload : Reg.SRV_CTRL_UNLOAD.get v = 0)
    (hen : (s.store Reg.SRV_CTRL a 0 v).flag Reg.SRV_CTRL_EN a = true) :
    exec (.servoLoad a v) s = .next ((s.store Reg.SRV_CTRL a 0 v).servoLoad a) := by
  show execServoLoad a v s = _
  rw [execServoLoad, State.powered_awake _ _ hawake, if_pos ⟨ha, hload⟩, State.srvCtrlWrite, if_pos hwritable]
  dsimp only
  rw [if_pos hload, if_neg (by simp [hen, hunload])]

theorem exec_servoUnload_alone (hunload : Reg.SRV_CTRL_UNLOAD.get v = 1) (hload : Reg.SRV_CTRL_LOAD.get v = 0) :
    exec (.servoUnload a v) s = .next ((s.store Reg.SRV_CTRL a 0 v).servoUnload a) := by
  show execServoUnload a v s = _
  rw [execServoUnload, State.powered_awake _ _ hawake, if_pos ⟨ha, hunload⟩, State.srvCtrlWrite, if_pos hwritable]
  dsimp only
  rw [if_neg (by omega), if_pos (by simp [hunload])]

/-- EN cleared unloads as UNLOAD does (R212). -/
theorem exec_servoEngineDisable_alone (hen : Reg.SRV_CTRL_EN.get v = 0) (hload : Reg.SRV_CTRL_LOAD.get v = 0)
    (hwas : s.flag Reg.SRV_CTRL_EN a = true) (hnow : (s.store Reg.SRV_CTRL a 0 v).flag Reg.SRV_CTRL_EN a = false) :
    exec (.servoEngineDisable a v) s = .next ((s.store Reg.SRV_CTRL a 0 v).servoUnload a) := by
  show execServoEngineDisable a v s = _
  rw [execServoEngineDisable, State.powered_awake _ _ hawake, if_pos ⟨ha, hen⟩, State.srvCtrlWrite, if_pos hwritable]
  dsimp only
  rw [if_neg (by omega), if_pos (by simp [hwas, hnow])]

end

/-! ## Profiles and acquisition (R205, R206) -/

/-- A step of a profile ends: the next one is sent, or the profile is over. -/
theorem exec_profileStepEnd_free {load : Bool} {k : Nat} (hprof : (s.sv a).prof = some (load, k))
    (hfree : (s.sv a).held = false) :
    exec (.profileStepEnd a) s = .next ((if (s.profStep a load (k + 1)).2 ≠ 0 then
        (s.setSv a { s.sv a with prof := some (load, k + 1) }).profileCode a (s.profStep a load (k + 1)).1
      else if load then (s.setSv a { s.sv a with prof := none }).srvTo a srvAcquiring
      else s.unloadDone a).driveSettle (a / 2)) := by
  show execProfileStepEnd a s = _
  rw [execProfileStepEnd, State.powered_awake _ _ hawake, hprof]
  dsimp only
  rw [if_pos ⟨ha, by simp [hfree]⟩]

theorem exec_acquisitionTimeout_acquiring (hst : s.srvState a = srvAcquiring) :
    exec (.acquisitionTimeout a) s =
      .next ((((s.setFld Reg.SRV_CTRL_LOAD a 0).startUnloadProfile a).srvFault a 2).driveSettle (a / 2)) := by
  show execAcquisitionTimeout a s = _
  rw [execAcquisitionTimeout, State.powered_awake _ _ hawake, if_pos ⟨ha, hst⟩]

end

/-! ## Coefficient sets (R210, R211) -/

/-- The load that a write of SRV_LOAD asks for. -/
def State.hostLoad (s : State) (a : Nat) (v : Word) : SetLoad :=
  { mask := setMask v, band := s.fld Reg.SRV_STAT_BAND a, host := true, mode := Reg.SRV_LOAD_MODE.get v }

/-- An engine takes a set load that the host asks for: GO set, RESULT clear. -/
def State.takeLoad (s : State) (a : Nat) (l : SetLoad) : State :=
  let t := (s.setFld Reg.SRV_LOAD_GO a 1).setFld Reg.SRV_LOAD_RESULT a 0
  t.setSv a { t.sv a with load := some l }

theorem State.takeLoad_spec (s : State) (a : Nat) (l : SetLoad) :
    ((s.takeLoad a l).sv a).load = some l ∧ (s.takeLoad a l).fld Reg.SRV_LOAD_GO a = 1 ∧
      (s.takeLoad a l).fld Reg.SRV_LOAD_RESULT a = 0 ∧ State.WritesIn (· = Reg.SRV_LOAD.addr a 0) s (s.takeLoad a l) := by
  obtain ⟨hgo, hresult, hwrites⟩ := s.setFld_setFld_spec (f := Reg.SRV_LOAD_GO) (g := Reg.SRV_LOAD_RESULT) (by decide) a
    (v := 1) (w := 0) (by decide) (by decide)
  unfold State.takeLoad
  dsimp only
  rw [State.fld_setSv, State.fld_setSv, State.sv_setSv_same]
  exact ⟨rfl, hgo, hresult, hwrites.trans (.setSv _ _ a _)⟩

section
variable {s : State} {a : Nat} (hawake : s.glb.dormant = false) (ha : a < s.nAct)
include hawake ha

theorem exec_servoSetLoad_taken {v : Word} (hgo : Reg.SRV_LOAD_GO.get v = 1)
    (hwritable : s.regWritable Reg.SRV_LOAD a 0 v = true) (hidle : s.flag Reg.SRV_LOAD_GO a = false)
    (hnone : (s.sv a).load = none)
    (hband : Reg.SRV_LOAD_MODE.get v = 1 ∨ Reg.SRV_LOAD_BAND.get v = s.fld Reg.SRV_STAT_BAND a) :
    exec (.servoSetLoad a v) s = .next ((s.store Reg.SRV_LOAD a 0 v).takeLoad a ((s.store Reg.SRV_LOAD a 0 v).hostLoad a v)) := by
  have hstat : (s.store Reg.SRV_LOAD a 0 v).fld Reg.SRV_STAT_BAND a = s.fld Reg.SRV_STAT_BAND a :=
    (s.store_writes ..).fld_eq (by simp only [Reg.addr, Reg.SRV_STAT_BAND, Reg.SRV_STAT, Reg.SRV_LOAD]; omega)
  show execServoSetLoad a v s = _
  rw [execServoSetLoad, State.powered_awake _ _ hawake, if_pos ⟨ha, hgo⟩, State.srvLoadWrite, if_pos hwritable]
  dsimp only
  rw [if_pos ⟨hgo, by simp [hidle]⟩, if_neg (by rw [hstat]; omega), State.sv_store, hnone]
  rfl

theorem exec_servoSetLoadEnd_running {l : SetLoad} (hload : (s.sv a).load = some l) :
    exec (.servoSetLoadEnd a) s = .next (((s.setLoadEnd a).driveSettle (a / 2)).gateSettle) := by
  show execServoSetLoadEnd a s = _
  rw [execServoSetLoadEnd, State.powered_awake _ _ hawake, if_pos ⟨ha, by simp [hload]⟩]

end

theorem State.bufWords_of_read {s : State} {addr : Nat} (n : Nat) {bs : List Byte} (h : s.bufRead addr (4 * n) = some bs) :
    s.bufWords addr n = (s, some (bytesWords n bs)) := by
  rw [State.bufWords, State.bufFetch, h]
  rfl

/-- A set load of the host has ended with a good image: GO clear, RESULT 1, and the set waits for its switch. -/
def State.setReady (s : State) (a : Nat) (l : SetLoad) (image : List Word) : State :=
  let t := ((s.setSv a { s.sv a with load := none }).setFld Reg.SRV_LOAD_RESULT a 1).setFld Reg.SRV_LOAD_GO a 0
  t.setSv a { t.sv a with loading := mergeSet l.mask image (s.sv a).active, switch := some l }

theorem State.setReady_spec (s : State) (a : Nat) (l : SetLoad) (image : List Word) :
    ((s.setReady a l image).sv a).switch = some l ∧ ((s.setReady a l image).sv a).load = none ∧
      (s.setReady a l image).fld Reg.SRV_LOAD_RESULT a = 1 ∧ (s.setReady a l image).fld Reg.SRV_LOAD_GO a = 0 := by
  unfold State.setReady
  generalize hidle : s.setSv a { s.sv a with load := none } = t
  have hnone : (t.sv a).load = none := by rw [← hidle, State.sv_setSv_same]
  obtain ⟨hresult, hgo, -⟩ := t.setFld_setFld_spec (f := Reg.SRV_LOAD_RESULT) (g := Reg.SRV_LOAD_GO) (by decide) a
    (v := 1) (w := 0) (by decide) (by decide)
  dsimp only
  rw [State.fld_setSv, State.fld_setSv, State.sv_setSv_same, State.sv_setFld, State.sv_setFld]
  exact ⟨rfl, hnone, hresult, hgo⟩

/-- A good set that the host asked for is ready. -/
theorem State.setLoadEnd_good {s : State} {a : Nat} {l : SetLoad} {bs : List Byte} (hload : (s.sv a).load = some l)
    (hhost : l.host = true) (hread : s.bufRead (s.setAddr a l) 3072 = some bs)
    (hgood : setResult (bytesWords 768 bs) l.band = 1) : s.setLoadEnd a = s.setReady a l (bytesWords 768 bs) := by
  unfold State.setLoadEnd
  simp only [hload, State.bufWords_of_read 768 hread, Option.getD_some, hgood, hhost, if_true]
  rfl

/-- A set that waits becomes the active bank. -/
def SrvS.switched (x : SrvS) : SrvS := { x with active := x.loading, loading := [], switch := none }

/-- With no run there is none to stop. -/
theorem exec_servoSetSwitch_ready {s : State} {a : Nat} {l : SetLoad} (hawake : s.glb.dormant = false) (ha : a < s.nAct)
    (hdone : ∀ j < 10, ((s.sv a).head j).done = false) (hswitch : (s.sv a).switch = some l) (hinj : (s.sv a).inj = none) :
    exec (.servoSetSwitch a) s =
      .next ((s.setSv a (s.sv a).switched).setFld Reg.SRV_STAT_BANK a (1 - s.fld Reg.SRV_STAT_BANK a)) := by
  show execServoSetSwitch a s = _
  rw [execServoSetSwitch, State.powered_awake _ _ hawake, if_pos ⟨ha, by simpa using hdone⟩]
  unfold State.setSwitch
  simp only [hswitch, hinj, Bool.false_eq_true, if_false, SrvS.switched]

/-! ## Injection (R217 to R220) -/

/-- The run that SRV_INJ_CTRL asks for. -/
def State.injAsked (s : State) (a : Nat) : InjRun :=
  { point := s.fld Reg.SRV_INJ_CTRL_POINT a, head := s.fld Reg.SRV_INJ_CTRL_HEAD a, signal := s.fld Reg.SRV_INJ_CTRL_SIGNAL a,
    inc := s.fld Reg.SRV_INJ_FREQ_INC_START a }

/-- An engine's run changes. -/
def State.putInj (s : State) (a : Nat) (i : Option InjRun) : State := s.setSv a { s.sv a with inj := i }

theorem State.inj_putInj (s : State) (a : Nat) (i : Option InjRun) : ((s.putInj a i).sv a).inj = i := by
  rw [State.putInj, State.sv_setSv_same]

theorem State.putInj_writes (P : Nat → Prop) (s : State) (a : Nat) (i : Option InjRun) : State.WritesIn P s (s.putInj a i) :=
  .setSv P s a _

/-- A run starts: GO set, RESULT and the counts of SRV_INJ_STAT clear. -/
def State.injStarted (s : State) (a : Nat) : State :=
  (((s.putInj a (some (s.injAsked a))).setFld Reg.SRV_INJ_CTRL_GO a 1).setFld Reg.SRV_INJ_CTRL_RESULT a 0).wr
    Reg.SRV_INJ_STAT a 0 0

theorem State.injStarted_spec (s : State) (a : Nat) :
    ((s.injStarted a).sv a).inj = some (s.injAsked a) ∧ (s.injStarted a).fld Reg.SRV_INJ_CTRL_GO a = 1 ∧
      (s.injStarted a).fld Reg.SRV_INJ_CTRL_RESULT a = 0 ∧ s.SameBytes (s.injStarted a) := by
  obtain ⟨hgo, hresult, hwrites⟩ := (s.putInj a (some (s.injAsked a))).setFld_setFld_spec (f := Reg.SRV_INJ_CTRL_GO)
    (g := Reg.SRV_INJ_CTRL_RESULT) (by decide) a (v := 1) (w := 0) (by decide) (by decide)
  have hstat (u : State) : State.RecordsIn (· = Reg.SRV_INJ_STAT.addr a 0) u (u.wr Reg.SRV_INJ_STAT a 0 0) := .wr u 0 rfl
  have hne : Reg.SRV_INJ_CTRL.addr a 0 ≠ Reg.SRV_INJ_STAT.addr a 0 := by
    simp only [Reg.addr, Reg.SRV_INJ_CTRL, Reg.SRV_INJ_STAT]
    omega
  unfold State.injStarted
  refine ⟨?_, ?_, ?_, ((s.putInj_writes anyReg a _).sameBytes.trans hwrites.sameBytes).trans (hstat _).sameBytes⟩
  · rw [(hstat _).sv_eq, State.sv_setFld, State.sv_setFld, State.inj_putInj]
  · rw [(State.WritesIn.of_records (hstat _)).fld_eq (f := Reg.SRV_INJ_CTRL_GO) hne, hgo]
  · rw [(State.WritesIn.of_records (hstat _)).fld_eq (f := Reg.SRV_INJ_CTRL_RESULT) hne, hresult]

theorem State.injEnd_running {s : State} {a : Nat} {r : InjRun} (res : Nat) (hinj : (s.sv a).inj = some r) :
    s.injEnd a res = (((s.putInj a none).setFld Reg.SRV_INJ_CTRL_RESULT a res).setFld Reg.SRV_INJ_CTRL_GO a 0).setFld
      Reg.SRV_INJ_CTRL_STOP a 0 := by
  unfold State.injEnd
  simp only [hinj]
  rfl

/-- A run ends with its result, GO and STOP clear (R218). -/
theorem State.injEnd_spec {s : State} {a res : Nat} {r : InjRun} (hinj : (s.sv a).inj = some r) (hres : res < 8) :
    ((s.injEnd a res).sv a).inj = none ∧ (s.injEnd a res).fld Reg.SRV_INJ_CTRL_RESULT a = res ∧
      (s.injEnd a res).fld Reg.SRV_INJ_CTRL_GO a = 0 ∧
      State.WritesIn (· = Reg.SRV_INJ_CTRL.addr a 0) s (s.injEnd a res) := by
  obtain ⟨hresult, hgo, hwrites⟩ := (s.putInj a none).setFld_setFld_spec (f := Reg.SRV_INJ_CTRL_RESULT)
    (g := Reg.SRV_INJ_CTRL_GO) (by decide) a (v := res) (w := 0) hres (by decide)
  rw [State.injEnd_running res hinj]
  refine ⟨?_, ?_, ?_, (s.putInj_writes _ a none).trans (hwrites.trans (.of_records (.setFld _ 0 rfl)))⟩
  · rw [State.sv_setFld, State.sv_setFld, State.sv_setFld, State.inj_putInj]
  · rw [State.fld_setFld_beside _ Reg.SRV_INJ_CTRL_STOP Reg.SRV_INJ_CTRL_RESULT _ _ rfl (by decide) (by decide) (by decide),
      hresult]
  · rw [State.fld_setFld_beside _ Reg.SRV_INJ_CTRL_STOP Reg.SRV_INJ_CTRL_GO _ _ rfl (by decide) (by decide) (by decide), hgo]

/-- Noise has one step, and no record of it is kept: its last wedge ends the run DONE (R216, R220). -/
theorem State.injStepEnd_noise {s : State} {a : Nat} {r : InjRun} (hinj : (s.sv a).inj = some r) (hdue : s.injDue a = true)
    (hnoise : r.signal = 2) : s.injStepEnd a = s.injEnd a 1 := by
  unfold State.injStepEnd
  simp only [hinj, hdue, hnoise, if_true, true_or, OfNat.ofNat_ne_one, false_and, if_false]

section
variable {s : State} {a : Nat} (hawake : s.glb.dormant = false) (ha : a < s.nAct)
include hawake ha

section
variable {v : Word} (hwritable : s.regWritable Reg.SRV_INJ_CTRL a 0 v = true)
include hwritable

theorem exec_injectionGo_alone (hgo : Reg.SRV_INJ_CTRL_GO.get v = 1) (hstop : Reg.SRV_INJ_CTRL_STOP.get v = 0) :
    exec (.injectionGo a v) s = .next (if (s.store Reg.SRV_INJ_CTRL a 0 v).injRefused a = true then
      (s.store Reg.SRV_INJ_CTRL a 0 v).setFld Reg.SRV_INJ_CTRL_RESULT a 2 else (s.store Reg.SRV_INJ_CTRL a 0 v).injStarted a) := by
  show execInjectionGo a v s = _
  rw [execInjectionGo, State.powered_awake _ _ hawake, if_pos ⟨ha, hgo⟩, State.injCtrlWrite, if_pos hwritable]
  dsimp only
  rw [if_pos hgo, if_neg (by omega)]
  rfl

theorem exec_injectionStop_running {r : InjRun} (hstop : Reg.SRV_INJ_CTRL_STOP.get v = 1)
    (hgo : Reg.SRV_INJ_CTRL_GO.get v = 0) (hinj : (s.sv a).inj = some r)
    (hdue : (s.store Reg.SRV_INJ_CTRL a 0 v).injDue a = false) :
    exec (.injectionStop a v) s = .next ((s.store Reg.SRV_INJ_CTRL a 0 v).injEnd a 5) := by
  show execInjectionStop a v s = _
  rw [execInjectionStop, State.powered_awake _ _ hawake, if_pos ⟨ha, hstop⟩, State.injCtrlWrite, if_pos hwritable]
  dsimp only
  rw [if_neg (by omega), if_pos ⟨hstop, by simp [hinj]⟩, if_neg (by simp [hdue])]

end

theorem exec_injectionStepEnd_eq : exec (.injectionStepEnd a) s = .next (s.injStepEnd a) := by
  show execInjectionStepEnd a s = _
  rw [execInjectionStepEnd, State.powered_awake _ _ hawake, if_pos ha]

end

/-! ## Capture (R221) -/

/-- A capture is armed: it waits for its trigger with no record taken. -/
def State.capArmed (s : State) (a : Nat) : State :=
  ((s.setFld Reg.SRV_CAP_CTRL_ARM a 1).setFld Reg.SRV_CAP_CTRL_STATE a 1).setSv a { s.sv a with cap := 0 }

theorem State.capArmed_spec (s : State) (a : Nat) :
    (s.capArmed a).fld Reg.SRV_CAP_CTRL_ARM a = 1 ∧ (s.capArmed a).fld Reg.SRV_CAP_CTRL_STATE a = 1 ∧
      ((s.capArmed a).sv a).cap = 0 ∧ State.WritesIn (· = Reg.SRV_CAP_CTRL.addr a 0) s (s.capArmed a) := by
  obtain ⟨harm, hst, hwrites⟩ := s.setFld_setFld_spec (f := Reg.SRV_CAP_CTRL_ARM) (g := Reg.SRV_CAP_CTRL_STATE) (by decide) a
    (v := 1) (w := 1) (by decide) (by decide)
  unfold State.capArmed
  rw [State.fld_setSv, State.fld_setSv, State.sv_setSv_same]
  exact ⟨harm, hst, rfl, hwrites.trans (.setSv _ _ a _)⟩

section
variable {s : State} {a : Nat} (hawake : s.glb.dormant = false) (ha : a < s.nAct)
include hawake ha

theorem exec_captureArm_idle {v : Word} (harm : Reg.SRV_CAP_CTRL_ARM.get v = 1)
    (hwritable : s.regWritable Reg.SRV_CAP_CTRL a 0 v = true) (hidle : s.flag Reg.SRV_CAP_CTRL_ARM a = false) :
    exec (.captureArm a v) s = .next ((s.store Reg.SRV_CAP_CTRL a 0 v).capArmed a) := by
  show execCaptureArm a v s = _
  rw [execCaptureArm, State.powered_awake _ _ hawake, if_pos ⟨ha, harm⟩, State.capCtrlWrite, if_pos hwritable]
  dsimp only
  rw [if_pos ⟨harm, by simp [hidle]⟩]
  rfl

theorem exec_captureEnd_full (hst : s.fld Reg.SRV_CAP_CTRL_STATE a = 2)
    (hfull : s.fld Reg.SRV_CAP_CTRL_LEN a ≤ (s.sv a).cap) :
    exec (.captureEnd a) s = .next ((s.setFld Reg.SRV_CAP_CTRL_STATE a 3).setFld Reg.SRV_CAP_CTRL_ARM a 0) := by
  show execCaptureEnd a s = _
  rw [execCaptureEnd, State.powered_awake _ _ hawake, if_pos ⟨ha, hst, hfull⟩]

end

/-! ## The statement -/

/-- Settles O16: a write of a control register is its store and then one named change of the engine, and each other command is
one named change; the specs of these changes give the fields, the registers and the bytes. -/
theorem servoLoadingAndTests : Obligations.ServoLoadingAndTests := by
  refine ⟨?load, ?unload, ?disable, ?profile, ?acquisition, ?setLoad, ?setLoadEnd, ?setSwitch, ?injGo, ?injStop, ?injStep,
    ?capArm, ?capEnd⟩
  case load =>
    intro s a v hawake ha hload hunload hwritable u hen hst hspin hmode hfence hrejoin hstep
    obtain ⟨hstate, hprof, hflag, hbytes⟩ := u.loadStarted_spec (Nat.lt_of_lt_of_le ha s.nAct_le)
    refine ⟨u.loadStarted a, ?_, hstate, hprof, hflag, (s.store_writes ..).sameBytes.trans hbytes⟩
    rw [exec_servoLoad_alone hawake ha hwritable hload hunload hen,
      State.servoLoad_starts hen hst hspin hmode hfence hrejoin hstep]
  case unload => exact fun s a v hawake ha hunload hload hwritable => exec_servoUnload_alone hawake ha hwritable hunload hload
  case disable =>
    exact fun s a v hawake ha hen hunload hload hwritable hwas hnow =>
      exec_servoEngineDisable_alone hawake ha hwritable hen hload hwas hnow
  case profile =>
    intro s a k load hawake ha hprof hfree
    have hexec := exec_profileStepEnd_free hawake ha hprof hfree
    exact ⟨fun hnext => by rw [hexec, if_pos hnext],
      fun hover hload => by rw [hexec, if_neg (not_not_intro hover), if_pos hload],
      fun hover hload => by rw [hexec, if_neg (not_not_intro hover), if_neg (by simp [hload])]⟩
  case acquisition => exact fun s a hawake ha hst => exec_acquisitionTimeout_acquiring hawake ha hst
  case setLoad =>
    intro s a v hawake ha hgo hwritable hidle hnone hband
    obtain ⟨hload, hgo', hresult, hwrites⟩ := (s.store Reg.SRV_LOAD a 0 v).takeLoad_spec a
      ((s.store Reg.SRV_LOAD a 0 v).hostLoad a v)
    have hall := (s.store_writes ..).trans hwrites
    exact ⟨_, _, exec_servoSetLoad_taken hawake ha hgo hwritable hidle hnone hband, hload, rfl, rfl, rfl, hgo', hresult,
      hall.sameRegs, hall.sameBytes⟩
  case setLoadEnd =>
    intro s a l hawake ha hload
    refine ⟨exec_servoSetLoadEnd_running hawake ha hload, fun ws hhost hread hgood => ?_⟩
    rw [State.setLoadEnd_good hload hhost hread hgood]
    exact s.setReady_spec a l _
  case setSwitch =>
    intro s a l hawake ha hdone hswitch hinj
    have hwrites := (State.WritesIn.setSv (· = Reg.SRV_STAT.addr a 0) s a (s.sv a).switched).trans
      (.of_records (.setFld (f := Reg.SRV_STAT_BANK) _ (1 - s.fld Reg.SRV_STAT_BANK a) rfl))
    refine ⟨_, exec_servoSetSwitch_ready hawake ha hdone hswitch hinj, ?_, ?_, ?_, hwrites.sameRegs, hwrites.sameBytes⟩
    · rw [State.sv_setFld, State.sv_setSv_same, SrvS.switched]
    · rw [State.sv_setFld, State.sv_setSv_same, SrvS.switched]
    · rw [State.fld_setFld_same _ _ _ _ (by decide) (by decide)]
      exact Nat.mod_eq_of_lt (Nat.lt_of_le_of_lt (Nat.sub_le ..) (by decide))
  case injGo =>
    intro s a v hawake ha hgo hstop hwritable u
    have hbytes := (s.store_writes Reg.SRV_INJ_CTRL a 0 v).sameBytes
    have hexec := exec_injectionGo_alone hawake ha hwritable hgo hstop
    refine ⟨fun hfree => ?_, fun hrefused => ?_⟩
    · obtain ⟨hinj, hgo', hresult, hstarted⟩ := u.injStarted_spec a
      exact ⟨u.injStarted a, u.injAsked a, by rw [hexec, if_neg (ne_true_of_eq_false hfree)], hinj, rfl, rfl, hgo', hresult,
        hbytes.trans hstarted⟩
    · exact ⟨u.setFld Reg.SRV_INJ_CTRL_RESULT a 2, by rw [hexec, if_pos hrefused],
        u.fld_setFld_same Reg.SRV_INJ_CTRL_RESULT a 2 (by decide) (by decide),
        (u.setFld_srv ..).trans (s.srv_store ..), hbytes.trans (u.setFld_sameBytes ..)⟩
  case injStop =>
    intro s a v r hawake ha hstop hgo hwritable hinj hdue
    obtain ⟨hend, hresult, hgo', hwrites⟩ := State.injEnd_spec (s := s.store Reg.SRV_INJ_CTRL a 0 v) (res := 5)
      ((congrArg SrvS.inj (s.sv_store ..)).trans hinj) (by decide)
    have hall := (s.store_writes ..).trans hwrites
    exact ⟨_, exec_injectionStop_running hawake ha hwritable hstop hgo hinj hdue, hend, hresult, hgo', hall.sameRegs,
      hall.sameBytes⟩
  case injStep =>
    intro s a r hawake ha hinj hdue hnoise
    obtain ⟨hend, hresult, hgo, hwrites⟩ := State.injEnd_spec hinj (res := 1) (by decide)
    exact ⟨_, by rw [exec_injectionStepEnd_eq hawake ha, State.injStepEnd_noise hinj hdue hnoise], hend, hresult, hgo,
      hwrites.sameRegs, hwrites.sameBytes⟩
  case capArm =>
    intro s a v hawake ha harm hwritable hidle
    obtain ⟨harm', hst, hcap, hwrites⟩ := (s.store Reg.SRV_CAP_CTRL a 0 v).capArmed_spec a
    have hall := (s.store_writes ..).trans hwrites
    exact ⟨_, exec_captureArm_idle hawake ha harm hwritable hidle, harm', hst, hcap, hall.sameRegs, hall.sameBytes⟩
  case capEnd =>
    intro s a hawake ha hst hfull
    obtain ⟨hst', harm, hwrites⟩ := s.setFld_setFld_spec (f := Reg.SRV_CAP_CTRL_STATE) (g := Reg.SRV_CAP_CTRL_ARM)
      (by decide) a (v := 3) (w := 0) (by decide) (by decide)
    exact ⟨_, exec_captureEnd_full hawake ha hst hfull, hst', harm, rfl, hwrites.sameRegs, hwrites.sameBytes⟩

/-! ## States that meet the hypotheses -/

/-- Engine 3 is Unloaded over a spinning HDA, and the first two steps of its profiles last. -/
def unloadedOverSpinning : State :=
  (((Tests.w0.setFld Reg.SPN_STAT_HDA_STATE 1 hdaSpinning).setFldJ Reg.SRV_LPROF_US 3 0 100).setFldJ Reg.SRV_LPROF_US 3 1
    100).setFldJ Reg.SRV_UPROF_US 3 1 100

theorem servoLoad_unloadedOverSpinning : ∃ y : State,
    exec (.servoLoad 3 0x3) unloadedOverSpinning = .next (y.engineSettle 3) ∧ y.srvState 3 = srvLoading := by
  obtain ⟨hload, -⟩ := servoLoadingAndTests
  obtain ⟨y, hexec, hst, -⟩ := hload unloadedOverSpinning 3 0x3 (by decide) (by decide) (by decide) (by decide) (by decide)
    (by decide) (by decide) (by decide) (by decide) (by decide) (by decide) (by decide)
  exact ⟨y, hexec, hst⟩

theorem servoUnload_following : exec (.servoUnload 3 0x5) (engineIn srvFollowing {}) =
    .next (((engineIn srvFollowing {}).store Reg.SRV_CTRL 3 0 0x5).servoUnload 3) := by
  obtain ⟨-, hunload, -⟩ := servoLoadingAndTests
  exact hunload _ 3 0x5 (by decide) (by decide) (by decide) (by decide) (by decide)

/-- Engine 3 is enabled and follows. -/
def enabledFollowing : State := (engineIn srvFollowing {}).setFld Reg.SRV_CTRL_EN 3 1

theorem servoEngineDisable_enabledFollowing : exec (.servoEngineDisable 3 0) enabledFollowing =
    .next ((enabledFollowing.store Reg.SRV_CTRL 3 0 0).servoUnload 3) := by
  obtain ⟨-, -, hdisable, -⟩ := servoLoadingAndTests
  exact hdisable _ 3 0 (by decide) (by decide) (by decide) (by decide) (by decide) (by decide) (by decide) (by decide)

/-- A profile of engine 3 plays a step. -/
def playing (load : Bool) (k : Nat) : State := unloadedOverSpinning.setSv 3 { prof := some (load, k) }

/-- Step 1 follows step 0. -/
theorem profileStepEnd_step0 : exec (.profileStepEnd 3) (playing true 0) =
    .next ((((playing true 0).setSv 3 { prof := some (true, 1) }).profileCode 3 0).driveSettle 1) := by
  obtain ⟨-, -, -, hprofile, -⟩ := servoLoadingAndTests
  obtain ⟨hnext, -⟩ := hprofile (playing true 0) 3 0 true (by decide) (by decide) (by decide) (by decide)
  exact hnext (by decide)

/-- Step 3 is the last one of either profile. -/
theorem profileStepEnd_step3 :
    (exec (.profileStepEnd 3) (playing true 3) =
      .next ((((playing true 3).setSv 3 {}).srvTo 3 srvAcquiring).driveSettle 1)) ∧
    (exec (.profileStepEnd 3) (playing false 3) = .next (((playing false 3).unloadDone 3).driveSettle 1)) := by
  obtain ⟨-, -, -, hprofile, -⟩ := servoLoadingAndTests
  obtain ⟨-, hloaded, -⟩ := hprofile (playing true 3) 3 3 true (by decide) (by decide) (by decide) (by decide)
  obtain ⟨-, -, hparked⟩ := hprofile (playing false 3) 3 3 false (by decide) (by decide) (by decide) (by decide)
  exact ⟨hloaded (by decide) rfl, hparked (by decide) rfl⟩

theorem acquisitionTimeout_acquiring : exec (.acquisitionTimeout 3) (engineIn srvAcquiring {}) =
    .next (((((engineIn srvAcquiring {}).setFld Reg.SRV_CTRL_LOAD 3 0).startUnloadProfile 3).srvFault 3 2).driveSettle 1) := by
  obtain ⟨-, -, -, -, hacquisition, -⟩ := servoLoadingAndTests
  exact hacquisition _ 3 (by decide) (by decide) (by decide)

/-- A load of every part of the present band's set. -/
theorem servoSetLoad_everyPart : ∃ (t : State) (l : SetLoad),
    exec (.servoSetLoad 3 0x80000FFF) (engineIn srvFollowing {}) = .next t ∧ (t.sv 3).load = some l ∧ l.mask = 0xFFF := by
  obtain ⟨-, -, -, -, -, hset, -⟩ := servoLoadingAndTests
  obtain ⟨t, l, hexec, hload, hmask, -⟩ := hset (engineIn srvFollowing {}) 3 0x80000FFF (by decide) (by decide) (by decide)
    (by decide) (by decide) (by decide) (.inr (by decide))
  exact ⟨t, l, hexec, hload, hmask⟩

/-- A load of every part from the address of SRV_LOAD_ADDR. -/
def fullLoad : SetLoad := { mask := 0xFFF, band := 0, host := true, mode := 1 }

theorem servoSetLoadEnd_fullLoad : exec (.servoSetLoadEnd 3) (engineIn srvFollowing { load := some fullLoad }) =
    .next ((((engineIn srvFollowing { load := some fullLoad }).setLoadEnd 3).driveSettle 1).gateSettle) := by
  obtain ⟨-, -, -, -, -, -, hend, -⟩ := servoLoadingAndTests
  exact (hend _ 3 fullLoad (by decide) (by decide) (by decide)).1

/-- A set that has been loaded becomes active, and the banks change. -/
theorem servoSetSwitch_loaded : ∃ t : State,
    exec (.servoSetSwitch 3) (engineIn srvFollowing { loading := [7], switch := some fullLoad }) = .next t ∧
      (t.sv 3).active = [7] ∧ t.fld Reg.SRV_STAT_BANK 3 = 1 := by
  obtain ⟨-, -, -, -, -, -, -, hswitch, -⟩ := servoLoadingAndTests
  obtain ⟨t, hexec, hactive, -, hbank, -⟩ := hswitch (engineIn srvFollowing { loading := [7], switch := some fullLoad }) 3
    fullLoad (by decide) (by decide) (by decide) (by decide) (by decide)
  exact ⟨t, hexec, hactive, hbank⟩

/-- Engine 3 follows on a tracking HDA, with an amplitude for a test. -/
def trackingWith (amp : Nat) : State :=
  ((engineIn srvFollowing {}).setFld Reg.SPN_STAT_HDA_STATE 1 hdaTracking).setFld Reg.SRV_INJ_AMP_AMP 3 amp

/-- The largest amplitude of a point without a limit of its own, and one past it. -/
theorem injectionGo_amplitudes :
    (∃ t : State, exec (.injectionGo 3 0x80000000) (trackingWith 0x400) = .next t ∧ t.fld Reg.SRV_INJ_CTRL_GO 3 = 1) ∧
    (∃ t : State, exec (.injectionGo 3 0x80000000) (trackingWith 0x401) = .next t ∧ t.fld Reg.SRV_INJ_CTRL_RESULT 3 = 2) := by
  obtain ⟨-, -, -, -, -, -, -, -, hgo, -⟩ := servoLoadingAndTests
  obtain ⟨htaken, -⟩ := hgo (trackingWith 0x400) 3 0x80000000 (by decide) (by decide) (by decide) (by decide) (by decide)
  obtain ⟨-, hrefused⟩ := hgo (trackingWith 0x401) 3 0x80000000 (by decide) (by decide) (by decide) (by decide) (by decide)
  obtain ⟨t, r, hexec, -, -, -, hflag, -⟩ := htaken (by decide)
  obtain ⟨u, hexec', hresult, -⟩ := hrefused (by decide)
  exact ⟨⟨t, hexec, hflag⟩, ⟨u, hexec', hresult⟩⟩

/-- A run of noise into the comb that has gone on for some wedges. -/
def noiseRun (wedges : Nat) : InjRun := { point := 3, head := 0, signal := 2, inc := 0, k := wedges, begun := true }

/-- Engine 3 follows with a run that lasts two wedges. -/
def injecting (wedges : Nat) : State :=
  (engineIn srvFollowing { inj := some (noiseRun wedges) }).setFld Reg.SRV_INJ_DWELL_DWELL 3 2

/-- A run is stopped before its last wedge. -/
theorem injectionStop_wedge1 : ∃ t : State, exec (.injectionStop 3 0x08000000) (injecting 1) = .next t ∧ (t.sv 3).inj = none ∧
    t.fld Reg.SRV_INJ_CTRL_RESULT 3 = 5 := by
  obtain ⟨-, -, -, -, -, -, -, -, -, hstop, -⟩ := servoLoadingAndTests
  obtain ⟨t, hexec, hinj, hresult, -⟩ := hstop (injecting 1) 3 0x08000000 (noiseRun 1) (by decide) (by decide) (by decide)
    (by decide) (by decide) (by decide) (by decide)
  exact ⟨t, hexec, hinj, hresult⟩

/-- The last wedge ends it. -/
theorem injectionStepEnd_wedge2 : ∃ t : State, exec (.injectionStepEnd 3) (injecting 2) = .next t ∧ (t.sv 3).inj = none ∧
    t.fld Reg.SRV_INJ_CTRL_RESULT 3 = 1 := by
  obtain ⟨-, -, -, -, -, -, -, -, -, -, hstep, -⟩ := servoLoadingAndTests
  obtain ⟨t, hexec, hinj, hresult, -⟩ := hstep (injecting 2) 3 (noiseRun 2) (by decide) (by decide) (by decide) (by decide)
    (by decide)
  exact ⟨t, hexec, hinj, hresult⟩

theorem captureArm_idle : ∃ t : State, exec (.captureArm 3 0x80000005) (engineIn srvFollowing { cap := 9 }) = .next t ∧
    t.fld Reg.SRV_CAP_CTRL_STATE 3 = 1 ∧ (t.sv 3).cap = 0 := by
  obtain ⟨-, -, -, -, -, -, -, -, -, -, -, harm, -⟩ := servoLoadingAndTests
  obtain ⟨t, hexec, -, hst, hcap, -⟩ := harm (engineIn srvFollowing { cap := 9 }) 3 0x80000005 (by decide) (by decide)
    (by decide) (by decide) (by decide)
  exact ⟨t, hexec, hst, hcap⟩

/-- A capture runs, with as many records taken as its length names. -/
def captured : State :=
  ((engineIn srvFollowing { cap := 5 }).setFld Reg.SRV_CAP_CTRL_STATE 3 2).setFld Reg.SRV_CAP_CTRL_LEN 3 5

theorem captureEnd_captured : ∃ t : State, exec (.captureEnd 3) captured = .next t ∧ t.fld Reg.SRV_CAP_CTRL_STATE 3 = 3 := by
  obtain ⟨-, -, -, -, -, -, -, -, -, -, -, -, hend⟩ := servoLoadingAndTests
  obtain ⟨t, hexec, hst, -⟩ := hend captured 3 (by decide) (by decide) (by decide) (by decide)
  exact ⟨t, hexec, hst⟩

end Sys2Proof.Machine
end

section
/-!
PROOFS. The spindle controller's own state and its HDA's (R229, R231, R403, R477, R493): a spindle after a write, a block sent
to its port, the registers of a fault group and of an Attic record, and a change of the HDA's state.
-/

namespace Sys2Proof.Machine

/-! ## A spindle's own state -/

@[simp] theorem State.spnS_setSpn_same (s : State) (n : Nat) (x : SpnS) : (s.setSpn n x).spnS n = x := by
  simp [State.spnS, State.setSpn]

@[simp] theorem State.fld_setSpn (s : State) (n : Nat) (x : SpnS) (f : Fld) (i : Nat) :
    (s.setSpn n x).fld f i = s.fld f i := rfl

@[simp] theorem State.spnS_setFld (s : State) (f : Fld) (i v n : Nat) : (s.setFld f i v).spnS n = s.spnS n := rfl

theorem State.WritesIn.setSpn (P : Nat → Prop) (s : State) (n : Nat) (x : SpnS) : State.WritesIn P s (s.setSpn n x) :=
  ⟨⟨rfl, rfl, rfl, rfl, rfl⟩, fun _ _ => rfl⟩

/-- What records its work in registers leaves the spindles alone. -/
theorem State.RecordsIn.spn_eq {P : Nat → Prop} {s t : State} (h : State.RecordsIn P s t) : t.spn = s.spn := by
  obtain ⟨⟨q, x, r, rfl⟩, -⟩ := h
  rfl

theorem State.RecordsIn.spnS_eq {P : Nat → Prop} {s t : State} (h : State.RecordsIn P s t) (n : Nat) : t.spnS n = s.spnS n :=
  congrArg (mget _ · n) h.spn_eq

@[simp] theorem State.spn_store (s : State) (r : Reg) (i j : Nat) (v : Word) : (s.store r i j v).spn = s.spn :=
  (s.store_records r i j v).spn_eq

@[simp] theorem State.spnS_store (s : State) (r : Reg) (i j : Nat) (v : Word) (n : Nat) :
    (s.store r i j v).spnS n = s.spnS n := (s.store_records r i j v).spnS_eq n

theorem State.WritesIn.sameRegs_pair {P : Nat → Prop} {s t : State} {r r' : Nat} (h : State.WritesIn P s t)
    (hP : ∀ b, P b → b = r ∨ b = r') : s.SameRegs t [r, r'] :=
  fun b hb => h.2 b fun hp => hb (by simpa using hP b hp)

/-! ## Blocks of the spindle class (R50, R54, R231) -/

/-- A SPINDLE block goes to its port, or comes back to it as a failure (R54, R545). -/
theorem State.drive_eq (s : State) (n apply modes mode duty : Nat) :
    ∃ h, s.drive n apply modes mode duty = { s with hlk := h } := by
  unfold State.drive State.sendCmd
  split
  · exact ⟨_, rfl⟩
  · exact ⟨_, rfl⟩

section
variable (s : State) (n apply modes mode duty : Nat)

@[simp] theorem State.rdA_drive (b : Nat) : (s.drive n apply modes mode duty).rdA b = s.rdA b := by
  obtain ⟨h, hdrive⟩ := s.drive_eq n apply modes mode duty
  rw [hdrive]
  rfl

@[simp] theorem State.fld_drive (f : Fld) (i : Nat) : (s.drive n apply modes mode duty).fld f i = s.fld f i :=
  congrArg f.get (s.rdA_drive n apply modes mode duty _)

@[simp] theorem State.spnS_drive (m : Nat) : (s.drive n apply modes mode duty).spnS m = s.spnS m := by
  obtain ⟨h, hdrive⟩ := s.drive_eq n apply modes mode duty
  rw [hdrive]
  rfl

theorem State.drive_writes (P : Nat → Prop) : State.WritesIn P s (s.drive n apply modes mode duty) := by
  refine ⟨?_, fun b _ => s.rdA_drive n apply modes mode duty b⟩
  obtain ⟨h, hdrive⟩ := s.drive_eq n apply modes mode duty
  rw [hdrive]
  exact ⟨rfl, rfl, rfl, rfl, rfl⟩

end

/-- A commutation step shows its duty and no other field, and changes nothing of the spindle. -/
theorem State.fld_phaseStep_ne (s : State) (n apply k duty : Nat) {f : Fld} {i : Nat}
    (h : f.reg.addr i 0 ≠ Reg.SPN_DUTYNOW.addr n 0) : (s.phaseStep n apply k duty).fld f i = s.fld f i :=
  (State.fld_setFld_ne _ Reg.SPN_DUTYNOW_D f n i duty h).trans (State.fld_drive ..)

@[simp] theorem State.spnS_phaseStep (s : State) (n apply k duty m : Nat) :
    (s.phaseStep n apply k duty).spnS m = s.spnS m := by
  rw [State.phaseStep, State.spnS_setFld, State.spnS_drive]

/-! ## The registers of a fault group and of an Attic record (R476, R477, R494) -/

/-- The registers of a source's fault group, and the word of GLB_FSUM that shows the group. -/
def faultReg (src a : Nat) : Prop :=
  a = Reg.GLB_FSUM.addr 0 (src / 32) ∨ (faultBase src + 0xF00 ≤ a ∧ a < faultBase src + 0x1000)

theorem faultReg_flt (src : Nat) {r : Reg} {j : Nat} (hlo : 0xF00 ≤ r.off) (hhi : r.off + j * r.step < 0x1000) :
    faultReg src ((r.flt src).addr 0 j) := by
  refine .inr ?_
  simp only [Reg.addr, Reg.flt]
  omega

theorem State.pushHist_records_group (s : State) (src : Nat) (e : Word) :
    State.RecordsIn (faultReg src) s (s.pushHist src e) := by
  have hhist {j : Nat} (hj : j < 8) : faultReg src ((Reg.FLT_HIST.flt src).addr 0 j) :=
    faultReg_flt src (by decide) (by simp only [Reg.FLT_HIST]; omega)
  refine (State.RecordsIn.foldl (fun u kv hkv => .wr u _ (hhist ?_)) s).trans (.wr _ e (hhist (by decide)))
  have hk : kv.1 < 7 := List.mem_range.1 (List.of_mem_zip hkv).1
  omega

theorem State.noteCause_records_group (s : State) (src bit : Nat) (inj quiet : Bool) :
    State.RecordsIn (faultReg src) s (s.noteCause src bit inj quiet) := by
  have hcauses (u : State) (mask : Nat) : State.RecordsIn (faultReg src) u (u.setCauses src mask) :=
    .setCauses u mask (faultReg_flt src (by decide) (by decide)) (.inl rfl)
  exact (((State.RecordsIn.quiet s _).trans (hcauses _ _)).trans (State.pushHist_records_group _ src _)).trans
    (.wr _ _ (faultReg_flt src (by decide) (by decide)))

/-- A spindle's fault group (R385, R476). -/
theorem faultBase_spn {n : Nat} (hn : n < 16) : faultBase (srcSPN n) = 0x00580000 + n * 0x1000 := by
  rw [faultBase, srcSPN, if_neg (by omega), if_neg (by omega), if_neg (by omega), if_pos (by omega), Nat.add_sub_cancel_left]

/-- A record of the Attic, or its loss, writes no register above the Attic's own (R494, R540). -/
theorem State.atticEvent_records_below (s : State) (trig : Nat) (snaps : List Word) :
    State.RecordsIn (· < 0x00031000) s (s.atticEvent trig snaps) := by
  have hgroup : ∀ a, faultReg srcATC a → a < 0x00031000 := by
    rintro a (rfl | ⟨-, ha⟩)
    · decide
    · exact ha
  unfold State.atticEvent State.attic
  split
  · split
    · exact .attic _ _
    · exact ((State.RecordsIn.wr s _ (by decide)).trans
        ((State.noteCause_records_group _ srcATC 0 false false).mono hgroup)).trans (.attic _ _)
  · exact .refl _ s

/-! ## A change of the HDA's state (R229, R403, R493) -/

/-- Registers below those of the drives, up to the Attic's, and above them, from the sequencers' on (R540). -/
def outsideDrives (a : Nat) : Prop := a < 0x00031000 ∨ 0x00B00000 ≤ a

theorem spn_not_outsideDrives {r : Reg} {n : Nat} (hn : n < 16) (hbase : r.base = 0x00500000) (hstride : r.stride = 0x800)
    (hoff : r.off < 0x800) : ¬ outsideDrives (r.addr n 0) := by
  simp only [outsideDrives, Reg.addr, hbase, hstride]
  omega

/-- A field put at the value that it holds. -/
theorem Fld.put_get (f : Fld) (w : Word) (h : f.lo ≤ f.hi) : f.put w (f.get w) = w := by
  apply BitVec.eq_of_toNat_eq
  have hbits : putBits w.toNat f.hi f.lo (f.get w) = w.toNat := by
    apply Nat.eq_of_testBit_eq
    intro k
    rw [testBit_putBits _ _ _ _ _ (by omega)]
    split
    · rw [Fld.get, testBit_bitsOf, decide_eq_true (by omega), Nat.sub_add_cancel (by omega), Bool.true_and]
    · rfl
  rw [Fld.put, hbits, word, BitVec.toNat_ofNat, Nat.mod_eq_of_lt w.isLt]

theorem State.rdA_setFld_fld (s : State) (f : Fld) (i : Nat) (h : f.lo ≤ f.hi) (a : Nat) :
    (s.setFld f i (s.fld f i)).rdA a = s.rdA a := by
  rw [State.setFld, State.setFldJ, State.rdA_wr, State.fld, State.fldJ, Fld.put_get _ _ h]
  split
  · rename_i haddr
    rw [haddr, State.rd]
  · rfl

/-- A change of state sets SPN_STAT.HDA_STATE, and what else it writes lies outside the drives: the Attic's record and the
sequencers' events. -/
theorem State.hdaTo_writes (s : State) (n st : Nat) :
    State.WritesIn outsideDrives (s.setFld Reg.SPN_STAT_HDA_STATE n st) (s.hdaTo n st) := by
  unfold State.hdaTo
  dsimp only
  split
  · rename_i hsame
    refine ⟨⟨rfl, rfl, rfl, rfl, rfl⟩, fun b _ => ?_⟩
    rw [← hsame, State.hdaState, State.rdA_setFld_fld _ _ _ (by decide)]
  · refine State.WritesIn.trans ?_ ((State.hdaEvent_writes _ n).mono fun _ => .inr)
    split
    · exact (State.WritesIn.of_records (State.atticEvent_records_below _ _ _)).mono fun _ => .inl
    · exact .refl _ _

section
variable (s : State) {n st : Nat} (hn : n < 16)
include hn

theorem State.hdaState_hdaTo (hst : st < 16) : (s.hdaTo n st).hdaState n = st := by
  rw [State.hdaState, (s.hdaTo_writes n st).fld_eq (f := Reg.SPN_STAT_HDA_STATE)
    (spn_not_outsideDrives hn rfl rfl (by decide)), State.fld_setFld_same _ _ _ _ (by decide) (by decide)]
  exact Nat.mod_eq_of_lt hst

theorem State.phase_hdaTo : (s.hdaTo n st).fld Reg.SPN_STAT_PHASE n = s.fld Reg.SPN_STAT_PHASE n := by
  rw [(s.hdaTo_writes n st).fld_eq (f := Reg.SPN_STAT_PHASE) (spn_not_outsideDrives hn rfl rfl (by decide)),
    State.fld_setFld_beside _ Reg.SPN_STAT_HDA_STATE Reg.SPN_STAT_PHASE _ _ rfl (by decide) (by decide) (by decide)]

/-- SPN_CTRL lies beside SPN_STAT. -/
theorem State.ctrl_hdaTo {f : Fld} (hf : f.reg = Reg.SPN_CTRL) : (s.hdaTo n st).fld f n = s.fld f n := by
  rw [(s.hdaTo_writes n st).fld_eq (hf ▸ spn_not_outsideDrives (r := Reg.SPN_CTRL) hn rfl rfl (by decide)),
    State.fld_setFld_ne _ Reg.SPN_STAT_HDA_STATE _ _ _ _
      (hf ▸ seqReg_addr_ne (r := Reg.SPN_CTRL) n rfl rfl (by decide))]

end

@[simp] theorem State.seqEvents_spn (s : State) (qs : List Nat) (i : Nat) : (s.seqEvents qs i).spn = s.spn := by
  induction qs generalizing s with
  | nil => rfl
  | cons q qs ih =>
    refine (ih (s.seqEvent q i)).trans ?_
    unfold State.seqEvent
    split <;> rfl

/-- The spindles' own state does not see a change of an HDA's. -/
@[simp] theorem State.spnS_hdaTo (s : State) (n st m : Nat) : (s.hdaTo n st).spnS m = s.spnS m := by
  refine congrArg (mget _ · m) ?_
  unfold State.hdaTo
  dsimp only
  split
  · rfl
  · rw [State.hdaEvent, State.seqEvents_spn]
    split
    · exact (State.atticEvent_records_below _ _ _).spn_eq
    · rfl

end Sys2Proof.Machine
end

section
/-!
PROOFS. A spindle starts (R227, R230, R237 to R242, R245, R251): the writes of SPN_CTRL and SPN_TARGET, the end of the Listen
window, Still, Align, and the steps of the blind ramp.
-/

namespace Sys2Proof.Machine

theorem State.nHda_le (s : State) : s.nHda ≤ 16 := by
  unfold State.nHda
  split <;> omega

/-- A write of one register leaves the fields of another. -/
theorem State.fld_store_ne (s : State) {r : Reg} {i j : Nat} (v : Word) {f : Fld} {k : Nat}
    (h : f.reg.addr k 0 ≠ r.addr i j) : (s.store r i j v).fld f k = s.fld f k := (s.store_writes r i j v).fld_eq h

/-! ## A write of SPN_CTRL (R230, R245) -/

/-- The HDA's state does not see a write of SPN_CTRL. -/
@[simp] theorem State.hdaState_store_ctrl (s : State) (n : Nat) (v : Word) :
    (s.store Reg.SPN_CTRL n 0 v).hdaState n = s.hdaState n :=
  s.fld_store_ne v (f := Reg.SPN_STAT_HDA_STATE) (seqReg_addr_ne (r := Reg.SPN_STAT) n rfl rfl (by decide))

theorem State.fenced_store_ctrl (s : State) {n : Nat} (hn : n < 16) (v : Word) :
    (s.store Reg.SPN_CTRL n 0 v).fenced (srcSPN n) = s.fenced (srcSPN n) := by
  refine congrArg (· == 1) (s.fld_store_ne v ?_)
  simp only [Fld.flt, Reg.flt, Reg.addr, Reg.FLT_FENCE_FENCE, Reg.FLT_FENCE, Reg.SPN_CTRL, faultBase_spn hn]
  omega

theorem State.mode_store_ctrl (s : State) (n : Nat) (v : Word) : (s.store Reg.SPN_CTRL n 0 v).mode = s.mode := by
  refine s.fld_store_ne v ?_
  simp only [Reg.addr, Reg.GLB_MODE_MODE, Reg.GLB_MODE, Reg.SPN_CTRL]
  omega

section
variable {s : State} {n : Nat} {v : Word} (hwritable : s.regWritable Reg.SPN_CTRL n 0 v = true)
include hwritable

theorem State.spnCtrlWrite_start (hwas : s.flag Reg.SPN_CTRL_EN n = true) (hstop : Reg.SPN_CTRL_STOP.get v = 0)
    (hnow : (s.store Reg.SPN_CTRL n 0 v).flag Reg.SPN_CTRL_EN n = true) (hstart : Reg.SPN_CTRL_START.get v = 1)
    (hresync : Reg.SPN_CTRL_RESYNC.get v = 0) : s.spnCtrlWrite n v = (s.store Reg.SPN_CTRL n 0 v).spnStart n := by
  simp [State.spnCtrlWrite, hwritable, hwas, hnow, hstop, hstart, hresync]

/-- RESYNC stays set until its boundary. -/
theorem State.spnCtrlWrite_resync (hwas : s.flag Reg.SPN_CTRL_EN n = true) (hstop : Reg.SPN_CTRL_STOP.get v = 0)
    (hnow : (s.store Reg.SPN_CTRL n 0 v).flag Reg.SPN_CTRL_EN n = true) (hstart : Reg.SPN_CTRL_START.get v = 0)
    (hresync : Reg.SPN_CTRL_RESYNC.get v = 1) :
    s.spnCtrlWrite n v = (s.store Reg.SPN_CTRL n 0 v).setFld Reg.SPN_CTRL_RESYNC n 1 := by
  simp [State.spnCtrlWrite, hwritable, hwas, hnow, hstop, hstart, hresync]

/-- EN set anchors the reference. -/
theorem State.spnCtrlWrite_enable (hwas : s.flag Reg.SPN_CTRL_EN n = false) (hstop : Reg.SPN_CTRL_STOP.get v = 0)
    (hnow : (s.store Reg.SPN_CTRL n 0 v).flag Reg.SPN_CTRL_EN n = true) (hstart : Reg.SPN_CTRL_START.get v = 0)
    (hresync : Reg.SPN_CTRL_RESYNC.get v = 0) : s.spnCtrlWrite n v = (s.store Reg.SPN_CTRL n 0 v).anchor n := by
  simp [State.spnCtrlWrite, hwritable, hwas, hnow, hstop, hstart, hresync]

end

/-! ## START (R230, R237) -/

@[simp] theorem State.fld_listen (s : State) (n : Nat) (f : Fld) (i : Nat) : (s.listen n).fld f i = s.fld f i := by
  rw [State.listen, State.coast, State.fld_drive, State.fld_setSpn]

theorem State.spnS_listen (s : State) (n : Nat) :
    (s.listen n).spnS n = { s.spnS n with edges := [], closed := false } := by
  rw [State.listen, State.coast, State.spnS_drive, State.spnS_setSpn_same]

theorem State.listen_writes (P : Nat → Prop) (s : State) (n : Nat) : State.WritesIn P s (s.listen n) :=
  (State.WritesIn.setSpn P s n _).trans (State.drive_writes ..)

/-- The HDA is Starting, before its Listen window opens. -/
def State.startTaken (s : State) (n : Nat) : State :=
  ((s.setFld Reg.SPN_CTRL_START n 1).setFld Reg.SPN_STAT_PHASE n 0).hdaTo n hdaStarting

/-- A START that is taken: the HDA is Starting, and its first attempt listens. -/
def State.startListening (s : State) (n : Nat) : State :=
  ((s.startTaken n).setSpn n { (s.startTaken n).spnS n with tries := 0, brake := 0, why := 0 }).listen n

theorem State.spnStart_taken {s : State} {n : Nat} (hst : s.hdaState n = hdaStopped) (hen : s.flag Reg.SPN_CTRL_EN n = true)
    (hfence : s.fenced (srcSPN n) = false) (hmode : s.mode ≠ modeQuiescent)
    (hbus : (s.busGroup n).all (fun h => (s.spnS h).ov == 0) = true) : s.spnStart n = s.startListening n := by
  rw [State.spnStart, if_pos ⟨hst, hen, by simp [hfence], hmode, hbus⟩]
  rfl

theorem State.startTaken_spec (s : State) {n : Nat} (hn : n < 16) :
    (s.startTaken n).hdaState n = hdaStarting ∧ (s.startTaken n).fld Reg.SPN_CTRL_START n = 1 ∧
      (s.startTaken n).fld Reg.SPN_STAT_PHASE n = 0 ∧ s.SameBytes (s.startTaken n) := by
  refine ⟨State.hdaState_hdaTo _ hn (by decide), ?_, ?_, ?_⟩
  · rw [State.startTaken, State.ctrl_hdaTo _ hn rfl, State.fld_setFld_ne _ Reg.SPN_STAT_PHASE Reg.SPN_CTRL_START _ _ _
      (seqReg_addr_ne (r := Reg.SPN_CTRL) n rfl rfl (by decide)), State.fld_setFld_same _ _ _ _ (by decide) (by decide)]
    rfl
  · rw [State.startTaken, State.phase_hdaTo _ hn, State.fld_setFld_same _ _ _ _ (by decide) (by decide)]
    exact Nat.zero_mod _
  · exact (State.setFld_sameBytes s Reg.SPN_CTRL_START n 1).trans (State.hdaTo_writes _ n hdaStarting).sameBytes

theorem State.startListening_spec (s : State) {n : Nat} (hn : n < 16) :
    (s.startListening n).hdaState n = hdaStarting ∧ (s.startListening n).fld Reg.SPN_CTRL_START n = 1 ∧
      (s.startListening n).fld Reg.SPN_STAT_PHASE n = 0 ∧ ((s.startListening n).spnS n).tries = 0 ∧
      ((s.startListening n).spnS n).edges = [] ∧ ((s.startListening n).spnS n).closed = false ∧
      s.SameBytes (s.startListening n) := by
  obtain ⟨hst, hstart, hphase, hbytes⟩ := s.startTaken_spec hn
  rw [State.startListening, State.hdaState, State.fld_listen, State.fld_listen, State.fld_listen, State.spnS_listen,
    State.spnS_setSpn_same, State.fld_setSpn, State.fld_setSpn, State.fld_setSpn]
  exact ⟨hst, hstart, hphase, rfl, rfl, rfl, hbytes.trans
    ((State.WritesIn.setSpn anyReg _ n _).sameBytes.trans (State.listen_writes anyReg _ n).sameBytes)⟩

section
variable {s : State} {n : Nat} {v : Word} (hawake : s.glb.dormant = false) (hn : n < s.nHda)
include hawake hn

theorem exec_spindleStart_eq (hstart : Reg.SPN_CTRL_START.get v = 1) :
    exec (.spindleStart n v) s = .next ((s.spnCtrlWrite n v).driveSettle n) := by
  show execSpindleStart n v s = _
  rw [execSpindleStart, State.powered_awake _ _ hawake, if_pos ⟨hn, hstart⟩]

theorem exec_spindleEnable_eq (hen : Reg.SPN_CTRL_EN.get v ≠ s.fld Reg.SPN_CTRL_EN n) :
    exec (.spindleEnable n v) s = .next ((s.spnCtrlWrite n v).driveSettle n) := by
  show execSpindleEnable n v s = _
  rw [execSpindleEnable, State.powered_awake _ _ hawake, if_pos ⟨hn, hen⟩]

theorem exec_resync_eq (hresync : Reg.SPN_CTRL_RESYNC.get v = 1) :
    exec (.resync n v) s = .next ((s.spnCtrlWrite n v).driveSettle n) := by
  show execResync n v s = _
  rw [execResync, State.powered_awake _ _ hawake, if_pos ⟨hn, hresync⟩]

theorem exec_spnTarget_eq : exec (.spnTarget n v) s = .next ((s.spnTargetWrite n v).driveSettle n) := by
  show execSpnTarget n v s = _
  rw [execSpnTarget, State.powered_awake _ _ hawake, if_pos hn]

/-! ## The Listen window, Still and Align (R237, R238, R242) -/

theorem exec_listenWindowEnd_inListen (hst : s.hdaState n = hdaStarting) (hphase : s.fld Reg.SPN_STAT_PHASE n = 0) :
    exec (.listenWindowEnd n) s = .next ((s.listenDecide n).driveSettle n) := by
  show execListenWindowEnd n s = _
  rw [execListenWindowEnd, State.powered_awake _ _ hawake, if_pos hn, if_pos ⟨hst, hphase⟩]

theorem exec_stillEnd_starting (hst : s.hdaState n = hdaStarting) (hstill : (s.spnS n).brake = 4) :
    exec (.stillEnd n) s = .next (s.align n) := by
  show execStillEnd n s = _
  rw [execStillEnd, State.powered_awake _ _ hawake, if_pos ⟨hn, hstill⟩, if_pos hst]

theorem exec_alignEnd_inAlign (hst : s.hdaState n = hdaStarting) (hphase : s.fld Reg.SPN_STAT_PHASE n = 3) :
    exec (.alignEnd n) s = .next ((s.setFld Reg.SPN_STAT_PHASE n 4).setSpn n
      { s.spnS n with blind := 0, blindOk := 0, edgeSeen := false, apply := s.linkNow n }) := by
  show execAlignEnd n s = _
  rw [execAlignEnd, State.powered_awake _ _ hawake, if_pos ⟨hn, hst, hphase⟩]

end

/-- The mean interval between successive edges, in ticks of link time (R238). -/
def edgeMean (es : List Edge) : Rat :=
  ((((edgeIntervals es).foldl (· + ·) 0 : Nat)) : Rat) / (((edgeIntervals es).length : Nat) : Rat)

/-- The edges of a window show a spindle that can be caught: enough of them, all forward, at the speed of the handover or
above (R238). -/
def State.canCatch (s : State) (n : Nat) (es : List Edge) : Prop :=
  4 ≤ es.length ∧ forwardEdges es = true ∧
    ((s.fld Reg.SPN_START2_HANDOVER n : Nat) : Rat) ≤ rpmOf (s.pp n) (edgeMean es)

section
variable {s : State} {n : Nat}

theorem State.listenDecide_still (hfew : (s.spnS n).edges.length ≤ 1) : s.listenDecide n = s.align n := if_pos hfew

theorem State.listenDecide_catch {l : Edge} (hcatch : s.canCatch n (s.spnS n).edges)
    (hlast : (s.spnS n).edges.getLast? = some l) : s.listenDecide n = s.catchSpindle n (s.spnS n).edges l := by
  obtain ⟨hfour, hforward, hfast⟩ := hcatch
  rw [State.listenDecide]
  rw [if_neg (by omega), hlast]
  exact if_pos ⟨hfour, hforward, decide_eq_true hfast⟩

theorem State.listenDecide_brake (htwo : 2 ≤ (s.spnS n).edges.length) (hcatch : ¬ s.canCatch n (s.spnS n).edges) :
    s.listenDecide n = (s.setFld Reg.SPN_STAT_PHASE n 1).brakeShort n := by
  have hlast := List.getLast?_eq_some_getLast (l := (s.spnS n).edges) (List.ne_nil_of_length_pos (by omega))
  rw [State.listenDecide]
  rw [if_neg (by omega), hlast]
  refine if_neg ?_
  rintro ⟨hfour, hforward, hfast⟩
  exact hcatch ⟨hfour, hforward, of_decide_eq_true hfast⟩

end

/-! ## The blind ramp (R240) -/

/-- A spindle at its next blind step: the steps with an edge are consecutive ones. -/
def State.blindNext (s : State) (n : Nat) : SpnS :=
  let x := s.spnS n
  { x with
    blind := x.blind + 1, blindOk := if x.edgeSeen then x.blindOk else 0, miss := if x.edgeSeen then 0 else x.miss + 1
    step := (s.fld Reg.SPN_START2_ALIGN_STEP n + (x.blind + 1)) % 6
    apply := (x.apply + (s.blindTime n (x.blind + 1) - s.blindTime n x.blind)) % 2 ^ 32, edgeSeen := false, peak := 0 }

/-- The next blind step has commutated. -/
def State.blindStepped (s : State) (n : Nat) : State :=
  (s.setSpn n (s.blindNext n)).phaseStep n (s.blindNext n).apply (s.blindNext n).step (s.blindDuty n ((s.spnS n).blind + 1))

theorem State.fld_blindStepped (s : State) (n : Nat) {f : Fld} (h : f.reg.addr n 0 ≠ Reg.SPN_DUTYNOW.addr n 0) :
    (s.blindStepped n).fld f n = s.fld f n := by
  rw [State.blindStepped, State.fld_phaseStep_ne _ _ _ _ _ h, State.fld_setSpn]

/-- The speed that a blind step reaches does not see the step's commutation. -/
theorem State.blindReaches_blindStepped (s : State) (n k rpm : Nat) :
    (s.blindStepped n).blindReaches n k rpm = s.blindReaches n k rpm := by
  rw [State.blindReaches, State.pp, s.fld_blindStepped n (f := Reg.SPN_MOTOR_PP)
    (seqReg_addr_ne (r := Reg.SPN_MOTOR) n rfl rfl (by decide)), s.fld_blindStepped n (f := Reg.SPN_BLIND_BLIND_ACC)
    (seqReg_addr_ne (r := Reg.SPN_BLIND) n rfl rfl (by decide)), State.blindReaches, State.pp]

/-- What reaches a higher speed reaches a lower one. -/
theorem State.blindReaches_mono (s : State) (n k : Nat) {r r' : Nat} (hr : r ≤ r') (h : s.blindReaches n k r' = true) :
    s.blindReaches n k r = true := by
  rw [State.blindReaches, decide_eq_true_eq] at h ⊢
  exact (Nat.mul_le_mul_right _ (Nat.mul_le_mul hr hr)).trans h

theorem exec_blindRampStep_inRamp {s : State} {n : Nat} (hawake : s.glb.dormant = false) (hn : n < s.nHda)
    (hst : s.hdaState n = hdaStarting) (hphase : s.fld Reg.SPN_STAT_PHASE n = 4) :
    exec (.blindRampStep n) s = .next (
      if s.blindReaches n ((s.spnS n).blind + 1) (s.fld Reg.SPN_START2_HANDOVER n) = true ∧
          s.fld Reg.SPN_START2_HANDOVER_N n ≤ (s.blindNext n).blindOk then (s.blindStepped n).closeLoop n
      else if s.blindReaches n ((s.spnS n).blind + 1) (2 * s.fld Reg.SPN_START2_HANDOVER n) = true then
        ((s.blindStepped n).attemptFailed n).driveSettle n
      else s.blindStepped n) := by
  have hstart2 : Reg.SPN_START2.addr n 0 ≠ Reg.SPN_DUTYNOW.addr n 0 := seqReg_addr_ne n rfl rfl (by decide)
  have hok : ((s.blindStepped n).spnS n).blindOk = (s.blindNext n).blindOk := by
    rw [State.blindStepped, State.spnS_phaseStep, State.spnS_setSpn_same]
  show execBlindRampStep n s = _
  rw [execBlindRampStep, State.powered_awake _ _ hawake, if_pos ⟨hn, hst, hphase⟩, ← s.blindReaches_blindStepped,
    ← s.blindReaches_blindStepped, ← s.fld_blindStepped n (f := Reg.SPN_START2_HANDOVER) hstart2,
    ← s.fld_blindStepped n (f := Reg.SPN_START2_HANDOVER_N) hstart2, ← hok]
  rfl

/-! ## A write of SPN_TARGET (R227, R251, R374) -/

/-- A write of SPN_TARGET has stored its clamped K and shown whether it clamped. -/
def State.targetStored (s : State) (n : Nat) (v : Word) : State :=
  let k := Reg.SPN_TARGET_K.get v
  let k' := max 32 (min s.kLimit k)
  (((s.store Reg.SPN_TARGET n 0 v).setFld Reg.SPN_TARGET_K n k').setFld Reg.SPN_STAT_CLAMP n (bit01 (k' != k))).setFld
    Reg.SPN_STAT_AT_LATE n 0

/-- SPN_TARGET and SPN_STAT of a spindle. -/
def targetReg (n a : Nat) : Prop := a = Reg.SPN_TARGET.addr n 0 ∨ a = Reg.SPN_STAT.addr n 0

theorem State.targetStored_records (s : State) (n : Nat) (v : Word) :
    State.RecordsIn (targetReg n) s (s.targetStored n v) :=
  ((((s.store_records ..).mono fun _ => .inl).trans (.setFld _ _ (.inl rfl))).trans (.setFld _ _ (.inr rfl))).trans
    (.setFld _ _ (.inr rfl))

theorem State.kLimit_le (s : State) : s.kLimit ≤ 64 := by
  unfold State.kLimit
  split_ifs <;> omega

theorem State.targetStored_spec (s : State) (n : Nat) (v : Word) :
    (s.targetStored n v).fld Reg.SPN_TARGET_K n = max 32 (min s.kLimit (Reg.SPN_TARGET_K.get v)) ∧
      (s.targetStored n v).fld Reg.SPN_STAT_CLAMP n =
        (if max 32 (min s.kLimit (Reg.SPN_TARGET_K.get v)) = Reg.SPN_TARGET_K.get v then 0 else 1) ∧
      (s.targetStored n v).fld Reg.SPN_STAT_AT_LATE n = 0 ∧ (s.targetStored n v).hdaState n = s.hdaState n := by
  have hlimit := s.kLimit_le
  have hne : Reg.SPN_TARGET.addr n 0 ≠ Reg.SPN_STAT.addr n 0 := seqReg_addr_ne n rfl rfl (by decide)
  rw [State.targetStored]
  generalize hk' : max 32 (min s.kLimit (Reg.SPN_TARGET_K.get v)) = k'
  obtain ⟨hclamp, hlate, hwrites⟩ := ((s.store Reg.SPN_TARGET n 0 v).setFld Reg.SPN_TARGET_K n k').setFld_setFld_spec
    (f := Reg.SPN_STAT_CLAMP) (g := Reg.SPN_STAT_AT_LATE) (by decide) n (v := bit01 (k' != Reg.SPN_TARGET_K.get v)) (w := 0)
    (by unfold bit01; split <;> decide) (by decide)
  refine ⟨?_, hclamp.trans ?_, hlate, ?_⟩
  · rw [hwrites.fld_eq (f := Reg.SPN_TARGET_K) hne, State.fld_setFld_same _ _ _ _ (by decide) (by decide)]
    exact Nat.mod_eq_of_lt (by simp only [Reg.SPN_TARGET_K]; omega)
  · by_cases h : k' = Reg.SPN_TARGET_K.get v
    · simp [h, bit01]
    · simp [h, bit01]
  · rw [State.hdaState, State.fld_setFld_beside _ Reg.SPN_STAT_AT_LATE Reg.SPN_STAT_HDA_STATE _ _ rfl (by decide) (by decide)
      (by decide), State.fld_setFld_beside _ Reg.SPN_STAT_CLAMP Reg.SPN_STAT_HDA_STATE _ _ rfl (by decide) (by decide)
      (by decide), State.fld_setFld_ne _ Reg.SPN_TARGET_K Reg.SPN_STAT_HDA_STATE _ _ _ hne.symm,
      s.fld_store_ne v (f := Reg.SPN_STAT_HDA_STATE) hne.symm, State.hdaState]

section
variable {s : State} {n : Nat} {v : Word} (hwritable : s.regWritable Reg.SPN_TARGET n 0 v = true)
include hwritable

/-- What a stored target asks of the spindle: a ramp at once during the run-up, at its epoch boundary while the spindle turns,
and nothing while it does not. -/
theorem State.spnTargetWrite_stored : s.spnTargetWrite n v =
    let t := s.targetStored n v
    if t.hdaState n = hdaStarting then (if t.fld Reg.SPN_STAT_PHASE n = 5 then t.rampStart n else t)
    else if t.hdaState n = hdaAbsent ∨ t.hdaState n = hdaStopped ∨ t.hdaState n = hdaBraking then t
    else if Reg.SPN_TARGET_AT.get v = 0 then t.setSpn n { t.spnS n with rampAt := some none }
    else
      let e := Reg.SPN_TARGET_EPOCH.get v
      if 0 < signed 16 ((e + 2 ^ 16 - t.epoch % 2 ^ 16) % 2 ^ 16) then t.setSpn n { t.spnS n with rampAt := some (some e) }
      else (t.setFld Reg.SPN_STAT_AT_LATE n 1).setSpn n { t.spnS n with rampAt := some none } := by
  rw [State.spnTargetWrite, if_pos hwritable]
  rfl

theorem State.spnTargetWrite_atRest
    (hst : s.hdaState n = hdaStopped ∨ s.hdaState n = hdaBraking ∨ s.hdaState n = hdaAbsent) :
    s.spnTargetWrite n v = s.targetStored n v := by
  obtain ⟨-, -, -, hstate⟩ := s.targetStored_spec n v
  rw [State.spnTargetWrite_stored hwritable]
  dsimp only
  rw [hstate]
  rcases hst with h | h | h
  all_goals rw [h, if_neg (by decide), if_pos (by decide)]

theorem State.spnTargetWrite_turning
    (hst : s.hdaState n = hdaTracking ∨ s.hdaState n = hdaSlewing ∨ s.hdaState n = hdaSpinning)
    (hnow : Reg.SPN_TARGET_AT.get v = 0) : s.spnTargetWrite n v =
      (s.targetStored n v).setSpn n { (s.targetStored n v).spnS n with rampAt := some none } := by
  obtain ⟨-, -, -, hstate⟩ := s.targetStored_spec n v
  rw [State.spnTargetWrite_stored hwritable]
  dsimp only
  rw [hstate]
  rcases hst with h | h | h
  all_goals rw [h, if_neg (by decide), if_neg (by decide), if_pos hnow]

theorem State.spnTargetWrite_writes : State.WritesIn (targetReg n) s (s.spnTargetWrite n v) := by
  have hstat (u : State) (f : Fld) (w : Nat) (hf : f.reg = Reg.SPN_STAT) : State.WritesIn (targetReg n) u (u.setFld f n w) :=
    .of_records (.setFld u w (.inr (congrArg (·.addr n 0) hf)))
  rw [State.spnTargetWrite_stored hwritable]
  dsimp only
  refine (State.WritesIn.of_records (s.targetStored_records n v)).trans ?_
  split_ifs
  · exact (hstat _ Reg.SPN_STAT_RAMP 1 rfl).trans (.setSpn ..)
  · exact .refl _ _
  · exact .refl _ _
  · exact .setSpn ..
  · exact .setSpn ..
  · exact (hstat _ Reg.SPN_STAT_AT_LATE 1 rfl).trans (.setSpn ..)

end

/-! ## The statement -/

/-- Settles O17: each command is one named change of the spindle, by the phase and the edges; the specs of these changes give
the fields, the registers and the bytes. -/
theorem spindleStart : Obligations.SpindleStart := by
  refine ⟨?start, ?listen, ?still, ?align, ?blind, ?enable, ?resync, ?target⟩
  case start =>
    intro s n v hawake hn hstart hstop hresync hwritable hwas hst hfence hmode u hnow hbus
    have hn16 := Nat.lt_of_lt_of_le hn s.nHda_le
    obtain ⟨hstate, hflag, hphase, htries, hedges, hclosed, hbytes⟩ := u.startListening_spec hn16
    refine ⟨u.startListening n, ?_, hstate, hflag, hphase, htries, hedges, hclosed,
      (s.store_writes ..).sameBytes.trans hbytes⟩
    rw [exec_spindleStart_eq hawake hn hstart, State.spnCtrlWrite_start hwritable hwas hstop hnow hstart hresync,
      State.spnStart_taken ((s.hdaState_store_ctrl n v).trans hst) hnow
        ((s.fenced_store_ctrl hn16 v).trans hfence) ((s.mode_store_ctrl n v).trans_ne hmode) hbus]
  case listen =>
    intro s n hawake hn hst hphase es mean
    have hexec := exec_listenWindowEnd_inListen hawake hn hst hphase
    refine ⟨fun hfew => ?_, fun htwo hslow => ?_, fun l hfour hforward hfast hlast => ?_⟩
    · rw [hexec, State.listenDecide_still hfew]
    · rw [hexec, State.listenDecide_brake htwo]
      rintro ⟨hfour, hforward, hfast⟩
      rcases hslow with h | h | h
      · exact absurd hfour (Nat.not_le.2 h)
      · exact absurd hforward (ne_true_of_eq_false h)
      · exact absurd hfast (not_le.2 h)
    · rw [hexec, State.listenDecide_catch ⟨hfour, hforward, hfast⟩ hlast]
  case still => exact fun s n hawake hn hst hstill => exec_stillEnd_starting hawake hn hst hstill
  case align =>
    intro s n hawake hn hst hphase
    have hwrites := (State.WritesIn.of_records (P := (· = Reg.SPN_STAT.addr n 0))
      (.setFld (f := Reg.SPN_STAT_PHASE) s 4 rfl)).trans (.setSpn _ _ n
        { s.spnS n with blind := 0, blindOk := 0, edgeSeen := false, apply := s.linkNow n })
    refine ⟨_, exec_alignEnd_inAlign hawake hn hst hphase, ?_, ?_, ?_, hwrites.sameRegs, hwrites.sameBytes⟩
    · rw [State.fld_setSpn, State.fld_setFld_same _ _ _ _ (by decide) (by decide)]
      rfl
    · rw [State.spnS_setSpn_same]
    · rw [State.spnS_setSpn_same]
  case blind =>
    intro s n hawake hn hst hphase x k st at' ho
    have hexec := exec_blindRampStep_inRamp hawake hn hst hphase
    refine ⟨s.setSpn n (s.blindNext n), ?_, ?_, rfl, (State.WritesIn.setSpn anyReg s n _).sameBytes, fun hslow => ?_,
      fun hfast hseen henough => ?_, fun hover hunseen hneeded => ?_⟩
    · rw [State.spnS_setSpn_same, State.blindNext]
    · rw [State.spnS_setSpn_same, State.blindNext]
    · have hslow' : ¬ s.blindReaches n k (2 * ho) = true := fun h =>
        ne_true_of_eq_false hslow (s.blindReaches_mono n k (by omega) h)
      rw [hexec, if_neg (fun h => ne_true_of_eq_false hslow h.1), if_neg hslow']
      rfl
    · have hok : (s.blindNext n).blindOk = x.blindOk := if_pos hseen
      rw [hexec, if_pos ⟨hfast, hok ▸ henough⟩]
      rfl
    · have hok : (s.blindNext n).blindOk = 0 := if_neg (ne_true_of_eq_false hunseen)
      rw [hexec, if_neg (by omega), if_pos hover]
      rfl
  case enable =>
    intro s n v hawake hn hen hstop hstart hresync hwritable hwas u hnow
    refine ⟨u.anchor n, ?_, ?_, ?_, rfl,
      (s.store_writes ..).sameBytes.trans (State.WritesIn.setSpn anyReg u n _).sameBytes⟩
    · rw [exec_spindleEnable_eq hawake hn (by omega),
        State.spnCtrlWrite_enable hwritable (by simp [State.flag, hwas]) hstop hnow hstart hresync]
    · rw [State.anchor, State.spnS_setSpn_same]
    · rw [State.anchor, State.spnS_setSpn_same]
  case resync =>
    intro s n v hawake hn hresync hstop hstart hwritable hwas hnow
    have hset : State.WritesIn (· = Reg.SPN_CTRL.addr n 0) (s.store Reg.SPN_CTRL n 0 v)
        ((s.store Reg.SPN_CTRL n 0 v).setFld Reg.SPN_CTRL_RESYNC n 1) := .of_records (.setFld _ 1 rfl)
    have hall := (s.store_writes ..).trans hset
    refine ⟨(s.store Reg.SPN_CTRL n 0 v).setFld Reg.SPN_CTRL_RESYNC n 1, ?_, ?_, s.spn_store .., hall.sameRegs,
      hall.sameBytes⟩
    · rw [exec_resync_eq hawake hn hresync, State.spnCtrlWrite_resync hwritable hwas hstop hnow hstart hresync]
    · rw [State.fld_setFld_same _ _ _ _ (by decide) (by decide)]
      rfl
  case target =>
    intro s n v hawake hn hwritable k k'
    obtain ⟨hk, hclamp, hlate, -⟩ := s.targetStored_spec n v
    have hrec := s.targetStored_records n v
    have hwrites := State.spnTargetWrite_writes hwritable
    refine ⟨s.spnTargetWrite n v, exec_spnTarget_eq hawake hn, fun hst => ?_, fun hst hnow => ?_,
      hwrites.sameRegs_pair fun _ => id, hwrites.sameBytes⟩
    · rw [State.spnTargetWrite_atRest hwritable hst]
      exact ⟨hk, hclamp, hlate, hrec.spn_eq⟩
    · rw [State.spnTargetWrite_turning hwritable hst hnow, State.fld_setSpn, State.spnS_setSpn_same]
      have homega := congrArg SpnS.omega (hrec.spnS_eq n)
      exact ⟨hk, rfl, homega⟩

/-! ## States that meet the hypotheses -/

/-- HDA 3 of a device in Service shows a state and a phase, EN is set, and the spindle holds a state of its own. -/
def spindleIn (st phase : Nat) (x : SpnS) : State :=
  (((Tests.w0.setFld Reg.SPN_STAT_HDA_STATE 3 st).setFld Reg.SPN_STAT_PHASE 3 phase).setFld Reg.SPN_CTRL_EN 3 1).setSpn 3 x

/-- A START with EN, after two attempts of an earlier start. -/
theorem spindleStart_stopped : ∃ y : State,
    exec (.spindleStart 3 0x3) (spindleIn hdaStopped 0 { tries := 2 }) = .next (y.driveSettle 3) ∧
      y.hdaState 3 = hdaStarting ∧ (y.spnS 3).tries = 0 := by
  obtain ⟨hstart, -⟩ := spindleStart
  obtain ⟨y, hexec, hst, -, -, htries, -⟩ := hstart (spindleIn hdaStopped 0 { tries := 2 }) 3 0x3 (by decide) (by decide)
    (by decide) (by decide) (by decide) (by decide) (by decide) (by decide) (by decide) (by decide) (by decide) (by decide)
  exact ⟨y, hexec, hst, htries⟩

/-- The Listen window of HDA 3 has shown these edges. -/
def listening (es : List Edge) : State := spindleIn hdaStarting 0 { edges := es }

theorem listenWindowEnd_oneEdge : exec (.listenWindowEnd 3) (listening [⟨2, false, 0⟩]) =
    .next (((listening [⟨2, false, 0⟩]).align 3).driveSettle 3) := by
  obtain ⟨-, hlisten, -⟩ := spindleStart
  obtain ⟨hstill, -⟩ := hlisten (listening [⟨2, false, 0⟩]) 3 (by decide) (by decide) (by decide) (by decide)
  exact hstill (by decide)

/-- Four edges of a spindle that turns forward, `t` ticks of link time apart. -/
def forwardFour (t : Nat) : List Edge := [⟨2, false, 0⟩, ⟨1, true, t⟩, ⟨0, false, 2 * t⟩, ⟨2, true, 3 * t⟩]

/-- With four pole pairs 300 rpm lie between intervals of 10,416,666 and of 10,416,667 ticks. -/
theorem rpmOf_forwardFour :
    300 ≤ rpmOf 4 (edgeMean (forwardFour 10416666)) ∧ rpmOf 4 (edgeMean (forwardFour 10416667)) < 300 := by
  rw [edgeMean, edgeMean, show edgeIntervals (forwardFour 10416666) = [10416666, 10416666, 10416666] by decide,
    show edgeIntervals (forwardFour 10416667) = [10416667, 10416667, 10416667] by decide]
  norm_num [rpmOf]

/-- The handover of the reset values, 300 rpm with four pole pairs, is just reached, and just missed. -/
theorem listenWindowEnd_handoverSpeed :
    (exec (.listenWindowEnd 3) (listening (forwardFour 10416666)) =
      .next (((listening (forwardFour 10416666)).catchSpindle 3 (forwardFour 10416666) ⟨2, true, 31249998⟩).driveSettle 3)) ∧
    (exec (.listenWindowEnd 3) (listening (forwardFour 10416667)) =
      .next ((((listening (forwardFour 10416667)).setFld Reg.SPN_STAT_PHASE 3 1).brakeShort 3).driveSettle 3)) := by
  obtain ⟨hfast, hslow⟩ := rpmOf_forwardFour
  obtain ⟨-, hlisten, -⟩ := spindleStart
  obtain ⟨-, -, hcatch⟩ := hlisten (listening (forwardFour 10416666)) 3 (by decide) (by decide) (by decide) (by decide)
  obtain ⟨-, hbrake, -⟩ := hlisten (listening (forwardFour 10416667)) 3 (by decide) (by decide) (by decide) (by decide)
  exact ⟨hcatch _ (by decide) (by decide) hfast (by decide), hbrake (by decide) (.inr (.inr hslow))⟩

theorem stillEnd_starting : exec (.stillEnd 3) (spindleIn hdaStarting 2 { brake := 4 }) =
    .next ((spindleIn hdaStarting 2 { brake := 4 }).align 3) := by
  obtain ⟨-, -, hstill, -⟩ := spindleStart
  exact hstill _ 3 (by decide) (by decide) (by decide) (by decide)

theorem alignEnd_step5 : ∃ t : State, exec (.alignEnd 3) (spindleIn hdaStarting 3 { step := 5 }) = .next t ∧
    t.fld Reg.SPN_STAT_PHASE 3 = 4 ∧ (t.spnS 3).step = 5 := by
  obtain ⟨-, -, -, halign, -⟩ := spindleStart
  obtain ⟨t, hexec, hphase, -, hstep, -⟩ := halign (spindleIn hdaStarting 3 { step := 5 }) 3 (by decide) (by decide)
    (by decide) (by decide)
  exact ⟨t, hexec, hphase, hstep⟩

/-- The blind ramp after `k` steps, of which the last one had its edge or not, as had `ok` steps before it. -/
def ramping (k : Nat) (seen : Bool) (ok : Nat) : State :=
  spindleIn hdaStarting 4 { blind := k, edgeSeen := seen, blindOk := ok }

/-- Step 30 reaches the speed of the handover, and 12 edges are enough for it; step 29 goes on, and without an edge step 120
is twice as fast and has failed. -/
theorem blindRampStep_steps :
    (∃ (y : State) (at' d : Nat), exec (.blindRampStep 3) (ramping 28 true 12) = .next (y.phaseStep 3 at' 5 d) ∧
      (y.spnS 3).blind = 29) ∧
    (∃ u : State, exec (.blindRampStep 3) (ramping 29 true 12) = .next (u.closeLoop 3)) ∧
    (∃ u : State, exec (.blindRampStep 3) (ramping 119 false 12) = .next ((u.attemptFailed 3).driveSettle 3)) := by
  obtain ⟨-, -, -, -, hblind, -⟩ := spindleStart
  obtain ⟨y, hstep, -, -, -, hslow, -⟩ := hblind (ramping 28 true 12) 3 (by decide) (by decide) (by decide) (by decide)
  obtain ⟨_, -, -, -, -, -, hover, -⟩ := hblind (ramping 29 true 12) 3 (by decide) (by decide) (by decide) (by decide)
  obtain ⟨_, -, -, -, -, -, -, hfailed⟩ := hblind (ramping 119 false 12) 3 (by decide) (by decide) (by decide) (by decide)
  exact ⟨⟨y, _, _, hslow (by decide), hstep⟩, ⟨_, hover (by decide) (by decide) (by decide)⟩,
    ⟨_, hfailed (by decide) (by decide) (by decide)⟩⟩

/-- EN is set at tick 0. -/
theorem spindleEnable_reset : ∃ y : State, exec (.spindleEnable 3 0x1) Tests.w0 = .next (y.driveSettle 3) ∧
    (y.spnS 3).omega = 64 * 2 ^ 32 := by
  obtain ⟨-, -, -, -, -, henable, -⟩ := spindleStart
  obtain ⟨y, hexec, homega, -⟩ := henable Tests.w0 3 0x1 (by decide) (by decide) (by decide) (by decide) (by decide)
    (by decide) (by decide) (by decide) (by decide)
  exact ⟨y, hexec, homega⟩

theorem resync_tracking : ∃ y : State, exec (.resync 3 0x21) (spindleIn hdaTracking 5 {}) = .next (y.driveSettle 3) ∧
    y.fld Reg.SPN_CTRL_RESYNC 3 = 1 := by
  obtain ⟨-, -, -, -, -, -, hresync, -⟩ := spindleStart
  obtain ⟨y, hexec, hflag, -⟩ := hresync (spindleIn hdaTracking 5 {}) 3 0x21 (by decide) (by decide) (by decide) (by decide)
    (by decide) (by decide) (by decide) (by decide)
  exact ⟨y, hexec, hflag⟩

/-- A K just below the smallest speed, at rest and while the spindle tracks. -/
theorem spnTarget_below32 :
    (∃ y : State, exec (.spnTarget 3 31) (spindleIn hdaStopped 0 {}) = .next (y.driveSettle 3) ∧
      y.fld Reg.SPN_TARGET_K 3 = 32 ∧ y.fld Reg.SPN_STAT_CLAMP 3 = 1) ∧
    (∃ y : State, exec (.spnTarget 3 31) (spindleIn hdaTracking 5 {}) = .next (y.driveSettle 3) ∧
      y.fld Reg.SPN_TARGET_K 3 = 32 ∧ (y.spnS 3).rampAt = some none) := by
  obtain ⟨-, -, -, -, -, -, -, htarget⟩ := spindleStart
  obtain ⟨y, hexec, hrest, -⟩ := htarget (spindleIn hdaStopped 0 {}) 3 31 (by decide) (by decide) (by decide)
  obtain ⟨z, hexec', -, hturning, -⟩ := htarget (spindleIn hdaTracking 5 {}) 3 31 (by decide) (by decide) (by decide)
  obtain ⟨hk, hclamp, -⟩ := hrest (.inl (by decide))
  obtain ⟨hk', hramp, -⟩ := hturning (.inl (by decide)) (by decide)
  exact ⟨⟨y, hexec, hk, hclamp⟩, ⟨z, hexec', hk', hramp⟩⟩

end Sys2Proof.Machine
end

section
/-!
PROOFS. A spindle stops, or loses a commutation edge (R230, R233, R238, R239, R243, R244, R253): STOP, the unload wait, the
intervals of short brake and their listen windows, the rest, and a window that closes without its edge.
-/

namespace Sys2Proof.Machine

/-! ## STOP (R230, R253) -/

section
variable {s : State} {n : Nat} {v : Word}

/-- STOP wins over START, whatever becomes of EN. -/
theorem State.spnCtrlWrite_stop (hwritable : s.regWritable Reg.SPN_CTRL n 0 v = true)
    (hwas : s.flag Reg.SPN_CTRL_EN n = true) (hresync : Reg.SPN_CTRL_RESYNC.get v = 0)
    (hstop : Reg.SPN_CTRL_STOP.get v = 1) : s.spnCtrlWrite n v = (s.store Reg.SPN_CTRL n 0 v).spnStop n := by
  simp [State.spnCtrlWrite, hwritable, hwas, hstop, hresync]

theorem State.spnStop_turning (hst : s.hdaState n = hdaStarting ∨ s.hdaState n = hdaSpinning ∨ s.hdaState n = hdaTracking ∨
    s.hdaState n = hdaSlewing) : s.spnStop n = ((s.setFld Reg.SPN_CTRL_STOP n 1).brakeFor n 1).brakePoll n := if_pos hst

theorem State.spnStop_atRest (hst : s.hdaState n = hdaStopped ∨ s.hdaState n = hdaAbsent) :
    s.spnStop n = s.setFld Reg.SPN_CTRL_STOP n 0 := by
  rw [State.spnStop]
  rcases hst with h | h
  all_goals rw [h, if_neg (by decide), if_neg (by decide)]

end

/-! ## Braking, and a missed edge (R233, R239, R243, R244, R253) -/

/-- A step's edge has not come: the spindle and SPN_CNT_MISS count it. -/
def State.edgeMissed (s : State) (n : Nat) : State :=
  (s.setSpn n { s.spnS n with miss := (s.spnS n).miss + 1 }).bump Reg.SPN_CNT_MISS n 1

section
variable {s : State} {n : Nat} {v : Word} (hawake : s.glb.dormant = false) (hn : n < s.nHda)
include hawake hn

theorem exec_spindleStop_eq (hstop : Reg.SPN_CTRL_STOP.get v = 1) :
    exec (.spindleStop n v) s = .next ((s.spnCtrlWrite n v).driveSettle n) := by
  show execSpindleStop n v s = _
  rw [execSpindleStop, State.powered_awake _ _ hawake, if_pos ⟨hn, hstop⟩]

section
variable (hst : s.hdaState n = hdaBraking)
include hst

theorem exec_unloadWaitExpiry_waiting (hwait : (s.spnS n).brake = 0) (hwhy : (s.spnS n).why = 1 ∨ (s.spnS n).why = 2) :
    exec (.unloadWaitExpiry n) s = .next (s.brakeOn n) := by
  show execUnloadWaitExpiry n s = _
  rw [execUnloadWaitExpiry, State.powered_awake _ _ hawake, if_pos ⟨hn, hst, hwait, hwhy⟩]

theorem exec_brakeIntervalEnd_braking (hshort : (s.spnS n).brake = 2) (hcan : s.canCommand n = true) :
    exec (.brakeIntervalEnd n) s = .next ((s.setSpn n { s.spnS n with brake := 3 }).listen n) := by
  show execBrakeIntervalEnd n s = _
  rw [execBrakeIntervalEnd, State.powered_awake _ _ hawake, if_pos ⟨hn, .inr hst, hshort, hcan⟩]

theorem exec_listenWindowEnd_braking (hlisten : (s.spnS n).brake = 3) :
    exec (.listenWindowEnd n) s = .next ((s.listenRest n).driveSettle n) := by
  show execListenWindowEnd n s = _
  rw [execListenWindowEnd, State.powered_awake _ _ hawake, if_pos hn,
    if_neg (fun h => absurd (hst.symm.trans h.1) (by decide)),
    if_pos ⟨.inr hst, hlisten⟩]

theorem exec_stillEnd_braking (hstill : (s.spnS n).brake = 4) :
    exec (.stillEnd n) s = .next ((s.spnRest n).driveSettle n) := by
  show execStillEnd n s = _
  rw [execStillEnd, State.powered_awake _ _ hawake, if_pos ⟨hn, hstill⟩, hst, if_neg (by decide), if_pos rfl]

end

/-- Miss counts and MISS_N decide between a loss of synchronism and a commutation at the prediction (R243). -/
theorem exec_edgeWindowClose_missed (hclosed : (s.spnS n).closed = true) (hunseen : (s.spnS n).edgeSeen = false)
    (hover : s.windowOver n = true) : exec (.edgeWindowClose n) s = .next (
      if s.fld Reg.SPN_OBS_MISS_N n ≤ (s.spnS n).miss + 1 then ((s.edgeMissed n).syncLost n).driveSettle n
      else ((s.edgeMissed n).commutate n
        (unsigned 32 (((s.spnS n).apply : Int) + qz 38 ((s.edgeMissed n).edgeWindow n).1))).driveSettle n) := by
  have hmissN : (s.edgeMissed n).fld Reg.SPN_OBS_MISS_N n = s.fld Reg.SPN_OBS_MISS_N n :=
    State.fld_bump_ne _ Reg.SPN_OBS_MISS_N Reg.SPN_CNT_MISS n 1 (seqReg_addr_ne (r := Reg.SPN_OBS) n rfl rfl (by decide))
  show execEdgeWindowClose n s = _
  rw [execEdgeWindowClose, State.powered_awake _ _ hawake, if_pos ⟨hn, hclosed, by simp [hunseen], hover⟩, ← hmissN]
  rfl

end

section
variable {s : State} {n : Nat}

/-- A window of a stop with at most one edge: short brake once more, and the spindle is to stand still. -/
theorem State.listenRest_still (hst : s.hdaState n = hdaBraking) (hfew : (s.spnS n).edges.length ≤ 1)
    (hwhy : (s.spnS n).why ≠ 4) :
    s.listenRest n = (s.setSpn n { s.spnS n with brake := 4 }).shortBrake n := by
  rw [State.listenRest, if_pos hfew, hst, if_neg (by decide), if_neg hwhy]

theorem State.listenRest_turns (htwo : 2 ≤ (s.spnS n).edges.length) : s.listenRest n = s.brakeShort n :=
  if_neg (by omega)

end

/-- The spindle rests, before its HDA shows it: every phase open, START and STOP clear. -/
def State.spnReleased (s : State) (n : Nat) : State :=
  (((s.coast n).setSpn n { (s.coast n).spnS n with why := 0, brake := 0, closed := false }).setFld
    Reg.SPN_CTRL_STOP n 0).setFld Reg.SPN_CTRL_START n 0

theorem State.spnRest_spec (s : State) {n : Nat} (hn : n < 16) :
    (s.spnRest n).hdaState n = hdaStopped ∧ (s.spnRest n).fld Reg.SPN_CTRL_STOP n = 0 ∧
      (s.spnRest n).fld Reg.SPN_CTRL_START n = 0 ∧ ((s.spnRest n).spnS n).brake = 0 := by
  have hrest : s.spnRest n = (s.spnReleased n).hdaTo n hdaStopped := rfl
  obtain ⟨hstop, hstart, -⟩ := State.setFld_setFld_spec
    ((s.coast n).setSpn n { (s.coast n).spnS n with why := 0, brake := 0, closed := false })
    (f := Reg.SPN_CTRL_STOP) (g := Reg.SPN_CTRL_START) (by decide) n (v := 0) (w := 0) (by decide) (by decide)
  rw [hrest, State.ctrl_hdaTo _ hn rfl, State.ctrl_hdaTo _ hn rfl, State.spnS_hdaTo]
  refine ⟨State.hdaState_hdaTo _ hn (by decide), hstop, hstart, ?_⟩
  rw [State.spnReleased, State.spnS_setFld, State.spnS_setFld, State.spnS_setSpn_same]

/-! ## The statement -/

/-- Settles O18: each command is one named change of the spindle, by the HDA's state, the step of braking and the edges or
misses counted. -/
theorem spindleStop : Obligations.SpindleStop := by
  refine ⟨?turning, ?atRest, ?unloadWait, ?brakeInterval, ?listen, ?still, ?missed⟩
  case turning =>
    intro s n v hawake hn hstop hresync hwritable hwas hst
    rw [exec_spindleStop_eq hawake hn hstop, State.spnCtrlWrite_stop hwritable hwas hresync hstop,
      State.spnStop_turning (by rwa [s.hdaState_store_ctrl n v])]
  case atRest =>
    intro s n v hawake hn hstop hresync hwritable hwas hst
    have hset : State.WritesIn (· = Reg.SPN_CTRL.addr n 0) (s.store Reg.SPN_CTRL n 0 v)
        ((s.store Reg.SPN_CTRL n 0 v).setFld Reg.SPN_CTRL_STOP n 0) := .of_records (.setFld _ 0 rfl)
    have hall := (s.store_writes ..).trans hset
    refine ⟨(s.store Reg.SPN_CTRL n 0 v).setFld Reg.SPN_CTRL_STOP n 0, ?_, ?_, s.spn_store .., hall.sameRegs,
      hall.sameBytes⟩
    · rw [exec_spindleStop_eq hawake hn hstop, State.spnCtrlWrite_stop hwritable hwas hresync hstop,
        State.spnStop_atRest (by rwa [s.hdaState_store_ctrl n v])]
    · rw [State.fld_setFld_same _ _ _ _ (by decide) (by decide)]
      exact Nat.zero_mod _
  case unloadWait => exact fun s n hawake hn hst hwait hwhy => exec_unloadWaitExpiry_waiting hawake hn hst hwait hwhy
  case brakeInterval => exact fun s n hawake hn hst hshort hcan => exec_brakeIntervalEnd_braking hawake hn hst hshort hcan
  case listen =>
    intro s n hawake hn hst hlisten
    have hexec := exec_listenWindowEnd_braking hawake hn hst hlisten
    exact ⟨fun hfew hwhy => by rw [hexec, State.listenRest_still hst hfew hwhy],
      fun htwo => by rw [hexec, State.listenRest_turns htwo]⟩
  case still =>
    intro s n hawake hn hst hstill
    exact ⟨s.spnRest n, exec_stillEnd_braking hawake hn hst hstill, s.spnRest_spec (Nat.lt_of_lt_of_le hn s.nHda_le)⟩
  case missed =>
    intro s n hawake hn hclosed hunseen hover x u
    have hexec := exec_edgeWindowClose_missed hawake hn hclosed hunseen hover
    exact ⟨fun hlost => hexec.trans (congrArg _ (if_pos hlost)),
      fun hheld => hexec.trans (congrArg _ (if_neg (Nat.not_le.2 hheld)))⟩

/-! ## States that meet the hypotheses -/

/-- STOP while the spindle tracks, and at rest. -/
theorem spindleStop_tracking : exec (.spindleStop 3 0x5) (spindleIn hdaTracking 5 {}) =
    .next ((((((spindleIn hdaTracking 5 {}).store Reg.SPN_CTRL 3 0 0x5).setFld Reg.SPN_CTRL_STOP 3 1).brakeFor 3 1).brakePoll
      3).driveSettle 3) := by
  obtain ⟨hturning, -⟩ := spindleStop
  exact hturning _ 3 0x5 (by decide) (by decide) (by decide) (by decide) (by decide) (by decide)
    (.inr (.inr (.inl (by decide))))

theorem spindleStop_stopped : ∃ y : State, exec (.spindleStop 3 0x5) (spindleIn hdaStopped 0 {}) = .next (y.driveSettle 3) ∧
    y.fld Reg.SPN_CTRL_STOP 3 = 0 := by
  obtain ⟨-, hrest, -⟩ := spindleStop
  obtain ⟨y, hexec, hstop, -⟩ := hrest (spindleIn hdaStopped 0 {}) 3 0x5 (by decide) (by decide) (by decide) (by decide)
    (by decide) (by decide) (.inl (by decide))
  exact ⟨y, hexec, hstop⟩

theorem unloadWaitExpiry_stop : exec (.unloadWaitExpiry 3) (spindleIn hdaBraking 5 { why := 1 }) =
    .next ((spindleIn hdaBraking 5 { why := 1 }).brakeOn 3) := by
  obtain ⟨-, -, hwait, -⟩ := spindleStop
  exact hwait _ 3 (by decide) (by decide) (by decide) (by decide) (.inl (by decide))

/-- Port 3 is Up, and the first interval of short brake is over. -/
def brakedUp : State := (spindleIn hdaBraking 5 { why := 1, brake := 2 }).setFld Reg.HLK_STAT_LINK_STATE 3 linkUp

theorem brakeIntervalEnd_brakedUp : exec (.brakeIntervalEnd 3) brakedUp =
    .next ((brakedUp.setSpn 3 { why := 1, brake := 3 }).listen 3) := by
  obtain ⟨-, -, -, hinterval, -⟩ := spindleStop
  exact hinterval brakedUp 3 (by decide) (by decide) (by decide) (by decide) (by decide)

/-- HDA 3 stops, and its listen window has shown `k` edges. -/
def stoppingWith (k : Nat) : State := spindleIn hdaBraking 5 { why := 1, brake := 3, edges := List.replicate k ⟨2, false, 0⟩ }

/-- One edge is rest, two are not. -/
theorem listenWindowEnd_edges :
    (exec (.listenWindowEnd 3) (stoppingWith 1) = .next ((((stoppingWith 1).setSpn 3
      { (stoppingWith 1).spnS 3 with brake := 4 }).shortBrake 3).driveSettle 3)) ∧
    (exec (.listenWindowEnd 3) (stoppingWith 2) = .next (((stoppingWith 2).brakeShort 3).driveSettle 3)) := by
  obtain ⟨-, -, -, -, hlisten, -⟩ := spindleStop
  obtain ⟨hstill, -⟩ := hlisten (stoppingWith 1) 3 (by decide) (by decide) (by decide) (by decide)
  obtain ⟨-, hturns⟩ := hlisten (stoppingWith 2) 3 (by decide) (by decide) (by decide) (by decide)
  exact ⟨hstill (by decide) (by decide), hturns (by decide)⟩

theorem stillEnd_braking : ∃ y : State, exec (.stillEnd 3) (spindleIn hdaBraking 5 { why := 1, brake := 4 }) =
    .next (y.driveSettle 3) ∧ y.hdaState 3 = hdaStopped := by
  obtain ⟨-, -, -, -, -, hstill, -⟩ := spindleStop
  obtain ⟨y, hexec, hst, -⟩ := hstill (spindleIn hdaBraking 5 { why := 1, brake := 4 }) 3 (by decide) (by decide) (by decide)
    (by decide)
  exact ⟨y, hexec, hst⟩

/-- HDA 3 tracks after `k` misses, one tick past the window of a step without its edge. -/
def missing (k : Nat) : State := spindleIn hdaTracking 5 { closed := true, linkNow := 1, miss := k }

/-- Without an interval or an edge before it, a step's window ends at its APPLY. -/
theorem windowOver_missing (k : Nat) : (missing k).windowOver 3 = true := by
  have hspn : (missing k).spnS 3 = { closed := true, linkNow := 1, miss := k } := State.spnS_setSpn_same ..
  rw [State.windowOver, State.edgeWindow, hspn]
  norm_num [SpnS.tStep, show linkDiff 1 0 = 1 by decide]

/-- MISS_N is 6: the fifth miss commutates, the sixth is a loss. -/
theorem edgeWindowClose_misses :
    (∃ (u : State) (te : Nat), exec (.edgeWindowClose 3) (missing 4) = .next ((u.commutate 3 te).driveSettle 3)) ∧
    (∃ u : State, exec (.edgeWindowClose 3) (missing 5) = .next ((u.syncLost 3).driveSettle 3)) := by
  obtain ⟨-, -, -, -, -, -, hmissed⟩ := spindleStop
  obtain ⟨-, hheld⟩ := hmissed (missing 4) 3 (by decide) (by decide) (by decide) (by decide) (windowOver_missing 4)
  obtain ⟨hlost, -⟩ := hmissed (missing 5) 3 (by decide) (by decide) (by decide) (by decide) (windowOver_missing 5)
  exact ⟨⟨_, _, hheld (by decide)⟩, ⟨_, hlost (by decide)⟩⟩

end Sys2Proof.Machine
end

section
/-!
PROOFS. The context commands (R285, R289) and the check of a map commit (R257 to R260): what ending an operation writes, what a
command does for each way that its context is found, and what the check of an entry leads to; then their statement.
-/

namespace Sys2Proof.Machine

/-! ## Ending an operation, and the mailbox (R289) -/

theorem State.RecordsIn.stm_eq {P : Nat → Prop} {s t : State} (h : State.RecordsIn P s t) : t.stm = s.stm := by
  obtain ⟨⟨q, x, r, rfl⟩, -⟩ := h
  rfl

/-- An ended operation shows its result, GO is clear, and no other register has changed. -/
theorem State.ctxResult_spec (s : State) {r : Nat} (hr : r < 8) :
    (s.ctxResult r).fld Reg.STM_CTX_CMD_RESULT 0 = r ∧ (s.ctxResult r).fld Reg.STM_CTX_CMD_GO 0 = 0 ∧
      State.WritesIn (· = Reg.STM_CTX_CMD.addr 0 0) s (s.ctxResult r) :=
  s.setFld_setFld_spec (f := Reg.STM_CTX_CMD_RESULT) (g := Reg.STM_CTX_CMD_GO) (by decide) 0 hr (by decide)

@[simp] theorem State.ctxResult_stm (s : State) (r : Nat) : (s.ctxResult r).stm = s.stm := rfl

/-- Entries `ks` of the mailbox take the words of a context. -/
def State.fillMbx (s : State) (ws : List Word) (ks : List Nat) : State :=
  ks.foldl (fun u k => u.wr Reg.STM_CTX_MBX 0 k (ws.getD k 0)) s

theorem State.fillMbx_records (s : State) (ws : List Word) (ks : List Nat) :
    State.RecordsIn anyReg s (s.fillMbx ws ks) := .foldl (fun u _ _ => .wr u _ trivial) s

theorem mbx_addr_inj {j k : Nat} : Reg.STM_CTX_MBX.addr 0 j = Reg.STM_CTX_MBX.addr 0 k ↔ j = k := by
  simp only [Reg.addr, Reg.STM_CTX_MBX]
  omega

theorem mbx_addr_ne_cmd (j : Nat) : Reg.STM_CTX_MBX.addr 0 j ≠ Reg.STM_CTX_CMD.addr 0 0 := by
  simp only [Reg.addr, Reg.STM_CTX_MBX, Reg.STM_CTX_CMD]
  omega

theorem State.rd_fillMbx (s : State) (ws : List Word) (ks : List Nat) (j : Nat) :
    (s.fillMbx ws ks).rd Reg.STM_CTX_MBX 0 j = if j ∈ ks then ws.getD j 0 else s.rd Reg.STM_CTX_MBX 0 j := by
  induction ks generalizing s with
  | nil => rfl
  | cons k ks ih =>
    rw [State.fillMbx, List.foldl_cons, ← State.fillMbx, ih]
    by_cases hj : j ∈ ks
    · simp [hj]
    · by_cases hk : j = k
      · subst hk; simp [hj]
      · simp [hj, hk, State.rd_wr_ne _ Reg.STM_CTX_MBX Reg.STM_CTX_MBX _ _ _ _ _ (mbx_addr_inj.not.2 hk)]

/-! ## What STM_CTX_CMD does, by how its context is found (R264, R285) -/

/-- The words of a context after an update with mask `m` from the mailbox words `mb`, but for the window of word 8. -/
def ctxMerged (m : Nat) (mb : Nat → Nat) (ws : List Word) : List Word :=
  let ws := if bitOf m 1 then cwPut ws 1 1 0 (bitsOf (mb 1) 1 0) else ws
  let ws := if bitOf m 6 then ws.set 6 (word (mb 6)) else ws
  let ws := if bitOf m 7 then ws.set 7 (word (mb 7)) else ws
  let ws := if bitOf m 9 then cwRate ws (mb 9) else ws
  if bitOf m 11 then ws.set 11 (word (mb 11)) else ws

/-- Every word that a mask names may be updated (R285). -/
def maskAllowed (m : Nat) : Bool := (List.range 16).all fun k => !bitOf m k || [1, 6, 7, 8, 9, 11].contains k

/-- Word `k` of the mailbox. -/
def State.mbxWord (s : State) (k : Nat) : Nat := (s.rd Reg.STM_CTX_MBX 0 k).toNat

/-- A permitted update of context `i`, read as `ws`, without its result. -/
def State.ctxUpdated (s : State) (i m : Nat) (ws : List Word) : State :=
  let ws := ctxMerged m s.mbxWord ws
  let s' := s.ctxWrite i ws
  if bitOf m 8 then s'.windowSet i (cwPut ws 8 15 0 (bitsOf (s.mbxWord 8) 15 0)) else s'

theorem State.ctxCommand_notOpen {u : State} (hfree : u.stm.opened.contains (u.fld Reg.STM_CTX_CMD_INDEX 0) = false) :
    u.ctxCommand = u.ctxResult 2 := by
  rw [State.ctxCommand, if_pos (by simp only [hfree, Bool.false_eq_true, not_false_eq_true])]

section
variable {u y : State} (hopen : u.stm.opened.contains (u.fld Reg.STM_CTX_CMD_INDEX 0) = true)
include hopen

theorem State.ctxCommand_lost (hread : u.ctxRead (u.fld Reg.STM_CTX_CMD_INDEX 0) = (y, none)) :
    u.ctxCommand = y.ctxResult 4 := by
  rw [State.ctxCommand, if_neg (not_not.2 hopen), hread]

variable {ws : List Word} (hread : u.ctxRead (u.fld Reg.STM_CTX_CMD_INDEX 0) = (y, some ws))
include hread

theorem State.ctxCommand_read (hop : y.fld Reg.STM_CTX_CMD_OP 0 = 0) :
    u.ctxCommand = (y.fillMbx ws (List.range 16)).ctxResult 1 := by
  rw [State.ctxCommand, if_neg (not_not.2 hopen), hread]
  exact if_pos hop

/-- An update compares the generation first, then looks at the mask (R264, R285). -/
theorem State.ctxCommand_update (hop : y.fld Reg.STM_CTX_CMD_OP 0 = 1) :
    u.ctxCommand =
      if bitsOf (y.mbxWord 0) 7 0 ≠ cw ws 0 7 0 then y.ctxResult 3
      else if ¬ maskAllowed (y.fld Reg.STM_CTX_MASK_MASK 0) then y.ctxResult 4
      else (y.ctxUpdated (u.fld Reg.STM_CTX_CMD_INDEX 0) (y.fld Reg.STM_CTX_MASK_MASK 0) ws).ctxResult 1 := by
  rw [State.ctxCommand, if_neg (not_not.2 hopen), hread]
  exact if_neg (by omega)

end

/-! ## Updates of one word (R265, R270, R285) -/

theorem bitOf_two_pow (n k : Nat) : bitOf (2 ^ n) k = decide (n = k) := Nat.testBit_two_pow

theorem maskAllowed_two_pow : ∀ n ∈ [8, 9, 11], maskAllowed (2 ^ n) = true := by decide

theorem maskAllowed_of_generation {m : Nat} (h : bitOf m 0 = true) : maskAllowed m = false :=
  List.all_eq_false.2 ⟨0, by decide, by simp [h]⟩

theorem State.ctxUpdated_due (s : State) (i : Nat) (ws : List Word) :
    s.ctxUpdated i (2 ^ 11) ws = s.ctxWrite i (ws.set 11 (word (s.mbxWord 11))) := by
  simp [State.ctxUpdated, ctxMerged, bitOf_two_pow, -Nat.reducePow]

theorem State.ctxUpdated_rate (s : State) (i : Nat) (ws : List Word) :
    s.ctxUpdated i (2 ^ 9) ws = s.ctxWrite i (cwRate ws (s.mbxWord 9)) := by
  simp [State.ctxUpdated, ctxMerged, bitOf_two_pow, -Nat.reducePow]

theorem State.ctxUpdated_window (s : State) (i : Nat) (ws : List Word) :
    s.ctxUpdated i (2 ^ 8) ws = (s.ctxWrite i ws).windowSet i (cwPut ws 8 15 0 (bitsOf (s.mbxWord 8) 15 0)) := by
  simp [State.ctxUpdated, ctxMerged, bitOf_two_pow, -Nat.reducePow]

/-! ## The commands -/

/-- The state in which the check of a map commit runs: the write is stored, GO set and RESULT clear (R260, R289). -/
def State.mapAsked (s : State) (v : Word) : State :=
  ((s.store Reg.STM_MAP_CMD 0 0 v).setFld Reg.STM_MAP_CMD_GO 0 1).setFld Reg.STM_MAP_CMD_RESULT 0 0

section
variable {s : State} {v : Word} (hawake : s.glb.dormant = false)
include hawake

/-- CONTEXT_READ and CONTEXT_UPDATE are a write of STM_CTX_CMD with GO set, told apart by OP. -/
theorem exec_ctxCommand_eq {op : Nat} {i : Instr} (hi : (i, op) ∈ [(Instr.contextRead v, 0), (.contextUpdate v, 1)])
    (hwritable : s.regWritable Reg.STM_CTX_CMD 0 0 v = true) (hgo : Reg.STM_CTX_CMD_GO.get v = 1)
    (hop : Reg.STM_CTX_CMD_OP.get v = op) : exec i s = .next (s.store Reg.STM_CTX_CMD 0 0 v).ctxCommand := by
  have hctx : s.ctxGo op v = (s.store Reg.STM_CTX_CMD 0 0 v).ctxCommand := if_pos ⟨hwritable, hgo, hop⟩
  simp only [List.mem_cons, Prod.mk.injEq, List.not_mem_nil, or_false] at hi
  obtain ⟨rfl, rfl⟩ | ⟨rfl, rfl⟩ := hi
  · show execContextRead v s = _
    rw [execContextRead, State.powered_awake _ _ hawake, hctx]
  · show execContextUpdate v s = _
    rw [execContextUpdate, State.powered_awake _ _ hawake, hctx]

theorem exec_mapCommitGo_idle (hwritable : s.regWritable Reg.STM_MAP_CMD 0 0 v = true)
    (hgo : Reg.STM_MAP_CMD_GO.get v = 1) (hidle : s.flag Reg.STM_MAP_CMD_GO 0 = false) :
    exec (.mapCommitGo v) s = .next (s.mapAsked v).mapGo := by
  show execMapCommitGo v s = _
  rw [execMapCommitGo, State.powered_awake _ _ hawake, if_pos ⟨hwritable, hgo, by simp [hidle]⟩]
  rfl

end

/-! ## The check of an entry (R257, R259, R260) -/

/-- Where the entry lies that STM_MAP_CMD names: a zone entry or a namespace descriptor. -/
def State.mapEntryAt (u : State) : Nat :=
  if u.fld Reg.STM_MAP_CMD_KIND 0 = 1
    then u.pair Reg.STM_ZONE_BASE_LO Reg.STM_ZONE_BASE_HI 0 0 + u.fld Reg.STM_MAP_CMD_INDEX 0 * 64
    else u.pair Reg.STM_NS_BASE_LO Reg.STM_NS_BASE_HI 0 0 + (u.fld Reg.STM_MAP_CMD_INDEX 0 - 1) * 64

section
variable {u y : State}

theorem State.mapGo_undelivered (hread : u.cWords u.mapEntryAt 16 false = (y, none)) : u.mapGo = y.mapResult 2 := by
  unfold State.mapEntryAt at hread
  simp only [State.mapGo, hread]

variable {ws : List Word} (hread : u.cWords u.mapEntryAt 16 false = (y, some ws))
include hread

/-- A zone entry that passes its check waits for the epoch boundary. -/
theorem State.mapGo_zone (hkind : u.fld Reg.STM_MAP_CMD_KIND 0 = 1) :
    u.mapGo = (y.zoneEntry (u.fld Reg.STM_MAP_CMD_INDEX 0) ws).elim (y.mapResult 2) fun z =>
      { y with stm := { y.stm with mapPend := some (.zone (u.fld Reg.STM_MAP_CMD_INDEX 0) z) } } := by
  rw [State.mapEntryAt, if_pos hkind] at hread
  simp only [State.mapGo, hkind, if_true, hread]
  cases y.zoneEntry (u.fld Reg.STM_MAP_CMD_INDEX 0) ws <;> rfl

/-- A namespace descriptor that passes its check waits for the epoch boundary. -/
theorem State.mapGo_namespace {y' : State} {x : Option Ns} (hkind : u.fld Reg.STM_MAP_CMD_KIND 0 ≠ 1)
    (hentry : y.nsEntry (u.fld Reg.STM_MAP_CMD_INDEX 0) ws = (y', x)) :
    u.mapGo = x.elim (y'.mapResult 2) fun x =>
      { y' with stm := { y'.stm with mapPend := some (.ns (u.fld Reg.STM_MAP_CMD_INDEX 0) x) } } := by
  rw [State.mapEntryAt, if_neg hkind] at hread
  simp only [State.mapGo, hkind, if_false, hread, hentry]
  cases x <;> rfl

end

/-! ## The statement -/

/-- Settles O21: a context command is one branch of `ctxCommand` by how the context is found, the generation and the mask, and a
commit one outcome of reading and checking its entry. -/
theorem contextsAndMaps : Obligations.ContextsAndMaps := by
  refine ⟨?unavailable, ?read, ?update, ?commit⟩
  case unavailable =>
    intro s v op i hi hawake hwritable hgo hop
    have hexec := exec_ctxCommand_eq hawake hi hwritable hgo hop
    refine ⟨fun hfree => ?_, fun y hopen hlost => ?_⟩
    · obtain ⟨hresult, hdone, hkeeps⟩ := (s.store Reg.STM_CTX_CMD 0 0 v).ctxResult_spec (r := 2) (by decide)
      have hall := (s.store_writes Reg.STM_CTX_CMD 0 0 v).trans hkeeps
      exact ⟨_, by rw [hexec, State.ctxCommand_notOpen hfree], hresult, hdone, hall.sameRegs, hall.sameBytes,
        (s.store_records Reg.STM_CTX_CMD 0 0 v).stm_eq⟩
    · rw [hexec, State.ctxCommand_lost hopen hlost]
  case read =>
    intro s y v ws hawake hwritable hgo hop u k hopen hread hyop
    obtain ⟨hresult, hdone, hkeeps⟩ := (y.fillMbx ws (List.range 16)).ctxResult_spec (r := 1) (by decide)
    have hfill := y.fillMbx_records ws (List.range 16)
    refine ⟨_, ?_, fun j hj => ?_, hresult, hdone, hfill.sameBytes.trans hkeeps.sameBytes,
      (State.ctxResult_stm ..).trans hfill.stm_eq⟩
    · rw [exec_ctxCommand_eq hawake (by simp) hwritable hgo hop, State.ctxCommand_read hopen hread hyop]
    · calc _ = (y.fillMbx ws (List.range 16)).rd Reg.STM_CTX_MBX 0 j := hkeeps.2 _ (mbx_addr_ne_cmd j)
        _ = ws.getD j 0 := by rw [State.rd_fillMbx, if_pos (List.mem_range.2 hj)]
  case update =>
    intro s y v ws hawake hwritable hgo hop u k mask mb hopen hread hyop
    have hexec : exec (.contextUpdate v) s = .next (if bitsOf (mb 0) 7 0 ≠ cw ws 0 7 0 then y.ctxResult 3
        else if ¬ maskAllowed mask then y.ctxResult 4 else (y.ctxUpdated k mask ws).ctxResult 1) := by
      rw [exec_ctxCommand_eq hawake (by simp) hwritable hgo hop, State.ctxCommand_update hopen hread hyop]
      rfl
    have hallowed (hgen : bitsOf (mb 0) 7 0 = cw ws 0 7 0) (hmask : maskAllowed mask = true) :
        exec (.contextUpdate v) s = .next ((y.ctxUpdated k mask ws).ctxResult 1) := by
      rw [hexec, if_neg (not_not.2 hgen), if_neg (not_not.2 hmask)]
    refine ⟨fun hgen => ?otherGeneration, fun hgen hmask => ?due, fun hgen hmask => ?rate, fun hgen hmask => ?window,
      fun hgen hbit => ?generationNamed⟩
    case otherGeneration => rw [hexec, if_pos hgen]
    case due =>
      rw [hallowed hgen (hmask ▸ maskAllowed_two_pow 11 (by decide)), hmask, State.ctxUpdated_due]
      rfl
    case rate =>
      rw [hallowed hgen (hmask ▸ maskAllowed_two_pow 9 (by decide)), hmask, State.ctxUpdated_rate]
      rfl
    case window =>
      rw [hallowed hgen (hmask ▸ maskAllowed_two_pow 8 (by decide)), hmask, State.ctxUpdated_window]
      rfl
    case generationNamed =>
      rw [hexec, if_neg (not_not.2 hgen), if_pos (by simp [maskAllowed_of_generation hbit])]
  case commit =>
    intro s v hawake hwritable hgo hidle u k base
    have hexec : exec (.mapCommitGo v) s = .next u.mapGo := exec_mapCommitGo_idle hawake hwritable hgo hidle
    refine ⟨fun y hread => ?undelivered, fun y ws hread hkind hfails => ?zoneFails, fun y ws z hread hkind hpasses => ?zone,
      fun y y' ws x hread hkind hentry => ?descriptor⟩
    case undelivered => rw [hexec, State.mapGo_undelivered hread]
    case zoneFails => rw [hexec, State.mapGo_zone hread hkind, hfails]; rfl
    case zone => rw [hexec, State.mapGo_zone hread hkind, hpasses]; rfl
    case descriptor => rw [hexec, State.mapGo_namespace hread hkind hentry]; rfl

/-! ## States that meet the hypotheses -/

theorem exec_shows_of_ctxResult {i : Instr} {s y : State} {r : Nat} (hr : r < 8) (h : exec i s = .next (y.ctxResult r)) :
    ∃ t : State, exec i s = .next t ∧ t.fld Reg.STM_CTX_CMD_RESULT 0 = r := ⟨_, h, (y.ctxResult_spec hr).1⟩

/-- Sixteen words in the context cache at an address of the first 4 KiB. -/
def cachedAt (addr : Nat) (ws : List Word) : State :=
  let s := ((Tests.w0.setFld Reg.CCH_CTRL_EN 0 1).setFldJ Reg.CCH_RGN_BASE_LO_EN 0 0 1).setFldJ Reg.CCH_RGN_SIZE_SIZE 0 0 1
  s.setCline (lineBank addr) 0 (lineSet addr) { data := wordBytes ws, valid := true }

/-- An open context of generation 7. -/
def openWords : List Word := [0x10000107, 0, 0x40, 0, 0x80, 0, 0, 0, 0x00200020, 100, 1, 2, 3, 0, 0, 5]

/-- Context 5 is open, generation `g` stands in the mailbox, and the mask is `m`. -/
def contextIn (g m : Nat) : State :=
  let s := ((cachedAt (64 * 5) openWords).wr Reg.STM_CTX_MBX 0 0 (word g)).wr Reg.STM_CTX_MASK 0 0 (word m)
  { s with stm := { s.stm with opened := [5] } }

/-- Context 6 beside the open context 5. -/
theorem contextRead_notOpen : ∃ t : State, exec (.contextRead 0x80000006) (contextIn 7 0) = .next t ∧
    t.fld Reg.STM_CTX_CMD_RESULT 0 = 2 := by
  obtain ⟨hunavailable, -⟩ := contextsAndMaps
  obtain ⟨hfree, -⟩ := hunavailable (contextIn 7 0) 0x80000006 0 (.contextRead 0x80000006) (by simp) (by decide)
    (by decide +kernel) (by decide) (by decide)
  obtain ⟨t, hexec, hresult, -⟩ := hfree (by decide +kernel)
  exact ⟨t, hexec, hresult⟩

/-- Context 5 is open and was lost. -/
def contextLost : State := { contextIn 7 0 with stm := { (contextIn 7 0).stm with lost := [5] } }

theorem contextUpdate_lost : ∃ t : State, exec (.contextUpdate 0x88000005) contextLost = .next t ∧
    t.fld Reg.STM_CTX_CMD_RESULT 0 = 4 := by
  obtain ⟨hunavailable, -⟩ := contextsAndMaps
  obtain ⟨-, hlost⟩ := hunavailable contextLost 0x88000005 1 (.contextUpdate 0x88000005) (by simp) (by decide)
    (by decide +kernel) (by decide) (by decide)
  exact exec_shows_of_ctxResult (by decide) (hlost _ (by decide +kernel) (Prod.ext rfl (by decide +kernel)))

/-- The first and the last word. -/
theorem contextRead_open : ∃ t : State, exec (.contextRead 0x80000005) (contextIn 7 0) = .next t ∧
    t.rd Reg.STM_CTX_MBX 0 0 = 0x10000107 ∧ t.rd Reg.STM_CTX_MBX 0 15 = 5 := by
  obtain ⟨-, hread, -⟩ := contextsAndMaps
  obtain ⟨t, hexec, hwords, -⟩ := hread (contextIn 7 0) _ 0x80000005 openWords (by decide) (by decide +kernel) (by decide)
    (by decide) (by decide +kernel) (Prod.ext rfl (by decide +kernel)) (by decide +kernel)
  exact ⟨t, hexec, hwords 0 (by decide), hwords 15 (by decide)⟩

theorem contextUpdate_otherGeneration : ∃ t : State, exec (.contextUpdate 0x88000005) (contextIn 8 0x800) = .next t ∧
    t.fld Reg.STM_CTX_CMD_RESULT 0 = 3 := by
  obtain ⟨-, -, hupdate, -⟩ := contextsAndMaps
  obtain ⟨hother, -⟩ := hupdate (contextIn 8 0x800) _ 0x88000005 openWords (by decide) (by decide +kernel) (by decide)
    (by decide) (by decide +kernel) (Prod.ext rfl (by decide +kernel)) (by decide +kernel)
  exact exec_shows_of_ctxResult (by decide) (hother (by decide +kernel))

theorem contextUpdate_due : ∃ t : State, exec (.contextUpdate 0x88000005) (contextIn 7 0x800) = .next t ∧
    t.fld Reg.STM_CTX_CMD_RESULT 0 = 1 := by
  obtain ⟨-, -, hupdate, -⟩ := contextsAndMaps
  obtain ⟨-, hdue, -⟩ := hupdate (contextIn 7 0x800) _ 0x88000005 openWords (by decide) (by decide +kernel) (by decide)
    (by decide) (by decide +kernel) (Prod.ext rfl (by decide +kernel)) (by decide +kernel)
  exact exec_shows_of_ctxResult (by decide) (hdue (by decide +kernel) (by decide +kernel))

theorem contextUpdate_rate : ∃ t : State, exec (.contextUpdate 0x88000005) (contextIn 7 0x200) = .next t ∧
    t.fld Reg.STM_CTX_CMD_RESULT 0 = 1 := by
  obtain ⟨-, -, hupdate, -⟩ := contextsAndMaps
  obtain ⟨-, -, hrate, -⟩ := hupdate (contextIn 7 0x200) _ 0x88000005 openWords (by decide) (by decide +kernel) (by decide)
    (by decide) (by decide +kernel) (Prod.ext rfl (by decide +kernel)) (by decide +kernel)
  exact exec_shows_of_ctxResult (by decide) (hrate (by decide +kernel) (by decide +kernel))

theorem contextUpdate_window : ∃ t : State, exec (.contextUpdate 0x88000005) (contextIn 7 0x100) = .next t ∧
    t.fld Reg.STM_CTX_CMD_RESULT 0 = 1 := by
  obtain ⟨-, -, hupdate, -⟩ := contextsAndMaps
  obtain ⟨-, -, -, hwindow, -⟩ := hupdate (contextIn 7 0x100) _ 0x88000005 openWords (by decide) (by decide +kernel)
    (by decide) (by decide) (by decide +kernel) (Prod.ext rfl (by decide +kernel)) (by decide +kernel)
  exact exec_shows_of_ctxResult (by decide) (hwindow (by decide +kernel) (by decide +kernel))

/-- A mask that names word 0, which holds the generation, beside a permitted one. -/
theorem contextUpdate_generationNamed : ∃ t : State, exec (.contextUpdate 0x88000005) (contextIn 7 0x801) = .next t ∧
    t.fld Reg.STM_CTX_CMD_RESULT 0 = 4 := by
  obtain ⟨-, -, hupdate, -⟩ := contextsAndMaps
  obtain ⟨-, -, -, -, hnamed⟩ := hupdate (contextIn 7 0x801) _ 0x88000005 openWords (by decide) (by decide +kernel)
    (by decide) (by decide) (by decide +kernel) (Prod.ext rfl (by decide +kernel)) (by decide +kernel)
  exact exec_shows_of_ctxResult (by decide) (hnamed (by decide +kernel) (by decide +kernel))

/-- With no segment mapped no descriptor is delivered. -/
theorem mapCommitGo_undelivered : ∃ y : State, exec (.mapCommitGo 0x80000001) Tests.w0 = .next (y.mapResult 2) := by
  obtain ⟨-, -, -, hcommit⟩ := contextsAndMaps
  obtain ⟨hnone, -⟩ := hcommit Tests.w0 0x80000001 (by decide) (by decide +kernel) (by decide) (by decide +kernel)
  exact ⟨_, hnone _ (Prod.ext rfl (by decide +kernel))⟩

/-- The entry of zone 0, of 1,000 sectors and `d` of data, with its reserve from sector `r`. -/
def zoneWords (d r : Nat) : List Word :=
  let ws : List Word := [0x80000000, 0x00010064, word d, word r, 0, 0, 0, 0, 0, 0, 0, 0, 0, 0, 0]
  ws ++ [word (2 ^ 32 - (ws.foldl (fun a w => a + w.toNat) 0) % 2 ^ 32)]

/-- A reserve of 63 sectors is one too few. -/
theorem mapCommitGo_zone63 : ∃ y : State, exec (.mapCommitGo 0x88000000) (cachedAt 0 (zoneWords 900 937)) =
    .next (y.mapResult 2) := by
  obtain ⟨-, -, -, hcommit⟩ := contextsAndMaps
  obtain ⟨-, hfails, -⟩ := hcommit (cachedAt 0 (zoneWords 900 937)) 0x88000000 (by decide) (by decide +kernel) (by decide)
    (by decide +kernel)
  exact ⟨_, hfails _ (zoneWords 900 937) (Prod.ext rfl (by decide +kernel)) (by decide +kernel) (by decide +kernel)⟩

theorem mapCommitGo_zone64 : ∃ t : State, exec (.mapCommitGo 0x88000000) (cachedAt 0 (zoneWords 900 936)) = .next t ∧
    t.stm.mapPend.isSome = true := by
  obtain ⟨-, -, -, hcommit⟩ := contextsAndMaps
  obtain ⟨-, -, hpasses, -⟩ := hcommit (cachedAt 0 (zoneWords 900 936)) 0x88000000 (by decide) (by decide +kernel) (by decide)
    (by decide +kernel)
  exact ⟨_, hpasses _ (zoneWords 900 936) { valid := true, ncyl := 1, spt := 100, dataP := 900, rsvBase := 936 }
    (Prod.ext rfl (by decide +kernel)) (by decide +kernel) (by decide +kernel), rfl⟩

/-- A descriptor of zeros, with VALID clear, takes namespace 1 away. -/
theorem mapCommitGo_namespaceGone : ∃ t : State, exec (.mapCommitGo 0x80000001) (cachedAt 0 (List.replicate 16 0)) = .next t ∧
    t.stm.mapPend.isSome = true := by
  obtain ⟨-, -, -, hcommit⟩ := contextsAndMaps
  obtain ⟨-, -, -, hentry⟩ := hcommit (cachedAt 0 (List.replicate 16 0)) 0x80000001 (by decide) (by decide +kernel) (by decide)
    (by decide +kernel)
  exact ⟨_, hentry _ _ (List.replicate 16 0) {} (Prod.ext rfl (by decide +kernel)) (by decide +kernel)
    (Prod.ext rfl (by decide +kernel)), rfl⟩

end Sys2Proof.Machine
end

section
/-!
PROOFS. The geometry of the context cache (R290): the bits of an address that name its bank, its set and its tag, and the digits
of the key of a line.
-/

namespace Sys2Proof.Machine

theorem lineBank_eq_bits (a : Nat) : lineBank a = bitsOf a 9 6 := rfl

theorem lineSet_eq_bits (a : Nat) : lineSet a = bitsOf a 18 10 := rfl

/-- The tag has no bound of its own: it is bits [39:19] of an address of 40 bits. -/
theorem lineTag_eq_bits {a : Nat} (ha : a < 2 ^ 40) : lineTag a = bitsOf a 39 19 := by
  have hquot : a / 2 ^ 19 < 2 ^ 21 := Nat.div_lt_of_lt_mul ha
  exact (Nat.mod_eq_of_lt hquot).symm

/-- Tag, set and bank are the digits of a line's number, in the bases of 512 sets and 16 banks. -/
theorem lineAddr_of_addr (a : Nat) : lineAddr (lineBank a) (lineSet a) (lineTag a) = a / 64 * 64 := by
  simp only [lineAddr, lineBank, lineSet, lineTag]
  omega

theorem lineBank_next (a : Nat) : lineBank (a + 64) = (lineBank a + 1) % 16 := by
  simp only [lineBank]
  omega

/-- Two addresses of one bank, set and tag lie in one line. -/
theorem line_eq_of_bank_set_tag {a b : Nat} (hbank : lineBank a = lineBank b) (hset : lineSet a = lineSet b)
    (htag : lineTag a = lineTag b) : a / 64 = b / 64 := by
  have hline : a / 64 * 64 = b / 64 * 64 := by rw [← lineAddr_of_addr a, ← lineAddr_of_addr b, hbank, hset, htag]
  omega

/-! ## The key of a line -/

section
variable {b w e : Nat} (hw : w < 16) (he : e < 512)
include hw he

theorem lineKey_bank : lineKey b w e / 8192 = b := by
  simp only [lineKey]
  omega

theorem lineKey_way : lineKey b w e / 512 % 16 = w := by
  simp only [lineKey]
  omega

theorem lineKey_lt (hb : b < 16) : lineKey b w e < 8 * 2 ^ 20 / 64 := by
  simp only [lineKey]
  omega

end

theorem lineKey_set {e : Nat} (b w : Nat) (he : e < 512) : lineKey b w e % 512 = e := by
  simp only [lineKey]
  omega

/-- Every key is that of its own digits. -/
theorem lineKey_digits (k : Nat) : lineKey (k / 8192) (k / 512 % 16) (k % 512) = k := by
  simp only [lineKey]
  omega

/-- Settles O60: the fields of an address are its digits, and so are bank, way and set of a key. -/
theorem cacheGeometry : Obligations.CacheGeometry := by
  refine ⟨fun a ha => ⟨lineBank_eq_bits a, lineSet_eq_bits a, lineTag_eq_bits ha, lineAddr_of_addr a, lineBank_next a⟩,
    fun a b => line_eq_of_bank_set_tag, fun k => ⟨fun hk => ?_, ?_⟩, ?_⟩
  · exact ⟨_, _, _, by omega, Nat.mod_lt _ (by decide), Nat.mod_lt _ (by decide), (lineKey_digits k).symm⟩
  · rintro ⟨b, w, e, hb, hw, he, rfl⟩
    exact lineKey_lt hw he hb
  · intro b w e b' w' e' _ hw he _ hw' he' hkey
    refine ⟨?_, ?_, ?_⟩
    · rw [← lineKey_bank (b := b) hw he, hkey, lineKey_bank hw' he']
    · rw [← lineKey_way (b := b) hw he, hkey, lineKey_way hw' he']
    · rw [← lineKey_set b w he, hkey, lineKey_set b' w' he']

end Sys2Proof.Machine
end

section
/-!
PROOFS. What the context cache's own operations leave alone (R292 to R295): a frame for what changes the cache's lines, answers
and queues and nothing else, and what a line holds after a write of it, a touch and a request served from it.
-/

namespace Sys2Proof.Machine

/-- `t` is `s` but for the context cache's own state: no register and no byte has changed. -/
def State.InCache (s t : State) : Prop := ∃ x, t = { s with cch := x }

namespace State.InCache

variable {s t u : State}

theorem trans (h : s.InCache t) (k : t.InCache u) : s.InCache u := by
  obtain ⟨x, rfl⟩ := h
  obtain ⟨y, rfl⟩ := k
  exact ⟨y, rfl⟩

theorem regs_eq (h : s.InCache t) : t.regs = s.regs := by
  obtain ⟨x, rfl⟩ := h
  rfl

theorem writesIn (P : Nat → Prop) (h : s.InCache t) : State.WritesIn P s t := by
  obtain ⟨x, rfl⟩ := h
  exact ⟨⟨rfl, rfl, rfl, rfl, rfl⟩, fun _ _ => rfl⟩

theorem sameBytes (h : s.InCache t) : s.SameBytes t := (h.writesIn fun _ => True).sameBytes

theorem rd_eq (h : s.InCache t) (r : Reg) (i j : Nat) : t.rd r i j = s.rd r i j :=
  (h.writesIn fun _ => False).2 _ id

end State.InCache

theorem State.setCline_inCache (s : State) (b w st : Nat) (l : CLine) : s.InCache (s.setCline b w st l) := ⟨_, rfl⟩

theorem State.cacheAnswer_inCache (s : State) (r : CacheReq) (d : Option (List Byte)) : s.InCache (s.cacheAnswer r d) :=
  ⟨_, rfl⟩

/-! ## Lines and answers -/

@[simp] theorem State.cline_setCline_same (s : State) (b w st : Nat) (l : CLine) : (s.setCline b w st l).cline b w st = l :=
  mget_mset_same ..

@[simp] theorem State.cline_cacheAnswer (s : State) (r : CacheReq) (d : Option (List Byte)) (b w st : Nat) :
    (s.cacheAnswer r d).cline b w st = s.cline b w st := rfl

/-- A touch sets AGE alone (R295). -/
theorem State.data_touch (s : State) (b w st : Nat) (once : Bool) :
    ((s.touch b w st once).cline b w st).data = (s.cline b w st).data := by
  cases once with
  | false =>
    show ((s.setCline b w st { s.cline b w st with age := 0 }).cline b w st).data = _
    rw [State.cline_setCline_same]
  | true => rfl

theorem State.touch_inCache (s : State) (b w st : Nat) (once : Bool) : s.InCache (s.touch b w st once) := by
  cases once
  · exact s.setCline_inCache ..
  · exact ⟨s.cch, rfl⟩

@[simp] theorem State.out_touch (s : State) (b w st : Nat) (once : Bool) : (s.touch b w st once).cch.out = s.cch.out := by
  cases once <;> rfl

/-! ## A request served from a way (R292) -/

/-- The bytes that a read names, of the line that a way holds. -/
def State.lineBytes (s : State) (r : CacheReq) (w : Nat) : List Byte :=
  ((s.cline (lineBank r.addr) w (lineSet r.addr)).data.drop (r.addr % 64)).take r.len

/-- The line with a write's bytes merged into it. -/
def State.merged (s : State) (r : CacheReq) (w : Nat) (bs : List Byte) : CLine :=
  let l := s.cline (lineBank r.addr) w (lineSet r.addr)
  { l with data := mergeBytes l.data (r.addr % 64) bs, dirty := true }

theorem State.cacheServe_read (s : State) {r : CacheReq} (w : Nat) (hread : r.data = none) :
    s.cacheServe r w = s.cacheAnswer r (some (s.lineBytes r w)) := by
  simp only [State.cacheServe, hread, State.lineBytes]

theorem State.cacheServe_write (s : State) {r : CacheReq} (w : Nat) {bs : List Byte} (hwrite : r.data = some bs) :
    s.cacheServe r w =
      (s.setCline (lineBank r.addr) w (lineSet r.addr) (s.merged r w bs)).cacheAnswer r (some []) := by
  simp only [State.cacheServe, hwrite, State.merged]

theorem State.cacheServe_inCache (s : State) (r : CacheReq) (w : Nat) : s.InCache (s.cacheServe r w) := by
  cases hdata : r.data with
  | none => rw [s.cacheServe_read w hdata]; exact s.cacheAnswer_inCache ..
  | some bs => rw [s.cacheServe_write w hdata]; exact (s.setCline_inCache ..).trans (State.cacheAnswer_inCache ..)

/-- What a hit does: it counts, touches AGE and serves the request (R294, R295). -/
def State.hitServed (s : State) (r : CacheReq) (w : Nat) : State :=
  ((s.bump Reg.CCH_CNT_HIT 0 1).touch (lineBank r.addr) w (lineSet r.addr) r.once).cacheServe r w

theorem State.hitServed_inCache (s : State) (r : CacheReq) (w : Nat) :
    (s.bump Reg.CCH_CNT_HIT 0 1).InCache (s.hitServed r w) :=
  (State.touch_inCache ..).trans (State.cacheServe_inCache ..)

theorem State.hitServed_writes (s : State) (r : CacheReq) (w : Nat) :
    State.WritesIn (· = Reg.CCH_CNT_HIT.addr 0 0) s (s.hitServed r w) :=
  (State.WritesIn.of_records (P := (· = _)) (.wr s _ rfl)).trans ((s.hitServed_inCache r w).writesIn _)

theorem State.hitServed_count (s : State) (r : CacheReq) (w : Nat) :
    (s.hitServed r w).rd Reg.CCH_CNT_HIT 0 0 = word ((s.rd Reg.CCH_CNT_HIT 0 0).toNat + 1) :=
  ((s.hitServed_inCache r w).rd_eq ..).trans (s.rd_bump_same ..)

theorem State.hitServed_read (s : State) {r : CacheReq} (w : Nat) (hread : r.data = none) :
    (s.hitServed r w).cch.out = { who := r.who, addr := r.addr, data := some (s.lineBytes r w) } :: s.cch.out := by
  simp only [State.hitServed, State.cacheServe_read _ w hread, State.cacheAnswer, State.lineBytes, State.data_touch,
    State.out_touch, State.bump_cch]
  rfl

theorem State.hitServed_write (s : State) {r : CacheReq} (w : Nat) {bs : List Byte} (hwrite : r.data = some bs) :
    let t := s.hitServed r w
    let l := t.cline (lineBank r.addr) w (lineSet r.addr)
    t.cch.out = { who := r.who, addr := r.addr, data := some [] } :: s.cch.out ∧ l.dirty = true ∧
      l.data = mergeBytes (s.cline (lineBank r.addr) w (lineSet r.addr)).data (r.addr % 64) bs := by
  simp only [State.hitServed, State.cacheServe_write _ w hwrite]
  refine ⟨?_, ?_, ?_⟩
  · exact congrArg (_ :: ·) (State.out_touch ..)
  · rw [State.cline_cacheAnswer, State.cline_setCline_same]
    rfl
  · rw [State.cline_cacheAnswer, State.cline_setCline_same]
    simp only [State.merged, State.data_touch]
    rfl

end Sys2Proof.Machine
end

section
/-!
PROOFS. Requests of the context cache (R291 to R296, R301, R306) and the Pantry (R303 to R305): what a request does by how it
finds its bank, what a returning fill does, and what a new size and an access of the Pantry do; then their statement.
-/

namespace Sys2Proof.Machine

/-! ## A request (R294, R306) -/

section
variable {s : State} {r : CacheReq}

theorem exec_cacheRequest_ok (hawake : s.glb.dormant = false) (hok : cacheReqOk r s = true) :
    exec (.cacheRequest r) s = .next (s.cacheReq r) := by
  show execCacheRequest r s = _
  rw [execCacheRequest, State.powered_awake _ _ hawake, if_pos hok]

/-- A read outside the cached ranges goes to the buffer (R291). -/
theorem State.cacheReq_uncached {u : State} {d : Option (List Byte)} (huncached : s.cached r.addr = false)
    (hread : r.data = none) (hfetch : s.bufFetch r.addr r.len = (u, d)) : s.cacheReq r = u.cacheAnswer r d := by
  simp only [State.cacheReq, huncached, Bool.not_false, if_true, State.cacheBypass, hread, hfetch]

variable (hcached : s.cached r.addr = true) (hnone : s.cch.waiting = [])
include hcached hnone

section
variable {w : Nat} (hhit : s.hitWay r.addr = some w)
include hhit

theorem State.cacheReq_hit (hgood : r.ecc = .good) : s.cacheReq r = s.hitServed r w := by
  simp [State.cacheReq, hcached, hnone, hhit, hgood, State.hitServed]

theorem State.cacheReq_double (hdouble : r.ecc = .double) :
    s.cacheReq r =
      if (s.cline (lineBank r.addr) w (lineSet r.addr)).dirty then
        (((s.setCline (lineBank r.addr) w (lineSet r.addr) {}).raise srcCCH 1 0 false).disableWay (lineBank r.addr) w).cacheAnswer
          r none
      else
        (((s.setCline (lineBank r.addr) w (lineSet r.addr) {}).corrected srcCCH 0).disableWay (lineBank r.addr) w).cacheMiss
          { r with ecc := .good } := by
  simp [State.cacheReq, hcached, hnone, hhit, hdouble]

end

theorem State.cacheReq_noHit (hmiss : s.hitWay r.addr = none) : s.cacheReq r = s.cacheMiss r := by
  simp [State.cacheReq, hcached, hnone, hmiss]

end

theorem State.cacheMiss_free {s : State} {r : CacheReq} (hfree : s.cmiss (lineBank r.addr) = none)
    (hcovers : s.opCovers r.addr = false) :
    s.cacheMiss r =
      (s.setCmiss (lineBank r.addr) (some { line := r.addr / 64, reqs := [r] })).bump Reg.CCH_CNT_MISS 0 1 := by
  simp [State.cacheMiss, hfree, hcovers]

theorem State.cacheMiss_otherLine {s : State} {r : CacheReq} {m : CMiss} (hbusy : s.cmiss (lineBank r.addr) = some m)
    (hline : m.line ≠ r.addr / 64) : s.cacheMiss r = s.cacheWait r := by
  simp [State.cacheMiss, hbusy, hline]

/-! ## A fill (R294, R296, R301) -/

section
variable {s u : State} {bank : Nat} {m : CMiss}

theorem exec_cacheFillReturn_bank (hawake : s.glb.dormant = false) (hbank : bank < 16) :
    exec (.cacheFillReturn bank) s = .next (s.cacheFill bank) := by
  show execCacheFillReturn bank s = _
  rw [execCacheFillReturn, State.powered_awake _ _ hawake, if_pos hbank]

variable (hmiss : s.cmiss bank = some m)
include hmiss

theorem State.cacheFill_undelivered (hfetch : (s.setCmiss bank none).bufFetch (m.line * 64) 64 = (u, none)) :
    s.cacheFill bank = (m.reqs.foldl (fun s r => s.cacheAnswer r none) u).cacheResume bank := by
  simp only [State.cacheFill, hmiss, hfetch]

/-- A fill that nothing has poisoned, for the one request that waits on it, in a set that does not hold the line. -/
theorem State.cacheFill_installs {bs : List Byte} {r : CacheReq} {w : Nat}
    (hfetch : (s.setCmiss bank none).bufFetch (m.line * 64) 64 = (u, some bs)) (hreqs : m.reqs = [r])
    (hclean : m.poisoned = false) (habsent : u.hitWay (m.line * 64) = none)
    (hhit : (u.install (m.line * 64) bs r.once).hitWay r.addr = some w) :
    s.cacheFill bank = ((u.install (m.line * 64) bs r.once).cacheServe r w).cacheResume bank := by
  simp [State.cacheFill, hmiss, hfetch, hreqs, hclean, habsent, hhit]

end

/-! ## The Pantry's size (R303, R305) -/

/-- The valid lines, by bank, way and set, in the ways that a size of `new` ways takes from the cache. -/
def State.linesTaken (s : State) (new : Nat) : List (Nat × Nat × Nat) :=
  let ways := (List.range 16).filter fun w => decide (16 - new ≤ w) && decide (w < 16 - s.pantryWays)
  (List.range 16).flatMap fun b => ways.flatMap fun w => (s.waySets b w).map fun st => (b, w, st)

/-- A size that is no larger takes no way. -/
theorem State.linesTaken_of_le {s : State} {new : Nat} (h : new ≤ s.pantryWays) : s.linesTaken new = [] := by
  have hways : ((List.range 16).filter fun w => decide (16 - new ≤ w) && decide (w < 16 - s.pantryWays)) = [] := by
    simp only [List.filter_eq_nil_iff, Bool.and_eq_true, decide_eq_true_eq]
    omega
  rw [State.linesTaken, hways]
  simp

/-- CCH_CTRL written, with the bytes of the Pantry below its new size. -/
def State.pantryResized (s : State) (v : Word) : State :=
  { s.store Reg.CCH_CTRL 0 0 v with pantry := s.pantry.filter fun c => c.1 < Reg.CCH_CTRL_PANTRY_WAYS.get v * 2 ^ 19 }

section
variable {s : State} {v : Word}

theorem exec_pantryWaysChange_same (hawake : s.glb.dormant = false) (hsame : Reg.CCH_CTRL_PANTRY_WAYS.get v = s.pantryWays) :
    exec (.pantryWaysChange v) s = .next s := by
  show execPantryWaysChange v s = _
  rw [execPantryWaysChange, State.powered_awake _ _ hawake, if_pos hsame]

theorem exec_pantryWaysChange_other (hawake : s.glb.dormant = false) (hother : Reg.CCH_CTRL_PANTRY_WAYS.get v ≠ s.pantryWays) :
    exec (.pantryWaysChange v) s = .next (s.cchCtrlWrite v) := by
  show execPantryWaysChange v s = _
  rw [execPantryWaysChange, State.powered_awake _ _ hawake, if_neg hother]

theorem State.cchCtrlWrite_writable (hwritable : s.regWritable Reg.CCH_CTRL 0 0 v = true) :
    s.cchCtrlWrite v =
      if (s.linesTaken (Reg.CCH_CTRL_PANTRY_WAYS.get v)).any fun l => (s.cline l.1 l.2.1 l.2.2).locked
        then s.setFld Reg.CCH_STAT_PW_REFUSED 0 1
        else ((s.linesTaken (Reg.CCH_CTRL_PANTRY_WAYS.get v)).foldl
          (fun u l => (u.writeBack l.1 l.2.1 l.2.2).setCline l.1 l.2.1 l.2.2 {}) s).pantryResized v := by
  rw [State.cchCtrlWrite, if_neg (by simp [hwritable])]
  rfl

theorem State.cchCtrlWrite_refused (hwritable : s.regWritable Reg.CCH_CTRL 0 0 v = true)
    (hlocked : ∃ l ∈ s.linesTaken (Reg.CCH_CTRL_PANTRY_WAYS.get v), (s.cline l.1 l.2.1 l.2.2).locked = true) :
    s.cchCtrlWrite v = s.setFld Reg.CCH_STAT_PW_REFUSED 0 1 := by
  rw [State.cchCtrlWrite_writable hwritable, if_pos (List.any_eq_true.2 hlocked)]

theorem State.cchCtrlWrite_resized (hwritable : s.regWritable Reg.CCH_CTRL 0 0 v = true)
    (hfree : ∀ l ∈ s.linesTaken (Reg.CCH_CTRL_PANTRY_WAYS.get v), (s.cline l.1 l.2.1 l.2.2).locked = false) :
    s.cchCtrlWrite v = ((s.linesTaken (Reg.CCH_CTRL_PANTRY_WAYS.get v)).foldl
      (fun u l => (u.writeBack l.1 l.2.1 l.2.2).setCline l.1 l.2.1 l.2.2 {}) s).pantryResized v := by
  rw [State.cchCtrlWrite_writable hwritable, if_neg]
  simpa using hfree

/-- A smaller size flushes no line. -/
theorem State.cchCtrlWrite_lowered (hwritable : s.regWritable Reg.CCH_CTRL 0 0 v = true)
    (hlower : Reg.CCH_CTRL_PANTRY_WAYS.get v < s.pantryWays) : s.cchCtrlWrite v = s.pantryResized v := by
  have hnone := State.linesTaken_of_le (Nat.le_of_lt hlower)
  rw [State.cchCtrlWrite_resized hwritable (by simp [hnone]), hnone, List.foldl_nil]

end

/-! ## An access to the Pantry (R304) -/

/-- The request that a Pantry access answers. -/
def pantryRequest (a : PantryAcc) : CacheReq :=
  { who := a.who, addr := a.offset, len := a.len, data := a.data, once := false, ecc := a.ecc }

section
variable {s : State} {a : PantryAcc} (hlen : a.len = 4 ∨ a.len = 8 ∨ a.len = 64) (haligned : a.offset % a.len = 0)
  (hinside : a.offset < s.pantrySize)
include hlen haligned hinside

/-- The size is a number of whole accesses, so that none of them crosses it. -/
theorem pantryAcc_fits : a.offset + a.len ≤ s.pantrySize := by
  unfold State.pantrySize at hinside ⊢
  obtain h | h | h := hlen <;> rw [h] at haligned ⊢ <;> omega

variable (hawake : s.glb.dormant = false) (hgood : a.ecc = .good)
include hawake hgood

theorem exec_pantryAccess_write {bs : List Byte} (hwrite : a.data = some bs) (hbytes : bs.length = a.len) :
    exec (.pantryAccess a) s = .next ((s.pantryWrite a.offset bs).cacheAnswer (pantryRequest a) (some [])) := by
  show execPantryAccess a s = _
  rw [execPantryAccess, State.powered_awake _ _ hawake]
  simp [or_assoc, hlen, haligned, hwrite, hbytes, State.pantryAcc, Nat.not_le.2 hinside, hgood, pantryRequest]

theorem exec_pantryAccess_read {u : State} {bs : List Byte} (hread : a.data = none)
    (hbytes : s.pantryRead a.offset a.len = (u, bs)) :
    exec (.pantryAccess a) s = .next (u.cacheAnswer (pantryRequest a) (some bs)) := by
  show execPantryAccess a s = _
  rw [execPantryAccess, State.powered_awake _ _ hawake]
  simp [or_assoc, hlen, haligned, hread, hbytes, State.pantryAcc, Nat.not_le.2 hinside, hgood, pantryRequest]

end

/-- A write inside the Pantry changes its bytes alone. -/
theorem State.pantryWrite_inside {s : State} {x : Nat} {bs : List Byte} (h : x + bs.length ≤ s.pantrySize) :
    ∃ p, s.pantryWrite x bs = { s with pantry := p } := ⟨_, if_pos h⟩

/-! ## The statement -/

/-- Settles O24: a request is one branch of `cacheReq` by how it finds its bank, a fill one of `cacheFill` by what the buffer
delivers, and a new size one of `cchCtrlWrite` by the lines in the ways it takes. -/
theorem cacheRequests : Obligations.CacheRequests := by
  refine ⟨?hit, ?miss, ?uncached, ?fill, ?size, ?access⟩
  case hit =>
    intro s r w hawake hok hcached hnone hhit b st
    have hexec := exec_cacheRequest_ok hawake hok
    have hserved (hgood : r.ecc = .good) : exec (.cacheRequest r) s = .next (s.hitServed r w) := by
      rw [hexec, State.cacheReq_hit hcached hnone hhit hgood]
    have hkeeps := s.hitServed_writes r w
    refine ⟨fun hgood hread => ?read, fun bs hgood hwrite => ?write, fun hdouble hdirty => ?lost,
      fun hdouble hclean => ?refetched⟩
    case read =>
      exact ⟨_, hserved hgood, s.hitServed_read w hread, s.hitServed_count r w, hkeeps.sameRegs, hkeeps.sameBytes⟩
    case write =>
      obtain ⟨hout, hdirty, hdata⟩ := s.hitServed_write w hwrite
      exact ⟨_, hserved hgood, hout, hdirty, hdata, hkeeps.sameRegs, hkeeps.sameBytes⟩
    case lost => rw [hexec, State.cacheReq_double hcached hnone hhit hdouble, if_pos hdirty]
    case refetched => rw [hexec, State.cacheReq_double hcached hnone hhit hdouble, if_neg (by simpa using hclean)]
  case miss =>
    intro s r hawake hok hcached hnone hmiss hcovers
    have hexec : exec (.cacheRequest r) s = .next (s.cacheMiss r) := by
      rw [exec_cacheRequest_ok hawake hok, State.cacheReq_noHit hcached hnone hmiss]
    refine ⟨fun hfree => ?_, fun m hbusy hline => ?_⟩
    · rw [hexec, State.cacheMiss_free hfree hcovers]
    · rw [hexec, State.cacheMiss_otherLine hbusy hline]
  case uncached =>
    intro s u r d hawake hok huncached hread hfetch
    rw [exec_cacheRequest_ok hawake hok, State.cacheReq_uncached huncached hread hfetch]
  case fill =>
    intro s u bank m hawake hbank hmiss
    have hexec := exec_cacheFillReturn_bank hawake hbank
    refine ⟨fun hfetch => ?_, fun bs r w hfetch hreqs hclean habsent hhit => ?_⟩
    · rw [hexec, State.cacheFill_undelivered hmiss hfetch]
    · rw [hexec, State.cacheFill_installs hmiss hfetch hreqs hclean habsent hhit]
  case size =>
    intro s v hawake hwritable old new ways sets
    refine ⟨exec_pantryWaysChange_same hawake, fun hlower => ?lower, fun hraise hlocked => ?refused,
      fun hraise hfree => ?raised⟩
    case lower =>
      rw [exec_pantryWaysChange_other hawake (Nat.ne_of_lt hlower), State.cchCtrlWrite_lowered hwritable hlower]
      rfl
    case refused =>
      have hkeeps : State.WritesIn (· = Reg.CCH_STAT.addr 0 0) s (s.setFld Reg.CCH_STAT_PW_REFUSED 0 1) :=
        .of_records (.setFld s 1 rfl)
      refine ⟨_, ?_, State.fld_setFld_same _ _ _ _ (by decide) (by decide), hkeeps.sameRegs, hkeeps.sameBytes, rfl⟩
      rw [exec_pantryWaysChange_other hawake (Nat.ne_of_gt hraise), State.cchCtrlWrite_refused hwritable hlocked]
    case raised =>
      refine ⟨_, rfl, ?_⟩
      rw [exec_pantryWaysChange_other hawake (Nat.ne_of_gt hraise), State.cchCtrlWrite_resized hwritable hfree]
      rfl
  case access =>
    intro s a hawake hlen haligned hinside hgood
    refine ⟨fun bs hwrite hbytes => ?_, fun u bs hread hfound => ?_⟩
    · obtain ⟨p, hp⟩ := State.pantryWrite_inside (bs := bs) (hbytes ▸ pantryAcc_fits hlen haligned hinside)
      have hexec := exec_pantryAccess_write hlen haligned hinside hawake hgood hwrite hbytes
      rw [hp] at hexec ⊢
      exact ⟨_, hexec, rfl, rfl, rfl, rfl⟩
    · exact ⟨_, exec_pantryAccess_read hlen haligned hinside hawake hgood hread hfound, rfl, rfl, rfl⟩

/-! ## States that meet the hypotheses -/

/-- An access of the stream engine. -/
def stmRequest (addr len : Nat) (data : Option (List Byte)) (ecc : Ecc) : CacheReq :=
  { who := .stm, addr := addr, len := len, data := data, once := false, ecc := ecc }

/-- The line of context 5 is cached. -/
def lineCached : State := cachedAt (64 * 5) openWords

/-- The line of context 5 is cached and dirty. -/
def lineDirty : State := lineCached.setCline 5 0 0 { data := wordBytes openWords, valid := true, dirty := true }

/-- The last word of the line. -/
theorem cacheRequest_readHit : ∃ t : State,
    exec (.cacheRequest (stmRequest (64 * 5 + 60) 4 none .good)) lineCached = .next t ∧
    t.cch.out = [{ who := .stm, addr := 64 * 5 + 60, data := some [5, 0, 0, 0] }] := by
  obtain ⟨hhit, -⟩ := cacheRequests
  obtain ⟨hread, -⟩ := hhit lineCached (stmRequest (64 * 5 + 60) 4 none .good) 0 (by decide) (by decide)
    (by decide) (by decide) (by decide)
  obtain ⟨t, hexec, hout, -⟩ := hread rfl rfl
  exact ⟨t, hexec, hout.trans (by decide)⟩

/-- The first word of the line, whose other bytes stay. -/
theorem cacheRequest_writeHit : ∃ t : State,
    exec (.cacheRequest (stmRequest (64 * 5) 4 (some [1, 2, 3, 4]) .good)) lineCached = .next t ∧
    (t.cline 5 0 0).dirty = true ∧ (t.cline 5 0 0).data = [1, 2, 3, 4] ++ (wordBytes openWords).drop 4 := by
  obtain ⟨hhit, -⟩ := cacheRequests
  obtain ⟨-, hwrite, -⟩ := hhit lineCached (stmRequest (64 * 5) 4 (some [1, 2, 3, 4]) .good) 0 (by decide) (by decide)
    (by decide) (by decide) (by decide)
  obtain ⟨t, hexec, -, hdirty, hdata, -⟩ := hwrite _ rfl rfl
  exact ⟨t, hexec, hdirty, hdata.trans (by decide)⟩

theorem cacheRequest_dirtyLost : ∃ y : State, exec (.cacheRequest (stmRequest (64 * 5) 64 none .double)) lineDirty =
    .next (y.cacheAnswer (stmRequest (64 * 5) 64 none .double) none) := by
  obtain ⟨hhit, -⟩ := cacheRequests
  obtain ⟨-, -, hlost, -⟩ := hhit lineDirty (stmRequest (64 * 5) 64 none .double) 0 (by decide) (by decide)
    (by decide) (by decide) (by decide)
  exact ⟨_, hlost rfl (by decide)⟩

theorem cacheRequest_cleanRefetched : ∃ y : State, exec (.cacheRequest (stmRequest (64 * 5) 64 none .double)) lineCached =
    .next (y.cacheMiss (stmRequest (64 * 5) 64 none .good)) := by
  obtain ⟨hhit, -⟩ := cacheRequests
  obtain ⟨-, -, -, hclean⟩ := hhit lineCached (stmRequest (64 * 5) 64 none .double) 0 (by decide) (by decide)
    (by decide) (by decide) (by decide)
  exact ⟨_, hclean rfl (by decide)⟩

/-- The last line of the region is not in the cache. -/
theorem cacheRequest_miss : ∃ t : State, exec (.cacheRequest (stmRequest (64 * 63) 64 none .good)) lineCached = .next t ∧
    (t.cmiss 15).isSome = true := by
  obtain ⟨-, hmiss, -⟩ := cacheRequests
  obtain ⟨hfree, -⟩ := hmiss lineCached (stmRequest (64 * 63) 64 none .good) (by decide) (by decide)
    (by decide) (by decide) (by decide) (by decide)
  exact ⟨_, hfree (by decide), by decide⟩

/-- A read of context 6, whose line lies in bank 6. -/
def missOfSix : CMiss := { line := 6, reqs := [stmRequest (64 * 6) 64 none .good] }

/-- The read is outstanding in its bank. -/
def missOutstanding : State := lineCached.setCmiss 6 (some missOfSix)

/-- The next line of bank 6. -/
theorem cacheRequest_otherLine : ∃ t : State,
    exec (.cacheRequest (stmRequest (64 * 22) 64 none .good)) missOutstanding = .next t ∧ t.cch.waiting.length = 1 := by
  obtain ⟨-, hmiss, -⟩ := cacheRequests
  obtain ⟨-, hother⟩ := hmiss missOutstanding (stmRequest (64 * 22) 64 none .good) (by decide) (by decide)
    (by decide) (by decide) (by decide) (by decide)
  exact ⟨_, hother missOfSix (by decide) (by decide), rfl⟩

/-- The first line past the region, where no segment maps the buffer. -/
theorem cacheRequest_uncached : ∃ y : State, exec (.cacheRequest (stmRequest 4096 64 none .good)) lineCached =
    .next (y.cacheAnswer (stmRequest 4096 64 none .good) none) := by
  obtain ⟨-, -, huncached, -⟩ := cacheRequests
  exact ⟨_, huncached lineCached _ (stmRequest 4096 64 none .good) none (by decide) (by decide) (by decide) rfl
    (Prod.ext rfl (by decide))⟩

theorem cacheFillReturn_undelivered : ∃ y : State, exec (.cacheFillReturn 6) missOutstanding =
    .next (State.cacheResume (y.cacheAnswer (stmRequest (64 * 6) 64 none .good) none) 6) := by
  obtain ⟨-, -, -, hfill, -⟩ := cacheRequests
  obtain ⟨hundelivered, -⟩ := hfill missOutstanding _ 6 missOfSix (by decide) (by decide) (by decide)
  exact ⟨_, hundelivered (Prod.ext rfl (by decide))⟩

/-- The same miss with buffer memory behind it. -/
theorem cacheFillReturn_delivered : ∃ y : State, exec (.cacheFillReturn 6) (Tests.mapped missOutstanding) =
    .next ((y.cacheServe (stmRequest (64 * 6) 64 none .good) 0).cacheResume 6) := by
  obtain ⟨-, -, -, hfill, -⟩ := cacheRequests
  obtain ⟨-, hdelivered⟩ := hfill (Tests.mapped missOutstanding) _ 6 missOfSix (by decide) (by decide)
    (by decide)
  exact ⟨_, hdelivered (List.replicate 64 0) _ 0 (Prod.ext rfl (by decide)) rfl rfl (by decide)
    (by decide)⟩

/-- The cache is active with `n` ways of Pantry and a line in way 15 of bank 0. -/
def pantryOf (n : Nat) (locked : Bool) : State :=
  (Tests.w0.wr Reg.CCH_CTRL 0 0 (word (16 * n + 1))).setCline 0 15 0
    { data := wordBytes openWords, valid := true, locked := locked }

theorem pantryWaysChange_same : exec (.pantryWaysChange 0x81) (pantryOf 8 false) = .next (pantryOf 8 false) := by
  obtain ⟨-, -, -, -, hsize, -⟩ := cacheRequests
  obtain ⟨hsame, -⟩ := hsize (pantryOf 8 false) 0x81 (by decide) (by decide)
  exact hsame (by decide)

theorem pantryWaysChange_lowered : ∃ t : State, exec (.pantryWaysChange 0x71) (pantryOf 8 false) = .next t ∧
    t.pantryWays = 7 := by
  obtain ⟨-, -, -, -, hsize, -⟩ := cacheRequests
  obtain ⟨-, hlower, -⟩ := hsize (pantryOf 8 false) 0x71 (by decide) (by decide)
  exact ⟨_, hlower (by decide), by decide⟩

theorem pantryWaysChange_refused : ∃ t : State, exec (.pantryWaysChange 0x11) (pantryOf 0 true) = .next t ∧
    t.fld Reg.CCH_STAT_PW_REFUSED 0 = 1 := by
  obtain ⟨-, -, -, -, hsize, -⟩ := cacheRequests
  obtain ⟨-, -, hrefused, -⟩ := hsize (pantryOf 0 true) 0x11 (by decide) (by decide)
  obtain ⟨t, hexec, hshown, -⟩ := hrefused (by decide) (by decide)
  exact ⟨t, hexec, hshown⟩

theorem pantryWaysChange_raised : ∃ t : State, exec (.pantryWaysChange 0x11) (pantryOf 0 false) = .next t ∧
    t.pantryWays = 1 ∧ (t.cline 0 15 0).valid = false := by
  obtain ⟨-, -, -, -, hsize, -⟩ := cacheRequests
  obtain ⟨-, -, -, hraised⟩ := hsize (pantryOf 0 false) 0x11 (by decide) (by decide)
  obtain ⟨y, hy, hexec⟩ := hraised (by decide) (by decide)
  subst hy
  exact ⟨_, hexec, by decide, by decide⟩

/-- An access to the last bytes of a Pantry of one way. -/
def lastOfPantry (len : Nat) (data : Option (List Byte)) : PantryAcc :=
  { who := .port 0, offset := 2 ^ 19 - len, len := len, data := data, ecc := .good }

theorem pantryAccess_writeLast : ∃ t : State,
    exec (.pantryAccess (lastOfPantry 8 (some (List.replicate 8 7)))) (pantryOf 1 false) = .next t ∧ t.pantry.length = 8 := by
  obtain ⟨-, -, -, -, -, haccess⟩ := cacheRequests
  obtain ⟨hwrite, -⟩ := haccess (pantryOf 1 false) (lastOfPantry 8 (some (List.replicate 8 7))) (by decide) (by decide)
    (by decide) (by decide) rfl
  obtain ⟨t, hexec, hpantry, -⟩ := hwrite _ rfl (by decide)
  exact ⟨t, hexec, by rw [hpantry]; decide⟩

theorem pantryAccess_readLast : ∃ t : State,
    exec (.pantryAccess (lastOfPantry 64 none)) (pantryOf 1 false) = .next t ∧
    t.cch.out = [{ who := .port 0, addr := 2 ^ 19 - 64, data := some (List.replicate 64 0) }] := by
  obtain ⟨-, -, -, -, -, haccess⟩ := cacheRequests
  obtain ⟨-, hread⟩ := haccess (pantryOf 1 false) (lastOfPantry 64 none) (by decide) (by decide) (by decide) (by decide) rfl
  obtain ⟨t, hexec, hout, -⟩ := hread (pantryOf 1 false) (List.replicate 64 0) rfl (by decide)
  exact ⟨t, hexec, hout.trans (by decide)⟩

end Sys2Proof.Machine
end

section
/-!
PROOFS. Maintenance operations of the context cache (R297 to R302, R308, R398): what a write of CCH_OP and a CMO word start, what
each operation on the line of an address does, and what the end of an operation leaves; then their statement.
-/

namespace Sys2Proof.Machine

/-! ## A command that asks for an operation (R298, R398) -/

/-- The commands that ask for a maintenance operation, each with its OP (R298). -/
def cacheOpCommands (src : CmoSrc) : List (Instr × Nat) :=
  [(.inval src, 1), (.clean src, 2), (.cacheFlush src, 3), (.lock src, 4), (.unlock src, 5), (.lookup src, 6)]

section
variable {s : State} {src : CmoSrc} {i : Instr} {op : Nat} (hi : (i, op) ∈ cacheOpCommands src)
include hi

theorem cacheOpCommands_op : 1 ≤ op ∧ op ≤ 6 := by
  simp only [cacheOpCommands, List.mem_cons, Prod.mk.injEq, List.not_mem_nil, or_false] at hi
  omega

/-- The six commands differ in their OP alone. -/
theorem exec_cacheOpCommand (hawake : s.glb.dormant = false) : exec i s = .next (s.cacheOp op src) := by
  have hpowered : exec i s = s.powered fun s => .next (s.cacheOp op src) := by
    simp only [cacheOpCommands, List.mem_cons, Prod.mk.injEq, List.not_mem_nil, or_false] at hi
    obtain ⟨rfl, rfl⟩ | ⟨rfl, rfl⟩ | ⟨rfl, rfl⟩ | ⟨rfl, rfl⟩ | ⟨rfl, rfl⟩ | ⟨rfl, rfl⟩ := hi <;> rfl
  rw [hpowered, State.powered_awake _ _ hawake]

end

section
variable {s : State} {v : Word} {op : Nat} (hop : Reg.CCH_OP_OP.get v = op) (hgo : Reg.CCH_OP_GO.get v = 1)
  (hwritable : s.regWritable Reg.CCH_OP 0 0 v = true)
include hop hgo hwritable

/-- While an operation runs, GO is ignored (R298). -/
theorem State.cacheOp_reg_busy (hbusy : s.cch.op ≠ none) : s.cacheOp op (.reg v) = s := by
  rw [State.cacheOp, if_pos ⟨hop, hgo⟩, State.cacheOpWrite, if_pos hwritable, if_pos hgo,
    if_pos (Option.isSome_iff_ne_none.2 hbusy)]

theorem State.cacheOp_reg_idle (hidle : s.cch.op = none) (hstored : (s.store Reg.CCH_OP 0 0 v).opOfRegs.op = op)
    (hdefined : 1 ≤ op ∧ op ≤ 6) :
    s.cacheOp op (.reg v) = ((((s.store Reg.CCH_OP 0 0 v).setFld Reg.CCH_OP_GO 0 1).setFld Reg.CCH_OP_RESULT 0 0).opRun
      (s.store Reg.CCH_OP 0 0 v).opOfRegs) := by
  rw [State.cacheOp, if_pos ⟨hop, hgo⟩, State.cacheOpWrite, if_pos hwritable, if_pos hgo, if_neg (by simp [hidle])]
  exact if_neg (by omega)

end

/-- The operation that the CMO word of a sequencer names (R398). -/
def State.cmoOf (s : State) (q op : Nat) : COp :=
  { op := op, addr := s.memAddr q (s.mw q), len := (s.gr q ((s.mw q).mD + 1)).toNat,
    range := bitOf (s.mw q).mOfs 4 && decide (op ≤ 3), incl := bitOf (s.mw q).mOfs 5, who := some q }

/-- The CMO word has issued and its sequencer waits (R398). -/
def State.cmoIssued (s : State) (q : Nat) : State := (s.issue q).setSq q { (s.issue q).sq q with cmo := true }

/-- A CMO word starts its operation, or puts it behind those that wait (R298, R398). -/
theorem State.cacheOp_seq {s : State} {q op : Nat} (hq : 32 ≤ q) (hissue : s.canIssue q 0x2C = true)
    (hop : (s.mw q).mOfs % 16 = op) :
    s.cacheOp op (.seq q) =
      let u := s.cmoIssued q
      if u.cch.op.isSome then { u with cch := { u.cch with opq := u.cch.opq ++ [s.cmoOf q op] } }
      else u.opRun (s.cmoOf q op) := by
  rw [State.cacheOp]
  exact if_pos ⟨hq, hissue, hop⟩

/-! ## An operation on a line that the cache holds (R297, R298) -/

/-- The operation stands as the one that runs. -/
def State.running (s : State) (o : COp) : State := { s with cch := { s.cch with op := some o } }

theorem State.running_inCache (s : State) (o : COp) : s.InCache (s.running o) := ⟨_, rfl⟩

/-- The line of an operation's address, in a way. -/
def State.lineOf (s : State) (o : COp) (w : Nat) : CLine := s.cline (lineBank o.addr) w (lineSet o.addr)

/-- The line takes a new state, and the operation stands as the one that runs. -/
def State.relined (s : State) (o : COp) (w : Nat) (x : CLine) : State :=
  (s.setCline (lineBank o.addr) w (lineSet o.addr) x).running o

theorem State.relined_inCache (s : State) (o : COp) (w : Nat) (x : CLine) : s.InCache (s.relined o w x) :=
  (s.setCline_inCache ..).trans (State.running_inCache _ o)

theorem State.cline_relined (s : State) (o : COp) (w : Nat) (x : CLine) :
    (s.relined o w x).cline (lineBank o.addr) w (lineSet o.addr) = x := s.cline_setCline_same ..

/-- What LOOKUP reports of a line in a way (R308). -/
def CLine.look (x : CLine) (w : Nat) : Nat :=
  2 ^ 31 + bit01 x.dirty * 2 ^ 30 + bit01 x.locked * 2 ^ 29 + bit01 x.stale * 2 ^ 28 + x.age * 2 ^ 26 + w

section
variable {s : State} {o : COp} {w : Nat} (hhit : s.hitWay o.addr = some w)
include hhit

/-- LOCK of an unlocked line: it locks, unless that would leave its set fewer than two eligible ways (R297). -/
theorem State.opRun_lock (hop : o.op = 4) (hunlocked : (s.lineOf o w).locked = false) :
    s.opRun o =
      if (s.eligibleWays (lineBank o.addr) (lineSet o.addr)).length < 3 ∧ s.wayUsable (lineBank o.addr) w = true
      then s.running { o with refused := true }
      else s.relined o w { s.lineOf o w with locked := true } := by
  rw [State.lineOf] at hunlocked ⊢
  simp [State.opRun, hop, hhit, hunlocked, State.running, State.relined]

/-- UNLOCK of a line that no range operation has passed over (R297). -/
theorem State.opRun_unlock (hop : o.op = 5) (hfresh : (s.lineOf o w).stale = false) :
    s.opRun o = s.relined o w { s.lineOf o w with locked := false } := by
  rw [State.lineOf] at hfresh ⊢
  simp [State.opRun, hop, hhit, hfresh, State.running, State.relined]

/-- UNLOCK drops a line that is locked and stale (R297). -/
theorem State.opRun_unlock_stale (hop : o.op = 5) (hlocked : (s.lineOf o w).locked = true)
    (hstale : (s.lineOf o w).stale = true) : s.opRun o = s.relined { o with inval := 1 } w {} := by
  rw [State.lineOf] at hlocked hstale
  simp [State.opRun, hop, hhit, hlocked, hstale, State.running, State.relined]

theorem State.opRun_lookup (hop : o.op = 6) : s.opRun o = s.running { o with look := (s.lineOf o w).look w } := by
  simp [State.opRun, hop, hhit, State.running, CLine.look, State.lineOf]

end

/-! ## The end of an operation (R302, R308) -/

theorem State.cacheResume_of_none_waiting {s : State} (hnone : s.cch.waiting = []) (bank : Nat) : s.cacheResume bank = s := by
  have hsame : { s with cch := { s.cch with waiting := [] } } = s := by rw [← hnone]
  rw [State.cacheResume, hnone]
  exact hsame

theorem State.foldl_cacheResume_of_none_waiting {s : State} (hnone : s.cch.waiting = []) (banks : List Nat) :
    banks.foldl (fun s b => s.cacheResume b) s = s := by
  induction banks with
  | nil => rfl
  | cons b banks ih => rw [List.foldl_cons, State.cacheResume_of_none_waiting hnone, ih]

/-- No operation runs, and the counts of the one that did stand in CCH_OP_RES0 and CCH_OP_RES1. -/
def State.opCounted (s : State) (o : COp) : State :=
  (({ s with cch := { s.cch with op := none } } : State).wr Reg.CCH_OP_RES0 0 0 o.results.1).wr Reg.CCH_OP_RES1 0 0 o.results.2

/-- The end shown in CCH_OP: its RESULT, and GO clear. -/
def State.opShown (s : State) (o : COp) : State :=
  ((s.opCounted o).setFld Reg.CCH_OP_RESULT 0 (if o.refused then 2 else 1)).setFld Reg.CCH_OP_GO 0 0

/-- The end of an operation of CCH_OP with no request and no other operation waiting. -/
theorem State.opDone_alone {s : State} {o : COp} (hop : s.cch.op = some o) (hhost : o.who = none) (hnone : s.cch.waiting = [])
    (hlast : s.cch.opq = []) : s.opDone = s.opShown o := by
  have hresume := State.foldl_cacheResume_of_none_waiting (s := s.opShown o) hnone (List.range 16)
  have hqueue : (s.opShown o).cch.opq = [] := hlast
  simp only [State.opDone, hop, hhost, Option.isNone_none, if_true]
  simp only [State.opShown, State.opCounted] at hresume hqueue ⊢
  rw [hresume, hqueue]

theorem State.opCounted_writes (s : State) (o : COp) :
    State.WritesIn (fun a => a = Reg.CCH_OP_RES0.addr 0 0 ∨ a = Reg.CCH_OP_RES1.addr 0 0) s (s.opCounted o) := by
  have hidle : s.InCache { s with cch := { s.cch with op := none } } := ⟨_, rfl⟩
  exact (hidle.writesIn _).trans (.of_records (.trans (.wr _ _ (.inl rfl)) (.wr _ _ (.inr rfl))))

theorem State.rd_opCounted_res0 (s : State) (o : COp) : (s.opCounted o).rd Reg.CCH_OP_RES0 0 0 = o.results.1 :=
  (State.rd_wr_ne _ Reg.CCH_OP_RES1 Reg.CCH_OP_RES0 _ _ _ _ _ (by decide)).trans (State.rd_wr_same ..)

theorem State.rd_opCounted_res1 (s : State) (o : COp) : (s.opCounted o).rd Reg.CCH_OP_RES1 0 0 = o.results.2 :=
  State.rd_wr_same ..

theorem State.opShown_spec (s : State) (o : COp) :
    (s.opShown o).fld Reg.CCH_OP_RESULT 0 = (if o.refused then 2 else 1) ∧ (s.opShown o).fld Reg.CCH_OP_GO 0 = 0 ∧
      State.WritesIn (· = Reg.CCH_OP.addr 0 0) (s.opCounted o) (s.opShown o) := by
  have hresult : (if o.refused then 2 else 1) < 8 := by split <;> decide
  exact (s.opCounted o).setFld_setFld_spec (f := Reg.CCH_OP_RESULT) (g := Reg.CCH_OP_GO) (by decide) 0 hresult (by decide)

theorem exec_cacheOpComplete_host {s : State} {o : COp} (hawake : s.glb.dormant = false) (hop : s.cch.op = some o)
    (hhost : o.who = none) : exec .cacheOpComplete s = .next s.opDone := by
  show execCacheOpComplete s = _
  rw [execCacheOpComplete, State.powered_awake _ _ hawake]
  simp only [hop, hhost]

/-- The sequencer whose word waited waits no more. -/
def State.cmoOver (s : State) (q : Nat) : State := s.setSq q { s.sq q with cmo := false }

theorem exec_cacheOpComplete_seq {s : State} {o : COp} {q : Nat} (hawake : s.glb.dormant = false) (hop : s.cch.op = some o)
    (hseq : o.who = some q) (hwaits : (s.opDone.sq q).cmo = true) (hruns : (s.opDone.cmoOver q).seqState q = seqRunning) :
    exec .cacheOpComplete s = .next (((s.opDone.cmoOver q).setGrs q (s.opDone.mw q).mD [o.results.1, o.results.2]).flow q
      (s.opDone.mw q)) := by
  show execCacheOpComplete s = _
  rw [execCacheOpComplete, State.powered_awake _ _ hawake]
  simp only [hop, hseq]
  rw [if_pos hwaits]
  exact congrArg _ (if_pos hruns)

/-! ## The statement -/

/-- Settles O25: a command starts its operation, waits or is ignored by what runs; an operation on a line in the cache is one
case of `opRun`; and its end is `opDone`, after which the word that waited flows. -/
theorem cacheOperations : Obligations.CacheOperations := by
  refine ⟨?host, ?word, ?hostEnd, ?wordEnd, ?line⟩
  case host =>
    intro s v op i hawake hi hwritable hop hgo
    have hexec := exec_cacheOpCommand (src := .reg v) hi hawake
    refine ⟨fun hbusy => ?_, fun hidle hstored => ?_⟩
    · rw [hexec, State.cacheOp_reg_busy hop hgo hwritable hbusy]
    · rw [hexec, State.cacheOp_reg_idle hop hgo hwritable hidle hstored (cacheOpCommands_op (src := .reg v) hi)]
  case word =>
    intro s q op i hawake hi hq hissue hop
    have hexec := exec_cacheOpCommand (src := .seq q) hi hawake
    rw [State.cacheOp_seq hq hissue hop] at hexec
    refine ⟨fun hidle => hexec.trans ?_, fun hbusy => hexec.trans ?_⟩
    · exact congrArg _ (if_neg (by simp [show (s.cmoIssued q).cch.op = none from hidle]))
    · exact congrArg _ (if_pos (Option.isSome_iff_ne_none.2 hbusy))
  case hostEnd =>
    intro s o hawake hop hhost hnone hlast
    obtain ⟨hresult, hgo, hshown⟩ := s.opShown_spec o
    have hcounted := s.opCounted_writes o
    refine ⟨s.opShown o, ?_, ?_, ?_, hresult, hgo, rfl, rfl, hcounted.sameBytes.trans hshown.sameBytes, fun a ha => ?_⟩
    · rw [exec_cacheOpComplete_host hawake hop hhost, State.opDone_alone hop hhost hnone hlast]
    · exact (hshown.2 _ (by decide)).trans (s.rd_opCounted_res0 o)
    · exact (hshown.2 _ (by decide)).trans (s.rd_opCounted_res1 o)
    · simp only [List.mem_cons, List.not_mem_nil, or_false, not_or] at ha
      obtain ⟨hop, hres0, hres1⟩ := ha
      exact (hshown.2 a hop).trans (hcounted.2 a (not_or.2 ⟨hres0, hres1⟩))
  case wordEnd =>
    intro s o q hawake hop hseq u v w hwaits hruns
    exact exec_cacheOpComplete_seq hawake hop hseq hwaits hruns
  case line =>
    intro s o w _ hhit b st x
    refine ⟨fun hop hunlocked hways => ?lock, fun hop hunlocked hways husable => ?refused, fun hop hlocked hfresh => ?unlock,
      fun hop hlocked hstale => ?drop, fun hop => ?lookup⟩
    case lock =>
      have hrun := (State.opRun_lock hhit hop hunlocked).trans (if_neg fun h => Nat.not_lt.2 hways h.1)
      have hkeeps := s.relined_inCache o w { s.lineOf o w with locked := true }
      have hline := s.cline_relined o w { s.lineOf o w with locked := true }
      exact ⟨_, hrun.symm, congrArg CLine.locked hline, (congrArg CLine.data hline).trans rfl,
        hkeeps.regs_eq, hkeeps.sameBytes⟩
    case refused =>
      rw [State.opRun_lock hhit hop hunlocked, if_pos ⟨hways, husable⟩]
      exact ⟨_, rfl, rfl, rfl⟩
    case unlock =>
      rw [State.opRun_unlock hhit hop hfresh, State.cline_relined]
      exact ⟨rfl, rfl⟩
    case drop =>
      rw [State.opRun_unlock_stale hhit hop hlocked hstale]
      exact congrArg CLine.valid (s.cline_relined { o with inval := 1 } w {})
    case lookup =>
      rw [State.opRun_lookup hhit hop]
      exact ⟨_, rfl, rfl, rfl⟩

/-! ## States that meet the hypotheses -/

/-- An operation on the line of context 5, asked for by CCH_OP or by a sequencer. -/
def opOnFive (op : Nat) (who : Option Nat) : COp :=
  { op := op, addr := 64 * 5, len := 0, range := false, incl := false, who := who }

/-- The line of context 5 is cached, and CCH_OP_ADDR names it. -/
def opAsked : State := lineCached.wr Reg.CCH_OP_ADDR_LO 0 0 (word (64 * 5))

/-- LOOKUP while an UNLOCK runs. -/
theorem lookup_busy : exec (.lookup (.reg 0x80000006)) (opAsked.running (opOnFive 5 none)) =
    .next (opAsked.running (opOnFive 5 none)) := by
  obtain ⟨hhost, -⟩ := cacheOperations
  obtain ⟨hbusy, -⟩ := hhost (opAsked.running (opOnFive 5 none)) 0x80000006 6 (.lookup (.reg 0x80000006)) (by decide)
    (by simp) (by decide) (by decide) (by decide)
  exact hbusy (by decide)

theorem lookup_idle : ∃ t : State, exec (.lookup (.reg 0x80000006)) opAsked = .next t ∧
    t.cch.op = some { opOnFive 6 none with look := 2 ^ 31 } := by
  obtain ⟨hhost, -⟩ := cacheOperations
  obtain ⟨-, hidle⟩ := hhost opAsked 0x80000006 6 (.lookup (.reg 0x80000006)) (by decide) (by simp) (by decide)
    (by decide) (by decide)
  exact ⟨_, hidle (by decide) (by decide), by decide⟩

/-- Steward 32 stands before a CMO word that asks for a LOCK of the line of context 5 into g[2] and g[3]. -/
def cmoReady (s : State) : State :=
  (Tests.runs s 32 (Tests.mwd [(127, 120, 0x2C), (82, 77, 2), (76, 71, 1), (64, 40, 4)])).setGr 32 1 (word (64 * 5))

theorem lock_wordStarts : ∃ t : State, exec (.lock (.seq 32)) (cmoReady lineCached) = .next t ∧
    (t.cline 5 0 0).locked = true ∧ (t.sq 32).cmo = true := by
  obtain ⟨-, hword, -⟩ := cacheOperations
  obtain ⟨hidle, -⟩ := hword (cmoReady lineCached) 32 4 (.lock (.seq 32)) (by decide) (by simp) (by decide)
    (by decide) (by decide)
  exact ⟨_, hidle (by decide), by decide, by decide⟩

theorem lock_wordWaits : ∃ t : State,
    exec (.lock (.seq 32)) (cmoReady (lineCached.running (opOnFive 5 none))) = .next t ∧ t.cch.opq.length = 1 := by
  obtain ⟨-, hword, -⟩ := cacheOperations
  obtain ⟨-, hbusy⟩ := hword (cmoReady (lineCached.running (opOnFive 5 none))) 32 4 (.lock (.seq 32)) (by decide)
    (by simp) (by decide) (by decide) (by decide)
  exact ⟨_, hbusy (by decide), by decide⟩

/-- A LOCK that was refused, and a count past its field. -/
theorem cacheOpComplete_refused : ∃ t : State,
    exec .cacheOpComplete (opAsked.running { opOnFive 4 none with refused := true, stale := 65536 }) = .next t ∧
    t.fld Reg.CCH_OP_RESULT 0 = 2 ∧ t.rd Reg.CCH_OP_RES0 0 0 = 0xFFFF := by
  obtain ⟨-, -, hend, -⟩ := cacheOperations
  obtain ⟨t, hexec, hres0, -, hresult, -⟩ := hend (opAsked.running { opOnFive 4 none with refused := true, stale := 65536 }) _
    (by decide) rfl rfl rfl rfl
  exact ⟨t, hexec, hresult, hres0.trans (by decide)⟩

/-- Steward 32 waits for its LOCK, which runs. -/
def cmoWaiting : State :=
  let s := cmoReady (lineCached.running { opOnFive 4 (some 32) with wb := 3 })
  s.setSq 32 { s.sq 32 with cmo := true }

/-- The words land in g[2] and g[3]. -/
theorem cacheOpComplete_word : ∃ t : State, exec .cacheOpComplete cmoWaiting = .next t ∧ t.gr 32 2 = 0 ∧ t.gr 32 3 = 3 ∧
    (t.sq 32).cmo = false := by
  obtain ⟨-, -, -, hend, -⟩ := cacheOperations
  exact ⟨_, hend cmoWaiting { opOnFive 4 (some 32) with wb := 3 } 32 (by decide) (by decide) rfl
    (by decide) (by decide), by decide, by decide, by decide⟩

/-- The line of context 5 is cached as `x`, and the ways of bank 5 in a mask are disabled. -/
def waysLeft (dis : Nat) (x : CLine) : State := (lineCached.setCline 5 0 0 x).wr Reg.CCH_WAY_DIS 0 2 (word (dis * 2 ^ 16))

/-- The line of context 5, locked. -/
def fiveLocked (stale : Bool) : CLine := { data := wordBytes openWords, valid := true, locked := true, stale := stale }

/-- Three ways are eligible, and two stay so. -/
theorem opRun_lock_three : (((waysLeft 0xFFF8 { valid := true }).opRun (opOnFive 4 none)).cline 5 0 0).locked = true := by
  obtain ⟨-, -, -, -, hline⟩ := cacheOperations
  obtain ⟨hlock, -⟩ := hline (waysLeft 0xFFF8 { valid := true }) (opOnFive 4 none) 0 (by decide) (by decide)
  obtain ⟨t, ht, hlocked, -⟩ := hlock rfl (by decide) (by decide)
  exact ht ▸ hlocked

/-- Two ways are eligible, and one would stay so. -/
theorem opRun_lock_two : ∃ p : COp, ((waysLeft 0xFFFC { valid := true }).opRun (opOnFive 4 none)).cch.op = some p ∧
    p.refused = true := by
  obtain ⟨-, -, -, -, hline⟩ := cacheOperations
  obtain ⟨-, hrefused, -⟩ := hline (waysLeft 0xFFFC { valid := true }) (opOnFive 4 none) 0 (by decide) (by decide)
  obtain ⟨p, hop, hp, -⟩ := hrefused rfl (by decide) (by decide) (by decide)
  exact ⟨p, hop, hp⟩

theorem opRun_unlock_lockedLine : (((waysLeft 0 (fiveLocked false)).opRun (opOnFive 5 none)).cline 5 0 0).locked = false := by
  obtain ⟨-, -, -, -, hline⟩ := cacheOperations
  obtain ⟨-, -, hunlock, -⟩ := hline (waysLeft 0 (fiveLocked false)) (opOnFive 5 none) 0 (by decide) (by decide)
  exact (hunlock rfl (by decide) (by decide)).1

theorem opRun_unlock_staleLine : (((waysLeft 0 (fiveLocked true)).opRun (opOnFive 5 none)).cline 5 0 0).valid = false := by
  obtain ⟨-, -, -, -, hline⟩ := cacheOperations
  obtain ⟨-, -, -, hdrop, -⟩ := hline (waysLeft 0 (fiveLocked true)) (opOnFive 5 none) 0 (by decide) (by decide)
  exact hdrop rfl (by decide) (by decide)

/-- VALID, LOCKED and STALE are reported. -/
theorem opRun_lookup_staleLine : ∃ p : COp, ((waysLeft 0 (fiveLocked true)).opRun (opOnFive 6 none)).cch.op = some p ∧
    p.look = 0xB0000000 := by
  obtain ⟨-, -, -, -, hline⟩ := cacheOperations
  obtain ⟨-, -, -, -, hlookup⟩ := hline (waysLeft 0 (fiveLocked true)) (opOnFive 6 none) 0 (by decide) (by decide)
  obtain ⟨p, hop, -, hlook⟩ := hlookup rfl
  exact ⟨p, hop, hlook.trans (by decide)⟩

end Sys2Proof.Machine
end

section
/-!
PROOFS. The step takes the oldest waiting command, every command answers a next state, and the pulses of the data mover (R334,
R335, R384).
-/

namespace Sys2Proof.Machine

/-! ## A step -/

/-- Settles O1: by cases on the queue. -/
theorem stepTakesTheOldestCommand : Obligations.StepTakesTheOldestCommand := by
  refine ⟨fun s c rest hq => ?_, fun s hq => ?_⟩ <;> rw [step, hq]

/-- A command of a unit that the main rails feed answers when its meaning on a powered device does. -/
theorem State.powered_answers (s : State) {f : State → Out} (h : ∀ u, ∃ t, f u = .next t) : ∃ t, s.powered f = .next t := by
  unfold State.powered
  split
  · exact ⟨s, rfl⟩
  · exact h s

/-- Settles O53: each meaning is a next state, or a next state behind the test of the main rails. -/
theorem everyCommandAnswers : Obligations.EveryCommandAnswers := by
  intro c s
  cases c
  all_goals simp only [exec]
  case registerWrite | readToClear | lowerHalfRead | timeBaseTick | epochBoundary | perstAssert | perstDeassert |
      refSelect | refSourceFail | forcedSwitch | refSourceGood | holdoverTimeout | pllLock | pllLockLost |
      chainClockLoss | clockGate | gateIdleTimeout | clockUngate | porchPowerOn | deviceReset | sramWipeEnd |
      wipeEnd | bootEnd | mainRailFail | serviceRequest | temperatureSample | provision | tokenOpenObs |
      tokenOpenTap | tokenOpenBoth | tokenDeploy | tokenReturn | tokenRetire | tokenClearAttic | authClose |
      fuseBurnEnd | chainEnum | chainStatus | chainRead | chainWrite | chainReset | chainTrip | tripRetry |
      ptpAnnounce | ptpSync | ptpFollowUp | ptpDelayReq | ptpDelayResp | syncTimeout | faultClear | fenceWrite |
      injectRecord | injectReact | injectRaise | atticRecordStore | atticNote | tokenRefused | testReset |
      tapInstruction | chainClockReturn | syncInterval | refresh => exact ⟨_, rfl⟩
  all_goals exact s.powered_answers fun _ => ⟨_, rfl⟩

/-! ## Pulses (R334, R335) -/

section
variable {s : State} {targets : List Nat} {f : State → Pulse → State}

/-- The oldest pulse of the targets leaves the list and acts. -/
theorem State.takePulse_found {p : Pulse} (hp : s.dmv.pulses.find? (fun x => targets.contains x.target) = some p) :
    s.takePulse targets f = f { s with dmv := { s.dmv with pulses := s.dmv.pulses.erase p } } p := by
  rw [State.takePulse, hp]

end

/-- With no pulse sent, a row leaves the state. -/
theorem State.powered_takePulse_none {s : State} (hawake : s.glb.dormant = false) (hnone : s.dmv.pulses = [])
    (targets : List Nat) (f : State → Pulse → State) : (s.powered fun s => .next (s.takePulse targets f)) = .next s := by
  rw [State.powered_awake _ _ hawake, State.takePulse, hnone, List.find?_nil]

theorem contains_one (a : Nat) : (fun x : Pulse => [a].contains x.target) = fun x => x.target == a := by
  funext x
  rw [Bool.eq_iff_iff]
  simp

theorem contains_two (a b : Nat) : (fun x : Pulse => [a, b].contains x.target) = fun x => x.target == a || x.target == b := by
  funext x
  rw [Bool.eq_iff_iff]
  simp

section
variable {s : State} {p : Pulse} (hawake : s.glb.dormant = false)
include hawake

theorem exec_creditPulse_found (hp : s.dmv.pulses.find? (fun x => x.target == 1) = some p) :
    exec .creditPulse s = .next (State.creditOf { s with dmv := { s.dmv with pulses := s.dmv.pulses.erase p } } p) := by
  show execCreditPulse s = _
  rw [execCreditPulse, State.powered_awake _ _ hawake, State.takePulse_found ((contains_one 1).symm ▸ hp)]

theorem exec_arrivedPulse_found (hp : s.dmv.pulses.find? (fun x => x.target == 2) = some p) :
    exec .arrivedPulse s = .next (
      let u : State := { s with dmv := { s.dmv with pulses := s.dmv.pulses.erase p } }
      if p.error then u.slotLost p.tag scTransfer else u.slotArrived p.tag) := by
  show execArrivedPulse s = _
  rw [execArrivedPulse, State.powered_awake _ _ hawake, State.takePulse_found ((contains_one 2).symm ▸ hp)]

theorem exec_hifPulse_found {c : Cmd} (hp : s.dmv.pulses.find? (fun x => x.target == 3 || x.target == 4) = some p)
    (hcmd : s.cmd (p.target - 3) p.index = some c) :
    exec .hifPulse s = .next (State.complete { s with dmv := { s.dmv with pulses := s.dmv.pulses.erase p } }
      (p.target - 3) p.index (if c.fail = 0 ∧ p.error then scTransfer else c.fail) c.result) := by
  have hcmd' : State.cmd { s with dmv := { s.dmv with pulses := s.dmv.pulses.erase p } } (p.target - 3) p.index = some c := hcmd
  show execHifPulse s = _
  rw [execHifPulse, State.powered_awake _ _ hawake, State.takePulse_found ((contains_two 3 4).symm ▸ hp)]
  simp only [hcmd']

theorem exec_seqPulse_found (hp : s.dmv.pulses.find? (fun x => x.target == 5) = some p) :
    exec .seqPulse s = .next (State.seqEvent { s with dmv := { s.dmv with pulses := s.dmv.pulses.erase p } }
      (p.index / 64) (p.index % 64)) := by
  show execSeqPulse s = _
  rw [execSeqPulse, State.powered_awake _ _ hawake, State.takePulse_found ((contains_one 5).symm ▸ hp)]

theorem exec_msixPulse_found (hp : s.dmv.pulses.find? (fun x => x.target == 6 || x.target == 7) = some p) :
    exec .msixPulse s = .next (
      let u : State := { s with dmv := { s.dmv with pulses := s.dmv.pulses.erase p } }
      if u.split (p.target - 6) then u.msix (p.target - 6) (p.index / 1024 % 2) (p.index % 1024)
      else u.msix (p.target - 6) 0 p.index) := by
  show execMsixPulse s = _
  rw [execMsixPulse, State.powered_awake _ _ hawake, State.takePulse_found ((contains_two 6 7).symm ▸ hp)]

theorem exec_pulse_none (hnone : s.dmv.pulses = []) {i : Instr}
    (hi : i ∈ [Instr.creditPulse, .arrivedPulse, .hifPulse, .seqPulse, .msixPulse]) : exec i s = .next s := by
  simp only [List.mem_cons, List.not_mem_nil, or_false] at hi
  obtain rfl | rfl | rfl | rfl | rfl := hi
  · exact State.powered_takePulse_none hawake hnone _ _
  · exact State.powered_takePulse_none hawake hnone _ _
  · exact State.powered_takePulse_none hawake hnone _ _
  · exact State.powered_takePulse_none hawake hnone _ _
  · exact State.powered_takePulse_none hawake hnone _ _

end

/-- Settles O28: each row acts on the pulse that its target finds first. -/
theorem moverPulses : Obligations.MoverPulses := by
  refine ⟨fun s u p hawake hu => ?_, fun s i hawake hnone hi => exec_pulse_none hawake hnone hi⟩
  subst hu
  refine ⟨exec_creditPulse_found hawake, fun hp hok => ?_, fun hp herr => ?_, fun c hp hcmd => ⟨fun hfail herr => ?_, fun hor => ?_⟩,
    exec_seqPulse_found hawake, fun hp => ⟨fun hsplit => ?_, fun hsplit => ?_⟩⟩
  · simp [exec_arrivedPulse_found hawake hp, hok]
  · simp [exec_arrivedPulse_found hawake hp, herr]
  · simp [exec_hifPulse_found hawake hp hcmd, hfail, herr]
  · rw [exec_hifPulse_found hawake hp hcmd, if_neg]
    rintro ⟨hfail, herr⟩
    exact hor.elim (absurd hfail) fun h => Bool.noConfusion (h.symm.trans herr)
  · simp [exec_msixPulse_found hawake hp, hsplit]
  · simp [exec_msixPulse_found hawake hp, hsplit]

/-! ## States that meet the hypotheses -/

/-- A device on which two pulses wait, the older one for the stream engine's slot 9. -/
def pulsesWait : State :=
  { Tests.w0 with dmv := { Tests.w0.dmv with
      pulses := [{ target := 2, index := 0, tag := 9, error := false }, { target := 5, index := 64 * 3 + 17, tag := 9, error := false }] } }

/-- The younger pulse makes source 17 of sequencer 3 pending, and the older one stays. -/
theorem seqPulse_pulsesWait : ∃ t : State, exec .seqPulse pulsesWait = .next t ∧
    (t.rd Reg.SEQ_EVC_PEND 3 0).getLsbD 17 = true ∧ t.dmv.pulses.length = 1 := by
  obtain ⟨-, -, -, -, hseq, -⟩ := moverPulses.1 pulsesWait _ { target := 5, index := 64 * 3 + 17, tag := 9, error := false } rfl rfl
  exact ⟨_, hseq (by decide), by decide, by decide⟩

end Sys2Proof.Machine
end

section
/-!
PROOFS. Words that change their own sequencer alone (R390, R392, R395): what they leave unchanged, once for the change of the
general registers and FLAGS and once for the flow; then the arithmetic, logic, product and field words.
-/

namespace Sys2Proof.Machine

/-! ## States that differ in one sequencer alone -/

/-- Everything but the own state of sequencer `q` is the same. -/
structure State.InSeq (s t : State) (q : Nat) : Prop where
  rest : ∃ l, t = { s with seq := l }
  others : ∀ p, p ≠ q → t.sq p = s.sq p

namespace State.InSeq

variable {s t u : State} {q : Nat}

theorem refl (s : State) (q : Nat) : s.InSeq s q := ⟨⟨s.seq, rfl⟩, fun _ _ => rfl⟩

theorem trans (h : s.InSeq t q) (k : t.InSeq u q) : s.InSeq u q := by
  obtain ⟨⟨l, rfl⟩, ho⟩ := h
  obtain ⟨⟨m, rfl⟩, ko⟩ := k
  exact ⟨⟨m, rfl⟩, fun p hp => (ko p hp).trans (ho p hp)⟩

theorem setSq (s : State) (q : Nat) (x : SeqS) : s.InSeq (s.setSq q x) q :=
  ⟨⟨_, rfl⟩, fun _ hp => State.sq_setSq_ne _ _ _ _ hp⟩

theorem setGr (s : State) (q r : Nat) (v : Word) : s.InSeq (s.setGr q r v) q := by
  obtain ⟨g, sh, h⟩ := s.setGr_eq q r v
  exact h ▸ setSq s q _

theorem rdA_eq (h : s.InSeq t q) (a : Nat) : t.rdA a = s.rdA a := by
  obtain ⟨⟨l, rfl⟩, -⟩ := h
  rfl

theorem rd_eq (h : s.InSeq t q) (r : Reg) (i j : Nat) : t.rd r i j = s.rd r i j := h.rdA_eq _

theorem fld_eq (h : s.InSeq t q) (f : Fld) (i : Nat) : t.fld f i = s.fld f i := congrArg f.get (h.rdA_eq _)

theorem flag_eq (h : s.InSeq t q) (f : Fld) (i : Nat) : t.flag f i = s.flag f i := by rw [State.flag, h.fld_eq, State.flag]

theorem inFast_eq (h : s.InSeq t q) : t.inFast q = s.inFast q := h.flag_eq _ _

theorem regs_eq (h : s.InSeq t q) : t.regs = s.regs := by
  obtain ⟨⟨l, rfl⟩, -⟩ := h
  rfl

theorem jd16_eq (h : s.InSeq t q) : t.jd16 = s.jd16 := by
  obtain ⟨⟨l, rfl⟩, -⟩ := h
  rfl

theorem sameBytes (h : s.InSeq t q) : s.SameBytes t := by
  obtain ⟨⟨l, rfl⟩, -⟩ := h
  exact ⟨rfl, rfl, rfl, rfl, rfl⟩

theorem sameUnits (h : s.InSeq t q) : s.SameUnits t := by
  obtain ⟨⟨l, rfl⟩, -⟩ := h
  exact ⟨rfl, rfl, rfl, rfl, rfl, rfl, rfl, rfl, rfl, rfl, rfl, rfl, rfl, rfl, rfl, rfl, rfl, rfl, rfl⟩

end State.InSeq

theorem State.SameUnits.trans {s t u : State} (h : s.SameUnits t) (k : t.SameUnits u) : s.SameUnits u := by
  obtain ⟨h1, h2, h3, h4, h5, h6, h7, h8, h9, h10, h11, h12, h13, h14, h15, h16, h17, h18, h19⟩ := h
  obtain ⟨k1, k2, k3, k4, k5, k6, k7, k8, k9, k10, k11, k12, k13, k14, k15, k16, k17, k18, k19⟩ := k
  exact ⟨k1.trans h1, k2.trans h2, k3.trans h3, k4.trans h4, k5.trans h5, k6.trans h6, k7.trans h7, k8.trans h8, k9.trans h9,
    k10.trans h10, k11.trans h11, k12.trans h12, k13.trans h13, k14.trans h14, k15.trans h15, k16.trans h16, k17.trans h17,
    k18.trans h18, k19.trans h19⟩

theorem State.issue_sameUnits (s : State) (q : Nat) : s.SameUnits (s.issue q) :=
  ⟨rfl, rfl, rfl, rfl, rfl, rfl, rfl, rfl, rfl, rfl, rfl, rfl, rfl, rfl, rfl, rfl, rfl, rfl, rfl⟩

/-! ## What the issue of a word leaves (R416) -/

/-- A word that has issued leaves the fields of SEQ_STAT but PC. -/
theorem State.fld_issue_stat (s : State) (q : Nat) {f : Fld} (hf : f.reg = Reg.SEQ_STAT) (hbelow : f.hi < 16) :
    (s.issue q).fld f q = s.fld f q := by
  rw [State.issue, State.fld_bump_words _ q hf]
  exact State.fld_setFld_beside s Reg.SEQ_STAT_PC f q _ hf (by decide) (by decide) (Or.inr hbelow)

theorem State.seqState_issue (s : State) (q : Nat) : (s.issue q).seqState q = s.seqState q :=
  s.fld_issue_stat q rfl (by decide)

theorem State.inNormal_issue (s : State) (q : Nat) :
    (s.issue q).flag Reg.SEQ_STAT_IN_NORMAL q = s.flag Reg.SEQ_STAT_IN_NORMAL q := by
  rw [State.flag, s.fld_issue_stat q rfl (by decide), State.flag]

theorem State.issue_sameRegs (s : State) (q : Nat) :
    s.SameRegs (s.issue q) [Reg.SEQ_STAT.addr q 0, Reg.SEQ_CNT_WORDS.addr q 0] := by
  intro a ha
  simp only [List.mem_cons, List.not_mem_nil, or_false, not_or] at ha
  rw [State.issue, State.rdA_bump_ne _ _ ha.2, State.rdA_setFld_ne _ _ _ _ _ ha.1]

@[simp] theorem State.sq_issue (s : State) (q p : Nat) : (s.issue q).sq p = s.sq p := rfl

@[simp] theorem State.opB_issue (s : State) (q : Nat) (w : Mw) : (s.issue q).opB q w = s.opB q w := by
  simp [State.opB]

@[simp] theorem State.fl_issue (s : State) (q k : Nat) : (s.issue q).fl q k = s.fl q k := rfl

/-- A word that changes its own sequencer alone keeps what every such word keeps. -/
theorem State.InSeq.wordKeeps {s u : State} {q : Nat} (h : (s.issue q).InSeq u q) : s.WordKeeps u q := by
  refine ⟨(s.issue_sameBytes q).trans h.sameBytes, (s.issue_sameUnits q).trans h.sameUnits, h.others, fun a ha => ?_,
    (h.fld_eq _ _).trans (s.seqState_issue q), h.inFast_eq.trans (s.inFast_issue q), (h.flag_eq _ _).trans (s.inNormal_issue q)⟩
  rw [h.rdA_eq, s.issue_sameRegs q a ha]

theorem State.InSeq.goTo (s : State) (q a : Nat) : s.InSeq (s.goTo q a) q := .setSq s q _

theorem State.InSeq.flow (s : State) (q : Nat) (w : Mw) : s.InSeq (s.flow q w) q := .goTo s q _

theorem State.InSeq.flowed {s u : State} {q : Nat} (h : (s.issue q).InSeq u q) : s.Flowed (u.flow q (s.mw q)) q :=
  State.flowed_flow (h.rd_eq _ _ _) (h.fld_eq _ _)

@[simp] theorem State.gr_flow (s : State) (q : Nat) (w : Mw) (r : Nat) : (s.flow q w).gr q r = s.gr q r := s.gr_goTo q _ r
@[simp] theorem State.fl_flow (s : State) (q : Nat) (w : Mw) (k : Nat) : (s.flow q w).fl q k = s.fl q k := s.fl_goTo q _ k

/-! ## Changes of the general registers and of Z, N, C and V -/

/-- Of sequencer `q` only the general registers and FLAGS change, RF and MERR kept. -/
structure State.Calculates (s t : State) (q : Nat) : Prop extends s.InSeq t q where
  rf : t.fl q flRF = s.fl q flRF
  merr : t.fl q flMERR = s.fl q flMERR
  own : ∃ g sh fl, t.sq q = { s.sq q with g := g, shadow := sh, flags := fl }

namespace State.Calculates

variable {s t u : State} {q : Nat}

theorem refl (s : State) (q : Nat) : s.Calculates s q := ⟨.refl s q, rfl, rfl, _, _, _, rfl⟩

theorem trans (h : s.Calculates t q) (k : t.Calculates u q) : s.Calculates u q := by
  obtain ⟨g, sh, fl, hown⟩ := h.own
  obtain ⟨g', sh', fl', kown⟩ := k.own
  exact ⟨h.toInSeq.trans k.toInSeq, k.rf.trans h.rf, k.merr.trans h.merr, g', sh', fl', by rw [kown, hown]⟩

theorem setGr (s : State) (q r : Nat) (v : Word) : s.Calculates (s.setGr q r v) q := by
  refine ⟨.setGr s q r v, s.fl_setGr q r v flRF, s.fl_setGr q r v flMERR, ?_⟩
  obtain ⟨g, sh, h⟩ := s.setGr_eq q r v
  exact ⟨g, sh, (s.sq q).flags, by rw [h, State.sq_setSq_same]⟩

theorem setFl (s : State) (q : Nat) {k : Nat} (b : Bool) (hk : k < 4) : s.Calculates (s.setFl q k b) q :=
  ⟨.setSq s q _, s.fl_setFl_ne q k flRF b (by omega) (by simp only [flRF]; omega),
    s.fl_setFl_ne q k flMERR b (by omega) (by simp only [flMERR]; omega), _, _, _, State.sq_setSq_same s q _⟩

theorem flagsZN (s : State) (q : Nat) (r : Word) : s.Calculates (s.flagsZN q r) q :=
  (setFl s q _ (by decide)).trans (setFl _ q _ (by decide))

theorem flagsCV (s : State) (q : Nat) (c v : Bool) : s.Calculates (s.flagsCV q c v) q :=
  (setFl s q _ (by decide)).trans (setFl _ q _ (by decide))

/-- A word that calculates and flows keeps what the arithmetic words keep. -/
theorem arithKeeps (h : (s.issue q).Calculates u q) : s.ArithKeeps (u.flow q (s.mw q)) q := by
  obtain ⟨g, sh, fl, hown⟩ := h.own
  refine ⟨(h.toInSeq.trans (.flow u q _)).wordKeeps, h.toInSeq.flowed, (u.fl_flow q _ _).trans h.rf, (u.fl_flow q _ _).trans h.merr,
    g, sh, fl, ((u.flow q (s.mw q)).sq q).pc, ?_⟩
  simp only [State.flow, State.goTo, State.sq_setSq_same, hown, State.sq_issue]

end State.Calculates

/-! ## Flags (R390) -/

@[simp] theorem neg_eq_msb (w : Word) : neg w = w.msb := by
  rw [neg, BitVec.msb_eq_decide]

section
variable (s : State) (q : Nat) (r : Word) (c v : Bool)

@[simp] theorem State.gr_flagsZN (k : Nat) : (s.flagsZN q r).gr q k = s.gr q k := by simp [State.flagsZN]
@[simp] theorem State.gr_flagsCV (k : Nat) : (s.flagsCV q c v).gr q k = s.gr q k := by simp [State.flagsCV]

theorem State.fl_flagsZN_z : (s.flagsZN q r).fl q flZ = (r == 0) := by
  rw [State.flagsZN, State.fl_setFl_ne _ _ _ _ _ (by decide) (by decide), State.fl_setFl_same _ _ _ _ (by decide)]

theorem State.fl_flagsZN_n : (s.flagsZN q r).fl q flN = r.msb := by
  rw [State.flagsZN, State.fl_setFl_same _ _ _ _ (by decide), neg_eq_msb]

/-- Z and N leave C and V. -/
theorem State.fl_flagsZN_ne {k : Nat} (hk : k < 2) : (s.flagsZN q r).fl q k = s.fl q k := by
  rw [State.flagsZN, State.fl_setFl_ne _ _ _ _ _ (by decide) (by simp only [flN]; omega),
    State.fl_setFl_ne _ _ _ _ _ (by decide) (by simp only [flZ]; omega)]

theorem State.fl_flagsCV_c : (s.flagsCV q c v).fl q flC = c := by
  rw [State.flagsCV, State.fl_setFl_ne _ _ _ _ _ (by decide) (by decide), State.fl_setFl_same _ _ _ _ (by decide)]

theorem State.fl_flagsCV_v : (s.flagsCV q c v).fl q flV = v := by
  rw [State.flagsCV, State.fl_setFl_same _ _ _ _ (by decide)]

/-- C and V leave Z and N. -/
theorem State.fl_flagsCV_ne {k : Nat} (hk : 2 ≤ k) : (s.flagsCV q c v).fl q k = s.fl q k := by
  rw [State.flagsCV, State.fl_setFl_ne _ _ _ _ _ (by decide) (by simp only [flV]; omega),
    State.fl_setFl_ne _ _ _ _ _ (by decide) (by simp only [flC]; omega)]

end

/-! ## Results (R395) -/

section
variable (s : State) (q d : Nat) (r : Word)

/-- A result that gives Z and N alone. -/
theorem State.putZN_result : s.ArithResult (((s.issue q).putZN q d r).flow q (s.mw q)) q d r ∧
    ∀ k < 2, (((s.issue q).putZN q d r).flow q (s.mw q)).fl q k = s.fl q k := by
  refine ⟨⟨?_, fun k hk => ?_, ?_, ?_, State.Calculates.arithKeeps ((State.Calculates.setGr _ q d r).trans (.flagsZN _ q r))⟩,
    fun k hk => ?_⟩ <;> simp only [State.gr_flow, State.fl_flow, State.putZN]
  · rw [State.gr_flagsZN, State.gr_setGr_same]
  · rw [State.gr_flagsZN, State.gr_setGr_ne _ _ _ _ _ hk, State.gr_issue]
  · exact State.fl_flagsZN_z _ q r
  · exact State.fl_flagsZN_n _ q r
  · rw [State.fl_flagsZN_ne _ q r hk, State.fl_setGr, State.fl_issue]

/-- A result that gives all four flags. -/
theorem State.putAll_result (c v : Bool) : s.ArithResult (((s.issue q).putAll q d (r, c, v)).flow q (s.mw q)) q d r ∧
    (((s.issue q).putAll q d (r, c, v)).flow q (s.mw q)).fl q flC = c ∧
    (((s.issue q).putAll q d (r, c, v)).flow q (s.mw q)).fl q flV = v := by
  refine ⟨⟨?_, fun k hk => ?_, ?_, ?_, State.Calculates.arithKeeps
    (((State.Calculates.setGr _ q d r).trans (.flagsZN _ q r)).trans (.flagsCV _ q c v))⟩, ?_, ?_⟩ <;>
    simp only [State.gr_flow, State.fl_flow, State.putAll]
  · rw [State.gr_flagsCV, State.gr_flagsZN, State.gr_setGr_same]
  · rw [State.gr_flagsCV, State.gr_flagsZN, State.gr_setGr_ne _ _ _ _ _ hk, State.gr_issue]
  · rw [State.fl_flagsCV_ne _ _ _ _ (by decide), State.fl_flagsZN_z]
  · rw [State.fl_flagsCV_ne _ _ _ _ (by decide), State.fl_flagsZN_n]
  · exact State.fl_flagsCV_c _ q c v
  · exact State.fl_flagsCV_v _ q c v

end

/-- A discarded result: the flags alone follow it. -/
theorem State.discard_keeps {s u : State} {q : Nat} (h : (s.issue q).Calculates u q) (hgr : ∀ r, u.gr q r = (s.issue q).gr q r) :
    s.ArithKeeps (u.flow q (s.mw q)) q ∧ ∀ r, (u.flow q (s.mw q)).gr q r = s.gr q r :=
  ⟨h.arithKeeps, fun r => by rw [State.gr_flow, hgr, State.gr_issue]⟩

/-! ## Sums, differences and their overflow -/

/-- The overflow of a signed sum, by the signs of the operands and of the result. -/
theorem sum_overflow (a b : Word) {c : Nat} (hc : c < 2) :
    (a.toInt + b.toInt + c != (a + b + word c).toInt) = (a.msb == b.msb && (a + b + word c).msb != a.msb) := by
  have ha := a.isLt
  have hb := b.isLt
  have hr : (a + b + word c).toNat = (a.toNat + b.toNat + c) % 2 ^ 32 := by
    simp [word, BitVec.toNat_add]
  rw [Bool.eq_iff_iff]
  simp only [BitVec.toInt_eq_toNat_cond, BitVec.msb_eq_decide, hr, bne_iff_ne, ne_eq, Bool.and_eq_true, beq_iff_eq, decide_eq_decide]
  split <;> split <;> split <;> omega

/-- The overflow of a signed difference. -/
theorem difference_overflow (a b : Word) {c : Nat} (hc : c < 2) :
    (a.toInt - b.toInt - c != (a - b - word c).toInt) = (a.msb != b.msb && (a - b - word c).msb != a.msb) := by
  have ha := a.isLt
  have hb := b.isLt
  have hr : (a - b - word c).toNat = (2 ^ 32 - c + (2 ^ 32 - b.toNat + a.toNat)) % 2 ^ 32 := by
    have hc' : (word c).toNat = c := Nat.mod_eq_of_lt (by omega)
    rw [BitVec.toNat_sub, BitVec.toNat_sub, hc']
    omega
  rw [Bool.eq_iff_iff]
  simp only [BitVec.toInt_eq_toNat_cond, BitVec.msb_eq_decide, hr, bne_iff_ne, ne_eq, Bool.and_eq_true, decide_eq_decide]
  split <;> split <;> split <;> omega

theorem addFlags_eq (a b : Word) {c : Nat} (hc : c < 2) :
    addFlags a b c = (a + b + word c, decide (2 ^ 32 ≤ a.toNat + b.toNat + c),
      (a.msb == b.msb && (a + b + word c).msb != a.msb)) := by
  have hr : word (a.toNat + b.toNat + c) = a + b + word c := by
    apply BitVec.eq_of_toNat_eq
    simp [word, BitVec.toNat_add]
  rw [addFlags, ← sum_overflow a b hc, ← hr]

theorem subFlags_eq (a b : Word) {c : Nat} (hc : c < 2) :
    subFlags a b c = (a - b - word c, decide (a.toNat < b.toNat + c),
      (a.msb != b.msb && (a - b - word c).msb != a.msb)) := by
  rw [subFlags, ← difference_overflow a b hc]

theorem bit01_lt_two (b : Bool) : bit01 b < 2 := by cases b <;> decide

theorem word_zero : word 0 = 0#32 := rfl

/-! ## The arithmetic words -/

section
variable {s : State} {q : Nat} (hawake : s.glb.dormant = false)
include hawake

/-- A plain word that can issue. -/
theorem exec_plainWord {c : Instr} {op : Nat} {f : State → Mw → State}
    (hc : exec c s = s.powered fun s => .next (s.plainWord q op f)) (hissue : s.canIssue q op = true) :
    exec c s = .next ((f (s.issue q) (s.mw q)).flow q (s.mw q)) := by
  rw [hc, State.powered_awake _ _ hawake, State.plainWord_of_canIssue hissue]

end

/-- A word whose result and flags come from `addFlags` or `subFlags`. -/
theorem exec_putAll {s : State} {q : Nat} (hawake : s.glb.dormant = false) {c : Instr} {op : Nat}
    {f : State → Mw → Word × Bool × Bool} {r : Word} {carry ovf : Bool}
    (hc : exec c s = s.powered fun s => .next (s.plainWord q op fun s w => s.putAll q w.aD (f s w)))
    (hissue : s.canIssue q op = true) (hf : f (s.issue q) (s.mw q) = (r, carry, ovf)) :
    ∃ t : State, exec c s = .next t ∧ s.ArithResult t q (s.mw q).aD r ∧ t.fl q flC = carry ∧ t.fl q flV = ovf :=
  ⟨_, (exec_plainWord hawake hc hissue).trans (by rw [hf]), s.putAll_result q _ r carry ovf⟩

/-- A word whose result gives Z and N, C and V cleared. -/
theorem exec_putLogic {s : State} {q : Nat} (hawake : s.glb.dormant = false) {c : Instr} {op : Nat} {f : State → Mw → Word}
    (hc : exec c s = s.powered fun s => .next (s.plainWord q op fun s w => s.putLogic q w.aD (f s w)))
    (hissue : s.canIssue q op = true) :
    ∃ t : State, exec c s = .next t ∧ s.ArithResult t q (s.mw q).aD (f (s.issue q) (s.mw q)) ∧ t.fl q flC = false ∧
      t.fl q flV = false :=
  ⟨_, exec_plainWord hawake hc hissue, s.putAll_result q _ _ false false⟩

/-- A word whose result gives Z and N, C and V kept. -/
theorem exec_putZN {s : State} {q : Nat} (hawake : s.glb.dormant = false) {c : Instr} {op : Nat} {f : State → Mw → Word}
    (hc : exec c s = s.powered fun s => .next (s.plainWord q op fun s w => s.putZN q w.aD (f s w)))
    (hissue : s.canIssue q op = true) :
    ∃ t : State, exec c s = .next t ∧ s.ArithResult t q (s.mw q).aD (f (s.issue q) (s.mw q)) ∧ t.fl q flC = s.fl q flC ∧
      t.fl q flV = s.fl q flV := by
  obtain ⟨hres, hkeep⟩ := s.putZN_result q (s.mw q).aD (f (s.issue q) (s.mw q))
  exact ⟨_, exec_plainWord hawake hc hissue, hres, hkeep flC (by decide), hkeep flV (by decide)⟩

theorem exec_cmp_eq {s : State} {q : Nat} (hawake : s.glb.dormant = false) (hissue : s.canIssue q 0x1C = true) :
    exec (.cmp q) s = .next ((((s.issue q).flagsZN q (s.gr q (s.mw q).aA - s.opB q (s.mw q))).flagsCV q
      (decide ((s.gr q (s.mw q).aA).toNat < (s.opB q (s.mw q)).toNat))
      ((s.gr q (s.mw q).aA).msb != (s.opB q (s.mw q)).msb &&
        (s.gr q (s.mw q).aA - s.opB q (s.mw q)).msb != (s.gr q (s.mw q).aA).msb)).flow q (s.mw q)) := by
  rw [exec_plainWord (c := .cmp q) hawake rfl hissue]
  simp only [State.gr_issue, State.opB_issue, subFlags_eq _ _ (show 0 < 2 by decide), word_zero, BitVec.sub_zero, Nat.add_zero]

/-- Settles O40: results by `addFlags_eq` and `subFlags_eq`, what is kept by `Calculates`. -/
theorem arithmeticWords : Obligations.ArithmeticWords := by
  intro s q hawake w a b c
  refine ⟨fun h => ?_, fun h => ?_, fun h => ?_, fun h => ?_, fun h => ?_⟩
  · refine exec_putAll (c := .add q) hawake rfl h ?_
    simp only [State.gr_issue, State.opB_issue, addFlags_eq _ _ (show 0 < 2 by decide), word_zero, BitVec.add_zero, Nat.add_zero]
    rfl
  · refine exec_putAll (c := .sub q) hawake rfl h ?_
    simp only [State.gr_issue, State.opB_issue, subFlags_eq _ _ (show 0 < 2 by decide), word_zero, BitVec.sub_zero, Nat.add_zero]
    rfl
  · refine exec_putAll (c := .adc q) hawake rfl h ?_
    simp only [State.gr_issue, State.opB_issue, State.fl_issue, addFlags_eq _ _ (bit01_lt_two _)]
    rfl
  · refine exec_putAll (c := .sbb q) hawake rfl h ?_
    simp only [State.gr_issue, State.opB_issue, State.fl_issue, subFlags_eq _ _ (bit01_lt_two _)]
    rfl
  · obtain ⟨hkeep, hgr⟩ := State.discard_keeps (s := s) (q := q)
      (u := ((s.issue q).flagsZN q (a - b)).flagsCV q (decide (a.toNat < b.toNat)) (a.msb != b.msb && (a - b).msb != a.msb))
      ((State.Calculates.flagsZN _ q _).trans (.flagsCV _ q _ _)) fun r => by simp
    refine ⟨_, exec_cmp_eq hawake h, hkeep, hgr, ?_, ?_, ?_, ?_⟩
    · rw [State.fl_flow, State.fl_flagsCV_ne _ _ _ _ (by decide), State.fl_flagsZN_z, Bool.eq_iff_iff, beq_iff_eq, beq_iff_eq]
      exact sub_eq_zero
    · rw [State.fl_flow, State.fl_flagsCV_ne _ _ _ _ (by decide), State.fl_flagsZN_n]
    · rw [State.fl_flow, State.fl_flagsCV_c]
    · rw [State.fl_flow, State.fl_flagsCV_v]

/-! ## The logic words -/

/-- Settles O41: each result by the bits of the bit vector operation. -/
theorem logicWords : Obligations.LogicWords := by
  intro s q hawake w a b n
  refine ⟨fun h => ?_, fun h => ?_, fun h => ?_, fun h => ?_, fun h => ?_, fun h => ?_, fun h => ?_⟩
  · obtain ⟨t, hexec, hres, hC, hV⟩ := exec_putLogic (c := .and q) hawake rfl h
    rw [State.gr_issue, State.opB_issue] at hres
    exact ⟨t, _, hexec, hres, fun k _ => BitVec.getLsbD_and, hC, hV⟩
  · obtain ⟨t, hexec, hres, hC, hV⟩ := exec_putLogic (c := .or q) hawake rfl h
    rw [State.gr_issue, State.opB_issue] at hres
    exact ⟨t, _, hexec, hres, fun k _ => BitVec.getLsbD_or, hC, hV⟩
  · obtain ⟨t, hexec, hres, hC, hV⟩ := exec_putLogic (c := .xor q) hawake rfl h
    rw [State.gr_issue, State.opB_issue] at hres
    exact ⟨t, _, hexec, hres, fun k _ => BitVec.getLsbD_xor, hC, hV⟩
  · obtain ⟨t, hexec, hres, hC, hV⟩ := exec_putLogic (c := .shl q) hawake rfl h
    rw [State.gr_issue, State.opB_issue] at hres
    refine ⟨t, _, hexec, hres, fun k hk => ?_, hC, hV⟩
    rw [BitVec.getLsbD_shiftLeft, ← decide_not]
    simp only [hk, decide_true, Bool.true_and, Nat.not_lt]
    rfl
  · obtain ⟨t, hexec, hres, hC, hV⟩ := exec_putLogic (c := .shr q) hawake rfl h
    rw [State.gr_issue, State.opB_issue] at hres
    refine ⟨t, _, hexec, hres, fun k _ => ?_, hC, hV⟩
    rw [BitVec.getLsbD_ushiftRight, Nat.add_comm]
  · obtain ⟨t, hexec, hres, hC, hV⟩ := exec_putLogic (c := .sar q) hawake rfl h
    rw [State.gr_issue, State.opB_issue] at hres
    refine ⟨t, _, hexec, hres, fun k hk => ?_, hC, hV⟩
    rw [BitVec.getLsbD_sshiftRight, Nat.add_comm]
    simp [show ¬ 32 ≤ k by omega, n, a, b, w]
  · obtain ⟨hkeep, hgr⟩ := State.discard_keeps (s := s) (q := q) (u := (s.issue q).flagsZN q (a &&& b))
      (State.Calculates.flagsZN _ q _) fun r => by simp
    refine ⟨((s.issue q).flagsZN q (a &&& b)).flow q w, ?_, hkeep, hgr, ?_, ?_, ?_, ?_⟩
    · rw [exec_plainWord (c := .tst q) hawake rfl h, State.gr_issue, State.opB_issue]
    · rw [State.fl_flow, State.fl_flagsZN_z]
    · rw [State.fl_flow, State.fl_flagsZN_n, BitVec.msb_and]
    · rw [State.fl_flow, State.fl_flagsZN_ne _ _ _ (by decide), State.fl_issue]
    · rw [State.fl_flow, State.fl_flagsZN_ne _ _ _ (by decide), State.fl_issue]

/-! ## Products and fields -/

theorem getLsbD_word (n : Nat) {k : Nat} (hk : k < 32) : (word n).getLsbD k = n.testBit k := by
  rw [word, BitVec.getLsbD_ofNat, decide_eq_true hk, Bool.true_and]

/-- Bits of `a` put into `d` from a position, none for a width of 0. -/
theorem getLsbD_putField (a d : Word) (lo : Nat) {n k : Nat} (hk : k < 32) :
    (word (if n = 0 then d.toNat else putBits d.toNat (lo + n - 1) lo a.toNat)).getLsbD k =
      if lo ≤ k ∧ k < lo + n then a.getLsbD (k - lo) else d.getLsbD k := by
  rw [getLsbD_word _ hk]
  split
  · next h =>
    rw [if_neg (by omega)]
    rfl
  · next h =>
    rw [testBit_putBits _ _ _ _ _ (by omega)]
    have hrange : (lo ≤ k ∧ k ≤ lo + n - 1) = (lo ≤ k ∧ k < lo + n) := propext (by omega)
    simp only [hrange]
    rfl

/-- Settles O42: the halves of the product by division, the fields bit by bit. -/
theorem productAndFieldWords : Obligations.ProductAndFieldWords := by
  intro s q hawake w a b d lo n
  refine ⟨fun h => ?_, fun h => ?_, fun h => ?_, fun h => ?_, fun h => exec_putZN (c := .movi q) hawake rfl h⟩
  · obtain ⟨t, hexec, hres, hkeep⟩ := exec_putZN (c := .mul q) hawake rfl h
    rw [State.gr_issue, State.opB_issue] at hres
    have hlow : word (a.toNat * b.toNat) = a * b := by
      apply BitVec.eq_of_toNat_eq
      rw [BitVec.toNat_mul]
      exact BitVec.toNat_ofNat ..
    exact ⟨t, hexec, hlow ▸ hres, hkeep⟩
  · obtain ⟨t, hexec, hres, hkeep⟩ := exec_putZN (c := .mulhu q) hawake rfl h
    rw [State.gr_issue, State.opB_issue] at hres
    refine ⟨t, _, hexec, hres, ?_, hkeep⟩
    have hsmall : a.toNat * b.toNat / 2 ^ 32 < 2 ^ 32 := by
      rw [Nat.div_lt_iff_lt_mul (by decide)]
      exact Nat.mul_lt_mul'' a.isLt b.isLt
    rw [word, BitVec.toNat_ofNat, Nat.mod_eq_of_lt hsmall, BitVec.toNat_mul]
    exact Nat.div_add_mod' ..
  · obtain ⟨t, hexec, hres, hkeep⟩ := exec_putZN (c := .bfx q) hawake rfl h
    rw [State.gr_issue] at hres
    refine ⟨t, _, hexec, hres, fun k hk => ?_, hkeep⟩
    rw [getLsbD_word _ hk, Nat.testBit_mod_two_pow, Nat.testBit_div_two_pow]
    rfl
  · obtain ⟨t, hexec, hres, hkeep⟩ := exec_putZN (c := .bfi q) hawake rfl h
    rw [State.gr_issue, State.gr_issue] at hres
    exact ⟨t, _, hexec, hres, fun k hk => getLsbD_putField a d lo hk, hkeep⟩

/-! ## States that meet the hypotheses -/

/-- Sequencer 3 about to issue a word of form A from g6 and an immediate to g5. -/
def formAReady (op imm : Nat) (a : Word) : State :=
  (Tests.runs Tests.w0 3 (Tests.mwd [(127, 120, op), (82, 77, 5), (76, 71, 6), (64, 64, 1), (63, 32, imm)])).setGr 3 6 a

/-- The largest signed number and one overflow without a carry. -/
theorem add_largest : ∃ t : State, exec (.add 3) (formAReady 0x10 1 0x7FFFFFFF) = .next t ∧ t.gr 3 5 = 0x80000000 ∧
    t.fl 3 flV = true ∧ t.fl 3 flC = false := by
  obtain ⟨t, hexec, ⟨hgr, -⟩, hC, hV⟩ := (arithmeticWords (formAReady 0x10 1 0x7FFFFFFF) 3 (by decide)).1 (by decide)
  exact ⟨t, hexec, hgr.trans (by decide), hV.trans (by decide), hC.trans (by decide)⟩

/-- A shift by 32 shifts by 0, and one by 31 leaves the sign. -/
theorem sar_counts : (∃ t : State, exec (.sar 3) (formAReady 0x17 32 0x80000001) = .next t) ∧
    ∃ (t : State) (r : Word), exec (.sar 3) (formAReady 0x17 31 0x80000000) = .next t ∧ t.gr 3 5 = r ∧ r.getLsbD 31 = true := by
  obtain ⟨-, -, -, -, -, hsar, -⟩ := logicWords (formAReady 0x17 32 0x80000001) 3 (by decide)
  obtain ⟨-, -, -, -, -, hsar31, -⟩ := logicWords (formAReady 0x17 31 0x80000000) 3 (by decide)
  obtain ⟨t, r, hexec, -⟩ := hsar (by decide)
  obtain ⟨t', r', hexec', ⟨hgr, -⟩, hbits, -⟩ := hsar31 (by decide)
  exact ⟨⟨t, hexec⟩, t', r', hexec', hgr, (hbits 31 (by decide)).trans (by decide)⟩

/-- A field of width 0 leaves D. -/
theorem bfi_width0 : ∃ (t : State) (r : Word), exec (.bfi 3) (formAReady 0x1F 4 0xFFFFFFFF) = .next t ∧ t.gr 3 5 = r ∧
    r.getLsbD 4 = false := by
  obtain ⟨-, -, -, hbfi, -⟩ := productAndFieldWords (formAReady 0x1F 4 0xFFFFFFFF) 3 (by decide)
  obtain ⟨t, r, hexec, ⟨hgr, -⟩, hbits, -⟩ := hbfi (by decide)
  exact ⟨t, r, hexec, hgr, (hbits 4 (by decide)).trans (by decide)⟩

end Sys2Proof.Machine
end

section
/-!
PROOFS. The flow words, events and handlers, and the host's control of a sequencer (R389, R392, R395, R403 to R406, R412, R414 to
R416): what they change are the sequencers and the registers of one of them.
-/

namespace Sys2Proof.Machine

/-! ## States that differ in the sequencers and in some registers -/

/-- Beside the sequencers' own states only registers at addresses of `P` differ. -/
def State.SeqIn (P : Nat → Prop) (s t : State) : Prop :=
  (∃ l r, t = { s with seq := l, regs := r }) ∧ ∀ a, ¬ P a → t.rdA a = s.rdA a

namespace State.SeqIn

variable {P Q : Nat → Prop} {s t u : State}

theorem refl (P : Nat → Prop) (s : State) : SeqIn P s s := ⟨⟨s.seq, s.regs, rfl⟩, fun _ _ => rfl⟩

theorem trans (h : SeqIn P s t) (k : SeqIn P t u) : SeqIn P s u := by
  obtain ⟨⟨l, r, rfl⟩, ha⟩ := h
  obtain ⟨⟨l', r', rfl⟩, ka⟩ := k
  exact ⟨⟨l', r', rfl⟩, fun a hP => (ka a hP).trans (ha a hP)⟩

theorem mono (h : SeqIn P s t) (hPQ : ∀ a, P a → Q a) : SeqIn Q s t := ⟨h.1, fun a hQ => h.2 a fun hP => hQ (hPQ a hP)⟩

theorem foldl {α : Type} {f : State → α → State} (h : ∀ u x, SeqIn P u (f u x)) (l : List α) (s : State) :
    SeqIn P s (l.foldl f s) := by
  induction l generalizing s with
  | nil => exact refl P s
  | cons x l ih => exact (h s x).trans (ih (f s x))

theorem wr (s : State) {r : Reg} {i j : Nat} (w : Word) (h : P (r.addr i j)) : SeqIn P s (s.wr r i j w) :=
  ⟨⟨s.seq, _, rfl⟩, fun a ha => (s.rdA_wr r i j a w).trans (if_neg fun e : a = r.addr i j => ha (e ▸ h))⟩

theorem setFld (s : State) {f : Fld} {i : Nat} (v : Nat) (h : P (f.reg.addr i 0)) : SeqIn P s (s.setFld f i v) := wr s _ h

theorem bump (s : State) {r : Reg} {i : Nat} (n : Nat) (h : P (r.addr i 0)) : SeqIn P s (s.bump r i n) := wr s _ h

theorem setSq (P : Nat → Prop) (s : State) (q : Nat) (x : SeqS) : SeqIn P s (s.setSq q x) :=
  ⟨⟨_, s.regs, rfl⟩, fun _ _ => rfl⟩

theorem of_inSeq {q : Nat} (h : s.InSeq t q) (P : Nat → Prop) : SeqIn P s t := by
  obtain ⟨⟨l, rfl⟩, -⟩ := h
  exact ⟨⟨l, s.regs, rfl⟩, fun _ _ => rfl⟩

theorem sameBytes (h : SeqIn P s t) : s.SameBytes t := by
  obtain ⟨⟨l, r, rfl⟩, -⟩ := h
  exact ⟨rfl, rfl, rfl, rfl, rfl⟩

theorem sameUnits (h : SeqIn P s t) : s.SameUnits t := by
  obtain ⟨⟨l, r, rfl⟩, -⟩ := h
  exact ⟨rfl, rfl, rfl, rfl, rfl, rfl, rfl, rfl, rfl, rfl, rfl, rfl, rfl, rfl, rfl, rfl, rfl, rfl, rfl⟩

theorem jd16_eq (h : SeqIn P s t) : t.jd16 = s.jd16 := by
  obtain ⟨⟨l, r, rfl⟩, -⟩ := h
  rfl

theorem hasSeq_eq (h : SeqIn P s t) (q : Nat) : t.hasSeq q = s.hasSeq q := by rw [State.hasSeq, h.jd16_eq, State.hasSeq]

theorem rd_eq (h : SeqIn P s t) {r : Reg} {i j : Nat} (hr : ¬ P (r.addr i j)) : t.rd r i j = s.rd r i j := h.2 _ hr

theorem fld_eq (h : SeqIn P s t) {f : Fld} {i : Nat} (hf : ¬ P (f.reg.addr i 0)) : t.fld f i = s.fld f i :=
  congrArg f.get (h.2 _ hf)

theorem fldJ_eq (h : SeqIn P s t) {f : Fld} {i j : Nat} (hf : ¬ P (f.reg.addr i j)) : t.fldJ f i j = s.fldJ f i j :=
  congrArg f.get (h.2 _ hf)

theorem flag_eq (h : SeqIn P s t) {f : Fld} {i : Nat} (hf : ¬ P (f.reg.addr i 0)) : t.flag f i = s.flag f i := by
  rw [State.flag, h.fld_eq hf, State.flag]

theorem sameRegs {l : List Nat} (h : SeqIn (· ∈ l) s t) : s.SameRegs t l := h.2

end State.SeqIn

/-- A source made pending writes one half of PEND. -/
theorem State.seqEvent_seqIn (s : State) (q i : Nat) : State.SeqIn (· = Reg.SEQ_EVC_PEND.addr q (i / 32)) s (s.seqEvent q i) := by
  unfold State.seqEvent
  split
  · exact (State.SeqIn.wr (P := (· = Reg.SEQ_EVC_PEND.addr q (i / 32))) s _ rfl).trans (.setSq _ _ q _)
  · exact .refl _ s

theorem State.hasSeq_lt {s : State} {q : Nat} (h : s.hasSeq q = true) : q < 40 := by
  simp only [State.hasSeq, seqImpl, Bool.and_eq_true, decide_eq_true_eq] at h
  exact h.1

/-- The half of PEND after a source of it has become pending. -/
theorem State.rd_seqEvent {s : State} {q : Nat} (h : s.hasSeq q = true) (i : Nat) :
    (s.seqEvent q i).rd Reg.SEQ_EVC_PEND q (i / 32) = s.rd Reg.SEQ_EVC_PEND q (i / 32) ||| word (2 ^ (i % 32)) := by
  simp [State.seqEvent, h]

theorem getLsbD_word_two_pow (i k : Nat) (hk : k < 32) : (word (2 ^ i)).getLsbD k = decide (i = k) := by
  rw [getLsbD_word _ hk, Nat.testBit_two_pow]

/-- A source that has become pending is shown. -/
theorem State.pend_seqEvent {s : State} {q : Nat} (h : s.hasSeq q = true) (i : Nat) :
    ((s.seqEvent q i).rd Reg.SEQ_EVC_PEND q (i / 32)).getLsbD (i % 32) = true := by
  rw [State.rd_seqEvent h, BitVec.getLsbD_or, getLsbD_word_two_pow _ _ (Nat.mod_lt _ (by decide)), decide_eq_true rfl, Bool.or_true]

/-! ## The registers of a sequencer -/

@[simp] theorem State.fld_goTo (s : State) (q a : Nat) (f : Fld) (i : Nat) : (s.goTo q a).fld f i = s.fld f i := rfl
@[simp] theorem State.seqState_goTo (s : State) (q a p : Nat) : (s.goTo q a).seqState p = s.seqState p := s.fld_goTo q a _ p

/-- SEQ_STAT and SEQ_CNT_WORDS of a sequencer. -/
def wordRegs (q : Nat) : List Nat := [Reg.SEQ_STAT.addr q 0, Reg.SEQ_CNT_WORDS.addr q 0]

theorem State.issue_seqIn (s : State) (q : Nat) : State.SeqIn (· ∈ wordRegs q) s (s.issue q) :=
  (State.SeqIn.setFld s _ (by simp [wordRegs, Reg.SEQ_STAT_PC])).trans (.bump _ _ (by simp [wordRegs]))

/-- A register of another block, or another one of the sequencer. -/
theorem not_mem_wordRegs {q a : Nat} (h : a ≠ 0x00B00000 + q * 0x1000 + 0x004 ∧ a ≠ 0x00B00000 + q * 0x1000 + 0x040) :
    a ∉ wordRegs q := by
  simp only [wordRegs, Reg.addr, Reg.SEQ_STAT, Reg.SEQ_CNT_WORDS, List.mem_cons, List.not_mem_nil, or_false]
  omega

theorem State.seqState_setState (s : State) (q : Nat) {st : Nat} (h : st < 16) :
    (s.setFld Reg.SEQ_STAT_STATE q st).seqState q = st :=
  (State.fld_setFld_same s Reg.SEQ_STAT_STATE q st (by decide) (by decide)).trans (Nat.mod_eq_of_lt h)

/-- The state of a sequencer leaves the other fields of SEQ_STAT. -/
theorem State.fld_setState (s : State) (q st : Nat) {f : Fld} (hf : f.reg = Reg.SEQ_STAT) (hlo : 4 ≤ f.lo) :
    (s.setFld Reg.SEQ_STAT_STATE q st).fld f q = s.fld f q :=
  State.fld_setFld_beside s Reg.SEQ_STAT_STATE f q st hf (by decide) (by decide) (Or.inl hlo)

theorem State.canIssue_iff (s : State) (q op : Nat) : s.canIssue q op = true ↔
    s.hasSeq q = true ∧ s.seqState q = seqRunning ∧ (s.mw q).op = op ∧ s.stalled q = false := by
  simp [State.canIssue, and_assoc]

theorem State.SeqIn.setState (s : State) (q st : Nat) : State.SeqIn (· ∈ wordRegs q) s (s.setFld Reg.SEQ_STAT_STATE q st) :=
  .setFld s st (by simp [wordRegs, Reg.SEQ_STAT_STATE])

/-! ## The condition of a word that has issued (R392, R393) -/

theorem faultBase_below : ∀ src < 88, 16 ≤ src → faultBase src + 0x1000 ≤ 0x00B00000 := by decide

theorem State.actFenced_issue (s : State) {q a : Nat} (ha : a < 32) : (s.issue q).actFenced a = s.actFenced a := by
  have hfence (src : Nat) (hsrc : src < 88) (hlo : 16 ≤ src) : (s.issue q).fenced src = s.fenced src := by
    refine congrArg (· == 1) (s.fld_issue_below q ?_)
    have := faultBase_below src hsrc hlo
    simp only [Fld.flt, Reg.flt, Reg.addr, Reg.FLT_FENCE_FENCE, Reg.FLT_FENCE]
    omega
  simp only [State.actFenced, State.hdaFenced]
  simp only [srcSRV, srcHLK, srcSPN]
  rw [hfence (32 + a) (by omega) (by omega), hfence (16 + a / 2) (by omega) (by omega), hfence (64 + a / 2) (by omega) (by omega)]

theorem any_congr_mem {α : Type} {l : List α} {p p' : α → Bool} (h : ∀ a ∈ l, p a = p' a) : l.any p = l.any p' := by
  rw [Bool.eq_iff_iff, List.any_eq_true, List.any_eq_true]
  exact exists_congr fun a => and_congr_right fun ha => by rw [h a ha]

theorem State.claimed_issue (s : State) (q p : Nat) : (s.issue q).claimed p = s.claimed p := by
  have hrd (k : Nat) (hk : k < 32) : (s.issue q).rd Reg.GLB_CLAIMT 0 k = s.rd Reg.GLB_CLAIMT 0 k :=
    (s.issue_seqIn q).rd_eq (not_mem_wordRegs (by simp only [Reg.addr, Reg.GLB_CLAIMT]; omega))
  unfold State.claimed
  refine any_congr_mem fun k hk => ?_
  simp only [State.fldJ, Reg.GLB_CLAIMT_TYPE, Reg.GLB_CLAIMT_INDEX, Reg.GLB_CLAIMT_VALID, hrd k (List.mem_range.1 hk)]

theorem State.wordCond_issue (s : State) (q : Nat) (w : Mw) : (s.issue q).wordCond q w = s.wordCond q w := by
  have hseq {r : Reg} {j : Nat} (hbase : r.base = 0x00B00000) (hstride : r.stride = 0x1000)
      (hoff : r.off + j * r.step ≠ 0x004 ∧ r.off + j * r.step ≠ 0x040) : (s.issue q).rd r q j = s.rd r q j :=
    (s.issue_seqIn q).rd_eq (not_mem_wordRegs (by simp only [Reg.addr, hbase, hstride]; omega))
  have hpend : (s.issue q).pendEnabled q = s.pendEnabled q := by
    simp only [State.pendEnabled, State.pendBits]
    rw [hseq (r := Reg.SEQ_EVC_PEND) (j := 0) rfl rfl (by decide), hseq (r := Reg.SEQ_EVC_PEND) (j := 1) rfl rfl (by decide),
      hseq (r := Reg.SEQ_EVC_EN) (j := 0) rfl rfl (by decide), hseq (r := Reg.SEQ_EVC_EN) (j := 1) rfl rfl (by decide)]
    rfl
  have hreload : (s.issue q).flag Reg.SEQ_CTRL_RELOAD q = s.flag Reg.SEQ_CTRL_RELOAD q :=
    (s.issue_seqIn q).flag_eq (not_mem_wordRegs (by simp only [Reg.addr, Reg.SEQ_CTRL_RELOAD, Reg.SEQ_CTRL]; omega))
  have hdrives (hq : q < 32) : (s.issue q).fld Reg.SPN_STAT_HDA_STATE (q / 2) = s.fld Reg.SPN_STAT_HDA_STATE (q / 2) ∧
      (s.issue q).fld Reg.SRV_STAT_STATE q = s.fld Reg.SRV_STAT_STATE q ∧ (s.issue q).actFenced q = s.actFenced q := by
    refine ⟨s.fld_issue_below q ?_, s.fld_issue_below q ?_, s.actFenced_issue hq⟩
    · simp only [Reg.addr, Reg.SPN_STAT_HDA_STATE, Reg.SPN_STAT]
      omega
    · simp only [Reg.addr, Reg.SRV_STAT_STATE, Reg.SRV_STAT]
      omega
  simp only [State.wordCond, State.condTrue, hpend, hreload, s.claimed_issue, State.fl_issue, State.sq_issue]
  by_cases hq : q < 32
  · obtain ⟨hspn, hsrv, hact⟩ := hdrives hq
    simp only [hspn, hsrv, hact]
  · simp only [hq, decide_false, Bool.false_and]

/-! ## The flow words (R392, R395, R409) -/

/-- A word that goes to an address computed at run time. -/
theorem State.wordKeeps_goTo (s : State) (q a : Nat) : s.WordKeeps ((s.issue q).goTo q a) q ∧
    (((s.issue q).goTo q a).sq q).pc = a ∧ (((s.issue q).goTo q a).sq q).stack = (s.sq q).stack := by
  refine ⟨State.InSeq.wordKeeps (.goTo _ q a), ?_, ?_⟩ <;> rw [State.goTo, State.sq_setSq_same]
  rfl

theorem State.goChecked_of_lt (s : State) {q a : Nat} (h : a < storeWords q) : s.goChecked q a = s.goTo q a := if_pos h

section
variable {s : State} {q : Nat} (hawake : s.glb.dormant = false)
include hawake

theorem exec_nop_eq (hissue : s.canIssue q 0x01 = true) : exec (.nop q) s = .next ((s.issue q).flow q (s.mw q)) :=
  exec_plainWord (f := fun s _ => s) hawake rfl hissue

section
variable (hissue : s.canIssue q 0x02 = true)
include hissue

theorem exec_call_room (hroom : (s.sq q).stack.length < 8) : exec (.call q) s =
    .next (((s.issue q).setSq q { s.sq q with stack := (s.mw q).fAddr :: (s.sq q).stack }).flow q (s.mw q)) := by
  show execCall q s = _
  rw [execCall, State.powered_awake _ _ hawake, if_neg (by simp only [hissue]; omega), State.plainWord_of_canIssue hissue]
  rfl

theorem exec_call_full (hfull : (s.sq q).stack.length = 8) : exec (.call q) s = .next ((s.issue q).seqFault q 2) := by
  show execCall q s = _
  rw [execCall, State.powered_awake _ _ hawake, if_pos ⟨hissue, hfull.ge⟩]

end

section
variable (hissue : s.canIssue q 0x03 = true)
include hissue

theorem exec_ret_pops (hcond : s.wordCond q (s.mw q) = true) {a : Nat} {r : List Nat} (hstack : (s.sq q).stack = a :: r)
    (ha : a < storeWords q) : exec (.ret q) s = .next (((s.issue q).setSq q { s.sq q with stack := r }).goTo q a) := by
  show execRet q s = _
  rw [execRet, State.powered_awake _ _ hawake, if_pos hissue]
  simp only [hcond, if_true, State.sq_issue, hstack, State.goChecked_of_lt _ ha]

theorem exec_ret_empty (hcond : s.wordCond q (s.mw q) = true) (hstack : (s.sq q).stack = []) :
    exec (.ret q) s = .next ((s.issue q).seqFault q 2) := by
  show execRet q s = _
  rw [execRet, State.powered_awake _ _ hawake, if_pos hissue]
  simp only [hcond, if_true, State.sq_issue, hstack]

theorem exec_ret_stays (hcond : s.wordCond q (s.mw q) = false) :
    exec (.ret q) s = .next ((s.issue q).goTo q (s.mw q).nextA) := by
  show execRet q s = _
  rw [execRet, State.powered_awake _ _ hawake, if_pos hissue]
  simp only [hcond, Bool.false_eq_true, if_false]

end

section
variable (hissue : s.canIssue q 0x04 = true)
include hissue

theorem exec_jind_alt (hcond : s.wordCond q (s.mw q) = true) :
    exec (.jind q) s = .next ((s.issue q).goTo q (s.mw q).altA) := by
  show execJind q s = _
  rw [execJind, State.powered_awake _ _ hawake, if_pos hissue]
  simp only [State.wordCond_issue, hcond, if_true]

theorem exec_jind_computed (hcond : s.wordCond q (s.mw q) = false)
    (ha : ((s.gr q (s.mw q).fA).toNat + (s.mw q).fImm) % 2 ^ 15 < storeWords q) :
    exec (.jind q) s = .next ((s.issue q).goTo q (((s.gr q (s.mw q).fA).toNat + (s.mw q).fImm) % 2 ^ 15)) := by
  show execJind q s = _
  rw [execJind, State.powered_awake _ _ hawake, if_pos hissue]
  simp only [State.wordCond_issue, hcond, Bool.false_eq_true, if_false, State.gr_issue, ← Nat.add_mod,
    State.goChecked_of_lt _ ha]

end

/-- A WAIT word that issues. -/
theorem exec_wait_issues (hissue : s.canIssue q 0x05 = true) : exec (.wait q) s = .next (
    if s.wordCond q (s.mw q) then ((s.issue q).setFld Reg.SEQ_STAT_STATE q seqRunning).goTo q (s.mw q).altA
    else if (s.mw q).fImm ≠ 0 ∧ (s.mw q).fImm ≤ (s.sq q).waited + 1 then
      ((s.issue q).setFld Reg.SEQ_STAT_STATE q seqRunning).goTo q (s.mw q).nextA
    else ((s.issue q).setFld Reg.SEQ_STAT_STATE q seqWaiting).setSq q { s.sq q with waited := (s.sq q).waited + 1 }) := by
  show execWait q s = _
  rw [execWait, State.powered_awake _ _ hawake, if_pos (.inl hissue)]
  simp only [((s.canIssue_iff q 0x05).1 hissue).2.1, if_true, State.wordCond_issue, State.sq_issue]

/-- A WAIT word that waits already and whose condition is false counts its cycles. -/
theorem exec_wait_counted (hwaits : s.waits q = true) (hcond : s.wordCond q (s.mw q) = false) (himm : (s.mw q).fImm ≠ 0)
    (hcount : (s.mw q).fImm ≤ (s.sq q).waited + 1) :
    exec (.wait q) s = .next ((s.setFld Reg.SEQ_STAT_STATE q seqRunning).goTo q (s.mw q).nextA) := by
  have hst : s.seqState q = seqWaiting := by
    simp only [State.waits, Bool.and_eq_true, beq_iff_eq] at hwaits
    exact hwaits.1.2
  show execWait q s = _
  rw [execWait, State.powered_awake _ _ hawake, if_pos (.inr hwaits)]
  simp only [hst, show seqWaiting ≠ seqRunning by decide, if_false, hcond, Bool.false_eq_true]
  rw [if_pos ⟨himm, hcount⟩]

theorem exec_sleep_eq (hissue : s.canIssue q 0x06 = true) :
    exec (.sleep q) s = .next ((s.issue q).setFld Reg.SEQ_STAT_STATE q seqSleeping) := by
  show execSleep q s = _
  rw [execSleep, State.powered_awake _ _ hawake, if_pos hissue]

theorem exec_halt_eq (hissue : s.canIssue q 0x07 = true) : exec (.halt q) s = .next ((s.issue q).halted q) := by
  show execHalt q s = _
  rw [execHalt, State.powered_awake _ _ hawake, if_pos hissue]

theorem exec_trap_eq (hissue : s.canIssue q 0x00 = true) : exec (.trap q) s = .next ((s.issue q).seqFault q 0) := by
  show execTrap q s = _
  rw [execTrap, State.powered_awake _ _ hawake, if_pos hissue]

end

theorem State.halted_spec (s : State) (q : Nat) : (s.halted q).seqState q = seqHalted ∧
    (s.halted q).fld Reg.SEQ_CTRL_FORCE q = 0 ∧
    State.SeqIn (· ∈ [Reg.SEQ_STAT.addr q 0, Reg.SEQ_CNT_WORDS.addr q 0, Reg.SEQ_CTRL.addr q 0]) s (s.halted q) := by
  refine ⟨?_, ?_, ?_⟩
  · have hreg : Reg.SEQ_STAT_STATE.reg.addr q 0 ≠ Reg.SEQ_CTRL_FORCE.reg.addr q 0 :=
      seqReg_addr_ne (r := Reg.SEQ_STAT) (r' := Reg.SEQ_CTRL) q rfl rfl (by decide)
    rw [State.halted, State.seqState, State.fld_setFld_ne _ _ _ _ _ _ hreg]
    exact s.seqState_setState q (by decide)
  · rw [State.halted, State.fld_setFld_same _ _ _ _ (by decide) (by decide)]
    rfl
  · exact (State.SeqIn.setFld s _ (by simp [Reg.SEQ_STAT_STATE])).trans (.setFld _ _ (by simp [Reg.SEQ_CTRL_FORCE]))

/-- A word that leaves its sequencer running keeps what every word keeps. -/
theorem State.wordKeeps_running {s : State} {q : Nat} (hst : s.seqState q = seqRunning) (a : Nat) :
    s.WordKeeps (((s.issue q).setFld Reg.SEQ_STAT_STATE q seqRunning).goTo q a) q := by
  have hregs := ((s.issue_seqIn q).trans (.setState _ q seqRunning)).trans (.of_inSeq (.goTo _ q a) _)
  refine ⟨hregs.sameBytes, hregs.sameUnits, fun p hp => State.sq_setSq_ne _ _ _ _ hp, hregs.sameRegs, ?_, ?_, ?_⟩
  · rw [State.seqState_goTo, State.seqState_setState _ _ (by decide), hst]
  · rw [State.inFast, State.flag, State.fld_goTo, State.fld_setState _ q _ rfl (by decide)]
    exact s.inFast_issue q
  · rw [State.flag, State.fld_goTo, State.fld_setState _ q _ rfl (by decide)]
    exact s.inNormal_issue q

/-- Settles O43: one case of its word for each clause. -/
theorem flowWords : Obligations.FlowWords := by
  intro s q hawake w x cond
  refine ⟨fun h => ?_, fun h hroom => ?_, fun h hfull => exec_call_full hawake h hfull, fun h hc a r hstack ha => ?_, fun h hc => ?_,
    fun h hc hstack => exec_ret_empty hawake h hc hstack, fun h hc => ?_, fun h hc ha => ?_, fun h hc => ?_, fun h hc himm hw => ?_,
    fun h hc himm hcount => ?_, fun h => ?_, fun h => ?_, fun h => exec_trap_eq hawake h⟩
  · refine ⟨_, exec_nop_eq hawake h, (State.Calculates.refl _ q).arithKeeps, ?_, fun r => ?_⟩
    · rw [State.flow, State.goTo, State.sq_setSq_same]
      rfl
    · rw [State.gr_flow, State.gr_issue]
  · have hwork := State.InSeq.setSq (s.issue q) q { s.sq q with stack := (s.mw q).fAddr :: (s.sq q).stack }
    refine ⟨_, exec_call_room hawake h hroom, (hwork.trans (.flow _ q _)).wordKeeps, hwork.flowed, ?_, ?_⟩ <;>
      rw [State.flow, State.goTo, State.sq_setSq_same, State.sq_setSq_same]
  · have hwork := (State.InSeq.setSq (s.issue q) q { s.sq q with stack := r }).trans (.goTo _ q a)
    refine ⟨_, exec_ret_pops hawake h hc hstack ha, hwork.wordKeeps, ?_, ?_⟩ <;>
      rw [State.goTo, State.sq_setSq_same]
    rw [State.sq_setSq_same]
  · exact ⟨_, exec_ret_stays hawake h hc, s.wordKeeps_goTo q w.nextA⟩
  · obtain ⟨hkeeps, hpc, -⟩ := s.wordKeeps_goTo q w.altA
    exact ⟨_, exec_jind_alt hawake h hc, hkeeps, hpc⟩
  · obtain ⟨hkeeps, hpc, -⟩ := s.wordKeeps_goTo q (((s.gr q w.fA).toNat + w.fImm) % 2 ^ 15)
    exact ⟨_, exec_jind_computed hawake h hc ha, hkeeps, hpc⟩
  · refine ⟨_, (exec_wait_issues hawake h).trans (congrArg _ (if_pos hc)),
      State.wordKeeps_running ((s.canIssue_iff q 0x05).1 h).2.1 w.altA, ?_, ?_⟩ <;> rw [State.goTo, State.sq_setSq_same]
  · have hmore : ¬ ((s.mw q).fImm ≠ 0 ∧ (s.mw q).fImm ≤ (s.sq q).waited + 1) := by
      have hw' : (s.sq q).waited = 0 := hw
      have himm' : (s.mw q).fImm ≠ 1 := himm
      omega
    have hregs := ((s.issue_seqIn q).trans (.setState _ q seqWaiting)).trans
      (.setSq _ _ q { s.sq q with waited := (s.sq q).waited + 1 })
    have hexec := exec_wait_issues hawake h
    rw [if_neg (by simpa [cond, w] using hc), if_neg hmore] at hexec
    refine ⟨_, hexec, ?_, ?_, ?_, hregs.sameBytes, hregs.sameUnits⟩
    · rw [State.seqState_setSq, State.seqState_setState _ _ (by decide)]
    · rw [State.sq_setSq_same]
    · rw [State.sq_setSq_same]
      exact congrArg (· + 1) hw
  · have hregs := (State.SeqIn.setState s q seqRunning).trans (.of_inSeq (.goTo _ q w.nextA) _)
    refine ⟨_, exec_wait_counted hawake h hc himm hcount, ?_, ?_, ?_, hregs.sameBytes, hregs.sameUnits⟩
    · rw [State.seqState_goTo, State.seqState_setState _ _ (by decide)]
    · rw [State.goTo, State.sq_setSq_same]
    · rw [State.goTo, State.sq_setSq_same]
  · have hregs := (s.issue_seqIn q).trans (.setState _ q seqSleeping)
    exact ⟨_, exec_sleep_eq hawake h, (s.issue q).seqState_setState q (by decide), rfl, hregs.sameBytes, hregs.sameUnits,
      hregs.sameRegs⟩
  · obtain ⟨hst, hforce, hregs⟩ := (s.issue q).halted_spec q
    replace hregs := ((s.issue_seqIn q).mono fun a ha => List.mem_append_left [Reg.SEQ_CTRL.addr q 0] ha).trans hregs
    exact ⟨_, exec_halt_eq hawake h, hst, hforce, rfl, hregs.sameBytes, hregs.sameUnits, hregs.sameRegs⟩

end Sys2Proof.Machine
end

section
/-!
PROOFS. Events and handlers of a sequencer (R389, R403 to R406) and its control by the host (R412, R414 to R416).
-/

namespace Sys2Proof.Machine

/-! ## Waking (R405) -/

/-- The lowest source is one of 64. -/
theorem lowest_lt {m i : Nat} (h : lowest m = some i) : i < 64 := List.mem_range.1 (List.mem_of_find?_eq_some h)

/-- With GMASK set nothing is dispatched. -/
theorem State.dispatchOf_masked {s : State} {q : Nat} (h : s.flag Reg.SEQ_EVC_CTRL_GMASK q = true) : s.dispatchOf q = none := by
  rw [State.dispatchOf, if_pos h]

theorem State.dispatchOf_lt {s : State} {q i : Nat} {fast : Bool} (h : s.dispatchOf q = some (i, fast)) : i < 64 := by
  unfold State.dispatchOf at h
  cases hmask : s.flag Reg.SEQ_EVC_CTRL_GMASK q <;> cases hfast : s.inFast q <;>
    simp only [hmask, hfast, Bool.false_eq_true, if_true, if_false, Bool.false_or, Bool.true_or, reduceCtorEq] at h
  split at h
  · next j hj =>
    obtain rfl : j = i := congrArg Prod.fst (Option.some.inj h)
    exact lowest_lt hj
  · split at h
    · contradiction
    · obtain ⟨j, hj, he⟩ := Option.map_eq_some_iff.1 h
      obtain rfl : j = i := congrArg Prod.fst he
      exact lowest_lt hj

theorem exec_seqWake_masked {s : State} {q : Nat} (hawake : s.glb.dormant = false) (hq : s.hasSeq q = true)
    (hst : s.seqState q = seqSleeping) (hpend : s.pendEnabled q ≠ 0) (hmask : s.flag Reg.SEQ_EVC_CTRL_GMASK q = true) :
    exec (.seqWake q) s = .next ((s.setFld Reg.SEQ_STAT_STATE q seqRunning).goTo q (s.mw q).nextA) := by
  have hnone : (s.setFld Reg.SEQ_STAT_STATE q seqRunning).dispatchOf q = none :=
    State.dispatchOf_masked (((State.SeqIn.setState s q seqRunning).flag_eq (f := Reg.SEQ_EVC_CTRL_GMASK) (not_mem_wordRegs
      (by simp only [Reg.addr, Reg.SEQ_EVC_CTRL_GMASK, Reg.SEQ_EVC_CTRL]; omega))).trans hmask)
  show execSeqWake q s = _
  rw [execSeqWake, State.powered_awake _ _ hawake, if_pos ⟨hq, hst, hpend⟩]
  simp only [hnone, Option.isSome_none, Bool.false_eq_true, if_false]
  rfl

/-! ## Dispatch (R404) -/

/-- The registers of a dispatch: SEQ_STAT, the counts of dispatches, and the half of PEND of the source. -/
def dispatchRegs (q i : Nat) : List Nat :=
  [Reg.SEQ_STAT.addr q 0, Reg.SEQ_CNT_EVF.addr q 0, Reg.SEQ_CNT_EVN.addr q 0, Reg.SEQ_EVC_PEND.addr q (i / 32)]

/-- The source's pending bit is cleared, and the address and FLAGS saved. -/
def State.dispatchSaved (s : State) (q i : Nat) (fast : Bool) : State :=
  let u := s.wr Reg.SEQ_EVC_PEND q (i / 32) (s.rd Reg.SEQ_EVC_PEND q (i / 32) &&& ~~~ word (2 ^ (i % 32)))
  if fast then u.setSq q { s.sq q with epcF := word (s.sq q).pc, eflF := (s.sq q).flags }
  else u.setSq q { s.sq q with epcN := word (s.sq q).pc, eflN := (s.sq q).flags }

/-- The handler's bit of SEQ_STAT is set and its dispatches are counted. -/
def State.handlerEntered (s : State) (q : Nat) (fast : Bool) : State :=
  if fast then (s.setFld Reg.SEQ_STAT_IN_FAST q 1).bump Reg.SEQ_CNT_EVF q 1
  else (s.setFld Reg.SEQ_STAT_IN_NORMAL q 1).bump Reg.SEQ_CNT_EVN q 1

theorem State.dispatch_eq (s : State) (q i : Nat) (fast : Bool) : s.dispatch q i fast =
    let u := (s.dispatchSaved q i fast).handlerEntered q fast
    (u.setFld Reg.SEQ_STAT_STATE q seqRunning).goTo q (u.fldJ Reg.SEQ_EVC_VEC_ADDR q i) := by
  cases fast <;> simp only [State.dispatch, State.dispatchSaved, State.handlerEntered, State.sq_wr, Bool.false_eq_true, if_true, if_false]

theorem State.dispatchSaved_seqIn (s : State) (q i : Nat) (fast : Bool) :
    State.SeqIn (· ∈ dispatchRegs q i) s (s.dispatchSaved q i fast) := by
  have hpend := State.SeqIn.wr (P := (· ∈ dispatchRegs q i)) (r := Reg.SEQ_EVC_PEND) (i := q) (j := i / 32) s
    (s.rd Reg.SEQ_EVC_PEND q (i / 32) &&& ~~~ word (2 ^ (i % 32))) (by simp [dispatchRegs])
  cases fast
  · exact hpend.trans (.setSq _ _ q _)
  · exact hpend.trans (.setSq _ _ q _)

theorem State.handlerEntered_seqIn (s : State) (q : Nat) (fast : Bool) :
    State.SeqIn (· ∈ [Reg.SEQ_STAT.addr q 0, Reg.SEQ_CNT_EVF.addr q 0, Reg.SEQ_CNT_EVN.addr q 0]) s (s.handlerEntered q fast) := by
  cases fast
  · exact (State.SeqIn.setFld s 1 (by simp [Reg.SEQ_STAT_IN_NORMAL])).trans (.bump _ 1 (by simp))
  · exact (State.SeqIn.setFld s 1 (by simp [Reg.SEQ_STAT_IN_FAST])).trans (.bump _ 1 (by simp))

/-- The handler's bit is set, whatever the state field takes. -/
theorem State.flag_handlerEntered (s : State) (q : Nat) (fast : Bool) :
    ((s.handlerEntered q fast).setFld Reg.SEQ_STAT_STATE q seqRunning).flag
      (if fast then Reg.SEQ_STAT_IN_FAST else Reg.SEQ_STAT_IN_NORMAL) q = true := by
  cases fast
  · simp only [State.flag, State.handlerEntered, Bool.false_eq_true, if_false]
    rw [State.fld_setState _ q _ rfl (by decide), State.fld_bump_ne _ Reg.SEQ_STAT_IN_NORMAL Reg.SEQ_CNT_EVN _ _
      (seqReg_addr_ne (r := Reg.SEQ_STAT) (r' := Reg.SEQ_CNT_EVN) q rfl rfl (by decide)), State.fld_setFld_same _ _ _ _ (by decide) (by decide)]
    rfl
  · simp only [State.flag, State.handlerEntered, if_true]
    rw [State.fld_setState _ q _ rfl (by decide), State.fld_bump_ne _ Reg.SEQ_STAT_IN_FAST Reg.SEQ_CNT_EVF _ _
      (seqReg_addr_ne (r := Reg.SEQ_STAT) (r' := Reg.SEQ_CNT_EVF) q rfl rfl (by decide)), State.fld_setFld_same _ _ _ _ (by decide) (by decide)]
    rfl

theorem State.sq_handlerEntered (s : State) (q p : Nat) (fast : Bool) : (s.handlerEntered q fast).sq p = s.sq p := by
  cases fast <;> rfl

theorem State.sq_dispatchSaved (s : State) (q i : Nat) (fast : Bool) : (s.dispatchSaved q i fast).sq q =
    if fast then { s.sq q with epcF := word (s.sq q).pc, eflF := (s.sq q).flags }
    else { s.sq q with epcN := word (s.sq q).pc, eflN := (s.sq q).flags } := by
  cases fast <;> exact State.sq_setSq_same _ q _

theorem State.rd_dispatchSaved (s : State) (q i : Nat) (fast : Bool) :
    (s.dispatchSaved q i fast).rd Reg.SEQ_EVC_PEND q (i / 32) =
      s.rd Reg.SEQ_EVC_PEND q (i / 32) &&& ~~~ word (2 ^ (i % 32)) := by
  cases fast <;> exact State.rd_wr_same s ..

/-- What a dispatch leaves: the vector's address, the pending bit clear, and everything but the registers of a dispatch. -/
theorem State.dispatch_spec (s : State) {q i : Nat} (hi : i < 64) (fast : Bool) :
    ((s.dispatch q i fast).sq q).pc = s.fldJ Reg.SEQ_EVC_VEC_ADDR q i ∧
    ((s.dispatch q i fast).rd Reg.SEQ_EVC_PEND q (i / 32)).getLsbD (i % 32) = false ∧
    (s.dispatch q i fast).flag (if fast then Reg.SEQ_STAT_IN_FAST else Reg.SEQ_STAT_IN_NORMAL) q = true ∧
    (s.dispatch q i fast).sq q = { (s.dispatchSaved q i fast).sq q with pc := s.fldJ Reg.SEQ_EVC_VEC_ADDR q i, waited := 0 } ∧
    State.SeqIn (· ∈ dispatchRegs q i) s (s.dispatch q i fast) := by
  have hsaved := s.dispatchSaved_seqIn q i fast
  have hentered := (State.dispatchSaved s q i fast).handlerEntered_seqIn q fast
  have hrun := State.SeqIn.setFld (P := (· = Reg.SEQ_STAT.addr q 0)) ((s.dispatchSaved q i fast).handlerEntered q fast)
    (f := Reg.SEQ_STAT_STATE) (i := q) seqRunning rfl
  have hgo := State.SeqIn.of_inSeq (.goTo (((s.dispatchSaved q i fast).handlerEntered q fast).setFld Reg.SEQ_STAT_STATE q seqRunning)
    q (((s.dispatchSaved q i fast).handlerEntered q fast).fldJ Reg.SEQ_EVC_VEC_ADDR q i)) (· ∈ dispatchRegs q i)
  have hvec : ((s.dispatchSaved q i fast).handlerEntered q fast).fldJ Reg.SEQ_EVC_VEC_ADDR q i =
      s.fldJ Reg.SEQ_EVC_VEC_ADDR q i := by
    rw [hentered.fldJ_eq, hsaved.fldJ_eq]
    · simp only [dispatchRegs, Reg.addr, Reg.SEQ_EVC_VEC_ADDR, Reg.SEQ_EVC_VEC, Reg.SEQ_STAT, Reg.SEQ_CNT_EVF, Reg.SEQ_CNT_EVN,
        Reg.SEQ_EVC_PEND, List.mem_cons, List.not_mem_nil, or_false]
      omega
    · simp only [Reg.addr, Reg.SEQ_EVC_VEC_ADDR, Reg.SEQ_EVC_VEC, Reg.SEQ_STAT, Reg.SEQ_CNT_EVF, Reg.SEQ_CNT_EVN,
        List.mem_cons, List.not_mem_nil, or_false]
      omega
  have hsq : (s.dispatch q i fast).sq q =
      { (s.dispatchSaved q i fast).sq q with pc := s.fldJ Reg.SEQ_EVC_VEC_ADDR q i, waited := 0 } := by
    rw [State.dispatch_eq]
    simp only [State.goTo, State.sq_setSq_same, State.sq_setFld, State.sq_handlerEntered, hvec]
  refine ⟨by rw [hsq], ?_, ?_, hsq, ?_⟩
  · have hpend : (s.dispatch q i fast).rd Reg.SEQ_EVC_PEND q (i / 32) =
        s.rd Reg.SEQ_EVC_PEND q (i / 32) &&& ~~~ word (2 ^ (i % 32)) := by
      rw [State.dispatch_eq]
      refine ((hrun.trans (.of_inSeq (.goTo _ q _) _)).rd_eq ?_).trans ((hentered.rd_eq ?_).trans (s.rd_dispatchSaved q i fast))
      · simp only [Reg.addr, Reg.SEQ_EVC_PEND, Reg.SEQ_STAT]
        omega
      · simp only [Reg.addr, Reg.SEQ_EVC_PEND, Reg.SEQ_STAT, Reg.SEQ_CNT_EVF, Reg.SEQ_CNT_EVN, List.mem_cons, List.not_mem_nil,
          or_false]
        omega
    have hlt : i % 32 < 32 := Nat.mod_lt _ (by decide)
    rw [hpend, BitVec.getLsbD_and, BitVec.getLsbD_not, getLsbD_word_two_pow _ _ hlt, decide_eq_true rfl]
    simp
  · rw [State.dispatch_eq, State.flag, State.fld_goTo]
    exact (s.dispatchSaved q i fast).flag_handlerEntered q fast
  · rw [State.dispatch_eq]
    refine ((hsaved.trans (hentered.mono fun a ha => ?_)).trans (hrun.mono fun a ha => ?_)).trans hgo
    · simp only [dispatchRegs, List.mem_cons, List.not_mem_nil, or_false] at ha ⊢
      omega
    · simp only [dispatchRegs, List.mem_cons, ha, true_or]

theorem exec_eventDispatch_runs {s : State} {q i : Nat} {fast : Bool} (hawake : s.glb.dormant = false) (hq : s.hasSeq q = true)
    (hst : s.seqState q = seqRunning) (hstall : s.stalled q = false) (hdue : s.dispatchOf q = some (i, fast))
    (hvec : s.fldJ Reg.SEQ_EVC_VEC_ADDR q i < storeWords q) : exec (.eventDispatch q) s = .next (s.dispatch q i fast) := by
  obtain ⟨hpc, -⟩ := s.dispatch_spec (q := q) (State.dispatchOf_lt hdue) fast
  show execEventDispatch q s = _
  rw [execEventDispatch, State.powered_awake _ _ hawake, if_pos ⟨hq, .inl ⟨hst, by simp [hstall]⟩⟩, State.dispatchNow, hdue]
  simp only [hpc, hvec, if_true]

/-! ## EVRET (R404) -/

section
variable {s : State} {q : Nat} (hawake : s.glb.dormant = false) (hissue : s.canIssue q 0x08 = true)
include hawake hissue

theorem exec_evret_fast (hfast : s.inFast q = true) (ha : (s.sq q).epcF.toNat % 2 ^ 15 < storeWords q) :
    exec (.evret q) s = .next ((((s.issue q).setFld Reg.SEQ_STAT_IN_FAST q 0).setSq q { s.sq q with flags := (s.sq q).eflF }).goTo q
      ((s.sq q).epcF.toNat % 2 ^ 15)) := by
  show execEvret q s = _
  rw [execEvret, State.powered_awake _ _ hawake, if_pos hissue]
  simp only [State.inFast_issue, hfast, if_true, State.sq_issue, State.goChecked_of_lt _ ha]

section
variable (hfast : s.inFast q = false)
include hfast

theorem exec_evret_normal (hnormal : s.flag Reg.SEQ_STAT_IN_NORMAL q = true) (ha : (s.sq q).epcN.toNat % 2 ^ 15 < storeWords q) :
    exec (.evret q) s = .next ((((s.issue q).setFld Reg.SEQ_STAT_IN_NORMAL q 0).setSq q
      { s.sq q with flags := (s.sq q).eflN }).goTo q ((s.sq q).epcN.toNat % 2 ^ 15)) := by
  show execEvret q s = _
  rw [execEvret, State.powered_awake _ _ hawake, if_pos hissue]
  simp only [State.inFast_issue, hfast, Bool.false_eq_true, if_false, State.inNormal_issue, hnormal, if_true, State.sq_issue,
    State.goChecked_of_lt _ ha]

theorem exec_evret_none (hnormal : s.flag Reg.SEQ_STAT_IN_NORMAL q = false) :
    exec (.evret q) s = .next ((s.issue q).seqFault q 3) := by
  show execEvret q s = _
  rw [execEvret, State.powered_awake _ _ hawake, if_pos hissue]
  simp only [State.inFast_issue, hfast, Bool.false_eq_true, if_false, State.inNormal_issue, hnormal]

end

end

/-- A handler's bit cleared, and the address and FLAGS that it saved restored. -/
theorem State.evret_spec (s : State) (q a : Nat) (fl : Word) {f : Fld} (hf : f.reg = Reg.SEQ_STAT) (hlo : f.lo ≤ f.hi)
    (hhi : f.hi < 32) :
    let t := (((s.issue q).setFld f q 0).setSq q { s.sq q with flags := fl }).goTo q a
    t.flag f q = false ∧ t.sq q = { s.sq q with flags := fl, pc := a, waited := 0 } ∧ s.SameBytes t ∧ s.SameUnits t := by
  have hregs := (((s.issue_seqIn q).trans (.setFld _ 0 (by simp [wordRegs, hf]))).trans
    (.setSq _ ((s.issue q).setFld f q 0) q { s.sq q with flags := fl })).trans (.of_inSeq (.goTo _ q a) _)
  refine ⟨?_, ?_, hregs.sameBytes, hregs.sameUnits⟩
  · rw [State.flag, State.fld_goTo, State.fld_setSq, State.fld_setFld_same _ _ _ _ hlo hhi, Nat.zero_mod]
    rfl
  · rw [State.goTo, State.sq_setSq_same, State.sq_setSq_same]

/-! ## The pending registers (R406) -/

theorem exec_evcPendWrite_eq {s : State} {q half : Nat} (hawake : s.glb.dormant = false) (hq : s.hasSeq q = true) (hh : half < 2)
    (v : Word) : exec (.evcPendWrite q half v) s = .next (s.pendWrite q half v) := by
  show execEvcPendWrite q half v s = _
  rw [execEvcPendWrite, State.powered_awake _ _ hawake, if_pos ⟨hq, hh⟩]

theorem exec_evcPendRead_eq {s : State} {q half : Nat} (hawake : s.glb.dormant = false) (hq : s.hasSeq q = true) (hh : half < 2) :
    exec (.evcPendRead q half) s = .next (s.pendRead q half).1 := by
  show execEvcPendRead q half s = _
  rw [execEvcPendRead, State.powered_awake _ _ hawake, if_pos ⟨hq, hh⟩]

/-- Settles O44: waking, `dispatch_spec`, `evret_spec`, and the two accesses to PEND. -/
theorem eventWords : Obligations.EventWords := by
  refine ⟨fun s q hawake hq hst hpend hmask => ?_, fun s q i fast hawake hq hst hstall hdue hvec => ?_,
    fun s q hawake hissue hfast ha => ?_, fun s q hawake hissue hfast hnormal ha => ?_,
    fun s q hawake hissue hfast hnormal => exec_evret_none hawake hissue hfast hnormal, fun s q half v hawake hq hh => ?_,
    fun s q half hawake hq hh => ?_⟩
  · have hregs := (State.SeqIn.setFld (P := (· ∈ [Reg.SEQ_STAT.addr q 0])) s (f := Reg.SEQ_STAT_STATE) (i := q) seqRunning
      (by simp [Reg.SEQ_STAT_STATE])).trans (.of_inSeq (.goTo _ q (s.mw q).nextA) _)
    refine ⟨_, exec_seqWake_masked hawake hq hst hpend hmask, ?_, ?_, hregs.sameBytes, hregs.sameUnits, hregs.sameRegs⟩
    · rw [State.seqState_goTo, State.seqState_setState _ _ (by decide)]
    · rw [State.goTo, State.sq_setSq_same]
  · obtain ⟨hpc, hpend, hflag, hsq, hregs⟩ := s.dispatch_spec (q := q) (State.dispatchOf_lt hdue) fast
    refine ⟨_, exec_eventDispatch_runs hawake hq hst hstall hdue hvec, hpc, hpend, ?_, ?_, hregs.sameBytes, hregs.sameUnits⟩
    · rintro rfl
      refine ⟨hflag, ?_, ?_⟩ <;> rw [hsq, State.sq_dispatchSaved, if_pos rfl]
    · rintro rfl
      refine ⟨hflag, ?_, ?_⟩ <;> rw [hsq, State.sq_dispatchSaved, if_neg Bool.false_ne_true]
  · obtain ⟨hflag, hsq, hbytes, hunits⟩ := s.evret_spec q ((s.sq q).epcF.toNat % 2 ^ 15) (s.sq q).eflF
      (f := Reg.SEQ_STAT_IN_FAST) rfl (by decide) (by decide)
    refine ⟨_, exec_evret_fast hawake hissue hfast ha, hflag, ?_, ?_, ?_, ?_, hbytes, hunits⟩ <;> rw [hsq]
  · obtain ⟨hflag, hsq, hbytes, hunits⟩ := s.evret_spec q ((s.sq q).epcN.toNat % 2 ^ 15) (s.sq q).eflN
      (f := Reg.SEQ_STAT_IN_NORMAL) rfl (by decide) (by decide)
    refine ⟨_, exec_evret_normal hawake hissue hfast hnormal ha, hflag, ?_, ?_, hbytes, hunits⟩ <;> rw [hsq]
  · have hregs := State.SeqIn.wr (P := (· ∈ [Reg.SEQ_EVC_PEND.addr q half])) (r := Reg.SEQ_EVC_PEND) (i := q) (j := half) s
      (v ||| (if half = 0 then (s.sq q).sinceLo else (s.sq q).sinceHi)) (by simp)
    exact ⟨_, exec_evcPendWrite_eq hawake hq hh v, State.rd_wr_same .., hregs.sameRegs, hregs.sameBytes, hregs.sameUnits, rfl⟩
  · have hwork : s.InSeq (s.pendRead q half).1 q := .setSq s q _
    refine ⟨_, exec_evcPendRead_eq hawake hq hh, ?_, ?_, hwork.regs_eq, hwork.sameBytes, hwork.sameUnits⟩ <;>
      simp only [State.pendRead, State.sq_setSq_same]
    · split <;> rfl
    · split <;> rfl

end Sys2Proof.Machine
end

section
/-!
PROOFS. Control of a sequencer by the host: RUN, RELOAD, FORCE, SEQ_SOFT and SEQ_MBOX (R389, R403, R412, R414 to R416).
-/

namespace Sys2Proof.Machine

/-! ## RUN (R412, R415) -/

/-- The registers of a start. -/
def startRegs (q : Nat) : List Nat := [Reg.SEQ_STAT.addr q 0, Reg.SEQ_CTRL.addr q 0]

/-- The sequencer's own state at a start. -/
def State.startSq (s : State) (q : Nat) : SeqS :=
  { s.sq q with
    g := [], shadow := [], stack := [], flags := 0, pc := (s.sq q).entry, waited := 0, loads := [], cmo := false, wdogOnce := false
    lparLo := s.rd Reg.SEQ_LPAR_LO q 0, lparHi := s.rd Reg.SEQ_LPAR_HI q 0 }

/-- A Halted sequencer that starts, before its fence is looked at. -/
def State.started (s : State) (q : Nat) : State :=
  ((((s.setSq q (s.startSq q)).setFld Reg.SEQ_STAT_IN_FAST q 0).setFld Reg.SEQ_STAT_IN_NORMAL q 0).setFld
    Reg.SEQ_CTRL_RELOAD q 0).setFld Reg.SEQ_STAT_STATE q seqRunning

theorem State.started_seqIn (s : State) (q : Nat) : State.SeqIn (· ∈ startRegs q) s (s.started q) :=
  ((((State.SeqIn.setSq _ s q _).trans (.setFld _ 0 (by simp [startRegs, Reg.SEQ_STAT_IN_FAST]))).trans
    (.setFld _ 0 (by simp [startRegs, Reg.SEQ_STAT_IN_NORMAL]))).trans
    (.setFld _ 0 (by simp [startRegs, Reg.SEQ_CTRL_RELOAD]))).trans (.setFld _ seqRunning (by simp [startRegs, Reg.SEQ_STAT_STATE]))

theorem State.sq_started (s : State) (q : Nat) : (s.started q).sq q = s.startSq q := s.sq_setSq_same q _

theorem State.gr_started (s : State) (q r : Nat) : (s.started q).gr q r = 0 := by
  rw [State.gr, s.sq_started]
  split <;> rfl

theorem State.seqState_started (s : State) (q : Nat) : (s.started q).seqState q = seqRunning :=
  State.seqState_setState _ q (by decide)

theorem State.fld_reload_started (s : State) (q : Nat) : (s.started q).fld Reg.SEQ_CTRL_RELOAD q = 0 := by
  rw [State.started, State.fld_setFld_ne _ Reg.SEQ_STAT_STATE Reg.SEQ_CTRL_RELOAD _ _ _
    (seqReg_addr_ne (r := Reg.SEQ_CTRL) (r' := Reg.SEQ_STAT) q rfl rfl (by decide)),
    State.fld_setFld_same _ _ _ _ (by decide) (by decide)]
  rfl

theorem faultBase_srcSEQ {q : Nat} (hq : q < 40) : faultBase (srcSEQ q) = 0x00B00000 + q * 0x1000 := by
  have hsrc : srcSEQ q = 88 + q := rfl
  rw [faultBase, if_neg (by omega), if_neg (by omega), if_neg (by omega), if_neg (by omega), if_neg (by omega),
    if_pos (by omega)]
  omega

theorem State.fenced_started (s : State) {q : Nat} (hq : q < 40) :
    (s.started q).fenced (srcSEQ q) = s.fenced (srcSEQ q) := by
  refine (s.started_seqIn q).flag_eq ?_
  simp only [startRegs, Fld.flt, Reg.flt, Reg.addr, Reg.FLT_FENCE_FENCE, Reg.FLT_FENCE, Reg.SEQ_STAT, Reg.SEQ_CTRL,
    faultBase_srcSEQ hq, List.mem_cons, List.not_mem_nil, or_false]
  omega

theorem State.seqStart_halted {s : State} {q : Nat} (hq : q < 40) (hst : s.seqState q = seqHalted)
    (hfence : s.fenced (srcSEQ q) = false) : s.seqStart q = s.started q := by
  have hfence' : ¬ (s.started q).fenced (srcSEQ q) = true := by simp [s.fenced_started hq, hfence]
  rw [State.seqStart, if_pos hst]
  exact if_neg hfence'

theorem State.seqStart_other {s : State} {q : Nat} (hst : s.seqState q ≠ seqHalted) : s.seqStart q = s := if_neg hst

section
variable {s : State} {q : Nat} {v : Word} (hawake : s.glb.dormant = false) (hq : s.hasSeq q = true)
include hawake hq

theorem exec_seqRun_eq (hrun : Reg.SEQ_CTRL_RUN.get v = 1) (hreload : Reg.SEQ_CTRL_RELOAD.get v = 0)
    (hforce : Reg.SEQ_CTRL_FORCE.get v = 0) : exec (.seqRun q v) s = .next (s.seqStart q) := by
  show execSeqRun q v s = _
  rw [execSeqRun, State.powered_awake _ _ hawake, if_pos ⟨hq, hrun⟩]
  simp [State.seqCtrlWrite, hrun, hreload, hforce]

/-! ## RELOAD and FORCE (R414) -/

theorem exec_seqReload_eq (hrun : Reg.SEQ_CTRL_RUN.get v = 0) (hreload : Reg.SEQ_CTRL_RELOAD.get v = 1)
    (hforce : Reg.SEQ_CTRL_FORCE.get v = 0) :
    exec (.seqReload q v) s = .next ((s.setFld Reg.SEQ_CTRL_RELOAD q 1).seqEvent q 12) := by
  show execSeqReload q v s = _
  rw [execSeqReload, State.powered_awake _ _ hawake, if_pos ⟨hq, hreload⟩]
  simp [State.seqCtrlWrite, hrun, hreload, hforce]

theorem exec_seqForce_active (hrun : Reg.SEQ_CTRL_RUN.get v = 0) (hreload : Reg.SEQ_CTRL_RELOAD.get v = 0)
    (hforce : Reg.SEQ_CTRL_FORCE.get v = 1) (hactive : s.seqActive q = true) :
    exec (.seqForce q v) s = .next ((s.seqStopWork q seqHalted).halted q) := by
  show execSeqForce q v s = _
  rw [execSeqForce, State.powered_awake _ _ hawake, if_pos ⟨hq, hforce⟩]
  simp [State.seqCtrlWrite, hrun, hreload, hforce, hactive]

/-! ## SEQ_SOFT and SEQ_MBOX (R390, R403, R416) -/

theorem exec_seqSoft_eq :
    exec (.seqSoft q v) s = .next ((setBitsList v.toNat 16).foldl (fun u k => u.seqEvent q (48 + k)) s) := by
  show execSeqSoft q v s = _
  rw [execSeqSoft, State.powered_awake _ _ hawake, if_pos hq]

theorem exec_seqMbox_eq : exec (.seqMbox q v) s = .next ((s.wr Reg.SEQ_MBOX q 0 v).seqEvent q 14) := by
  show execSeqMbox q v s = _
  rw [execSeqMbox, State.powered_awake _ _ hawake, if_pos hq]

end

theorem mem_setBitsList {m n k : Nat} : k ∈ setBitsList m n ↔ k < n ∧ m.testBit k = true := by
  simp [setBitsList]

/-- A soft source, made pending in the upper half of PEND. -/
theorem State.softEvent_seqIn (s : State) (q : Nat) {k : Nat} (hk : k < 16) :
    State.SeqIn (· ∈ [Reg.SEQ_EVC_PEND.addr q 1]) s (s.seqEvent q (48 + k)) := by
  refine (s.seqEvent_seqIn q (48 + k)).mono fun a ha => ?_
  rw [show (48 + k) / 32 = 1 by omega] at ha
  exact List.mem_singleton.2 ha

/-- Soft sources made pending one after another. -/
theorem State.softEvents_spec {q : Nat} (l : List Nat) (hl : ∀ k ∈ l, k < 16) (s : State) (hq : s.hasSeq q = true) :
    (∀ k < 16, ((l.foldl (fun u k => u.seqEvent q (48 + k)) s).rd Reg.SEQ_EVC_PEND q 1).getLsbD (16 + k) =
      ((s.rd Reg.SEQ_EVC_PEND q 1).getLsbD (16 + k) || decide (k ∈ l))) ∧
    State.SeqIn (· ∈ [Reg.SEQ_EVC_PEND.addr q 1]) s (l.foldl (fun u k => u.seqEvent q (48 + k)) s) := by
  induction l generalizing s with
  | nil => exact ⟨fun k _ => by simp, .refl _ s⟩
  | cons x l ih =>
    have hx : x < 16 := hl x List.mem_cons_self
    have hone := s.softEvent_seqIn q hx
    obtain ⟨hbits, hregs⟩ := ih (fun k hk => hl k (List.mem_cons_of_mem _ hk)) (s.seqEvent q (48 + x)) ((hone.hasSeq_eq q).trans hq)
    refine ⟨fun k hk => (hbits k hk).trans ?_, hone.trans hregs⟩
    have hpend := State.rd_seqEvent hq (48 + x)
    rw [show (48 + x) / 32 = 1 by omega, show (48 + x) % 32 = 16 + x by omega] at hpend
    have hbit : (decide (16 + x = 16 + k)) = decide (k = x) := decide_eq_decide.2 (by omega)
    rw [hpend, BitVec.getLsbD_or, getLsbD_word_two_pow _ _ (by omega), hbit, Bool.or_assoc]
    simp [List.mem_cons]

/-- Settles O47: `started`, `halted_spec`, and what one source made pending does. -/
theorem sequencerControl : Obligations.SequencerControl := by
  refine ⟨fun s q v hawake hq hrun hreload hforce hst hfence => ?_, fun s q v hawake hq hrun hreload hforce hst => ?_,
    fun s q v hawake hq hrun hreload hforce => ?_, fun s q v hawake hq hrun hreload hforce hactive => ?_,
    fun s q v hawake hq => ?_, fun s q v hawake hq => ?_⟩
  · have hregs := s.started_seqIn q
    have hsq := s.sq_started q
    refine ⟨s.started q, ?_, s.seqState_started q, congrArg SeqS.pc hsq, s.gr_started q, congrArg SeqS.flags hsq,
      congrArg SeqS.stack hsq, s.fld_reload_started q, congrArg SeqS.lparLo hsq, congrArg SeqS.lparHi hsq, hregs.sameRegs,
      hregs.sameBytes, hregs.sameUnits⟩
    rw [exec_seqRun_eq hawake hq hrun hreload hforce, State.seqStart_halted (State.hasSeq_lt hq) hst hfence]
  · rw [exec_seqRun_eq hawake hq hrun hreload hforce, State.seqStart_other hst]
  · have hset : State.SeqIn (· ∈ [Reg.SEQ_CTRL.addr q 0, Reg.SEQ_EVC_PEND.addr q 0]) s (s.setFld Reg.SEQ_CTRL_RELOAD q 1) :=
      .setFld s 1 (by simp [Reg.SEQ_CTRL_RELOAD])
    have hevent := (s.setFld Reg.SEQ_CTRL_RELOAD q 1).seqEvent_seqIn q 12
    have hregs := hset.trans (hevent.mono fun a ha => List.mem_cons_of_mem _ (List.mem_singleton.2 ha))
    refine ⟨_, exec_seqReload_eq hawake hq hrun hreload hforce, ?_, State.pend_seqEvent ((hset.hasSeq_eq q).trans hq) 12, ?_,
      hregs.sameRegs, hregs.sameBytes, hregs.sameUnits⟩
    · rw [hevent.fld_eq (seqReg_addr_ne (r := Reg.SEQ_CTRL) (r' := Reg.SEQ_EVC_PEND) q rfl rfl (by decide)),
        State.fld_setFld_same _ _ _ _ (by decide) (by decide)]
      rfl
    · refine hregs.fld_eq ?_
      simp only [Reg.addr, Reg.SEQ_STAT_STATE, Reg.SEQ_STAT, Reg.SEQ_CTRL, Reg.SEQ_EVC_PEND, List.mem_cons, List.not_mem_nil,
        or_false]
      omega
  · obtain ⟨hst, hforced, -⟩ := (s.seqStopWork q seqHalted).halted_spec q
    exact ⟨_, exec_seqForce_active hawake hq hrun hreload hforce hactive, hst, hforced⟩
  · obtain ⟨hbits, hregs⟩ := State.softEvents_spec (setBitsList v.toNat 16) (fun k hk => (mem_setBitsList.1 hk).1) s hq
    refine ⟨_, exec_seqSoft_eq hawake hq, fun k hk => (hbits k hk).trans ?_, hregs.sameRegs, hregs.sameBytes, hregs.sameUnits⟩
    simp [mem_setBitsList, hk, BitVec.getLsbD]
  · have hwr : State.SeqIn (· ∈ [Reg.SEQ_MBOX.addr q 0, Reg.SEQ_EVC_PEND.addr q 0]) s (s.wr Reg.SEQ_MBOX q 0 v) :=
      .wr s v (by simp)
    have hevent := (s.wr Reg.SEQ_MBOX q 0 v).seqEvent_seqIn q 14
    have hregs := hwr.trans (hevent.mono fun a ha => List.mem_cons_of_mem _ (List.mem_singleton.2 ha))
    refine ⟨_, exec_seqMbox_eq hawake hq, ?_, State.pend_seqEvent ((hwr.hasSeq_eq q).trans hq) 14, hregs.sameRegs,
      hregs.sameBytes, hregs.sameUnits⟩
    rw [hevent.rd_eq (seqReg_addr_ne (r := Reg.SEQ_MBOX) (r' := Reg.SEQ_EVC_PEND) q rfl rfl (by decide)), State.rd_wr_same]

end Sys2Proof.Machine
end

section
/-!
PROOFS. The memory and register words of a sequencer (R327, R396, R397).
-/

namespace Sys2Proof.Machine

/-! ## General registers written one after another -/

theorem State.setGrs_eq_self (s : State) (q : Nat) {r : Nat} (h : 64 ≤ r) (ws : List Word) : s.setGrs q r ws = s := by
  cases ws with
  | nil => rfl
  | cons w ws => rw [State.setGrs, if_neg (by omega)]

theorem State.setGrs_inSeq (q : Nat) (ws : List Word) (s : State) (r : Nat) : s.InSeq (s.setGrs q r ws) q := by
  induction ws generalizing s r with
  | nil => exact .refl s q
  | cons w ws ih =>
    rw [State.setGrs]
    split
    · exact (State.InSeq.setGr s q r w).trans (ih _ _)
    · exact .refl s q

/-- A register outside the run keeps its value. -/
theorem State.gr_setGrs_outside {q e : Nat} (ws : List Word) (s : State) (r : Nat) (h : e < r ∨ r + ws.length ≤ e) :
    (s.setGrs q r ws).gr q e = s.gr q e := by
  induction ws generalizing s r with
  | nil => rfl
  | cons w ws ih =>
    rw [List.length_cons] at h
    rw [State.setGrs]
    split
    · rw [ih _ _ (by omega), State.gr_setGr_ne _ _ _ _ _ (by omega)]
    · rfl

/-- A register of the run takes its word. -/
theorem State.gr_setGrs_inside {q i : Nat} (ws : List Word) (s : State) (r : Nat) (hi : i < ws.length) (hr : r + i < 64) :
    (s.setGrs q r ws).gr q (r + i) = ws[i] := by
  induction ws generalizing s r i with
  | nil => exact absurd hi (Nat.not_lt_zero _)
  | cons w ws ih =>
    rw [State.setGrs, if_pos (by omega)]
    cases i with
    | zero => rw [State.gr_setGrs_outside ws _ _ (by omega), Nat.add_zero, State.gr_setGr_same, List.getElem_cons_zero]
    | succ i =>
      rw [List.length_cons] at hi
      rw [List.getElem_cons_succ, ← ih (s.setGr q r w) (r + 1) (by omega) (by omega), Nat.add_right_comm, Nat.add_assoc]

theorem State.loads_setGr (s : State) (q r : Nat) (v : Word) : ((s.setGr q r v).sq q).loads = (s.sq q).loads := by
  rw [State.setGr]
  split <;> rw [State.sq_setSq_same]

theorem State.loads_setGrs (q : Nat) (ws : List Word) (s : State) (r : Nat) :
    ((s.setGrs q r ws).sq q).loads = (s.sq q).loads := by
  induction ws generalizing s r with
  | nil => rfl
  | cons w ws ih =>
    rw [State.setGrs]
    split
    · rw [ih, State.loads_setGr]
    · rfl

/-- The code that runs writes the bank that it reads. -/
theorem State.setGrOf_running {s : State} {q : Nat} {fast : Bool} (h : fast = s.inFast q) (r : Nat) (v : Word) :
    s.setGrOf q fast r v = s.setGr q r v := by
  subst h
  rfl

/-- The registers of a load that the running code issued are a run of its own registers. -/
theorem State.putLoad_eq_setGrs {q : Nat} {l : SeqLoad} (ws : List Word) (s : State) (k : Nat) (h : l.fast = s.inFast q) :
    ((List.range' k ws.length).zip ws).foldl
      (fun s e => if l.dst + e.1 < 64 then s.setGrOf q l.fast (l.dst + e.1) e.2 else s) s = s.setGrs q (l.dst + k) ws := by
  induction ws generalizing s k with
  | nil => rfl
  | cons w ws ih =>
    rw [List.length_cons, List.range'_succ, List.zip_cons_cons, List.foldl_cons, State.setGrs]
    dsimp only
    split
    · rw [State.setGrOf_running h, ih (s.setGr q (l.dst + k) w) (k + 1) (h.trans (State.InSeq.setGr s q _ w).inFast_eq.symm)]
      rfl
    · rw [ih s (k + 1) h, s.setGrs_eq_self q (by omega)]

theorem length_bytesWords (n : Nat) (bs : List Byte) : (bytesWords n bs).length = n := by simp [bytesWords]

theorem State.putLoad_bytesWords {s : State} {q : Nat} {l : SeqLoad} (h : l.fast = s.inFast q) (bs : List Byte) :
    s.putLoad q l (bytesWords l.cnt bs) = s.setGrs q l.dst (bytesWords l.cnt bs) := by
  have hfold := State.putLoad_eq_setGrs (l := l) (bytesWords l.cnt bs) s 0 h
  rwa [length_bytesWords, ← List.range_eq_range', Nat.add_zero] at hfold

/-- Word `i` of the bytes of a Pantry read. -/
theorem getElem_bytesWords_map_range {n i : Nat} (hi : i < n) (f : Nat → Byte)
    (h : i < (bytesWords n ((List.range (4 * n)).map f)).length) :
    (bytesWords n ((List.range (4 * n)).map f))[i] = word (leNat ((List.range 4).map fun k => f (4 * i + k))) := by
  have hbytes : (((List.range (4 * n)).map f).drop (4 * i)).take 4 = (List.range 4).map fun k => f (4 * i + k) := by
    apply List.ext_getElem
    · simp
      omega
    · intro k hk hk'
      simp
  simp [bytesWords, hbytes]

/-! ## Access errors (R396) -/

theorem State.sq_seqEvent_eq (s : State) (q i p : Nat) :
    ∃ lo hi, (s.seqEvent q i).sq p = { s.sq p with sinceLo := lo, sinceHi := hi } := by
  rw [State.seqEvent]
  split
  · rcases eq_or_ne p q with rfl | hp
    · rw [State.sq_setSq_same]
      split
      · exact ⟨_, _, rfl⟩
      · exact ⟨_, _, rfl⟩
    · rw [State.sq_setSq_ne _ _ _ _ hp]
      exact ⟨_, _, rfl⟩
  · exact ⟨_, _, rfl⟩

theorem State.inFast_seqEvent (s : State) (q i : Nat) : (s.seqEvent q i).inFast q = s.inFast q := by
  refine (s.seqEvent_seqIn q i).flag_eq ?_
  simp only [Reg.addr, Reg.SEQ_STAT_IN_FAST, Reg.SEQ_STAT, Reg.SEQ_EVC_PEND]
  omega

theorem State.gr_seqEvent (s : State) (q i r : Nat) : (s.seqEvent q i).gr q r = s.gr q r := by
  obtain ⟨lo, hi, hsq⟩ := s.sq_seqEvent_eq q i q
  rw [State.gr, State.gr, s.inFast_seqEvent q i, hsq]

theorem State.fl_seqEvent (s : State) (q i k : Nat) : (s.seqEvent q i).fl q k = s.fl q k := by
  obtain ⟨lo, hi, hsq⟩ := s.sq_seqEvent_eq q i q
  rw [State.fl, State.fl, hsq]

theorem State.loads_seqEvent (s : State) (q i : Nat) : ((s.seqEvent q i).sq q).loads = (s.sq q).loads := by
  obtain ⟨lo, hi, hsq⟩ := s.sq_seqEvent_eq q i q
  rw [hsq]

/-- An access error (R396): MERR, source 1, and ones in the destination of a load. -/
theorem State.accessError_spec {s : State} {q : Nat} (hq : s.hasSeq q = true) (r n : Nat) :
    (s.accessError q r n).fl q flMERR = true ∧ ((s.accessError q r n).sq q).loads = (s.sq q).loads ∧
    (∀ i < n, r + i < 64 → (s.accessError q r n).gr q (r + i) = 0xFFFFFFFF) ∧
    ((s.accessError q r n).rd Reg.SEQ_EVC_PEND q 0).getLsbD 1 = true ∧
    State.SeqIn (· = Reg.SEQ_EVC_PEND.addr q 0) s (s.accessError q r n) := by
  have hones := s.setGrs_inSeq q (List.replicate n 0xFFFFFFFF) r
  have hflag := hones.trans (.setSq _ q { (s.setGrs q r (List.replicate n 0xFFFFFFFF)).sq q with
    flags := word (setBit ((s.setGrs q r (List.replicate n 0xFFFFFFFF)).sq q).flags.toNat flMERR true) })
  refine ⟨?_, ?_, fun i hi hr => ?_, ?_, (State.SeqIn.of_inSeq hflag _).trans (State.seqEvent_seqIn _ q 1)⟩
  · rw [State.accessError, State.fl_seqEvent, State.fl_setFl_same _ _ _ _ (by decide)]
  · rw [State.accessError, State.loads_seqEvent, State.setFl, State.sq_setSq_same, State.loads_setGrs]
  · rw [State.accessError, State.gr_seqEvent, State.gr_setFl, State.gr_setGrs_inside _ s r (by simpa using hi) hr,
      List.getElem_replicate]
  · exact State.pend_seqEvent ((State.SeqIn.of_inSeq hflag (fun _ => False)).hasSeq_eq q |>.trans hq) 1

/-! ## LD and its data (R396) -/

@[simp] theorem State.memAddr_issue (s : State) (q : Nat) (w : Mw) : (s.issue q).memAddr q w = s.memAddr q w := by
  simp only [State.memAddr, State.gr_issue, State.sq_issue]

theorem State.canIssue_hasSeq {s : State} {q op : Nat} (h : s.canIssue q op = true) : s.hasSeq q = true :=
  ((s.canIssue_iff q op).1 h).1

/-- The load that an LD leaves outstanding. -/
def State.loadOf (s : State) (q : Nat) (w : Mw) : SeqLoad :=
  { dst := w.mD, fast := s.inFast q, cnt := sizeBytes w.mSize / 4, pantry := w.mSpace == 1, addr := s.memAddr q w, once := w.mOnce }

/-- The oldest load leaves the list. -/
def State.loadTaken (s : State) (q : Nat) (rest : List SeqLoad) : State := s.setSq q { s.sq q with loads := rest }

theorem State.loadTaken_inSeq (s : State) (q : Nat) (rest : List SeqLoad) : s.InSeq (s.loadTaken q rest) q := .setSq s q _

/-- Bytes of the Pantry. -/
def State.pantryBytes (s : State) (x n : Nat) : List Byte := (List.range n).map fun k => mget (fun _ => (0 : Byte)) s.pantry (x + k)

theorem sizeBytes_cases (k : Nat) : sizeBytes k = 4 ∨ sizeBytes k = 8 ∨ sizeBytes k = 64 := by
  unfold sizeBytes
  split
  · exact .inl rfl
  · split
    · exact .inr (.inl rfl)
    · exact .inr (.inr rfl)

theorem four_mul_sizeBytes_div (k : Nat) : 4 * (sizeBytes k / 4) = sizeBytes k := by
  rcases sizeBytes_cases k with h | h | h <;> rw [h]

section
variable {s : State} {q : Nat} (hawake : s.glb.dormant = false)
include hawake

theorem exec_ld_aligned (hissue : s.canIssue q 0x28 = true) (halign : s.memAddr q (s.mw q) % sizeBytes (s.mw q).mSize = 0) :
    exec (.ld q) s = .next (((s.issue q).setSq q { s.sq q with loads := (s.sq q).loads ++ [s.loadOf q (s.mw q)] }).flow q
      (s.mw q)) := by
  refine (exec_plainWord hawake (c := .ld q) rfl hissue).trans ?_
  simp only [State.memAddr_issue, halign, ne_eq, not_true_eq_false, if_false, State.inFast_issue, State.sq_issue]
  rfl

theorem exec_ld_misaligned (hissue : s.canIssue q 0x28 = true)
    (halign : s.memAddr q (s.mw q) % sizeBytes (s.mw q).mSize ≠ 0) :
    exec (.ld q) s = .next (((s.issue q).accessError q (s.mw q).mD (sizeBytes (s.mw q).mSize / 4)).flow q (s.mw q)) := by
  refine (exec_plainWord hawake (c := .ld q) rfl hissue).trans ?_
  simp only [State.memAddr_issue, halign, ne_eq, not_false_eq_true, if_true]

theorem exec_loadDataArrival_pantry (hwait : s.clk.gateWait = none) {l : SeqLoad} {rest : List SeqLoad}
    (hloads : (s.sq q).loads = l :: rest) (hpantry : l.pantry = true) (hin : l.addr + 4 * l.cnt ≤ s.pantrySize)
    (hfast : l.fast = s.inFast q) :
    exec (.loadDataArrival q) s = .next ((s.loadTaken q rest).setGrs q l.dst (bytesWords l.cnt
      (s.pantryBytes l.addr (4 * l.cnt)))) := by
  have htaken := s.loadTaken_inSeq q rest
  have hload : (s.loadTaken q rest).putLoad q l (bytesWords l.cnt (s.pantryBytes l.addr (4 * l.cnt))) =
      (s.loadTaken q rest).setGrs q l.dst (bytesWords l.cnt (s.pantryBytes l.addr (4 * l.cnt))) :=
    State.putLoad_bytesWords (hfast.trans htaken.inFast_eq.symm) _
  obtain ⟨-, hclk, -⟩ := (htaken.trans ((s.loadTaken q rest).setGrs_inSeq q
    (bytesWords l.cnt (s.pantryBytes l.addr (4 * l.cnt))) l.dst)).sameUnits
  have hread : (s.loadTaken q rest).pantryRead l.addr (4 * l.cnt) = (s.loadTaken q rest, s.pantryBytes l.addr (4 * l.cnt)) :=
    if_pos hin
  show execLoadDataArrival q s = _
  rw [execLoadDataArrival, State.powered_awake _ _ hawake, hloads]
  have hstate : s.setSq q { s.sq q with loads := rest } = s.loadTaken q rest := rfl
  simp only [hpantry, if_true, hstate, hread, hload]
  exact congrArg Host.Outcome.next (State.gateSettle_of_none_waiting ((congrArg ClkS.gateWait hclk).trans hwait))

end

/-! ## ST to the Pantry (R396) -/

theorem length_wordBytes (ws : List Word) : (wordBytes ws).length = 4 * ws.length := by
  induction ws with
  | nil => rfl
  | cons w ws ih =>
    have hcons : wordBytes (w :: ws) = leBytes 4 w.toNat ++ wordBytes ws := rfl
    rw [hcons, List.length_append, length_leBytes, ih, List.length_cons]
    omega

/-- The bytes that an ST stores. -/
def State.storeBytes (s : State) (q : Nat) (w : Mw) : List Byte := wordBytes (s.grs q w.mD (sizeBytes w.mSize / 4))

theorem State.length_storeBytes (s : State) (q : Nat) (w : Mw) : (s.storeBytes q w).length = sizeBytes w.mSize := by
  rw [State.storeBytes, length_wordBytes, State.grs, List.length_map, List.length_range, four_mul_sizeBytes_div]

theorem State.storeBytes_issue (s : State) (q : Nat) (w : Mw) : (s.issue q).storeBytes q w = s.storeBytes q w := by
  rw [State.storeBytes, State.grs_issue, State.storeBytes]

/-- Bytes put into a sparse map from an address upward. -/
theorem mget_putRun (x k : Nat) (bs : List Byte) (j : Nat) (m : List Host.Cell) :
    mget (fun _ => (0 : Byte)) (((List.range' j bs.length).zip bs).foldl
      (fun m kb => mset (fun _ => (0 : Byte)) m (x + kb.1) kb.2) m) k =
    if x + j ≤ k ∧ k < x + j + bs.length then bs.getD (k - (x + j)) 0 else mget (fun _ => (0 : Byte)) m k := by
  induction bs generalizing j m with
  | nil => rw [if_neg (by simp only [List.length_nil]; omega)]; rfl
  | cons b bs ih =>
    rw [List.length_cons, List.range'_succ, List.zip_cons_cons, List.foldl_cons, ih, mget_mset]
    rcases Nat.lt_trichotomy k (x + j) with h | rfl | h
    · rw [if_neg (by omega), if_neg (by omega), if_neg (by omega)]
    · rw [if_neg (by omega), if_pos rfl, if_pos (by omega), Nat.sub_self]
      rfl
    · have hne : k ≠ x + j := by omega
      rw [if_neg hne]
      by_cases hin : k < x + j + (bs.length + 1)
      · rw [if_pos (by omega), if_pos (by omega), show k - (x + j) = (k - (x + (j + 1))) + 1 by omega, List.getD_cons_succ]
      · rw [if_neg (by omega), if_neg (by omega)]

theorem State.mget_pantryWrite {s : State} {x : Nat} {bs : List Byte} (h : x + bs.length ≤ s.pantrySize) (k : Nat) :
    mget (fun _ => (0 : Byte)) (s.pantryWrite x bs).pantry k =
      if x ≤ k ∧ k < x + bs.length then bs.getD (k - x) 0 else mget (fun _ => (0 : Byte)) s.pantry k := by
  have hput := mget_putRun x k bs 0 s.pantry
  rw [← List.range_eq_range', Nat.add_zero] at hput
  rw [State.pantryWrite, if_pos h]
  exact hput

/-! ## ST past the cache (R310, R325, R396) -/

/-- Registers below the sequencers' read the same. -/
theorem State.SeqIn.readsBelow {s t : State} (h : State.SeqIn (0x00B00000 ≤ ·) s t) {r : Reg} {i j : Nat}
    (hr : r.addr i j < 0x00B00000) : t.rd r i j = s.rd r i j := h.rd_eq (by omega)

theorem State.issue_seqIn_above (s : State) (q : Nat) : State.SeqIn (0x00B00000 ≤ ·) s (s.issue q) := by
  refine (s.issue_seqIn q).mono fun a ha => ?_
  simp only [wordRegs, Reg.addr, Reg.SEQ_STAT, Reg.SEQ_CNT_WORDS, List.mem_cons, List.not_mem_nil, or_false] at ha
  omega

namespace State.SeqIn
variable {s t : State} (h : State.SeqIn (0x00B00000 ≤ ·) s t)
include h

theorem fldJ_below {f : Fld} {i j : Nat} (hr : f.reg.addr i j < 0x00B00000) : t.fldJ f i j = s.fldJ f i j :=
  h.fldJ_eq (by omega)

theorem cached_eq (a : Nat) : t.cached a = s.cached a := by
  have hrgn {f : Fld} (hf : f.reg ∈ [Reg.CCH_RGN_BASE_LO, Reg.CCH_RGN_BASE_HI, Reg.CCH_RGN_SIZE]) {k : Nat} (hk : k < 4) :
      t.fldJ f 0 k = s.fldJ f 0 k := by
    refine h.fldJ_below ?_
    simp only [List.mem_cons, List.not_mem_nil, or_false] at hf
    rcases hf with hf | hf | hf <;> simp only [hf, Reg.addr, Reg.CCH_RGN_BASE_LO, Reg.CCH_RGN_BASE_HI, Reg.CCH_RGN_SIZE] <;> omega
  rw [State.cached, State.cached, h.flag_eq (by decide)]
  refine congrArg _ (any_congr_mem fun k hk => ?_)
  have hk := List.mem_range.1 hk
  rw [hrgn (by decide) hk, hrgn (by decide) hk, hrgn (by decide) hk, hrgn (by decide) hk]

theorem nCh_eq : t.nCh = s.nCh := by rw [State.nCh, h.jd16_eq, State.nCh]

theorem locs_eq (a : Nat) : t.locs a = s.locs a := by
  by_cases ha : a < 2 ^ 35
  · have hseg {f : Fld} (hf : f.reg = Reg.BUF_SEG) : t.fldJ f 0 (a / 2 ^ 28) = s.fldJ f 0 (a / 2 ^ 28) := by
      refine h.fldJ_below ?_
      simp only [hf, Reg.addr, Reg.BUF_SEG]
      omega
    rw [State.locs, State.locs, h.nCh_eq, hseg (by decide), hseg (by decide), hseg (by decide)]
  · rw [State.locs, State.locs, if_neg (by tauto), if_neg (by tauto)]

theorem chState_eq {c : Nat} (hc : c < 8) : t.chState c = s.chState c := by
  refine h.fld_eq ?_
  simp only [Reg.addr, Reg.BUFC_STAT_STATE, Reg.BUFC_STAT]
  omega

theorem fenced_buf_eq {c : Nat} (hc : c < 8) : t.fenced (srcBUFC c) = s.fenced (srcBUFC c) := by
  refine h.flag_eq ?_
  have := faultBase_below (srcBUFC c) (by simp only [srcBUFC]; omega) (by simp only [srcBUFC]; omega)
  simp only [Fld.flt, Reg.flt, Reg.addr, Reg.FLT_FENCE_FENCE, Reg.FLT_FENCE]
  omega

theorem chReads_eq {c : Nat} (hc : c < 8) : t.chReads c = s.chReads c := by
  rw [State.chReads, h.chState_eq hc, h.fenced_buf_eq hc, State.chReads]

theorem chWrites_eq {c : Nat} (hc : c < 8) : t.chWrites c = s.chWrites c := by
  rw [State.chWrites, h.chState_eq hc, h.fenced_buf_eq hc, h.chReads_eq hc, State.chWrites]

end State.SeqIn

/-- A copy lies on a channel of the variant. -/
theorem State.locs_lt {s : State} {a : Nat} {cl : Nat × Nat} (h : cl ∈ s.locs a) : cl.1 < 8 := by
  have hch : s.nCh = 8 ∨ s.nCh = 4 := by
    unfold State.nCh
    split
    · exact .inl rfl
    · exact .inr rfl
  unfold State.locs at h
  dsimp only at h
  split at h
  · split at h
    · obtain rfl := List.mem_singleton.1 h
      rcases hch with hch | hch <;> simp only [hch] <;> omega
    · simp only [List.mem_cons, List.not_mem_nil, or_false] at h
      rcases h with rfl | rfl <;> rcases hch with hch | hch <;> simp only [hch] <;> omega
  · exact absurd h List.not_mem_nil

theorem State.SeqIn.writable_eq {s t : State} (h : State.SeqIn (0x00B00000 ≤ ·) s t) (a : Nat) : t.writable a = s.writable a := by
  have hreads : ∀ cl ∈ s.locs a, t.chReads cl.1 = s.chReads cl.1 := fun cl hcl => h.chReads_eq (State.locs_lt hcl)
  have hwrites : ∀ cl ∈ s.locs a, t.chWrites cl.1 = s.chWrites cl.1 := fun cl hcl => h.chWrites_eq (State.locs_lt hcl)
  rw [State.writable, State.writable, h.locs_eq a, List.filter_congr hreads, List.filter_congr hwrites]

theorem State.bufCanWrite_congr {s t : State} (h : ∀ a, t.writable a = s.writable a) (n a : Nat) :
    t.bufCanWrite a n = s.bufCanWrite a n := by
  induction n generalizing a with
  | zero => rfl
  | succ n ih => rw [State.bufCanWrite, State.bufCanWrite, h, ih]

/-- A write of bytes changes buffer memory alone. -/
theorem State.putBytes_eq (bs : List Byte) (s : State) (a : Nat) : ∃ m, s.putBytes a bs = { s with mem := m } := by
  induction bs generalizing s a with
  | nil => exact ⟨s.mem, rfl⟩
  | cons b bs ih =>
    obtain ⟨m, h⟩ := ih (s.putByte a b) (a + 1)
    exact ⟨m, h⟩

/-- What a write of bytes leaves depends on the memory and on where each byte lies. -/
theorem State.putBytes_mem_congr (bs : List Byte) {s t : State} (h : ∀ a, t.writable a = s.writable a) (hmem : t.mem = s.mem)
    (a : Nat) : (t.putBytes a bs).mem = (s.putBytes a bs).mem := by
  induction bs generalizing s t a with
  | nil => exact hmem
  | cons b bs ih => exact ih (s := s.putByte a b) (t := t.putByte a b) h (by simp only [State.putByte, h, hmem]) (a + 1)

/-- A byte that no copy of the run holds is unchanged. -/
theorem State.mget_putBytes_other {k : Nat} (bs : List Byte) (s : State) (a : Nat)
    (h : ∀ i < bs.length, ∀ cl ∈ s.writable (a + i), k ≠ locKey cl.1 cl.2) :
    mget (fun _ => (0 : Byte)) (s.putBytes a bs).mem k = mget (fun _ => (0 : Byte)) s.mem k := by
  induction bs generalizing s a with
  | nil => rfl
  | cons b bs ih =>
    have hbyte (l : List (Nat × Nat)) (hl : ∀ cl ∈ l, k ≠ locKey cl.1 cl.2) (m : List Host.Cell) :
        mget (fun _ => (0 : Byte)) (l.foldl (fun m cl => mset (fun _ => (0 : Byte)) m (locKey cl.1 cl.2) b) m) k =
          mget (fun _ => (0 : Byte)) m k := by
      induction l generalizing m with
      | nil => rfl
      | cons cl l ih =>
        rw [List.foldl_cons, ih (fun cl' h' => hl cl' (List.mem_cons_of_mem _ h')),
          mget_mset_ne _ _ _ _ _ (hl cl List.mem_cons_self)]
    have hrest := ih (s.putByte a b) (a + 1) fun i hi cl hcl =>
      h (i + 1) (Nat.succ_lt_succ hi) cl (by rwa [Nat.add_comm i 1, ← Nat.add_assoc])
    exact hrest.trans (hbyte _ (h 0 (Nat.succ_pos _)) s.mem)

/-- An aligned access lies in one line. -/
theorem lineParts_aligned {a n : Nat} (hn : n = 4 ∨ n = 8 ∨ n = 64) (h : a % n = 0) : lineParts (n + 1) a n = [(a, n)] := by
  have hmin : min n (64 - a % 64) = n := by rcases hn with rfl | rfl | rfl <;> omega
  have hpos : ¬ n = 0 := by omega
  obtain ⟨m, rfl⟩ := Nat.exists_eq_succ_of_ne_zero hpos
  simp only [lineParts, if_neg hpos, hmin, Nat.sub_self, if_true]

theorem State.cWrite_uncached {s : State} {a : Nat} {bs : List Byte} (hn : bs.length = 4 ∨ bs.length = 8 ∨ bs.length = 64)
    (h : a % bs.length = 0) (hcached : s.cached a = false) (hcan : s.bufCanWrite a bs.length = true) (once : Bool) :
    s.cWrite a bs once = ((s.putBytes a bs).healBlocks a bs.length, true) := by
  simp only [State.cWrite, lineParts_aligned hn h, List.foldl_cons, List.foldl_nil, if_true, Nat.sub_self, List.drop_zero,
    List.take_length, hcached, Bool.false_eq_true, if_false, State.bufWrite, hcan]

/-- Bytes of the Pantry are no register and no unit. -/
theorem State.withPantry_keeps (s : State) (p : List Host.Cell) :
    s.SameUnits { s with pantry := p } ∧ ∀ a, ({ s with pantry := p }).rdA a = s.rdA a :=
  ⟨⟨rfl, rfl, rfl, rfl, rfl, rfl, rfl, rfl, rfl, rfl, rfl, rfl, rfl, rfl, rfl, rfl, rfl, rfl, rfl⟩, fun _ => rfl⟩

/-- Bytes of buffer memory are no register and no unit. -/
theorem State.withMem_keeps (s : State) (m : List Host.Cell) (x n : Nat) :
    s.SameUnits (({ s with mem := m }).healBlocks x n) ∧ ∀ a, (({ s with mem := m }).healBlocks x n).rdA a = s.rdA a :=
  ⟨⟨rfl, rfl, rfl, rfl, rfl, rfl, rfl, rfl, rfl, rfl, rfl, rfl, rfl, rfl, rfl, rfl, rfl, rfl, rfl⟩, fun _ => rfl⟩

section
variable {s : State} {q : Nat} (hawake : s.glb.dormant = false) (hissue : s.canIssue q 0x29 = true)
  (halign : s.memAddr q (s.mw q) % sizeBytes (s.mw q).mSize = 0)
include hawake hissue halign

theorem exec_st_pantry (hspace : (s.mw q).mSpace = 1) :
    exec (.st q) s =
      .next (((s.issue q).pantryWrite (s.memAddr q (s.mw q)) (s.storeBytes q (s.mw q))).flow q (s.mw q)) := by
  refine (exec_plainWord hawake (c := .st q) rfl hissue).trans ?_
  simp only [State.memAddr_issue, halign, ne_eq, not_true_eq_false, if_false, hspace, if_true, State.grs_issue]
  rfl

theorem exec_st_uncached (hspace : (s.mw q).mSpace = 0) (hcached : s.cached (s.memAddr q (s.mw q)) = false)
    (hcan : s.bufCanWrite (s.memAddr q (s.mw q)) (sizeBytes (s.mw q).mSize) = true) :
    exec (.st q) s = .next ((((s.issue q).putBytes (s.memAddr q (s.mw q)) (s.storeBytes q (s.mw q))).healBlocks
      (s.memAddr q (s.mw q)) (sizeBytes (s.mw q).mSize)).flow q (s.mw q)) := by
  have hsame := s.issue_seqIn_above q
  have hlen := s.length_storeBytes q (s.mw q)
  have hwrite := State.cWrite_uncached (s := s.issue q) (a := s.memAddr q (s.mw q)) (bs := s.storeBytes q (s.mw q))
    (hlen ▸ sizeBytes_cases _) (hlen ▸ halign) ((hsame.cached_eq _).trans hcached)
    (hlen ▸ (State.bufCanWrite_congr hsame.writable_eq _ _).trans hcan) (s.mw q).mOnce
  rw [hlen] at hwrite
  refine (exec_plainWord hawake (c := .st q) rfl hissue).trans ?_
  have hbytes : wordBytes (s.grs q (s.mw q).mD (sizeBytes (s.mw q).mSize / 4)) = s.storeBytes q (s.mw q) := rfl
  simp only [State.memAddr_issue, halign, ne_eq, not_true_eq_false, if_false, hspace, Nat.zero_ne_one, State.grs_issue, hbytes,
    hwrite]

end

/-! ## RDR, WRR and PIW (R327, R397) -/

section
variable {s : State} {q : Nat} (hawake : s.glb.dormant = false)
include hawake

theorem exec_rdr_reaches (hissue : s.canIssue q 0x2A = true)
    (hreach : (s.issue q).reaches (.seq q) ((s.issue q).regAddr q (s.mw q)) false = true) :
    exec (.rdr q) s = .next (((((s.issue q).busRead ((s.issue q).regAddr q (s.mw q))).1.setGr q (s.mw q).mD
      ((s.issue q).busRead ((s.issue q).regAddr q (s.mw q))).2)).flowOn q (s.mw q)) := by
  show execRdr q s = _
  rw [execRdr, State.powered_awake _ _ hawake, if_pos hissue]
  simp only [hreach, if_true]

theorem exec_rdr_refused (hissue : s.canIssue q 0x2A = true)
    (hreach : (s.issue q).reaches (.seq q) ((s.issue q).regAddr q (s.mw q)) false = false)
    (hgated : (s.issue q).gatedAddr ((s.issue q).regAddr q (s.mw q)) = false) :
    exec (.rdr q) s = .next (((s.issue q).accessError q (s.mw q).mD 1).flowOn q (s.mw q)) := by
  show execRdr q s = _
  rw [execRdr, State.powered_awake _ _ hawake, if_pos hissue]
  simp only [hreach, hgated, Bool.false_eq_true, if_false, false_and]

theorem exec_wrr_reaches (hissue : s.canIssue q 0x2B = true)
    (hreach : (s.issue q).reaches (.seq q) ((s.issue q).regAddr q (s.mw q)) true = true) :
    exec (.wrr q) s = .next (((s.issue q).busWrite (.seq q) ((s.issue q).regAddr q (s.mw q))
      ((s.issue q).gr q (s.mw q).mD)).flowOn q (s.mw q)) := by
  show execWrr q s = _
  rw [execWrr, State.powered_awake _ _ hawake, if_pos hissue]
  simp only [hreach, if_true]

theorem exec_wrr_refused (hissue : s.canIssue q 0x2B = true)
    (hreach : (s.issue q).reaches (.seq q) ((s.issue q).regAddr q (s.mw q)) true = false)
    (hgated : (s.issue q).gatedAddr ((s.issue q).regAddr q (s.mw q)) = false) :
    exec (.wrr q) s = .next (((s.issue q).accessError q 0 0).flowOn q (s.mw q)) := by
  show execWrr q s = _
  rw [execWrr, State.powered_awake _ _ hawake, if_pos hissue]
  simp only [hreach, hgated, Bool.false_eq_true, if_false, false_and]

theorem exec_piw_owned (hissue : s.canIssue q 0x2D = true) (howner : (s.issue q).dmvOwner ((s.mw q).mOfs % 64) (.seq q) = true) :
    exec (.piw q) s = .next ((((s.issue q).dmvPi (.seq q) ((s.mw q).mOfs % 64) ((s.issue q).gr q (s.mw q).mD)).setRF q false).flow
      q (s.mw q)) := by
  refine (exec_plainWord hawake (c := .piw q) rfl hissue).trans ?_
  simp only [howner, if_true]

theorem exec_piw_foreign (hissue : s.canIssue q 0x2D = true)
    (howner : (s.issue q).dmvOwner ((s.mw q).mOfs % 64) (.seq q) = false) :
    exec (.piw q) s = .next (((s.issue q).setRF q true).flow q (s.mw q)) := by
  refine (exec_plainWord hawake (c := .piw q) rfl hissue).trans ?_
  simp only [howner, Bool.false_eq_true, if_false]

end

/-- Settles O46: LD and its data, the two ST, and the accesses of RDR, WRR and PIW. -/
theorem memoryWords : Obligations.MemoryWords := by
  refine ⟨fun s q hawake hissue halign => ?_, fun s q hawake hissue halign => ?_,
    fun s q l rest hawake hwait hloads hpantry hfast hin => ?_, fun s q hawake hissue hspace halign hin => ?_,
    fun s q hawake hissue hspace halign hcached hcan => ?_,
    fun s q hawake hissue => ⟨exec_rdr_reaches hawake hissue, exec_rdr_refused hawake hissue⟩,
    fun s q hawake hissue => ⟨exec_wrr_reaches hawake hissue, exec_wrr_refused hawake hissue⟩,
    fun s q hawake hissue => ⟨exec_piw_owned hawake hissue, exec_piw_foreign hawake hissue⟩⟩
  · have hwork := State.InSeq.setSq (s.issue q) q { s.sq q with loads := (s.sq q).loads ++ [s.loadOf q (s.mw q)] }
    refine ⟨_, exec_ld_aligned hawake hissue halign, (hwork.trans (.flow _ q (s.mw q))).wordKeeps, hwork.flowed, fun r => ?_,
      s.loadOf q (s.mw q), ?_, rfl, four_mul_sizeBytes_div _, rfl, rfl⟩
    · have hfast : ((s.issue q).setSq q { s.sq q with loads := (s.sq q).loads ++ [s.loadOf q (s.mw q)] }).inFast q = s.inFast q :=
        hwork.inFast_eq.trans (s.inFast_issue q)
      rw [State.gr_flow, State.gr, State.sq_setSq_same, hfast, State.gr]
    · rw [State.flow, State.goTo, State.sq_setSq_same, State.sq_setSq_same]
  · obtain ⟨hmerr, hloads, hones, hpend, hregs⟩ := State.accessError_spec (s := s.issue q)
      (((s.issue_seqIn q).hasSeq_eq q).trans (State.canIssue_hasSeq hissue)) (s.mw q).mD (sizeBytes (s.mw q).mSize / 4)
    refine ⟨_, exec_ld_misaligned hawake hissue halign, ?_, ?_, fun i hi hr => ?_, ?_, ?_, ?_⟩
    · rw [State.fl_flow, hmerr]
    · rw [State.flow, State.goTo, State.sq_setSq_same, hloads, State.sq_issue]
    · rw [State.gr_flow, hones i hi hr]
    · rw [(State.InSeq.flow _ q _).rd_eq, hpend]
    · exact (s.issue_sameBytes q).trans (hregs.sameBytes.trans (State.InSeq.flow _ q _).sameBytes)
    · exact (s.issue_sameUnits q).trans (hregs.sameUnits.trans (State.InSeq.flow _ q _).sameUnits)
  · have htaken := s.loadTaken_inSeq q rest
    have hall := htaken.trans ((s.loadTaken q rest).setGrs_inSeq q (bytesWords l.cnt (s.pantryBytes l.addr (4 * l.cnt))) l.dst)
    have hgr (r : Nat) : (s.loadTaken q rest).gr q r = s.gr q r := by
      rw [State.gr, htaken.inFast_eq, State.loadTaken, State.sq_setSq_same, State.gr]
    refine ⟨_, exec_loadDataArrival_pantry hawake hwait hloads hpantry hin hfast, ?_, fun i hi hr => ?_, fun r hr => ?_,
      hall.regs_eq, hall.sameBytes, hall.sameUnits⟩
    · rw [State.loads_setGrs, State.loadTaken, State.sq_setSq_same]
    · rw [State.gr_setGrs_inside _ _ _ (by rwa [length_bytesWords]) hr]
      refine (getElem_bytesWords_map_range hi _ _).trans ?_
      simp only [Nat.add_assoc]
    · rw [State.gr_setGrs_outside _ _ _ (by rwa [length_bytesWords]), hgr]
  · have hlen := s.length_storeBytes q (s.mw q)
    have hsize : (s.issue q).pantrySize = s.pantrySize := by
      rw [State.pantrySize, State.pantryWays, (s.issue_seqIn_above q).fld_eq (by decide), State.pantrySize, State.pantryWays]
    have hin' : s.memAddr q (s.mw q) + (s.storeBytes q (s.mw q)).length ≤ (s.issue q).pantrySize := by rwa [hlen, hsize]
    obtain ⟨p, hp⟩ := State.pantryWrite_inside hin'
    obtain ⟨hunits, hregs⟩ := (s.issue q).withPantry_keeps p
    refine ⟨_, exec_st_pantry hawake hissue halign hspace, State.flowed_of_below fun b _ => ?_, ?_, ?_, ?_, ?_, ?_, fun k => ?_⟩
    · rw [hp, hregs]
    · rw [hp]
      exact (s.issue_sameUnits q).trans (hunits.trans (State.InSeq.flow _ q _).sameUnits)
    · rw [hp]
      rfl
    · rw [hp]
      rfl
    · rw [hp]
      rfl
    · intro b hb
      rw [(State.InSeq.flow _ q _).rdA_eq, hp, hregs]
      exact s.issue_sameRegs q b hb
    · have hpantry := State.mget_pantryWrite hin' k
      rw [hlen] at hpantry
      exact hpantry
  · obtain ⟨m, hput⟩ := State.putBytes_eq (s.storeBytes q (s.mw q)) (s.issue q) (s.memAddr q (s.mw q))
    have hmem := State.putBytes_mem_congr (s.storeBytes q (s.mw q)) (s.issue_seqIn_above q).writable_eq rfl
      (s.memAddr q (s.mw q))
    obtain ⟨hunits, hregs⟩ := (s.issue q).withMem_keeps m (s.memAddr q (s.mw q)) (sizeBytes (s.mw q).mSize)
    refine ⟨_, exec_st_uncached hawake hissue halign hspace hcached hcan, State.flowed_of_below fun b _ => ?_, ?_, ?_, ?_, ?_,
      ?_, hmem, fun k hk => ?_⟩
    · rw [hput, hregs]
    · rw [hput]
      exact (s.issue_sameUnits q).trans (hunits.trans (State.InSeq.flow _ q _).sameUnits)
    · rw [hput]
      rfl
    · rw [hput]
      rfl
    · rw [hput]
      rfl
    · intro b hb
      rw [(State.InSeq.flow _ q _).rdA_eq, hput, hregs]
      exact s.issue_sameRegs q b hb
    · refine (congrArg (mget (fun _ => (0 : Byte)) · k) hmem).trans (State.mget_putBytes_other _ s _ fun i hi cl hcl => ?_)
      exact hk i (s.length_storeBytes q (s.mw q) ▸ hi) cl hcl

end Sys2Proof.Machine
end

section
/-!
PROOFS. The image loader (R410, R411, R416).
-/

namespace Sys2Proof.Machine

/-! ## An image in a control store (R411) -/

/-- A store holds the words of a list by their numbers, zero words left out. -/
theorem mget_filter_words (n : Nat) (f : Nat → BitVec 128) {i : Nat} (hi : i < n) :
    mget (fun _ => (0 : BitVec 128)) (((List.range n).map fun i => (i, f i)).filter fun e => e.2 != 0) i = f i := by
  have hlist (l : List Nat) (hl : i ∈ l ∨ f i = 0) :
      mget (fun _ => (0 : BitVec 128)) ((l.map fun i => (i, f i)).filter fun e => e.2 != 0) i = f i := by
    induction l with
    | nil => exact (hl.resolve_left List.not_mem_nil).symm
    | cons k l ih =>
      have htail : f k = 0 ∨ k ≠ i → i ∈ l ∨ f i = 0 := fun hk => by
        rcases hl with hl | hl
        · rcases List.mem_cons.1 hl with rfl | hl
          · exact .inr (hk.resolve_right fun h => h rfl)
          · exact .inl hl
        · exact .inr hl
      rw [List.map_cons, List.filter_cons]
      split
      · rw [mget]
        split
        · next hk => rw [hk]
        · next hk => exact ih (htail (.inr hk))
      · next hk => exact ih (htail (.inl (by simpa using hk)))
  exact hlist _ (.inl (List.mem_range.2 hi))

/-- The register block of a sequencer. -/
def seqBlock (q a : Nat) : Prop := 0x00B00000 + q * 0x1000 ≤ a ∧ a < 0x00B00000 + q * 0x1000 + 0x1000

/-- The sequencer's own state as an image leaves it. -/
def State.imageSq (s : State) (bs : List Byte) (q : Nat) : SeqS :=
  { s.sq q with
    store := ((List.range (imgWords bs)).map fun i => (i, imgWord bs i)).filter fun e => e.2 != 0
    entry := imgNat bs 12 2, loaded := true, sinceLo := 0, sinceHi := 0, loads := [], cmo := false }

/-- What an image writes into the version, the classes, the enables and the pending bits. -/
def imageEventWrites (bs : List Byte) : List (Reg × Nat × Word) :=
  [(Reg.SEQ_IMGVER, 0, word (imgNat bs 16 4)), (Reg.SEQ_EVC_CLASS, 0, word (imgNat bs 20 4)),
    (Reg.SEQ_EVC_CLASS, 1, word (imgNat bs 24 4)), (Reg.SEQ_EVC_EN, 0, word (imgNat bs 28 4)),
    (Reg.SEQ_EVC_EN, 1, word (imgNat bs 32 4)), (Reg.SEQ_EVC_PEND, 0, 0), (Reg.SEQ_EVC_PEND, 1, 0)]

def State.imageEvents (s : State) (bs : List Byte) (q : Nat) : State :=
  (imageEventWrites bs).foldl (fun s e => s.wr e.1 q e.2.1 e.2.2) s

/-- The vectors as an image leaves them. -/
def State.imageVectors (s : State) (bs : List Byte) (q : Nat) : State :=
  (List.range 64).foldl (fun s i => s.setFldJ Reg.SEQ_EVC_VEC_ADDR q i (imgNat bs (36 + 2 * i) 2)) s

theorem State.putImage_eq (s : State) (bs : List Byte) (q : Nat) :
    s.putImage bs q = (((s.setSq q (s.imageSq bs q)).imageEvents bs q).imageVectors bs q).setFld Reg.SEQ_STAT_STATE q seqHalted := rfl

/-- A state whose sequencers are as before and some of whose registers differ. -/
theorem State.SeqIn.foldl_mem {α : Type} {P : Nat → Prop} {f : State → α → State} (l : List α)
    (h : ∀ k ∈ l, ∀ u, State.SeqIn P u (f u k) ∧ (f u k).seq = u.seq) (s : State) :
    State.SeqIn P s (l.foldl f s) ∧ (l.foldl f s).seq = s.seq := by
  induction l generalizing s with
  | nil => exact ⟨.refl P s, rfl⟩
  | cons k l ih =>
    obtain ⟨hk, hseq⟩ := h k List.mem_cons_self s
    obtain ⟨hl, hseq'⟩ := ih (fun j hj => h j (List.mem_cons_of_mem _ hj)) (f s k)
    exact ⟨hk.trans hl, hseq'.trans hseq⟩

theorem imageEventWrites_regs {bs : List Byte} {e : Reg × Nat × Word} (h : e ∈ imageEventWrites bs) (q : Nat) :
    seqBlock q (e.1.addr q e.2.1) := by
  simp only [imageEventWrites, List.mem_cons, List.not_mem_nil, or_false] at h
  rcases h with rfl | rfl | rfl | rfl | rfl | rfl | rfl <;>
    simp only [seqBlock, Reg.addr, Reg.SEQ_IMGVER, Reg.SEQ_EVC_CLASS, Reg.SEQ_EVC_EN, Reg.SEQ_EVC_PEND] <;> omega

theorem State.imageEvents_spec (s : State) (bs : List Byte) (q : Nat) :
    State.SeqIn (seqBlock q) s (s.imageEvents bs q) ∧ (s.imageEvents bs q).seq = s.seq :=
  State.SeqIn.foldl_mem _ (fun _ he u => ⟨.wr u _ (imageEventWrites_regs he q), rfl⟩) s

theorem State.imageVectors_spec (s : State) (bs : List Byte) (q : Nat) :
    State.SeqIn (seqBlock q) s (s.imageVectors bs q) ∧ (s.imageVectors bs q).seq = s.seq := by
  unfold State.imageVectors
  refine State.SeqIn.foldl_mem _ (fun i hi u => ⟨.wr u _ ?_, rfl⟩) s
  have := List.mem_range.1 hi
  simp only [seqBlock, Reg.addr, Reg.SEQ_EVC_VEC_ADDR, Reg.SEQ_EVC_VEC]
  omega

/-- A sequencer holds an image (R411). -/
def State.HoldsImage (s : State) (bs : List Byte) (q : Nat) : Prop :=
  s.seqState q = seqHalted ∧ (s.sq q).entry = imgNat bs 12 2 ∧ ∀ i < imgWords bs, s.storeWord q i = imgWord bs i

/-- What the store of one target leaves. -/
theorem State.putImage_spec (s : State) (bs : List Byte) (q : Nat) :
    (s.putImage bs q).HoldsImage bs q ∧ (∀ p, p ≠ q → (s.putImage bs q).sq p = s.sq p) ∧
    State.SeqIn (seqBlock q) s (s.putImage bs q) := by
  obtain ⟨hevents, hseq⟩ := (s.setSq q (s.imageSq bs q)).imageEvents_spec bs q
  obtain ⟨hvectors, hseq'⟩ := ((s.setSq q (s.imageSq bs q)).imageEvents bs q).imageVectors_spec bs q
  have hsq (p : Nat) : (s.putImage bs q).sq p = (s.setSq q (s.imageSq bs q)).sq p := by
    rw [State.putImage_eq, State.sq_setFld, State.sq, hseq', hseq, State.sq]
  have hown : (s.putImage bs q).sq q = s.imageSq bs q := (hsq q).trans (s.sq_setSq_same q _)
  refine ⟨⟨?_, congrArg SeqS.entry hown, fun i hi => ?_⟩, fun p hp => (hsq p).trans (s.sq_setSq_ne _ _ _ hp), ?_⟩
  · rw [State.putImage_eq, State.seqState_setState _ _ (by decide)]
  · rw [State.storeWord, hown]
    exact mget_filter_words _ _ hi
  · rw [State.putImage_eq]
    refine (((State.SeqIn.setSq _ s q _).trans hevents).trans hvectors).trans (.setFld _ _ ?_)
    simp only [seqBlock, Reg.addr, Reg.SEQ_STAT_STATE, Reg.SEQ_STAT]
    omega

theorem seqStat_seqBlock {p q : Nat} (h : p ≠ q) : ¬ seqBlock q (Reg.SEQ_STAT_STATE.reg.addr p 0) := by
  simp only [seqBlock, Reg.addr, Reg.SEQ_STAT_STATE, Reg.SEQ_STAT]
  omega

/-- The block of every sequencer. -/
def seqBlocks (a : Nat) : Prop := 0x00B00000 ≤ a ∧ a < 0x00B28000

/-- An image stored into every target. -/
def State.putImages (s : State) (bs : List Byte) (l : List Nat) : State := l.foldl (fun s q => s.putImage bs q) s

/-- What the stores of all targets leave. -/
theorem State.putImages_spec (bs : List Byte) (l : List Nat) (hl : ∀ q ∈ l, q < 40) (s : State) :
    (∀ q ∈ l, (s.putImages bs l).HoldsImage bs q) ∧
    (∀ q, q ∉ l → (s.putImages bs l).sq q = s.sq q ∧ (s.putImages bs l).seqState q = s.seqState q) ∧
    State.SeqIn seqBlocks s (s.putImages bs l) := by
  induction l generalizing s with
  | nil => exact ⟨fun q hq => absurd hq List.not_mem_nil, fun q _ => ⟨rfl, rfl⟩, .refl _ s⟩
  | cons x l ih =>
    obtain ⟨hx, hothers, hregs⟩ := s.putImage_spec bs x
    obtain ⟨hheld, hsame, hrest⟩ := ih (fun q hq => hl q (List.mem_cons_of_mem _ hq)) (s.putImage bs x)
    have hcons : s.putImages bs (x :: l) = (s.putImage bs x).putImages bs l := List.foldl_cons ..
    rw [hcons]
    refine ⟨fun q hq => ?_, fun q hq => ?_, (hregs.mono fun a ha => ?_).trans hrest⟩
    · by_cases hmem : q ∈ l
      · exact hheld q hmem
      · obtain rfl := (List.mem_cons.1 hq).resolve_right hmem
        obtain ⟨hsq, hst⟩ := hsame q hmem
        obtain ⟨hhalted, hentry, hwords⟩ := hx
        refine ⟨hst.trans hhalted, (congrArg SeqS.entry hsq).trans hentry, fun i hi => ?_⟩
        rw [State.storeWord, hsq, ← State.storeWord, hwords i hi]
    · obtain ⟨hne, hmem⟩ := not_or.1 fun h => hq (List.mem_cons.2 h)
      obtain ⟨hsq, hst⟩ := hsame q hmem
      exact ⟨hsq.trans (hothers q hne), hst.trans (hregs.fld_eq (seqStat_seqBlock hne))⟩
    · have hx40 := hl x List.mem_cons_self
      simp only [seqBlock] at ha
      simp only [seqBlocks]
      omega

/-- The last load of every target did not end done. -/
def State.unloads (s : State) (l : List Nat) : State := l.foldl (fun s q => s.setSq q { s.sq q with loaded := false }) s

/-- A load that fails leaves every control store. -/
theorem State.unloads_spec (l : List Nat) (s : State) :
    (∀ q, ((s.unloads l).sq q).store = (s.sq q).store) ∧ State.SeqIn (fun _ => False) s (s.unloads l) := by
  induction l generalizing s with
  | nil => exact ⟨fun _ => rfl, .refl _ s⟩
  | cons x l ih =>
    obtain ⟨hstore, hregs⟩ := ih (s.setSq x { s.sq x with loaded := false })
    refine ⟨fun q => (hstore q).trans ?_, (State.SeqIn.setSq _ s x _).trans hregs⟩
    rcases eq_or_ne q x with rfl | hq
    · rw [State.sq_setSq_same]
    · rw [State.sq_setSq_ne _ _ _ _ hq]

theorem State.loadImage_check (s : State) (bs : List Byte) (l : List Nat) : s.loadImage bs l false = (s, s.imageResult bs l) := rfl

theorem State.loadImage_done {s : State} {bs : List Byte} {l : List Nat} (h : (s.imageResult bs l).1 = 1) :
    s.loadImage bs l true = (s.putImages bs l, s.imageResult bs l) := by
  simp only [State.loadImage, Bool.not_true, Bool.false_eq_true, if_false, h, if_true]
  rfl

theorem State.loadImage_failed {s : State} {bs : List Byte} {l : List Nat} (h : (s.imageResult bs l).1 ≠ 1) :
    s.loadImage bs l true = (s.unloads l, s.imageResult bs l) := by
  simp only [State.loadImage, Bool.not_true, Bool.false_eq_true, if_false, h]
  rfl

/-! ## The write of SEQ_LD_CTRL (R411, R416) -/

/-- The store of a register writes that register alone. -/
theorem State.store_seqIn (s : State) (r : Reg) (i j : Nat) (v : Word) :
    State.SeqIn (· = r.addr i j) s (s.store r i j v) ∧ (s.store r i j v).seq = s.seq := by
  unfold State.store State.plainWrite
  split
  · split
    · exact ⟨⟨⟨s.seq, _, rfl⟩, fun a ha => (s.rdA_wrA _ _ _).trans (if_neg ha)⟩, rfl⟩
    · exact ⟨.refl _ s, rfl⟩
  · exact ⟨.refl _ s, rfl⟩

theorem State.imageResult_lt (s : State) (bs : List Byte) (targets : List Nat) : (s.imageResult bs targets).1 < 16 := by
  unfold State.imageResult
  dsimp only
  repeat' split
  all_goals simp

/-- The image that a write of SEQ_LD_CTRL names. -/
def State.ldrImage (u : State) : List Byte := u.imageAt (u.pair Reg.LDR_ADDR_LO Reg.LDR_ADDR_HI 0 0)

/-- The targets that it names. -/
def State.ldrTargets (u : State) : List Nat := (setBitsList (u.pair Reg.LDR_MASK_LO Reg.LDR_MASK_HI 0 0) 40).filter u.hasSeq

/-- The result and, for a BADWORD, its index. -/
def State.ldrReport (s : State) (r : Nat × Nat) : State :=
  (if r.1 = 6 then s.setFld Reg.LDR_ERR_INDEX 0 r.2 else s).setFld Reg.LDR_CTRL_RESULT 0 r.1

theorem State.ldrTargets_lt {u : State} {q : Nat} (h : q ∈ u.ldrTargets) : q < 40 :=
  (mem_setBitsList.1 (List.mem_filter.1 h).1).1

/-- The registers of the loader. -/
def ldrRegs : List Nat := [Reg.LDR_CTRL.addr 0 0, Reg.LDR_ERR.addr 0 0]

theorem State.ldrReport_spec (s : State) {r : Nat × Nat} (h : r.1 < 16) :
    (s.ldrReport r).fld Reg.LDR_CTRL_RESULT 0 = r.1 ∧ (s.ldrReport r).seq = s.seq ∧
    State.SeqIn (· ∈ ldrRegs) s (s.ldrReport r) := by
  refine ⟨?_, ?_, ?_⟩
  · rw [State.ldrReport, State.fld_setFld_same _ _ _ _ (by decide) (by decide)]
    exact Nat.mod_eq_of_lt h
  · rw [State.ldrReport]
    split <;> rfl
  · have herr : State.SeqIn (· ∈ ldrRegs) s (if r.1 = 6 then s.setFld Reg.LDR_ERR_INDEX 0 r.2 else s) := by
      split
      · exact .setFld s _ (by simp [ldrRegs, Reg.LDR_ERR_INDEX])
      · exact .refl _ s
    exact herr.trans (.setFld _ _ (by simp [ldrRegs, Reg.LDR_CTRL_RESULT]))

/-- The write of SEQ_LD_CTRL with GO, for the image `bs` and the targets `l`. -/
theorem State.loaderWrite_eq {s : State} {v : Word} (hgo : Reg.LDR_CTRL_GO.get v = 1) {u w : State} {bs : List Byte}
    {l : List Nat} {r : Nat × Nat} (hu : s.store Reg.LDR_CTRL 0 0 v = u) (hbs : u.ldrImage = bs) (hl : u.ldrTargets = l)
    (hload : u.loadImage bs l (u.flag Reg.LDR_CTRL_MODE 0) = (w, r)) : s.loaderWrite v = w.ldrReport r := by
  subst hu hbs hl
  rw [State.ldrImage, State.ldrTargets] at hload
  simp only [State.loaderWrite, hgo, Nat.one_ne_zero, if_false, hload]
  rfl

theorem exec_imageCheck_eq {s : State} {v : Word} (hawake : s.glb.dormant = false) (hgo : Reg.LDR_CTRL_GO.get v = 1)
    (hmode : Reg.LDR_CTRL_MODE.get v = 0) : exec (.imageCheck v) s = .next (s.loaderWrite v) := by
  show execImageCheck v s = _
  rw [execImageCheck, State.powered_awake _ _ hawake, if_pos ⟨hgo, hmode⟩]

theorem exec_imageLoad_eq {s : State} {v : Word} (hawake : s.glb.dormant = false) (hgo : Reg.LDR_CTRL_GO.get v = 1)
    (hmode : Reg.LDR_CTRL_MODE.get v = 1) : exec (.imageLoad v) s = .next (s.loaderWrite v) := by
  show execImageLoad v s = _
  rw [execImageLoad, State.powered_awake _ _ hawake, if_pos ⟨hgo, hmode⟩]

/-- Settles O48: the report of the loader after nothing, after every target's store, or after none. -/
theorem imageLoader : Obligations.ImageLoader := by
  intro s v hawake hgo
  obtain ⟨hstore, hseq⟩ := s.store_seqIn Reg.LDR_CTRL 0 0 v
  generalize hu : s.store Reg.LDR_CTRL 0 0 v = u at hstore hseq
  generalize hbs : u.ldrImage = bs
  generalize hl : u.ldrTargets = l
  have hlt : (u.imageResult bs l).1 < 16 := u.imageResult_lt bs l
  have hsq (w : State) (hw : w.seq = u.seq) (q : Nat) : w.sq q = u.sq q := by rw [State.sq, hw, State.sq]
  have hbs' : u.imageAt (u.pair Reg.LDR_ADDR_LO Reg.LDR_ADDR_HI 0 0) = bs := hbs
  have hl' : (setBitsList (u.pair Reg.LDR_MASK_LO Reg.LDR_MASK_HI 0 0) 40).filter u.hasSeq = l := hl
  simp only [hbs', hl']
  refine ⟨fun hmode hflag => ?_, fun hmode hflag hresult => ?_, fun hmode hflag hresult => ?_⟩
  · obtain ⟨hshown, hown, hreport⟩ := u.ldrReport_spec hlt
    refine ⟨u.ldrReport (u.imageResult bs l), ?_, hshown, hown.trans hseq, hstore.sameBytes.trans hreport.sameBytes,
      hstore.sameUnits.trans hreport.sameUnits⟩
    rw [exec_imageCheck_eq hawake hgo hmode, State.loaderWrite_eq hgo hu hbs hl (hflag ▸ u.loadImage_check bs l)]
  · obtain ⟨hheld, hsame, hput⟩ := State.putImages_spec bs l (fun q hq => State.ldrTargets_lt (hl ▸ hq)) u
    obtain ⟨hshown, hown, hreport⟩ := (u.putImages bs l).ldrReport_spec hlt
    have hkept (q : Nat) : ((u.putImages bs l).ldrReport (u.imageResult bs l)).sq q = (u.putImages bs l).sq q := by
      rw [State.sq, hown, State.sq]
    refine ⟨(u.putImages bs l).ldrReport (u.imageResult bs l), ?_, hshown.trans hresult, fun q hq => ?_, fun q hq => ?_,
      hstore.sameBytes.trans (hput.sameBytes.trans hreport.sameBytes),
      hstore.sameUnits.trans (hput.sameUnits.trans hreport.sameUnits)⟩
    · rw [exec_imageLoad_eq hawake hgo hmode, State.loaderWrite_eq hgo hu hbs hl (hflag ▸ State.loadImage_done hresult)]
    · have hst : ((u.putImages bs l).ldrReport (u.imageResult bs l)).seqState q = (u.putImages bs l).seqState q := by
        refine hreport.fld_eq ?_
        have hq40 := State.ldrTargets_lt (hl ▸ hq)
        simp only [ldrRegs, Reg.addr, Reg.SEQ_STAT_STATE, Reg.SEQ_STAT, Reg.LDR_CTRL, Reg.LDR_ERR, List.mem_cons,
          List.not_mem_nil, or_false]
        omega
      obtain ⟨hhalted, hentry, hwords⟩ := hheld q hq
      refine ⟨hst.trans hhalted, (congrArg SeqS.entry (hkept q)).trans hentry, fun i hi => ?_⟩
      rw [State.storeWord, hkept, ← State.storeWord, hwords i hi]
    · rw [hkept, (hsame q hq).1, State.sq, hseq, State.sq]
  · obtain ⟨hstores, hloaded⟩ := State.unloads_spec l u
    obtain ⟨hshown, hown, hreport⟩ := (u.unloads l).ldrReport_spec hlt
    refine ⟨(u.unloads l).ldrReport (u.imageResult bs l), ?_, hshown, fun q => ?_,
      hstore.sameBytes.trans (hloaded.sameBytes.trans hreport.sameBytes),
      hstore.sameUnits.trans (hloaded.sameUnits.trans hreport.sameUnits)⟩
    · rw [exec_imageLoad_eq hawake hgo hmode, State.loaderWrite_eq hgo hu hbs hl (hflag ▸ State.loadImage_failed hresult)]
    · rw [State.sq, hown, ← State.sq, hstores, State.sq, hseq, State.sq]

end Sys2Proof.Machine
end

section
/-!
PROOFS. The channels of the data mover (R327 to R337).
-/

namespace Sys2Proof.Machine

/-! ## Producer indices (R327, R328) -/

theorem State.dmvPi_foreign {s : State} {ag : Agent} {ch : Nat} (h : 64 ≤ ch ∨ s.dmvOwner ch ag = false) (v : Word) :
    s.dmvPi ag ch v = s := by
  have hnot : ¬ (ch < 64 ∧ s.dmvOwner ch ag = true) := by
    rintro ⟨hch, howner⟩
    rcases h with h | h
    · omega
    · simp [howner] at h
  rw [State.dmvPi, if_pos hnot]

section
variable {s : State} {ag : Agent} {ch : Nat} {v : Word} (hch : ch < 64) (howner : s.dmvOwner ch ag = true)
include hch howner

theorem State.dmvPi_overfull
    (hfull : 2 ^ s.fldJ Reg.DMV_CH_CFG_RSIZE 0 ch < (v.toNat % 65536 + 65536 - s.fldJ Reg.DMV_CH_CI_CI 0 ch) % 65536) :
    s.dmvPi ag ch v = s.corrected srcDMV 0 := by
  rw [State.dmvPi, if_neg (by simp [hch, howner]), if_pos hfull]

theorem State.dmvPi_taken
    (hroom : (v.toNat % 65536 + 65536 - s.fldJ Reg.DMV_CH_CI_CI 0 ch) % 65536 ≤ 2 ^ s.fldJ Reg.DMV_CH_CFG_RSIZE 0 ch) :
    s.dmvPi ag ch v = s.setFldJ Reg.DMV_CH_PI_PI 0 ch (v.toNat % 65536) := by
  rw [State.dmvPi, if_neg (by simp [hch, howner]), if_neg (by omega)]

end

section
variable {s : State} (hawake : s.glb.dormant = false)
include hawake

/-- A write of a producer index by an agent that has no transfers of its own. -/
theorem exec_piWrite_plain {ag : Agent} (hhif : ∀ p, ag ≠ .hif p) (hstm : ag ≠ .stm) (ch : Nat) (v : Word) :
    exec (.piWrite ag ch v) s = .next (s.dmvPi ag ch v) := by
  show execPiWrite ag ch v s = _
  rw [execPiWrite, State.powered_awake _ _ hawake]
  cases ag with
  | hif p => exact absurd rfl (hhif p)
  | stm => exact absurd rfl hstm
  | _ => rfl

theorem exec_piWrite_hif_short {p ch : Nat} {v : Word} (hshort : (mget (fun _ => ([] : List Xfer)) s.hif.ready p).length <
      (v.toNat % 65536 + 65536 - s.fldJ Reg.DMV_CH_PI_PI 0 ch) % 65536) : exec (.piWrite (.hif p) ch v) s = .next s := by
  have hnot : ¬ (ch < 64 ∧ s.dmvOwner ch (.hif p) = true ∧ (v.toNat % 65536 + 65536 - s.fldJ Reg.DMV_CH_PI_PI 0 ch) % 65536 ≤
      (mget (fun _ => ([] : List Xfer)) s.hif.ready p).length) := by
    rintro ⟨-, -, hle⟩
    omega
  show execPiWrite (.hif p) ch v s = _
  rw [execPiWrite, State.powered_awake _ _ hawake]
  dsimp only
  rw [if_neg hnot]

theorem exec_piWrite_hif_placed {p ch : Nat} {v : Word} (hch : ch < 64) (howner : s.dmvOwner ch (.hif p) = true) (hready : (v.toNat % 65536 + 65536 - s.fldJ Reg.DMV_CH_PI_PI 0 ch) % 65536 ≤
      (mget (fun _ => ([] : List Xfer)) s.hif.ready p).length)
    (hmoves : (s.dmvPi (.hif p) ch v).fldJ Reg.DMV_CH_PI_PI 0 ch ≠ s.fldJ Reg.DMV_CH_PI_PI 0 ch) {xs : List Xfer} {n : Nat}
    (hxs : mget (fun _ => ([] : List Xfer)) s.hif.ready p = xs)
    (hn : (v.toNat % 65536 + 65536 - s.fldJ Reg.DMV_CH_PI_PI 0 ch) % 65536 = n) {t : State}
    (ht : t = (s.dmvPlace ch n xs).dmvPi (.hif p) ch v) : exec (.piWrite (.hif p) ch v) s =
      .next { t with hif := { t.hif with ready := mset (fun _ => []) t.hif.ready p (xs.drop n) } } := by
  subst hxs hn ht
  show execPiWrite (.hif p) ch v s = _
  rw [execPiWrite, State.powered_awake _ _ hawake]
  dsimp only
  rw [if_pos ⟨hch, howner, hready⟩, if_neg hmoves]

end

/-! ## The start of a descriptor (R330, R331, R333) -/

/-- The channel has a descriptor to start. -/
def State.DmvReady (s : State) (ch : Nat) : Prop :=
  ch < 64 ∧ s.flag Reg.DMV_CTRL_EN 0 = true ∧ s.fldJ Reg.DMV_CH_CFG_EN 0 ch = 1 ∧ s.fldJ Reg.DMV_CH_STAT_STOPPED 0 ch = 0 ∧
  (s.dch ch).ending = false ∧ (s.dch ch).next ≠ s.fldJ Reg.DMV_CH_PI_PI 0 ch

/-- The channel with a descriptor that has started. -/
def State.dmvStarted (s u : State) (ch : Nat) (ws : List Word) : State :=
  u.setDch ch { s.dch ch with runs := (s.dch ch).runs ++ [{ index := (s.dch ch).next, words := ws }],
                              next := ((s.dch ch).next + 1) % 65536 }

/-- The command whose data the descriptor moves is marked. -/
def State.dmvMarks (s : State) (ch : Nat) (ws : List Word) : State :=
  let own := s.fldJ Reg.DMV_CH_CFG_OWNER 0 ch
  if own = 1 ∨ own = 2 ∨ own = 3 then
    match ((s.slotSectors (dTag ws)).filterMap fun y => y.cmd).head? with
    | some (p, k) =>
      match s.cmd p k with
      | some c => s.setCmd p k (some { c with moving := true })
      | none => s
    | none => s
  else s

section
variable {s : State} {ch : Nat} (h : s.DmvReady ch)
include h

theorem State.dmvStart_unread {u : State} (hread : s.dmvWords ch (s.dch ch).next = (u, none)) :
    s.dmvStart ch = (u.dmvDrain ch (s.dch ch).runs.length).dmvStop ch (s.dch ch).next dmvBuffer 0 := by
  obtain ⟨hch, hen, hon, hrun, hending, hnext⟩ := h
  simp [State.dmvStart, hch, hen, hon, hrun, hending, hnext, hread]

theorem State.dmvStart_read {u : State} {ws : List Word} (hread : s.dmvWords ch (s.dch ch).next = (u, some ws)) :
    s.dmvStart ch =
      if (dBar ws = true ∨ u.dmvCheck ch ws ≠ dmvOk) ∧ (s.dch ch).runs ≠ [] then u
      else if u.dmvCheck ch ws ≠ dmvOk then u.dmvStop ch (s.dch ch).next (u.dmvCheck ch ws) 0
      else (((s.dmvStarted u ch ws).dmvMarks ch ws).dmvTake ch 16).dmvStat := by
  obtain ⟨hch, hen, hon, hrun, hending, hnext⟩ := h
  rw [State.dmvStart, if_neg (by simp [hch, hen, hon, hrun, hending, hnext]), hread]
  rfl

end

theorem State.dmvMarks_plain {s : State} {ch : Nat} (h : s.fldJ Reg.DMV_CH_CFG_OWNER 0 ch = 0 ∨ s.fldJ Reg.DMV_CH_CFG_OWNER 0 ch = 4)
    (ws : List Word) : s.dmvMarks ch ws = s := by
  rw [State.dmvMarks, if_neg (by omega)]

theorem State.dmvMarks_ofCommand {s : State} {ch : Nat} (h : s.fldJ Reg.DMV_CH_CFG_OWNER 0 ch = 1 ∨
      s.fldJ Reg.DMV_CH_CFG_OWNER 0 ch = 2 ∨ s.fldJ Reg.DMV_CH_CFG_OWNER 0 ch = 3) {ws : List Word} {p k : Nat} {c : Cmd}
    {ys : List (Nat × Nat)} (hslot : (s.slotSectors (dTag ws)).filterMap (fun y => y.cmd) = (p, k) :: ys)
    (hcmd : s.cmd p k = some c) : s.dmvMarks ch ws = s.setCmd p k (some { c with moving := true }) := by
  rw [State.dmvMarks, if_pos h, hslot, List.head?_cons]
  dsimp only
  rw [hcmd]

theorem exec_descriptorStart_eq {s : State} (hawake : s.glb.dormant = false) (ch : Nat) :
    exec (.descriptorStart ch) s = .next (s.dmvStart ch) := by
  show execDescriptorStart ch s = _
  rw [execDescriptorStart, State.powered_awake _ _ hawake]

/-! ## The end of a chunk and of a descriptor (R331, R332, R335) -/

section
variable {s : State} {ch : Nat} {done rest : List DmvRun} {r : DmvRun}
  (hruns : (s.dch ch).runs = done ++ r :: rest) (hdone : ∀ d ∈ done, d.flight = [])
include hruns hdone

/-- The oldest chunk in flight is the first of the first descriptor that has one. -/
theorem State.dmvChunk_eq {c : Chunk} {more : List Chunk} (hflight : r.flight = c :: more) (data : List Byte) (hostError : Bool) :
    s.dmvChunk ch data hostError =
      let x := s.dmvMove ch r.words c data hostError
      if x.2 ≠ dmvOk then x.1.dmvFail ch x.2
      else (((x.1.setDch ch { s.dch ch with runs := done ++ { r with flight := more, moved := r.moved + c.len } :: rest }).dmvTake
        ch 16).dmvEnding ch).dmvStat := by
  have htake : (s.dch ch).runs.takeWhile (fun r => r.flight == []) = done := by
    rw [hruns, List.takeWhile_append_of_pos (by simpa using hdone), List.takeWhile_cons_of_neg (by simp [hflight]), List.append_nil]
  have hdrop : (s.dch ch).runs.drop done.length = r :: rest := by rw [hruns, List.drop_left]
  rw [State.dmvChunk]
  dsimp only
  rw [htake, hdrop]
  dsimp only
  rw [hflight]

theorem find?_inFlight (hflight : r.flight ≠ []) : (s.dch ch).runs.find? (fun r => r.flight != []) = some r := by
  rw [hruns, List.find?_append, List.find?_eq_none.2 (by simpa using hdone), Option.none_or, List.find?_cons_of_pos (by simpa using hflight)]

end

theorem State.dmvMove_timeout {s : State} {ch : Nat} {ws : List Word} (hop : dOp ws = 2) (c : Chunk) (data : List Byte) :
    s.dmvMove ch ws c data true = (s, dmvHost) := by
  rw [State.dmvMove]
  dsimp only
  rw [hop]
  rfl

section
variable {s : State} (hawake : s.glb.dormant = false) (ch : Nat)
include hawake

theorem exec_chunkEnd_eq (i : ChunkIn) : exec (.chunkEnd ch i) s = .next (s.dmvChunk ch i.data i.hostError) := by
  show execChunkEnd ch i s = _
  rw [execChunkEnd, State.powered_awake _ _ hawake]

theorem exec_descriptorComplete_moved {r : DmvRun} {rest : List DmvRun} (hruns : (s.dch ch).runs = r :: rest)
    (hending : (s.dch ch).ending = false) (hmoved : r.moved = dLen r.words) :
    exec (.descriptorComplete ch) s = .next (((((s.dmvPulses r.words false).dmvBack ch r.index dmvOk r.words).setFldJ
      Reg.DMV_CH_CI_CI 0 ch ((r.index + 1) % 65536)).setDch ch { s.dch ch with runs := rest }).dmvTake ch 16) := by
  show execDescriptorComplete ch s = _
  rw [execDescriptorComplete, State.powered_awake _ _ hawake, if_neg (by simp [hending]), State.dmvComplete]
  dsimp only
  rw [hruns]
  dsimp only
  rw [if_pos hmoved]

theorem exec_completionTimeout_read {r : DmvRun} (hfind : (s.dch ch).runs.find? (fun r => r.flight != []) = some r)
    (hop : dOp r.words = 2) : exec (.completionTimeout ch) s = .next (s.dmvChunk ch [] true) := by
  show execCompletionTimeout ch s = _
  rw [execCompletionTimeout, State.powered_awake _ _ hawake, hfind]
  exact congrArg Host.Outcome.next (if_pos hop)

theorem exec_completionTimeout_other {r : DmvRun} (hfind : (s.dch ch).runs.find? (fun r => r.flight != []) = some r)
    (hop : dOp r.words ≠ 2) : exec (.completionTimeout ch) s = .next s := by
  show execCompletionTimeout ch s = _
  rw [execCompletionTimeout, State.powered_awake _ _ hawake, hfind]
  exact congrArg Host.Outcome.next (if_neg hop)

/-! ## RESUME, SKIP and a channel disabled (R335, R336) -/

theorem exec_channelResume_eq {v : Word} (hresume : Reg.DMV_CH_CTRL_RESUME.get v = 1) (hskip : Reg.DMV_CH_CTRL_SKIP.get v = 0) :
    exec (.channelResume ch v) s = .next (s.dmvRerun ch false) := by
  show execChannelResume ch v s = _
  rw [execChannelResume, State.powered_awake _ _ hawake, if_pos hresume, hskip]
  rfl

theorem exec_channelSkip_eq {v : Word} (hskip : Reg.DMV_CH_CTRL_SKIP.get v = 1) :
    exec (.channelSkip ch v) s = .next (s.dmvRerun ch true) := by
  show execChannelSkip ch v s = _
  rw [execChannelSkip, State.powered_awake _ _ hawake, if_pos hskip]

theorem exec_channelDisable_on {v : Word} (hch : ch < 64) (hwritable : s.regWritable Reg.DMV_CH_CFG 0 ch v = true)
    (hen : Reg.DMV_CH_CFG_EN.get v = 0) (hon : s.fldJ Reg.DMV_CH_CFG_EN 0 ch = 1) :
    exec (.channelDisable ch v) s = .next (((s.setFldJ Reg.DMV_CH_CFG_EN 0 ch 0).setDch ch
      { s.dch ch with ending := true }).dmvEnding ch) := by
  show execChannelDisable ch v s = _
  rw [execChannelDisable, State.powered_awake _ _ hawake, if_pos ⟨hch, hen⟩, State.dmvCfgWrite, if_pos hwritable]
  dsimp only
  rw [if_pos ⟨hon, hen⟩, if_neg (by simp [hon]), hen]
  rfl

end

/-- A register field holds a value of its width. -/
theorem State.fldJ_lt (s : State) (f : Fld) (i j : Nat) : s.fldJ f i j < 2 ^ (f.hi + 1 - f.lo) := Nat.mod_lt _ (Nat.two_pow_pos _)

theorem State.dch_setDch_same (s : State) (ch : Nat) (x : DmvCh) : (s.setDch ch x).dch ch = x := mget_mset_same ..

theorem State.rdA_setDch (s : State) (ch : Nat) (x : DmvCh) (a : Nat) : (s.setDch ch x).rdA a = s.rdA a := rfl

theorem State.setDch_sameBytes (s : State) (ch : Nat) (x : DmvCh) : s.SameBytes (s.setDch ch x) := ⟨rfl, rfl, rfl, rfl, rfl⟩

/-- A stopped channel that runs again. -/
theorem State.dmvRerun_spec {s : State} {ch : Nat} (hch : ch < 64) (hstop : s.fldJ Reg.DMV_CH_STAT_STOPPED 0 ch = 1) (skip : Bool)
    {ci : Nat} (hci : (s.fldJ Reg.DMV_CH_CI_CI 0 ch + bit01 skip) % 65536 = ci) :
    let t := s.dmvRerun ch skip
    t.fldJ Reg.DMV_CH_CI_CI 0 ch = ci ∧ t.fldJ Reg.DMV_CH_STAT_STOPPED 0 ch = 0 ∧
    t.dch ch = { runs := [], next := ci, ending := false } ∧
    s.SameRegs t [Reg.DMV_CH_CI.addr 0 ch, Reg.DMV_CH_STAT.addr 0 ch] ∧ s.SameBytes t := by
  have ht : s.dmvRerun ch skip = ((s.setFldJ Reg.DMV_CH_CI_CI 0 ch ci).setFldJ Reg.DMV_CH_STAT_STOPPED 0 ch 0).setDch ch
      { runs := [], next := ci, ending := false } := by
    rw [State.dmvRerun, if_pos ⟨hch, hstop⟩, hci]
  have hne : Reg.DMV_CH_CI_CI.reg.addr 0 ch ≠ Reg.DMV_CH_STAT_STOPPED.reg.addr 0 ch := by
    simp only [Reg.addr, Reg.DMV_CH_CI_CI, Reg.DMV_CH_CI, Reg.DMV_CH_STAT_STOPPED, Reg.DMV_CH_STAT]
    omega
  have hlt : ci < 65536 := hci ▸ Nat.mod_lt _ (by decide)
  have hfld (u : State) (x : DmvCh) (f : Fld) : (u.setDch ch x).fldJ f 0 ch = u.fldJ f 0 ch := rfl
  have hregs : State.RecordsIn (· ∈ [Reg.DMV_CH_CI.addr 0 ch, Reg.DMV_CH_STAT.addr 0 ch]) s
      ((s.setFldJ Reg.DMV_CH_CI_CI 0 ch ci).setFldJ Reg.DMV_CH_STAT_STOPPED 0 ch 0) :=
    (State.RecordsIn.setFldJ s ci (by simp [Reg.DMV_CH_CI_CI])).trans (.setFldJ _ 0 (by simp [Reg.DMV_CH_STAT_STOPPED]))
  dsimp only
  rw [ht]
  refine ⟨?_, ?_, State.dch_setDch_same _ ch _, fun a ha => ?_, hregs.sameBytes.trans (State.setDch_sameBytes _ ch _)⟩
  · rw [hfld, State.fldJ_setFldJ_ne _ _ _ _ _ _ _ _ hne, State.fldJ_setFldJ_same _ _ _ _ _ (by decide) (by decide)]
    exact Nat.mod_eq_of_lt hlt
  · rw [hfld, State.fldJ_setFldJ_same _ _ _ _ _ (by decide) (by decide)]
    rfl
  · rw [State.rdA_setDch, hregs.rdA_eq ha]

/-- Settles O27: one case of `dmvPi`, `dmvStart`, `dmvChunk` or `dmvRerun` for each clause. -/
theorem moverChannels : Obligations.MoverChannels := by
  refine ⟨fun s ag ch v hawake hhif hstm => ⟨fun hnot => ?_, fun hch howner => ⟨fun hfull => ?_, fun hroom => ?_⟩⟩,
    fun s p ch v hawake hch howner => ⟨fun hshort => exec_piWrite_hif_short hawake hshort, fun hready hmoves => ?_⟩,
    fun s u ch hawake hch hen hon hrun hending hnext => ?_, fun s u ch i done rest r c more st hawake hruns hdone hflight hmove => ?_,
    fun s ch r rest hawake hruns hending hmoved => exec_descriptorComplete_moved hawake ch hruns hending hmoved,
    fun s ch v hawake hch hstop => ⟨fun hresume hskip => ?_, fun hskip => ?_⟩,
    fun s ch v hawake hch hwritable hen hon => exec_channelDisable_on hawake ch hch hwritable hen hon,
    fun s ch done rest r hawake hruns hdone hflight => ⟨fun hop => ?_, fun hop => ?_⟩⟩
  · rw [exec_piWrite_plain hawake hhif hstm, State.dmvPi_foreign hnot]
  · rw [exec_piWrite_plain hawake hhif hstm, State.dmvPi_overfull hch howner hfull]
  · have hregs : State.RecordsIn (· ∈ [Reg.DMV_CH_PI.addr 0 ch]) s (s.setFldJ Reg.DMV_CH_PI_PI 0 ch (v.toNat % 65536)) :=
      .setFldJ s _ (by simp [Reg.DMV_CH_PI_PI])
    refine ⟨_, exec_piWrite_plain hawake hhif hstm ch v, ?_⟩
    rw [State.dmvPi_taken hch howner hroom]
    refine ⟨?_, hregs.2, hregs.sameBytes, rfl⟩
    rw [State.fldJ_setFldJ_same _ _ _ _ _ (by decide) (by decide)]
    exact Nat.mod_mod _ _
  · exact ⟨_, rfl, exec_piWrite_hif_placed hawake hch howner hready hmoves rfl rfl rfl⟩
  · have hready : s.DmvReady ch := ⟨hch, hen, hon, hrun, hending, hnext⟩
    simp only [exec_descriptorStart_eq hawake]
    refine ⟨fun hread => by rw [State.dmvStart_unread hready hread], fun ws hread => ?_⟩
    rw [State.dmvStart_read hready hread]
    refine ⟨fun hwait hruns => ?_, fun hcheck hruns => ?_, fun hcheck hbar howner => ?_,
      fun p k c ys hcheck hbar howner hslot hcmd => ?_⟩
    · rw [if_pos ⟨hwait, hruns⟩]
    · rw [if_neg (fun h => h.2 hruns), if_pos hcheck]
    · rw [if_neg (by rcases hbar with hbar | hbar <;> simp [hbar, hcheck]), if_neg (not_not.2 hcheck), State.dmvMarks_plain (s := s.dmvStarted u ch ws) howner]
      rfl
    · rw [if_neg (by rcases hbar with hbar | hbar <;> simp [hbar, hcheck]), if_neg (not_not.2 hcheck),
        State.dmvMarks_ofCommand (s := s.dmvStarted u ch ws) howner hslot hcmd]
      rfl
  · rw [exec_chunkEnd_eq hawake, State.dmvChunk_eq hruns hdone hflight, hmove]
    exact ⟨fun h => by rw [if_neg (not_not.2 h)], fun h => by rw [if_pos h]⟩
  · have hci : (s.fldJ Reg.DMV_CH_CI_CI 0 ch + bit01 false) % 65536 = s.fldJ Reg.DMV_CH_CI_CI 0 ch :=
      Nat.mod_eq_of_lt (s.fldJ_lt Reg.DMV_CH_CI_CI 0 ch)
    exact ⟨_, exec_channelResume_eq hawake ch hresume hskip, State.dmvRerun_spec hch hstop false hci⟩
  · obtain ⟨hci, hstopped, hdch, hregs, hbytes⟩ := State.dmvRerun_spec hch hstop true rfl
    exact ⟨_, exec_channelSkip_eq hawake ch hskip, hci, hstopped, congrArg DmvCh.next hdch, congrArg DmvCh.runs hdch, hregs, hbytes⟩
  · have hfind := find?_inFlight hruns hdone hflight
    obtain ⟨c, more, hcons⟩ := List.exists_cons_of_ne_nil hflight
    rw [exec_completionTimeout_read hawake ch hfind hop, State.dmvChunk_eq hruns hdone hcons, State.dmvMove_timeout hop]
    rfl
  · exact exec_completionTimeout_other hawake ch (find?_inFlight hruns hdone hflight) hop

end Sys2Proof.Machine
end

section
/-!
PROOFS. Buffer memory: accesses, remap, scrub, retrain, resilver, segments and the self-test (R309 to R326).
-/

namespace Sys2Proof.Machine

/-! ## Accesses (R310, R313, R320) -/

theorem State.edcRepeats_none (s : State) (c : Nat) : s.edcRepeats c 0 = s := rfl

section
variable {s : State} {cl : Nat × Nat} {o : BlockOutcome} (hedc : o.edc = 0)
include hedc

theorem State.blockFound_bad (hbad : s.poison.contains (locKey cl.1 (cl.2 / 64)) = true ∨ o.res = .lost) :
    s.blockFound cl o = (s, false) := by
  rw [State.blockFound, hedc, State.edcRepeats_none]
  by_cases hpoison : s.poison.contains (locKey cl.1 (cl.2 / 64)) = true
  · rw [if_pos (.inl hpoison)]
  · rw [if_neg (not_or.2 ⟨hpoison, by decide⟩), hbad.resolve_left hpoison]

variable (hclean : s.poison.contains (locKey cl.1 (cl.2 / 64)) = false)
include hclean

theorem State.blockFound_good (hres : o.res = .good) : s.blockFound cl o = (s, true) := by
  rw [State.blockFound, hedc, State.edcRepeats_none, if_neg (not_or.2 ⟨ne_true_of_eq_false hclean, by decide⟩), hres]

theorem State.blockFound_corrected {hard : Bool} (hres : o.res = .corrected hard) :
    s.blockFound cl o = (s.blockCorrected cl.1 (cl.2 / 64 / 15) hard, true) := by
  rw [State.blockFound, hedc, State.edcRepeats_none, if_neg (not_or.2 ⟨ne_true_of_eq_false hclean, by decide⟩), hres]

end

section
variable {s : State} {a : BufAcc} (hawake : s.glb.dormant = false) (hlen : 0 < a.len) (hblock : a.addr % 64 + a.len ≤ 64)
  (haddr : a.addr < 2 ^ 40)
include hawake hlen hblock haddr

theorem exec_bufferAccess_read (hdata : a.data = none) : exec (.bufferAccess a) s = .next (s.blockRead a) := by
  have hrange : decide (a.addr < 2 ^ 40) = true := decide_eq_true haddr
  show execBufferAccess a s = _
  rw [execBufferAccess, State.powered_awake _ _ hawake]
  simp only [hrange, hlen, hblock, hdata, decide_true, Bool.and_self, Bool.not_true, Bool.false_eq_true, if_false]

theorem exec_bufferAccess_write {bs : List Byte} (hdata : a.data = some bs) (hbytes : bs.length = a.len) :
    exec (.bufferAccess a) s = .next (s.blockWrite a bs) := by
  have hrange : decide (a.addr < 2 ^ 40) = true := decide_eq_true haddr
  show execBufferAccess a s = _
  rw [execBufferAccess, State.powered_awake _ _ hawake]
  simp only [hrange, hlen, hblock, hdata, hbytes, decide_true, beq_self_eq_true, Bool.and_self, Bool.not_true,
    Bool.false_eq_true, if_false]

end

theorem State.blockRead_of_none {s : State} {a : BufAcc} (h : (s.locs a.addr).filter (fun cl => s.chReads cl.1) = []) :
    s.blockRead a = s.noteUnmapped a.addr a.len := by
  rw [State.blockRead, h]

theorem State.blockRead_of_found {s u : State} {a : BufAcc} {cl : Nat × Nat} {rest : List (Nat × Nat)} {ok : Bool}
    (h : (s.locs a.addr).filter (fun cl => s.chReads cl.1) = cl :: rest) (hfound : s.blockFound cl a.first = (u, ok)) :
    s.blockRead a = if ok then u else u.blockLost cl rest.head? a.second := by
  rw [State.blockRead, h]
  dsimp only
  rw [hfound]
  cases ok <;> rfl

/-- A write whose blocks need no third repeat. -/
theorem State.blockWrite_clean {s u : State} {a : BufAcc} {bs : List Byte} (hfirst : a.first.edc = 0) (hsecond : a.second.edc = 0)
    (hwrite : s.bufWrite a.addr bs = (u, true)) : s.blockWrite a bs = u := by
  have hzero : ∀ e ∈ (s.writable a.addr).zip [a.first, a.second], e.2.edc = 0 := fun e he => by
    have hmem := (List.of_mem_zip (a := e.1) (b := e.2) he).2
    rcases List.mem_cons.1 hmem with h | h
    · rw [h, hfirst]
    · rw [List.mem_singleton.1 h, hsecond]
  have hfold (l : List ((Nat × Nat) × BlockOutcome)) (hl : ∀ e ∈ l, e.2.edc = 0) : l.foldl (fun s e =>
      let s := s.edcRepeats e.1.1 e.2.edc
      if 4 ≤ e.2.edc then (s.bump Reg.BUFC_CNT_UNC e.1.1 1).setPoison e.1 true else s) u = u := by
    induction l with
    | nil => rfl
    | cons e l ih =>
      rw [List.foldl_cons]
      dsimp only
      rw [hl e List.mem_cons_self, State.edcRepeats_none, if_neg (by decide)]
      exact ih fun e' he' => hl e' (List.mem_cons_of_mem _ he')
  rw [State.blockWrite]
  dsimp only
  rw [hwrite]
  exact hfold _ hzero

/-! ## Remap and scrub (R317, R322) -/

@[simp] theorem State.bc_setBc_same (s : State) (c : Nat) (x : BufChS) : (s.setBc c x).bc c = x := mget_mset_same ..
theorem State.rdA_setBc (s : State) (c : Nat) (x : BufChS) (a : Nat) : (s.setBc c x).rdA a = s.rdA a := rfl
theorem State.setBc_sameBytes (s : State) (c : Nat) (x : BufChS) : s.SameBytes (s.setBc c x) := ⟨rfl, rfl, rfl, rfl, rfl⟩
theorem State.bc_wr (s : State) (r : Reg) (i j : Nat) (w : Word) (c : Nat) : (s.wr r i j w).bc c = s.bc c := rfl
theorem State.bc_setFld (s : State) (f : Fld) (i v c : Nat) : (s.setFld f i v).bc c = s.bc c := rfl

theorem exec_remapCopyEnd_eq {s : State} {c g i : Nat} {rest : List (Nat × Nat)} (hawake : s.glb.dormant = false)
    (hcopying : (s.bc c).copying = (g, i) :: rest) : ∃ n, exec (.remapCopyEnd c) s =
      .next (((s.setBc c { s.bc c with copying := rest }).wr Reg.BUFC_REMAP c i (word (2 ^ 31 + g))).setFld
        Reg.BUFC_STAT_REMAPS c n) := by
  show ∃ n, execRemapCopyEnd c s = _
  rw [execRemapCopyEnd, State.powered_awake _ _ hawake, hcopying]
  exact ⟨_, rfl⟩

/-- A group's entry of the remap table, and the count of entries. -/
theorem State.remapped_spec (s : State) (c g n : Nat) {i : Nat} (hi : i < 16) (rest : List (Nat × Nat)) :
    let t := ((s.setBc c { s.bc c with copying := rest }).wr Reg.BUFC_REMAP c i (word (2 ^ 31 + g))).setFld Reg.BUFC_STAT_REMAPS c n
    t.rd Reg.BUFC_REMAP c i = word (2 ^ 31 + g) ∧ (t.bc c).copying = rest ∧
    s.SameRegs t [Reg.BUFC_REMAP.addr c i, Reg.BUFC_STAT.addr c 0] ∧ s.SameBytes t := by
  have hne : Reg.BUFC_REMAP.addr c i ≠ Reg.BUFC_STAT_REMAPS.reg.addr c 0 := by
    simp only [Reg.addr, Reg.BUFC_REMAP, Reg.BUFC_STAT_REMAPS, Reg.BUFC_STAT]
    omega
  have hregs : State.RecordsIn (· ∈ [Reg.BUFC_REMAP.addr c i, Reg.BUFC_STAT.addr c 0]) (s.setBc c { s.bc c with copying := rest })
      (((s.setBc c { s.bc c with copying := rest }).wr Reg.BUFC_REMAP c i (word (2 ^ 31 + g))).setFld Reg.BUFC_STAT_REMAPS c n) :=
    (State.RecordsIn.wr _ _ (by simp)).trans (.setFld _ _ (by simp [Reg.BUFC_STAT_REMAPS]))
  refine ⟨?_, ?_, fun a ha => (hregs.rdA_eq ha).trans (s.rdA_setBc c _ a), (s.setBc_sameBytes c _).trans hregs.sameBytes⟩
  · rw [State.setFld, State.setFldJ, State.rd_wr_ne _ _ _ _ _ _ _ _ hne, State.rd_wr_same]
  · rw [State.bc_setFld, State.bc_wr, State.bc_setBc_same]

/-- The scrub has gone on to the next group. -/
def State.scrubbed (s : State) (c : Nat) : State :=
  (s.setBc c { s.bc c with scrub := ((s.bc c).scrub + 1) % s.nGroups }).bump Reg.BUFC_CNT_SCRUB c 1

theorem State.scrubbed_spec (s : State) (c : Nat) :
    ((s.scrubbed c).bc c).scrub = ((s.bc c).scrub + 1) % s.nGroups ∧
    (s.scrubbed c).rd Reg.BUFC_CNT_SCRUB c 0 = word ((s.rd Reg.BUFC_CNT_SCRUB c 0).toNat + 1) ∧
    s.SameRegs (s.scrubbed c) [Reg.BUFC_CNT_SCRUB.addr c 0] ∧ s.SameBytes (s.scrubbed c) := by
  have hregs : State.RecordsIn (· ∈ [Reg.BUFC_CNT_SCRUB.addr c 0])
      (s.setBc c { s.bc c with scrub := ((s.bc c).scrub + 1) % s.nGroups }) (s.scrubbed c) := .wr _ _ (by simp)
  refine ⟨?_, State.rd_bump_same .., fun a ha => (hregs.rdA_eq ha).trans (s.rdA_setBc c _ a),
    (s.setBc_sameBytes c _).trans hregs.sameBytes⟩
  rw [State.scrubbed, State.bump, State.bc_wr, State.bc_setBc_same]

theorem exec_scrubInterval_good {s : State} {c : Nat} {o : BlockOutcome} (hawake : s.glb.dormant = false) (hc : c < s.nCh)
    (hen : s.flag Reg.BUF_CTRL_SCRUB_EN 0 = true) (hup : s.chState c = chUp) (hfence : s.fenced (srcBUFC c) = false)
    (hedc : o.edc = 0) (hres : o.res = .good) (hclean : s.poison.contains (locKey c ((s.bc c).scrub * 960 / 64)) = false) :
    exec (.scrubInterval c o) s = .next (s.scrubbed c) := by
  have hfound : (s.scrubbed c).blockFound (c, (s.bc c).scrub * 960) o = (s.scrubbed c, true) :=
    State.blockFound_good hedc hclean hres
  rw [State.scrubbed] at hfound
  show execScrubInterval c o s = _
  rw [execScrubInterval, State.powered_awake _ _ hawake, if_neg (by simp [hc, hen, hup, hfence])]
  dsimp only
  rw [hfound]
  rfl

/-! ## Retrain (R324) -/

theorem State.fenced_buf_other {s t : State} {c : Nat} (hc : c < 8) {P : Nat → Prop} (h : State.RecordsIn P s t)
    (hP : ∀ a, P a → a = Reg.BUFC_CTRL.addr c 0) : t.fenced (srcBUFC c) = s.fenced (srcBUFC c) := by
  have hbase : faultBase (srcBUFC c) = 0x00910000 + c * 0x1000 := by
    have hsrc : srcBUFC c = 80 + c := rfl
    rw [faultBase, if_neg (by omega), if_neg (by omega), if_neg (by omega), if_neg (by omega), if_pos (by omega)]
    omega
  refine congrArg (fun w => Reg.FLT_FENCE_FENCE.get w == 1) (h.rdA_eq fun ha => ?_)
  have hsame := hP _ ha
  simp only [Fld.flt, Reg.flt, Reg.addr, Reg.FLT_FENCE_FENCE, Reg.FLT_FENCE, Reg.BUFC_CTRL, hbase] at hsame
  omega

theorem State.nCh_le (s : State) : s.nCh ≤ 8 := by
  unfold State.nCh
  split <;> decide

theorem bufcCtrl_ne_stat (c : Nat) : Reg.BUFC_CTRL.addr c 0 ≠ Reg.BUFC_STAT.addr c 0 := by
  simp only [Reg.addr, Reg.BUFC_CTRL, Reg.BUFC_STAT]
  omega

/-- The registers of a channel's state. -/
def chRegs (c : Nat) : List Nat := [Reg.BUFC_CTRL.addr c 0, Reg.BUFC_STAT.addr c 0]

/-- A channel whose retrain has started. -/
def State.retraining (s : State) (c : Nat) : State :=
  ((s.setFld Reg.BUFC_STAT_STATE c chRetraining).setFld Reg.BUFC_CTRL_RETRAIN c 1).setFld Reg.BUFC_CTRL_RETRAIN_FAIL c 0

theorem State.retraining_spec (s : State) (c : Nat) : (s.retraining c).chState c = chRetraining ∧
    (s.retraining c).fld Reg.BUFC_CTRL_RETRAIN c = 1 ∧ (s.retraining c).fld Reg.BUFC_CTRL_RETRAIN_FAIL c = 0 ∧
    State.RecordsIn (· ∈ chRegs c) s (s.retraining c) := by
  obtain ⟨hretrain, hfail, -⟩ := State.setFld_setFld_spec (s.setFld Reg.BUFC_STAT_STATE c chRetraining)
    (f := Reg.BUFC_CTRL_RETRAIN) (g := Reg.BUFC_CTRL_RETRAIN_FAIL) (by decide) c (v := 1) (w := 0) (by decide) (by decide)
  refine ⟨?_, hretrain, hfail, ((State.RecordsIn.setFld s _ (by simp [chRegs, Reg.BUFC_STAT_STATE])).trans
    (.setFld _ _ (by simp [chRegs, Reg.BUFC_CTRL_RETRAIN]))).trans (.setFld _ _ (by simp [chRegs, Reg.BUFC_CTRL_RETRAIN_FAIL]))⟩
  rw [State.chState, State.retraining, State.fld_setFld_ne _ _ _ _ _ _ (bufcCtrl_ne_stat c).symm,
    State.fld_setFld_ne _ _ _ _ _ _ (bufcCtrl_ne_stat c).symm, State.fld_setFld_same _ _ _ _ (by decide) (by decide)]
  rfl

theorem exec_channelRetrain_up {s : State} {c : Nat} {v : Word} (hawake : s.glb.dormant = false) (hc : c < s.nCh)
    (hwritable : s.regWritable Reg.BUFC_CTRL c 0 v = true) (hretrain : Reg.BUFC_CTRL_RETRAIN.get v = 1) (hup : s.chState c = chUp)
    (hfence : s.fenced (srcBUFC c) = false) :
    exec (.channelRetrain c v) s = .next ((s.store Reg.BUFC_CTRL c 0 v).retraining c) := by
  have hstore := s.store_records Reg.BUFC_CTRL c 0 v
  have hup' : (s.store Reg.BUFC_CTRL c 0 v).chState c = chUp :=
    (congrArg Reg.BUFC_STAT_STATE.get (hstore.rdA_eq (bufcCtrl_ne_stat c).symm)).trans hup
  have hfence' : (s.store Reg.BUFC_CTRL c 0 v).fenced (srcBUFC c) = false :=
    (State.fenced_buf_other (by have := s.nCh_le; omega) hstore fun _ h => h).trans hfence
  show execChannelRetrain c v s = _
  rw [execChannelRetrain, State.powered_awake _ _ hawake, if_pos ⟨hwritable, hretrain⟩, State.startRetrain,
    if_pos ⟨hup', ne_true_of_eq_false hfence'⟩]
  rfl

theorem exec_retrainStepEnd_eq {s : State} {c : Nat} (hawake : s.glb.dormant = false) (hc : c < s.nCh)
    (hst : s.chState c = chRetraining) (ok : Bool) : exec (.retrainStepEnd c ok) s =
      .next (if ok then (s.setFld Reg.BUFC_CTRL_RETRAIN c 0).setFld Reg.BUFC_STAT_STATE c chUp
        else ((s.setFld Reg.BUFC_CTRL_RETRAIN c 0).setFld Reg.BUFC_CTRL_RETRAIN_FAIL c 1).bufFault c 6) := by
  show execRetrainStepEnd c ok s = _
  rw [execRetrainStepEnd, State.powered_awake _ _ hawake, if_pos ⟨hc, hst⟩]

/-- A retrain that has ended well. -/
theorem State.retrained_spec (s : State) (c : Nat) :
    let t := (s.setFld Reg.BUFC_CTRL_RETRAIN c 0).setFld Reg.BUFC_STAT_STATE c chUp
    t.chState c = chUp ∧ t.fld Reg.BUFC_CTRL_RETRAIN c = 0 ∧ State.RecordsIn (· ∈ chRegs c) s t := by
  refine ⟨?_, ?_, (State.RecordsIn.setFld s _ (by simp [chRegs, Reg.BUFC_CTRL_RETRAIN])).trans
    (.setFld _ _ (by simp [chRegs, Reg.BUFC_STAT_STATE]))⟩
  · rw [State.chState, State.fld_setFld_same _ _ _ _ (by decide) (by decide)]
    rfl
  · rw [State.fld_setFld_ne _ _ _ _ _ _ (bufcCtrl_ne_stat c), State.fld_setFld_same _ _ _ _ (by decide) (by decide)]
    rfl

/-! ## Resilver, segments and the self-test (R310, R323, R326) -/

theorem exec_resilverEnd_joins {s : State} {c : Nat} (hawake : s.glb.dormant = false) (hc : c < s.nCh)
    (hst : s.chState c = chResilvering) (hjoin : (s.bc c).joining = false)
    (hpartner : s.chReads ((c + s.nCh / 2) % s.nCh) = true) :
    exec (.resilverEnd c) s = .next ((s.resilver c).setBc c { s.bc c with joining := true }) := by
  show execResilverEnd c s = _
  rw [execResilverEnd, State.powered_awake _ _ hawake, if_pos ⟨hc, hst, ne_true_of_eq_false hjoin, hpartner⟩]
  rfl

/-- A segment's entry that overlaps the units from `first` on. -/
def State.segMeets (s : State) (k first units j : Nat) : Bool :=
  j != k && s.fldJ Reg.BUF_SEG_VALID 0 j == 1
    && decide (first < s.fldJ Reg.BUF_SEG_DOFS 0 j + s.segUnits (s.fldJ Reg.BUF_SEG_DUPLEX 0 j = 1))
    && decide (s.fldJ Reg.BUF_SEG_DOFS 0 j < first + units)

/-- The write asks for a segment that overlaps another or goes past the capacity. -/
def State.segBad (s : State) (k : Nat) (v : Word) : Prop :=
  Reg.BUF_SEG_VALID.get v = 1 ∧
    (s.fld Reg.BUF_CAP_UNITS 0 < Reg.BUF_SEG_DOFS.get v + s.segUnits (Reg.BUF_SEG_DUPLEX.get v = 1) ∨
      (List.range 128).any (s.segMeets k (Reg.BUF_SEG_DOFS.get v) (s.segUnits (Reg.BUF_SEG_DUPLEX.get v = 1))))

/-- The write would change a segment in use. -/
def State.segHeld (s : State) (k : Nat) (v : Word) : Prop :=
  s.fldJ Reg.BUF_SEG_VALID 0 k = 1 ∧ s.mode ≠ modeQuiescent ∧ s.rd Reg.BUF_SEG 0 k ≠ v

section
variable {s : State} {k : Nat} {v : Word} (hawake : s.glb.dormant = false) (hwritable : s.regWritable Reg.BUF_SEG 0 k v = true)
include hawake hwritable

theorem exec_segmentWrite_refused (h : s.segBad k v ∨ s.segHeld k v) :
    exec (.segmentWrite k v) s = .next (s.setFld Reg.BUF_STAT_SEG_REFUSED 0 1) := by
  show execSegmentWrite k v s = _
  rw [execSegmentWrite, State.powered_awake _ _ hawake]
  dsimp only
  rw [if_neg (not_not.2 hwritable)]
  exact congrArg Host.Outcome.next (if_pos h)

theorem exec_segmentWrite_stored (hbad : ¬ s.segBad k v) (hheld : ¬ s.segHeld k v) :
    exec (.segmentWrite k v) s = .next (s.store Reg.BUF_SEG 0 k v) := by
  show execSegmentWrite k v s = _
  rw [execSegmentWrite, State.powered_awake _ _ hawake]
  dsimp only
  rw [if_neg (not_not.2 hwritable)]
  exact congrArg Host.Outcome.next (if_neg (not_or.2 ⟨hbad, hheld⟩))

end

theorem State.segRefused_spec (s : State) :
    (s.setFld Reg.BUF_STAT_SEG_REFUSED 0 1).fld Reg.BUF_STAT_SEG_REFUSED 0 = 1 ∧
    s.SameRegs (s.setFld Reg.BUF_STAT_SEG_REFUSED 0 1) [Reg.BUF_STAT.addr 0 0] ∧
    s.SameBytes (s.setFld Reg.BUF_STAT_SEG_REFUSED 0 1) := by
  have hregs : State.RecordsIn (· ∈ [Reg.BUF_STAT.addr 0 0]) s (s.setFld Reg.BUF_STAT_SEG_REFUSED 0 1) :=
    .setFld s 1 (by simp [Reg.BUF_STAT_SEG_REFUSED])
  exact ⟨State.fld_setFld_same _ _ _ _ (by decide) (by decide), hregs.2, hregs.sameBytes⟩

/-- A channel that trains is Up. -/
def State.chTrained (s : State) (c : Nat) : State :=
  if s.chState c = chTraining then s.setFld Reg.BUFC_STAT_STATE c chUp else s

theorem State.chTrained_records (s : State) (c : Nat) : State.RecordsIn anyReg s (s.chTrained c) := by
  unfold State.chTrained
  split
  · exact .setFld s _ trivial
  · exact .refl _ s

theorem State.chState_chTrained (s : State) {c d : Nat} :
    (s.chTrained d).chState c = if c = d ∧ s.chState c = chTraining then chUp else s.chState c := by
  rw [State.chTrained]
  rcases eq_or_ne c d with rfl | hne
  · by_cases hst : s.chState c = chTraining
    · rw [if_pos hst, if_pos ⟨rfl, hst⟩, State.chState, State.fld_setFld_same _ _ _ _ (by decide) (by decide)]
      rfl
    · rw [if_neg hst, if_neg (fun h => hst h.2)]
  · have hother : ¬ (c = d ∧ s.chState c = chTraining) := fun h => hne h.1
    rw [if_neg hother]
    split
    · refine State.fld_setFld_ne _ _ _ _ _ _ ?_
      simp only [Reg.addr, Reg.BUFC_STAT_STATE, Reg.BUFC_STAT]
      omega
    · rfl

/-- Every channel of a list that trains is Up afterwards. -/
theorem State.chState_trainedAll (l : List Nat) (s : State) {c : Nat} :
    (l.foldl State.chTrained s).chState c = if c ∈ l ∧ s.chState c = chTraining then chUp else s.chState c := by
  induction l generalizing s with
  | nil => simp
  | cons d l ih =>
    rw [List.foldl_cons, ih, State.chState_chTrained]
    by_cases hst : s.chState c = chTraining
    · rcases eq_or_ne c d with rfl | hne
      · simp [hst, chUp, chTraining]
      · simp [hst, hne]
    · simp [hst]

/-- The wipe of buffer memory is over. -/
def State.bufWiped (s : State) : State := { s with glb := { s.glb with bufWipe := false } }

theorem exec_bufferSelfTestEnd_good {s : State} (hawake : s.glb.dormant = false) (hwipe : s.glb.bufWipe = true) :
    exec (.bufferSelfTestEnd 0) s =
      .next (((List.range s.nCh).foldl State.chTrained s.bufWiped).setFld Reg.BUF_CTRL_EN 0 1) := by
  show execBufferSelfTestEnd 0 s = _
  rw [execBufferSelfTestEnd, State.powered_awake _ _ hawake, if_pos hwipe]
  simp only [Nat.zero_testBit, Bool.false_eq_true, if_false]
  rfl

/-- Settles O26: the finding on a block, and for every other command the state that it leaves. -/
theorem bufferMemory : Obligations.BufferMemory := by
  refine ⟨fun s a hawake hlen hblock haddr hdata => ?_,
    fun s u a bs hawake hlen hblock haddr hdata hbytes hfirst hsecond hwrite => ?_, fun s c g i rest hawake hi hcopying => ?_,
    fun s c o hawake hc hen hup hfence hedc hres hclean => ?_, fun s c v hawake hc hwritable hretrain hup hfence => ?_,
    fun s c hawake hc hst => ?_, fun s c hawake hc hst hjoin hpartner => ?_, fun s k v hawake hwritable => ?_,
    fun s hawake hwipe => ?_, fun s c => rfl⟩
  · rw [exec_bufferAccess_read hawake hlen hblock haddr hdata]
    refine ⟨fun hnone => by rw [State.blockRead_of_none hnone], fun cl rest hcopies hedc => ⟨fun hclean hres => ?_,
      fun hard hclean hres => ?_, fun hbad => ?_⟩⟩
    · rw [State.blockRead_of_found hcopies (State.blockFound_good hedc hclean hres), if_pos rfl]
    · rw [State.blockRead_of_found hcopies (State.blockFound_corrected hedc hclean hres), if_pos rfl]
    · rw [State.blockRead_of_found hcopies (State.blockFound_bad hedc hbad), if_neg Bool.false_ne_true]
  · rw [exec_bufferAccess_write hawake hlen hblock haddr hdata hbytes, State.blockWrite_clean hfirst hsecond hwrite]
  · obtain ⟨n, hexec⟩ := exec_remapCopyEnd_eq hawake hcopying
    exact ⟨_, hexec, s.remapped_spec c g n hi rest⟩
  · exact ⟨_, exec_scrubInterval_good hawake hc hen hup hfence hedc hres hclean, s.scrubbed_spec c⟩
  · have hstore := (s.store_records Reg.BUFC_CTRL c 0 v).mono (Q := (· ∈ chRegs c)) fun a ha => by simp [chRegs, ha]
    obtain ⟨hst, hshown, hfail, hregs⟩ := (s.store Reg.BUFC_CTRL c 0 v).retraining_spec c
    have hall := hstore.trans hregs
    exact ⟨_, exec_channelRetrain_up hawake hc hwritable hretrain hup hfence, hst, hshown, hfail, hall.2, hall.sameBytes⟩
  · obtain ⟨hup, hretrain, hregs⟩ := s.retrained_spec c
    obtain ⟨hretrain', hfail, hwrites⟩ := State.setFld_setFld_spec s (f := Reg.BUFC_CTRL_RETRAIN) (g := Reg.BUFC_CTRL_RETRAIN_FAIL)
      (by decide) c (v := 0) (w := 1) (by decide) (by decide)
    exact ⟨⟨_, exec_retrainStepEnd_eq hawake hc hst true, hup, hretrain, hregs.2, hregs.sameBytes⟩,
      _, exec_retrainStepEnd_eq hawake hc hst false, hfail, hretrain', hwrites.sameRegs, hwrites.sameBytes⟩
  · exact ⟨_, exec_resilverEnd_joins hawake hc hst hjoin hpartner, congrArg BufChS.joining (State.bc_setBc_same ..), rfl, rfl, rfl,
      rfl⟩
  · have hmeets (j : Nat) : s.segMeets k (Reg.BUF_SEG_DOFS.get v) (s.segUnits (Reg.BUF_SEG_DUPLEX.get v = 1)) j = true ↔
        j ≠ k ∧ s.fldJ Reg.BUF_SEG_VALID 0 j = 1 ∧
          Reg.BUF_SEG_DOFS.get v < s.fldJ Reg.BUF_SEG_DOFS 0 j + s.segUnits (s.fldJ Reg.BUF_SEG_DUPLEX 0 j = 1) ∧
          s.fldJ Reg.BUF_SEG_DOFS 0 j < Reg.BUF_SEG_DOFS.get v + s.segUnits (Reg.BUF_SEG_DUPLEX.get v = 1) := by
      simp [State.segMeets, and_assoc]
    refine ⟨?_, ?_, ?_⟩
    · rintro hvalid ⟨j, hj, hmeet⟩
      exact ⟨_, exec_segmentWrite_refused hawake hwritable
        (.inl ⟨hvalid, .inr (List.any_eq_true.2 ⟨j, List.mem_range.2 hj, (hmeets j).2 hmeet⟩)⟩), s.segRefused_spec⟩
    · intro hvalid hcap hnone hfree
      refine exec_segmentWrite_stored hawake hwritable ?_ ?_
      · rintro ⟨-, hover | hany⟩
        · exact absurd hover (Nat.not_lt.2 hcap)
        · obtain ⟨j, hj, hmeet⟩ := List.any_eq_true.1 hany
          exact hnone j ⟨List.mem_range.1 hj, (hmeets j).1 hmeet⟩
      · rintro ⟨hon, hmode, -⟩
        rcases hfree with hfree | hfree
        · omega
        · exact hmode hfree
    · intro hvalid hon hmode hother
      exact ⟨_, exec_segmentWrite_refused hawake hwritable (.inr ⟨hon, hmode, hother⟩), s.segRefused_spec⟩
  · have htrained : State.RecordsIn anyReg s.bufWiped ((List.range s.nCh).foldl State.chTrained s.bufWiped) :=
      .foldl (fun u d _ => u.chTrained_records d) _
    have hall := htrained.trans (.setFld _ (f := Reg.BUF_CTRL_EN) (i := 0) 1 trivial)
    refine ⟨_, exec_bufferSelfTestEnd_good hawake hwipe, ?_, State.fld_setFld_same _ _ _ _ (by decide) (by decide),
      fun c hc hst => ?_, ?_⟩
    · obtain ⟨⟨quiet, x, regs, heq⟩, -⟩ := hall
      rw [heq]
      rfl
    · rw [State.chState, State.fld_setFld_ne _ _ _ _ _ _ (by
        simp only [Reg.addr, Reg.BUFC_STAT_STATE, Reg.BUFC_STAT, Reg.BUF_CTRL_EN, Reg.BUF_CTRL]; omega), ← State.chState,
        State.chState_trainedAll, if_pos ⟨List.mem_range.2 hc, hst⟩]
    · exact State.SameBytes.trans ⟨rfl, rfl, rfl, rfl, rfl⟩ hall.sameBytes

end Sys2Proof.Machine
end

section
/-!
PROOFS. Commands on the cipher's key slots (R341 to R347, R356).
-/

namespace Sys2Proof.Machine

/-! ## A slot command that starts and one that ends (R343, R356) -/

/-- The registers after a slot command has been taken. -/
def State.slotStarted (s : State) (v : Word) : State :=
  ((s.store Reg.CPH_SLOT_CMD 0 0 v).setFld Reg.CPH_SLOT_CMD_GO 0 1).setFld Reg.CPH_SLOT_CMD_RESULT 0 0

theorem State.slotCmd_busy {s : State} (h : s.flag Reg.CPH_SLOT_CMD_GO 0 = true) (op : Nat) (v : Word)
    (f : State → Nat → Nat → State) : s.slotCmd op v f = s := by
  rw [State.slotCmd, if_neg (fun hall => hall.2.2.2 h)]

theorem State.slotCmd_started {s : State} {op : Nat} {v : Word} (hwritable : s.regWritable Reg.CPH_SLOT_CMD 0 0 v = true)
    (hgo : Reg.CPH_SLOT_CMD_GO.get v = 1) (hop : Reg.CPH_SLOT_CMD_OP.get v = op)
    (hidle : s.flag Reg.CPH_SLOT_CMD_GO 0 = false) (f : State → Nat → Nat → State) :
    s.slotCmd op v f = f (s.slotStarted v) (Reg.CPH_SLOT_CMD_SLOT.get v) (Reg.CPH_SLOT_CMD_GEN.get v) := by
  rw [State.slotCmd, if_pos ⟨hwritable, hgo, hop, ne_true_of_eq_false hidle⟩]
  rfl

/-- The cipher's own state is no register and no byte of memory. -/
theorem State.withCph_writes (P : Nat → Prop) (s : State) (c : CphS) : State.WritesIn P s { s with cph := c } :=
  ⟨⟨rfl, rfl, rfl, rfl, rfl⟩, fun _ _ => rfl⟩

theorem State.fld_withCph (s : State) (c : CphS) (f : Fld) (i : Nat) : ({ s with cph := c }).fld f i = s.fld f i := rfl

theorem State.slotStarted_spec (s : State) (v : Word) :
    (s.slotStarted v).cph = s.cph ∧ State.WritesIn (· = Reg.CPH_SLOT_CMD.addr 0 0) s (s.slotStarted v) := by
  have hstore := s.store_records Reg.CPH_SLOT_CMD 0 0 v
  exact ⟨hstore.cph_eq, .of_records ((hstore.trans (.setFld _ 1 rfl)).trans (.setFld _ 0 rfl))⟩

theorem State.slotDone_spec (s : State) {r : Nat} (hr : r < 16) :
    (s.slotDone r).fld Reg.CPH_SLOT_CMD_RESULT 0 = r ∧ (s.slotDone r).fld Reg.CPH_SLOT_CMD_GO 0 = 0 ∧
    (s.slotDone r).cph = { s.cph with stage := [] } ∧ State.WritesIn (· = Reg.CPH_SLOT_CMD.addr 0 0) s (s.slotDone r) := by
  obtain ⟨hresult, hgo, hregs⟩ := s.setFld_setFld_spec (f := Reg.CPH_SLOT_CMD_RESULT) (g := Reg.CPH_SLOT_CMD_GO) (by decide) 0
    (v := r) (w := 0) hr (by decide)
  rw [State.slotDone]
  exact ⟨(State.fld_withCph ..).trans hresult, (State.fld_withCph ..).trans hgo, rfl, hregs.trans (State.withCph_writes ..)⟩

theorem State.slots_slotDone (s : State) (r : Nat) : (s.slotDone r).cph.slots = s.cph.slots := rfl

/-! ## LOAD (R343, R344) -/

/-- What LOAD does, by the first check that it fails. -/
def State.loadKey (u : State) (k gen : Nat) : State :=
  let x := u.kslot k
  let kind := u.fld Reg.CPH_SLOT_CMD_MODE 0 + 1
  let key := u.stagedKey (if kind = 1 then 64 else 32)
  if x.kind ≠ 0 ∧ x.kind ≠ kind then u.slotDone 4
  else if (x.find gen).isSome then u.slotDone 2
  else if x.a.isSome ∧ x.b.isSome then u.slotDone 3
  else if kind = 1 ∧ key.take 32 = key.drop 32 then u.slotDone 5
  else
    let g : KeyGen := if kind = 1 then { gen := gen, key := key }
      else { gen := gen, key := key, h := Config.aes256 key (List.replicate 16 0), salt := u.stagedSalt }
    let y : KeySlot := if x.a.isNone then { x with kind := kind, a := some g } else { x with kind := kind, b := some g }
    (u.setKslot k y).slotDone 1

/-- The generation that LOAD takes out of the staging registers. -/
def State.stagedGen (u : State) (kind gen : Nat) : KeyGen :=
  let key := u.stagedKey (if kind = 1 then 64 else 32)
  if kind = 1 then { gen := gen, key := key }
  else { gen := gen, key := key, h := Config.aes256 key (List.replicate 16 0), salt := u.stagedSalt }

/-- The slot with a generation in its free half. -/
def KeySlot.fill (x : KeySlot) (kind : Nat) (g : KeyGen) : KeySlot :=
  if x.a.isNone then { x with kind := kind, a := some g } else { x with kind := kind, b := some g }

theorem State.stagedGen_spec (u : State) (kind gen : Nat) : (u.stagedGen kind gen).gen = gen ∧
    (u.stagedGen kind gen).key = u.stagedKey (if kind = 1 then 64 else 32) ∧
    (kind = 2 → (u.stagedGen kind gen).salt = u.stagedSalt) := by
  unfold State.stagedGen
  by_cases hkind : kind = 1
  · simp [hkind]
  · simp [hkind]

/-- A half that held nothing holds the new generation. -/
theorem KeySlot.find_fill {x : KeySlot} {g : KeyGen} {gen : Nat} (hgen : g.gen = gen) (hnone : x.find gen = none)
    (hroom : x.a = none ∨ x.b = none) (kind : Nat) : (x.fill kind g).find gen = some g := by
  cases ha : x.a with
  | none => simp [KeySlot.fill, KeySlot.find, ha, hgen]
  | some o =>
    have hb : x.b = none := hroom.resolve_left (by simp [ha])
    have ho : o.gen ≠ gen := fun h => by simp [KeySlot.find, ha, h] at hnone
    simp [KeySlot.fill, KeySlot.find, ha, ho, hgen]

theorem KeySlot.kind_fill (x : KeySlot) (kind : Nat) (g : KeyGen) : (x.fill kind g).kind = kind := by
  unfold KeySlot.fill
  split <;> rfl

section
variable {u : State} {k gen kind : Nat} (hkind : u.fld Reg.CPH_SLOT_CMD_MODE 0 + 1 = kind)
include hkind

theorem State.loadKey_wrongMode (h0 : (u.kslot k).kind ≠ 0) (hne : (u.kslot k).kind ≠ kind) : u.loadKey k gen = u.slotDone 4 := by
  subst hkind
  exact if_pos ⟨h0, hne⟩

variable (hsame : (u.kslot k).kind = 0 ∨ (u.kslot k).kind = kind)
include hsame

theorem State.loadKey_genHeld (hfind : ((u.kslot k).find gen).isSome = true) : u.loadKey k gen = u.slotDone 2 := by
  subst hkind
  rw [State.loadKey]
  dsimp only
  rw [if_neg (by tauto), if_pos hfind]

variable (hnone : (u.kslot k).find gen = none)
include hnone

theorem State.loadKey_full (ha : (u.kslot k).a ≠ none) (hb : (u.kslot k).b ≠ none) : u.loadKey k gen = u.slotDone 3 := by
  subst hkind
  rw [State.loadKey]
  dsimp only
  rw [if_neg (by tauto), if_neg (by simp [hnone]), if_pos ⟨Option.isSome_iff_ne_none.2 ha, Option.isSome_iff_ne_none.2 hb⟩]

variable (hroom : (u.kslot k).a = none ∨ (u.kslot k).b = none)
include hroom

theorem State.loadKey_equalKeys (hxts : kind = 1)
    (hkeys : (u.stagedKey (if kind = 1 then 64 else 32)).take 32 = (u.stagedKey (if kind = 1 then 64 else 32)).drop 32) :
    u.loadKey k gen = u.slotDone 5 := by
  subst hkind
  rw [State.loadKey]
  dsimp only
  rw [if_neg (by tauto), if_neg (by simp [hnone]), if_neg (by rcases hroom with h | h <;> simp [h]), if_pos ⟨hxts, hkeys⟩]

theorem State.loadKey_taken (hkeys : kind = 1 →
      (u.stagedKey (if kind = 1 then 64 else 32)).take 32 ≠ (u.stagedKey (if kind = 1 then 64 else 32)).drop 32) :
    u.loadKey k gen = (u.setKslot k ((u.kslot k).fill kind (u.stagedGen kind gen))).slotDone 1 := by
  subst hkind
  rw [State.loadKey]
  dsimp only
  rw [if_neg (by tauto), if_neg (by simp [hnone]), if_neg (by rcases hroom with h | h <;> simp [h]), if_neg (by tauto)]
  rfl

end

section
variable {s : State} {v : Word} (hawake : s.glb.dormant = false)
include hawake

theorem exec_keyLoad_eq : exec (.keyLoad v) s = .next (s.slotCmd 1 v State.loadKey) := by
  show execKeyLoad v s = _
  rw [execKeyLoad, State.powered_awake _ _ hawake]
  rfl

/-! ## DROP, WIPE, QUERY and BADOP (R344, R345, R346, R356) -/

/-- What DROP does. -/
def State.dropKey (s : State) (k gen : Nat) : State :=
  let x := s.kslot k
  if (x.find gen).isNone then s.slotDone 6
  else
    let s := (s.setKslot k (x.drop gen)).cphPurge fun r => r.slot == k && r.gen == gen
    ({ s with cph := { s.cph with cmd := some { slot := k, gen := some gen } } }).slotCmdPoll

theorem exec_keyDrop_eq : exec (.keyDrop v) s = .next (s.slotCmd 2 v State.dropKey) := by
  show execKeyDrop v s = _
  rw [execKeyDrop, State.powered_awake _ _ hawake]
  rfl

/-- What WIPE does. -/
def State.wipeKey (s : State) (k : Nat) : State :=
  let s := ((s.setKslot k {}).cphPurge fun r => r.slot == k).breakSlot k
  ({ s with cph := { s.cph with cmd := some { slot := k, gen := none } } }).slotCmdPoll

theorem exec_keyWipe_eq : exec (.keyWipe v) s = .next (s.slotCmd 3 v fun u k _ => u.wipeKey k) := by
  show execKeyWipe v s = _
  rw [execKeyWipe, State.powered_awake _ _ hawake]
  rfl

/-- The generation number of a half, zero for an empty one. -/
def halfGen (h : Option KeyGen) : Nat := match h with | some g => g.gen | none => 0

/-- The value of CPH_SLOT_STAT that shows a slot. -/
def KeySlot.shown (x : KeySlot) : Nat :=
  x.kind * 2 ^ 30 + bit01 x.a.isSome * 2 ^ 29 + bit01 x.b.isSome * 2 ^ 28 + halfGen x.a * 2 ^ 16 + halfGen x.b * 2 ^ 8

/-- The counter of a generation, zero where the slot does not hold it. -/
def KeySlot.counter (x : KeySlot) (gen : Nat) : Nat := match x.find gen with | some g => g.ctr | none => 0

/-- What QUERY shows. -/
def State.queryKey (s : State) (k gen : Nat) : State :=
  let c := (s.kslot k).counter gen
  (((s.wr Reg.CPH_SLOT_STAT 0 0 (word (s.kslot k).shown)).wr Reg.CPH_SLOT_CTR_LO 0 0 (word c)).wr Reg.CPH_SLOT_CTR_HI 0 0
    (word (c / 2 ^ 32))).slotDone 1

theorem exec_keyQuery_eq : exec (.keyQuery v) s = .next (s.slotCmd 4 v State.queryKey) := by
  show execKeyQuery v s = _
  rw [execKeyQuery, State.powered_awake _ _ hawake]
  rfl

theorem exec_slotBadop_eq (hop : Reg.CPH_SLOT_CMD_OP.get v = 0 ∨ 4 < Reg.CPH_SLOT_CMD_OP.get v) :
    exec (.slotBadop v) s = .next (s.slotCmd (Reg.CPH_SLOT_CMD_OP.get v) v fun u _ _ => u.slotDone 7) := by
  show execSlotBadop v s = _
  rw [execSlotBadop, State.powered_awake _ _ hawake]
  dsimp only
  rw [if_pos hop]

end

theorem halfGen_lt {h : Option KeyGen} (hg : ∀ g, h = some g → g.gen < 256) : halfGen h < 256 := by
  cases h with
  | none => decide
  | some g => exact hg g rfl

theorem bit01_le (b : Bool) : bit01 b ≤ 1 := by cases b <;> decide

theorem bit01_eq_one (b : Bool) : decide (bit01 b = 1) = b := by cases b <;> rfl

/-- The fields of a slot as CPH_SLOT_STAT shows them. -/
theorem KeySlot.shown_fields {x : KeySlot} (hg : ∀ g, x.a = some g ∨ x.b = some g → g.gen < 256) :
    (word x.shown).toNat / 2 ^ 30 = x.kind % 4 ∧ bitOf (word x.shown).toNat 29 = x.a.isSome ∧
    bitOf (word x.shown).toNat 28 = x.b.isSome := by
  have ha : halfGen x.a < 256 := halfGen_lt fun g h => hg g (.inl h)
  have hb : halfGen x.b < 256 := halfGen_lt fun g h => hg g (.inr h)
  have ha' := bit01_le x.a.isSome
  have hb' := bit01_le x.b.isSome
  have hword : (word x.shown).toNat = x.shown % 2 ^ 32 := BitVec.toNat_ofNat ..
  rw [hword, ← bit01_eq_one x.a.isSome, ← bit01_eq_one x.b.isSome, bitOf, bitOf, Nat.testBit_eq_decide_div_mod_eq,
    Nat.testBit_eq_decide_div_mod_eq, decide_eq_decide, decide_eq_decide, KeySlot.shown]
  refine ⟨?_, ?_, ?_⟩ <;> omega

theorem State.queryKey_spec (s : State) (k gen : Nat) :
    (s.queryKey k gen).rd Reg.CPH_SLOT_STAT 0 0 = word (s.kslot k).shown ∧
    ((s.kslot k).counter gen < 2 ^ 64 →
      (s.queryKey k gen).pair Reg.CPH_SLOT_CTR_LO Reg.CPH_SLOT_CTR_HI 0 0 = (s.kslot k).counter gen) ∧
    (s.queryKey k gen).fld Reg.CPH_SLOT_CMD_RESULT 0 = 1 ∧ (s.queryKey k gen).fld Reg.CPH_SLOT_CMD_GO 0 = 0 ∧
    (s.queryKey k gen).cph.slots = s.cph.slots ∧ s.SameBytes (s.queryKey k gen) := by
  obtain ⟨hresult, hgo, -, hdone⟩ := (((s.wr Reg.CPH_SLOT_STAT 0 0 (word (s.kslot k).shown)).wr Reg.CPH_SLOT_CTR_LO 0 0
    (word ((s.kslot k).counter gen))).wr Reg.CPH_SLOT_CTR_HI 0 0 (word ((s.kslot k).counter gen / 2 ^ 32))).slotDone_spec
    (r := 1) (by decide)
  have hrd (r : Reg) (hr : r.addr 0 0 ≠ Reg.CPH_SLOT_CMD.addr 0 0) := hdone.2 (r.addr 0 0) hr
  refine ⟨?_, fun hlt => ?_, hresult, hgo, State.slots_slotDone .., State.SameBytes.trans ⟨rfl, rfl, rfl, rfl, rfl⟩ hdone.sameBytes⟩
  · refine (hrd Reg.CPH_SLOT_STAT (by decide)).trans ?_
    exact (State.rd_wr_ne _ _ _ _ _ _ _ _ (by decide)).trans ((State.rd_wr_ne _ _ _ _ _ _ _ _ (by decide)).trans
      (State.rd_wr_same ..))
  · have hlo : (s.queryKey k gen).rd Reg.CPH_SLOT_CTR_LO 0 0 = word ((s.kslot k).counter gen) :=
      (hrd Reg.CPH_SLOT_CTR_LO (by decide)).trans ((State.rd_wr_ne _ _ _ _ _ _ _ _ (by decide)).trans (State.rd_wr_same ..))
    have hhi : (s.queryKey k gen).rd Reg.CPH_SLOT_CTR_HI 0 0 = word ((s.kslot k).counter gen / 2 ^ 32) :=
      (hrd Reg.CPH_SLOT_CTR_HI (by decide)).trans (State.rd_wr_same ..)
    have hword (n : Nat) : (word n).toNat = n % 2 ^ 32 := BitVec.toNat_ofNat ..
    rw [State.pair, hlo, hhi, hword, hword]
    omega

/-! ## WIPE_ALL (R347) -/

/-- The registers after WIPE_ALL has been taken, every slot empty. -/
def State.allWiped (s : State) (v : Word) : State :=
  let u := ((s.store Reg.CPH_CTRL 0 0 v).setFld Reg.CPH_CTRL_WIPE_ALL 0 1).setFld Reg.CPH_STAT_WIPING 0 1
  { u with cph := { u.cph with slots := [] } }

theorem State.allWiped_spec (s : State) (v : Word) : (s.allWiped v).cph.slots = [] ∧
    (s.allWiped v).fld Reg.CPH_STAT_WIPING 0 = 1 ∧ (s.allWiped v).fld Reg.CPH_CTRL_WIPE_ALL 0 = 1 ∧ s.SameBytes (s.allWiped v) := by
  have hregs : State.WritesIn anyReg s (((s.store Reg.CPH_CTRL 0 0 v).setFld Reg.CPH_CTRL_WIPE_ALL 0 1).setFld
      Reg.CPH_STAT_WIPING 0 1) :=
    .of_records ((((s.store_records Reg.CPH_CTRL 0 0 v).mono fun _ _ => trivial).trans (.setFld _ 1 trivial)).trans
      (.setFld _ 1 trivial))
  rw [State.allWiped]
  refine ⟨rfl, ?_, ?_, (hregs.trans (State.withCph_writes ..)).sameBytes⟩
  · rw [State.fld_withCph, State.fld_setFld_same _ _ _ _ (by decide) (by decide)]
    rfl
  · rw [State.fld_withCph, State.fld_setFld_ne _ _ _ _ _ _ (by decide), State.fld_setFld_same _ _ _ _ (by decide) (by decide)]
    rfl

theorem exec_wipeAll_eq {s : State} {v : Word} (hawake : s.glb.dormant = false) (hwritable : s.regWritable Reg.CPH_CTRL 0 0 v = true)
    (hwipe : Reg.CPH_CTRL_WIPE_ALL.get v = 1) :
    exec (.wipeAll v) s = .next ((((s.allWiped v).cphPurge fun _ => true).breakStreams fun _ => true).slotCmdPoll) := by
  show execWipeAll v s = _
  rw [execWipeAll, State.powered_awake _ _ hawake, if_pos ⟨hwritable, hwipe⟩]
  rfl

@[simp] theorem State.kslot_setKslot_same (s : State) (k : Nat) (x : KeySlot) : (s.setKslot k x).kslot k = x := mget_mset_same ..
theorem State.kslot_setKslot_ne (s : State) (k j : Nat) (x : KeySlot) (h : j ≠ k) : (s.setKslot k x).kslot j = s.kslot j :=
  mget_mset_ne _ _ _ _ _ h

/-- What a LOAD that is taken leaves. -/
theorem State.loadTakenKey_spec {s u : State} {k gen kind : Nat} (hcph : u.cph = s.cph)
    (hregs : State.WritesIn (· = Reg.CPH_SLOT_CMD.addr 0 0) s u) (hnone : (s.kslot k).find gen = none)
    (hroom : (s.kslot k).a = none ∨ (s.kslot k).b = none) :
    let t := (u.setKslot k ((u.kslot k).fill kind (u.stagedGen kind gen))).slotDone 1
    ∃ g : KeyGen, (t.kslot k).find gen = some g ∧ g.key = s.stagedKey (if kind = 1 then 64 else 32) ∧
      (t.kslot k).kind = kind ∧ (kind = 2 → g.salt = s.stagedSalt) ∧ t.cph.stage = [] ∧ (∀ j, j ≠ k → t.kslot j = s.kslot j) ∧
      t.fld Reg.CPH_SLOT_CMD_RESULT 0 = 1 ∧ t.fld Reg.CPH_SLOT_CMD_GO 0 = 0 ∧
      s.SameRegs t [Reg.CPH_SLOT_CMD.addr 0 0] ∧ s.SameBytes t := by
  have hslot (j : Nat) : u.kslot j = s.kslot j := congrArg (fun c : CphS => mget (fun _ => ({} : KeySlot)) c.slots j) hcph
  obtain ⟨hgen, hkey, hsalt⟩ := u.stagedGen_spec kind gen
  have hstage (n : Nat) : u.stagedKey n = s.stagedKey n := by rw [State.stagedKey, hcph, State.stagedKey]
  obtain ⟨hresult, hgo, hdone, hwrites⟩ := (u.setKslot k ((u.kslot k).fill kind (u.stagedGen kind gen))).slotDone_spec (r := 1)
    (by decide)
  have hkslot (j : Nat) := congrArg (fun c : CphS => mget (fun _ => ({} : KeySlot)) c.slots j) hdone
  have hown := (hkslot k).trans (State.kslot_setKslot_same u k _)
  have hall := (hregs.trans (State.withCph_writes _ u _)).trans hwrites
  refine ⟨u.stagedGen kind gen, ?_, hkey.trans (hstage _), ?_, fun h => (hsalt h).trans ?_, congrArg CphS.stage hdone,
    fun j hj => (hkslot j).trans ((State.kslot_setKslot_ne u k j _ hj).trans (hslot j)), hresult, hgo, hall.sameRegs, hall.sameBytes⟩
  · refine (congrArg (KeySlot.find · gen) hown).trans ?_
    rw [hslot]
    exact KeySlot.find_fill hgen hnone hroom kind
  · exact (congrArg KeySlot.kind hown).trans (KeySlot.kind_fill ..)
  · rw [State.stagedSalt, hcph, State.stagedSalt]

/-- Settles O29: a command that is not taken, then each command on the state in which it starts. -/
theorem keySlots : Obligations.KeySlots := by
  refine ⟨fun s v op i hawake hbusy hi => ?_, fun s v hawake hwritable hgo hidle => ?_, fun s v hawake hwritable hwipe => ?_⟩
  · simp only [List.mem_cons, Prod.mk.injEq, List.not_mem_nil, or_false] at hi
    rcases hi with ⟨rfl, -⟩ | ⟨rfl, -⟩ | ⟨rfl, -⟩ | ⟨rfl, -⟩
    · rw [exec_keyLoad_eq hawake, State.slotCmd_busy hbusy]
    · rw [exec_keyDrop_eq hawake, State.slotCmd_busy hbusy]
    · rw [exec_keyWipe_eq hawake, State.slotCmd_busy hbusy]
    · rw [exec_keyQuery_eq hawake, State.slotCmd_busy hbusy]
  · have hstart {op : Nat} (hop : Reg.CPH_SLOT_CMD_OP.get v = op) := State.slotCmd_started hwritable hgo hop hidle
    obtain ⟨hcph, hregs⟩ := s.slotStarted_spec v
    have hslot (j : Nat) : (s.slotStarted v).kslot j = s.kslot j :=
      congrArg (fun c : CphS => mget (fun _ => ({} : KeySlot)) c.slots j) hcph
    have hstage (n : Nat) : (s.slotStarted v).stagedKey n = s.stagedKey n := by rw [State.stagedKey, hcph, State.stagedKey]
    refine ⟨fun hop => ?_, fun hop => ⟨fun hnone => ?_, fun hheld => ?_⟩, fun hop => ?_, fun hop hgens => ?_, fun hop => ?_⟩
    · rw [exec_keyLoad_eq hawake, hstart hop]
      simp only [← hslot, ← hstage]
      refine ⟨fun h0 hne => ?_, fun hsame hfind => ?_, fun hsame hnone ha hb => ?_, fun hsame hnone hroom hxts hkeys => ?_,
        fun hsame hnone hroom hkeys => ?_⟩
      · exact congrArg Host.Outcome.next (State.loadKey_wrongMode rfl h0 hne)
      · exact congrArg Host.Outcome.next (State.loadKey_genHeld rfl hsame hfind)
      · exact congrArg Host.Outcome.next (State.loadKey_full rfl hsame hnone ha hb)
      · exact congrArg Host.Outcome.next (State.loadKey_equalKeys rfl hsame hnone hroom hxts hkeys)
      · rw [State.loadKey_taken rfl hsame hnone hroom hkeys]
        obtain ⟨g, hg⟩ := State.loadTakenKey_spec (kind := (s.slotStarted v).fld Reg.CPH_SLOT_CMD_MODE 0 + 1) hcph hregs
          (hslot _ ▸ hnone) (hslot _ ▸ hroom)
        simp only [← hslot, ← hstage] at hg
        exact ⟨_, g, rfl, hg⟩
    · rw [exec_keyDrop_eq hawake, hstart hop, State.dropKey]
      dsimp only
      rw [hslot, if_pos (by rw [hnone]; rfl)]
      rfl
    · refine ⟨_, rfl, ?_⟩
      rw [exec_keyDrop_eq hawake, hstart hop, State.dropKey]
      dsimp only
      rw [hslot, if_neg (by simpa [Option.isNone_iff_eq_none] using hheld)]
      rfl
    · refine ⟨_, rfl, ?_⟩
      rw [exec_keyWipe_eq hawake, hstart hop]
      rfl
    · obtain ⟨hstat, hctr, hresult, hgo', hslots, hbytes⟩ := (s.slotStarted v).queryKey_spec (Reg.CPH_SLOT_CMD_SLOT.get v)
        (Reg.CPH_SLOT_CMD_GEN.get v)
      rw [hslot] at hstat hctr
      obtain ⟨hkind, ha, hb⟩ := KeySlot.shown_fields hgens
      refine ⟨_, by rw [exec_keyQuery_eq hawake, hstart hop], by rw [hstat, hkind], by rw [hstat, ha], by rw [hstat, hb],
        fun g hg hlt => ?_, hresult, hgo', hslots.trans (congrArg CphS.slots hcph), hregs.sameBytes.trans hbytes⟩
      have hcounter : (s.kslot (Reg.CPH_SLOT_CMD_SLOT.get v)).counter (Reg.CPH_SLOT_CMD_GEN.get v) = g.ctr := by
        rw [KeySlot.counter, hg]
      rw [hcounter] at hctr
      exact hctr hlt
    · obtain ⟨hresult, hgo', -, hwrites⟩ := (s.slotStarted v).slotDone_spec (r := 7) (by decide)
      have hall := hregs.trans hwrites
      exact ⟨_, by rw [exec_slotBadop_eq hawake hop, hstart rfl], hresult, hgo',
        ((s.slotStarted v).slots_slotDone 7).trans (congrArg CphS.slots hcph), hall.sameRegs, hall.sameBytes⟩
  · obtain ⟨hslots, hwiping, hshown, hbytes⟩ := s.allWiped_spec v
    exact ⟨s.allWiped v, hslots, hwiping, hshown, hbytes, exec_wipeAll_eq hawake hwritable hwipe⟩

end Sys2Proof.Machine
end

section
/-!
PROOFS. Requests and engines of the cipher (R348 to R355, R546).
-/

namespace Sys2Proof.Machine

/-! ## Requests (R348, R351) -/

/-- A request of the form that CIPHER_REQUEST takes. -/
def reqFormed (r : CipherReq) : Prop :=
  r.slot < 8192 ∧ r.gen < 256 ∧ r.len < 65536 ∧ r.aad.length < 256 ∧ (r.gcm = true → r.decrypt = true → r.iv.length = 12)

theorem reqFormed_checks {r : CipherReq} (h : reqFormed r) :
    (decide (r.slot < 8192) && decide (r.gen < 256) && decide (r.len < 65536) && decide (r.aad.length < 256)
      && (!r.gcm || !r.decrypt || r.iv.length == 12)) = true := by
  obtain ⟨hslot, hgen, hlen, haad, hiv⟩ := h
  have hform : (!r.gcm || !r.decrypt || r.iv.length == 12) = true := by
    cases hgcm : r.gcm
    · rfl
    · cases hdecrypt : r.decrypt
      · rfl
      · simp [hiv hgcm hdecrypt]
  simp only [hslot, hgen, hlen, haad, hform, decide_true, Bool.and_self]

section
variable {s : State} {r : CipherReq} (hawake : s.glb.dormant = false) (hform : reqFormed r)
include hawake hform

theorem exec_cipherRequest_waits (hpeer : r.peer = false) (hfull : s.storeSize ≤ s.cph.store) :
    exec (.cipherRequest r) s = .next s := by
  show execCipherRequest r s = _
  rw [execCipherRequest, State.powered_awake _ _ hawake]
  dsimp only
  rw [reqFormed_checks hform, if_pos (.inr ⟨ne_true_of_eq_false hpeer, hfull⟩)]

theorem exec_cipherRequest_peer (hpeer : r.peer = true) : exec (.cipherRequest r) s = .next (s.cphEnqueue r) := by
  show execCipherRequest r s = _
  rw [execCipherRequest, State.powered_awake _ _ hawake]
  dsimp only
  rw [reqFormed_checks hform, if_neg (by simp [hpeer]), if_pos hpeer]

theorem exec_cipherRequest_media (hpeer : r.peer = false) (hroom : s.cph.store < s.storeSize) :
    exec (.cipherRequest r) s =
      .next (State.cphEnqueue { s with cph := { s.cph with store := s.cph.store + 1 } } r) := by
  show execCipherRequest r s = _
  rw [execCipherRequest, State.powered_awake _ _ hawake]
  dsimp only
  rw [reqFormed_checks hform, if_neg (by simp [Nat.not_le.2 hroom]), if_neg (ne_true_of_eq_false hpeer)]

end

/-- The counts of CPH_STAT. -/
theorem State.cphStat_spec (s : State) : s.cphStat.cph = s.cph ∧ State.WritesIn (· = Reg.CPH_STAT.addr 0 0) s s.cphStat :=
  ⟨rfl, .of_records (((State.RecordsIn.setFld (P := (· = Reg.CPH_STAT.addr 0 0)) s (f := Reg.CPH_STAT_BUSY) (i := 0) _ rfl).trans
    (.setFld _ (f := Reg.CPH_STAT_MEDIA) (i := 0) _ rfl)).trans (.setFld _ (f := Reg.CPH_STAT_PEER) (i := 0) _ rfl))⟩

/-- A media request in its queue. -/
theorem State.cphEnqueue_media (s : State) {r : CipherReq} (hpeer : r.peer = false) :
    (s.cphEnqueue r).cph.store = s.cph.store ∧
    (s.cphEnqueue r).cph.media = s.cph.media ++ [{ age := s.cph.nextAge, req := r }] ∧
    (s.cphEnqueue r).cph.peer = s.cph.peer ∧ State.WritesIn (· = Reg.CPH_STAT.addr 0 0) s (s.cphEnqueue r) := by
  have heq : s.cphEnqueue r = State.cphStat { s with cph := { s.cph with
      nextAge := s.cph.nextAge + 1, media := s.cph.media ++ [{ age := s.cph.nextAge, req := r }] } } :=
    congrArg State.cphStat (if_neg (ne_true_of_eq_false hpeer))
  rw [heq]
  obtain ⟨hcph, hregs⟩ := State.cphStat_spec { s with cph := { s.cph with
    nextAge := s.cph.nextAge + 1, media := s.cph.media ++ [{ age := s.cph.nextAge, req := r }] } }
  rw [hcph]
  exact ⟨rfl, rfl, rfl, (State.withCph_writes _ s _).trans hregs⟩

/-! ## The take of an engine (R351, R546) -/

/-- A request has left the queues. -/
def State.cphTaken (s : State) (j : CphJob) : State :=
  { s with cph := { s.cph with media := s.cph.media.filter (fun k => k.age != j.age),
                               peer := s.cph.peer.filter fun k => k.age != j.age } }

/-- What the engine does with a request that no engine had started. -/
def State.takeFresh (u : State) (e : Nat) (j : CphJob) : State :=
  let r := u.cphCheck j.req
  let k := u.kslot j.req.slot
  match k.find j.req.gen with
  | none => ((u.cphEnd j.req (if r = 0 then 1 else r) []).slotCmdPoll).cphStat
  | some g =>
    if r ≠ 0 then ((u.cphEnd j.req r []).slotCmdPoll).cphStat
    else if j.req.gcm ∧ ¬ j.req.decrypt then
      let iv := g.nextIv
      (((u.setKslot j.req.slot (k.put iv.2)).setEng e (some { j with iv := some iv.1, key := some g }))).cphStat
    else (u.setEng e (some { j with iv := if j.req.gcm then some j.req.iv else none, key := some g })).cphStat

theorem exec_engineTake_fresh {s : State} {e : Nat} {j : CphJob} {js : List CphJob} (hawake : s.glb.dormant = false)
    (hen : s.flag Reg.CPH_CTRL_EN 0 = true)
    (hfree : (List.range s.nEng).find? (fun i => (s.engJob i).isNone && !s.engOut i) = some e)
    (hqueue : s.cph.media ++ s.cph.peer = j :: js) (hkey : j.key = none) :
    exec (.engineTake e) s = .next ((s.cphTaken j).takeFresh e j) := by
  show execEngineTake e s = _
  rw [execEngineTake, State.powered_awake _ _ hawake]
  dsimp only
  rw [if_neg (by simp [hen, hfree]), hqueue]
  dsimp only
  rw [if_neg (by simp [hkey])]
  rfl

section
variable {u : State} {e : Nat} {j : CphJob}

theorem State.takeFresh_noKey (hnone : (u.kslot j.req.slot).find j.req.gen = none) : u.takeFresh e j =
    ((u.cphEnd j.req (if u.cphCheck j.req = 0 then 1 else u.cphCheck j.req) []).slotCmdPoll).cphStat := by
  rw [State.takeFresh]
  dsimp only
  rw [hnone]

variable {g : KeyGen} (hfind : (u.kslot j.req.slot).find j.req.gen = some g)
include hfind

theorem State.takeFresh_failed (hcheck : u.cphCheck j.req ≠ 0) :
    u.takeFresh e j = ((u.cphEnd j.req (u.cphCheck j.req) []).slotCmdPoll).cphStat := by
  rw [State.takeFresh]
  dsimp only
  rw [hfind]
  exact if_pos hcheck

variable (hcheck : u.cphCheck j.req = 0)
include hcheck

theorem State.takeFresh_encrypt (hgcm : j.req.gcm = true) (hdecrypt : j.req.decrypt = false) :
    u.takeFresh e j = ((u.setKslot j.req.slot ((u.kslot j.req.slot).put g.nextIv.2)).setEng e
      (some { j with iv := some g.nextIv.1, key := some g })).cphStat := by
  rw [State.takeFresh]
  dsimp only
  rw [hfind]
  exact (if_neg (not_not.2 hcheck)).trans (if_pos ⟨hgcm, ne_true_of_eq_false hdecrypt⟩)

theorem State.takeFresh_other (hother : j.req.gcm = false ∨ j.req.decrypt = true) :
    u.takeFresh e j = (u.setEng e (some { j with iv := if j.req.gcm then some j.req.iv else none, key := some g })).cphStat := by
  rw [State.takeFresh]
  dsimp only
  rw [hfind]
  refine (if_neg (not_not.2 hcheck)).trans (if_neg ?_)
  rintro ⟨hgcm, hdecrypt⟩
  rcases hother with h | h
  · simp [h] at hgcm
  · exact hdecrypt h

end

/-! ## Results (R349, R350, R353) -/

/-- The bytes that a request's engine reads: the text, and the tag of a GCM decryption. -/
def reqReads (r : CipherReq) : Nat := r.len + (if r.gcm && r.decrypt then 16 else 0)

section
variable {s : State} {e : Nat} {j : CphJob} {g : KeyGen} (hawake : s.glb.dormant = false) (hjob : s.engJob e = some j)
  (hkey : j.key = some g)
include hawake hjob hkey

theorem exec_cipherResult_bytes {bs : List Byte} (hsrc : j.req.src = .bytes bs) (hlen : bs.length = reqReads j.req) :
    exec (.cipherResult e) s = .next ((((s.setEng e none).cphEnd j.req (cphCompute j g bs).1
      (cphCompute j g bs).2).slotCmdPoll).cphStat.gateSettle) := by
  have hread : (bs ++ List.replicate (reqReads j.req) 0).take (reqReads j.req) = bs := by rw [← hlen, List.take_left]
  rw [reqReads] at hread
  show execCipherResult e s = _
  rw [execCipherResult, State.powered_awake _ _ hawake, hjob]
  dsimp only
  rw [hsrc, hkey]
  dsimp only
  rw [hread]

section
variable {a : Nat} {u : State} (hsrc : j.req.src = .buffer a)
include hsrc

theorem exec_cipherResult_buffer {bs : List Byte} (hread : s.bufFetch a (reqReads j.req) = (u, some bs)) :
    exec (.cipherResult e) s = .next ((((u.setEng e none).cphEnd j.req (cphCompute j g bs).1
      (cphCompute j g bs).2).slotCmdPoll).cphStat.gateSettle) := by
  rw [reqReads] at hread
  show execCipherResult e s = _
  rw [execCipherResult, State.powered_awake _ _ hawake, hjob]
  dsimp only
  rw [hsrc, hkey]
  dsimp only
  rw [hread]

theorem exec_cipherResult_unread (hread : s.bufFetch a (reqReads j.req) = (u, none)) :
    exec (.cipherResult e) s = .next ((((u.setEng e none).cphEnd j.req 6 []).slotCmdPoll).cphStat.gateSettle) := by
  rw [reqReads] at hread
  show execCipherResult e s = _
  rw [execCipherResult, State.powered_awake _ _ hawake, hjob]
  dsimp only
  rw [hsrc, hkey]
  dsimp only
  rw [hread]

end

end

/-! ## Parity errors and fences (R354, R355) -/

theorem exec_engineParityFault_eq {s : State} {e : Nat} (hawake : s.glb.dormant = false) (he : e < s.nEng)
    (hjob : (s.engJob e).isSome = true) : exec (.engineParityFault e) s = .next (s.raise srcCPH 0 e false) := by
  show execEngineParityFault e s = _
  rw [execEngineParityFault, State.powered_awake _ _ hawake, if_pos ⟨he, hjob⟩]

theorem exec_engineFenceWrite_eq {s : State} {j : Nat} (hawake : s.glb.dormant = false) (hj : j < 8) (v : Word) :
    exec (.engineFenceWrite j v) s = .next ((List.range 32).foldl (fun u k =>
      if u.nEng ≤ 32 * j + k then u else if bitOf v.toNat k then u.engHostFence (32 * j + k) else u.engReturn (32 * j + k)) s) := by
  show execEngineFenceWrite j v s = _
  rw [execEngineFenceWrite, State.powered_awake _ _ hawake, if_pos hj]

/-- Settles O30: `takeFresh` by the checks of R546, and one lemma for each other command. -/
theorem cipherEngines : Obligations.CipherEngines := by
  refine ⟨fun s r hawake hslot hgen hlen haad hiv => ?_, fun s e j js hawake hen hfree hqueue hkey => ?_,
    fun s e j g hawake hjob hkey => ?_, fun s e hawake he hjob => exec_engineParityFault_eq hawake he hjob,
    fun s j v hawake hj => exec_engineFenceWrite_eq hawake hj v⟩
  · have hform : reqFormed r := ⟨hslot, hgen, hlen, haad, hiv⟩
    refine ⟨exec_cipherRequest_waits hawake hform, exec_cipherRequest_peer hawake hform, fun hpeer hroom => ?_⟩
    obtain ⟨hstore, hmedia, hpeers, hregs⟩ := State.cphEnqueue_media { s with cph := { s.cph with store := s.cph.store + 1 } } hpeer
    have hall := (State.withCph_writes _ s _).trans hregs
    exact ⟨_, exec_cipherRequest_media hawake hform hpeer hroom, hstore, hmedia, hpeers, hall.sameRegs, hall.sameBytes⟩
  · rw [exec_engineTake_fresh hawake hen hfree hqueue hkey]
    refine ⟨fun hcheck hheld => ?_, fun hnone => ?_, fun g hcheck hfind hgcm hdecrypt => ?_, fun g hcheck hfind hother => ?_⟩
    · obtain ⟨g, hfind⟩ := Option.ne_none_iff_exists'.1 hheld
      exact congrArg Host.Outcome.next (State.takeFresh_failed (u := s.cphTaken j) hfind hcheck)
    · exact congrArg Host.Outcome.next (State.takeFresh_noKey (u := s.cphTaken j) hnone)
    · exact congrArg Host.Outcome.next (State.takeFresh_encrypt (u := s.cphTaken j) hfind hcheck hgcm hdecrypt)
    · exact congrArg Host.Outcome.next (State.takeFresh_other (u := s.cphTaken j) hfind hcheck hother)
  · exact ⟨fun bs hsrc hlen => exec_cipherResult_bytes hawake hjob hkey hsrc hlen,
      fun a u bs hsrc hread => exec_cipherResult_buffer hawake hjob hkey hsrc hread,
      fun a u hsrc hread => exec_cipherResult_unread hawake hjob hkey hsrc hread⟩

end Sys2Proof.Machine
end

section
/-!
PROOFS. Host ports, links and controllers (R357, R358, R360 to R362, R367 to R369, R386, R387).
-/

namespace Sys2Proof.Machine

/-! ## PERST and the links (R357, R358, R360) -/

theorem exec_perstAssert_eq {s : State} {p : Nat} (hp : p < 2) :
    ∃ y : State, exec (.perstAssert p) s = .next (((y.linkDown p 0).linkDown p 1).psApply) ∧
      mget (fun _ => false) y.hif.perstHigh p = false ∧ y.regs = s.regs := by
  refine ⟨{ s with hif := { s.hif with perstHigh := mset (fun _ => false) s.hif.perstHigh p false } }, ?_, mget_mset_same .., rfl⟩
  show execPerstAssert p s = _
  rw [execPerstAssert, if_pos hp]

theorem exec_perstDeassert_low {s : State} {p : Nat} (hp : p < 2) (hlow : mget (fun _ => false) s.hif.perstHigh p = false) :
    ∃ t : State, exec (.perstDeassert p) s = .next t ∧ mget (fun _ => false) t.hif.perstHigh p = true ∧
      t.pcfg p = s.rd Reg.HIF_PCFG p 0 ∧ t.regs = s.regs ∧ s.SameBytes t := by
  refine ⟨{ s with hif := { s.hif with
      perstHigh := mset (fun _ => false) s.hif.perstHigh p true
      applied := mset (fun _ => (0 : Word)) s.hif.applied p (s.rd Reg.HIF_PCFG p 0) } }, ?_, mget_mset_same .., mget_mset_same ..,
    rfl, rfl, rfl, rfl, rfl, rfl⟩
  show execPerstDeassert p s = _
  rw [execPerstDeassert, if_pos ⟨hp, ne_true_of_eq_false hlow⟩]

/-- A field set before other fields of its register keeps what it was set to. -/
theorem State.setFld_then_beside (f : Fld) (i v : Nat) (hf : f.lo ≤ f.hi) (hf' : f.hi < 32) (l : List (Fld × Nat))
    (hl : ∀ g ∈ l.map Prod.fst, g.Beside f) (s : State) :
    (l.foldl (fun u e => u.setFld e.1 i e.2) (s.setFld f i v)).fld f i = v % 2 ^ (f.hi + 1 - f.lo) ∧
    (l.foldl (fun u e => u.setFld e.1 i e.2) (s.setFld f i v)).hif = s.hif ∧
    State.RecordsIn (· = f.reg.addr i 0) s (l.foldl (fun u e => u.setFld e.1 i e.2) (s.setFld f i v)) := by
  have hrest (l : List (Fld × Nat)) (hl : ∀ g ∈ l.map Prod.fst, g.Beside f) (u : State) :
      (l.foldl (fun u e => u.setFld e.1 i e.2) u).fld f i = u.fld f i ∧
      (l.foldl (fun u e => u.setFld e.1 i e.2) u).hif = u.hif ∧
      State.RecordsIn (· = f.reg.addr i 0) u (l.foldl (fun u e => u.setFld e.1 i e.2) u) := by
    induction l generalizing u with
    | nil => exact ⟨rfl, rfl, .refl _ u⟩
    | cons e l ih =>
      obtain ⟨hreg, ⟨he, he'⟩, -, hdisjoint⟩ := hl e.1 List.mem_cons_self
      obtain ⟨hfld, hhif, hregs⟩ := ih (fun x hx => hl x (List.mem_cons_of_mem _ hx)) (u.setFld e.1 i e.2)
      exact ⟨hfld.trans (State.fld_setFld_beside u e.1 f i e.2 hreg he he' hdisjoint), hhif,
        (State.RecordsIn.setFld (P := (· = f.reg.addr i 0)) u e.2 (congrArg (fun r : Reg => r.addr i 0) hreg.symm)).trans hregs⟩
  obtain ⟨hfld, hhif, hregs⟩ := hrest l hl (s.setFld f i v)
  exact ⟨hfld.trans (State.fld_setFld_same s f i v hf hf'), hhif, (State.RecordsIn.setFld (P := (· = f.reg.addr i 0)) s v rfl).trans hregs⟩

/-- A link that the registers show as up. -/
theorem State.setLstat_up (s : State) {p l : Nat} (hl : l = 0 ∨ l = 1) (gen width flit : Nat) :
    (s.setLstat p l 1 gen width flit).linkIsUp p l = true ∧ (s.setLstat p l 1 gen width flit).hif = s.hif ∧
    State.RecordsIn (· = Reg.HIF_LSTAT.addr p 0) s (s.setLstat p l 1 gen width flit) := by
  rcases hl with rfl | rfl
  · obtain ⟨hup, hhif, hregs⟩ := State.setFld_then_beside Reg.HIF_LSTAT_L0_UP p 1 (by decide) (by decide)
      [(Reg.HIF_LSTAT_L0_GEN, gen), (Reg.HIF_LSTAT_L0_WIDTH, width), (Reg.HIF_LSTAT_L0_FLIT, flit)]
      (show ∀ g ∈ [Reg.HIF_LSTAT_L0_GEN, Reg.HIF_LSTAT_L0_WIDTH, Reg.HIF_LSTAT_L0_FLIT], g.Beside Reg.HIF_LSTAT_L0_UP by decide) s
    exact ⟨congrArg (· == 1) hup, hhif, hregs⟩
  · obtain ⟨hup, hhif, hregs⟩ := State.setFld_then_beside Reg.HIF_LSTAT_L1_UP p 1 (by decide) (by decide)
      [(Reg.HIF_LSTAT_L1_GEN, gen), (Reg.HIF_LSTAT_L1_WIDTH, width), (Reg.HIF_LSTAT_L1_FLIT, flit)]
      (show ∀ g ∈ [Reg.HIF_LSTAT_L1_GEN, Reg.HIF_LSTAT_L1_WIDTH, Reg.HIF_LSTAT_L1_FLIT], g.Beside Reg.HIF_LSTAT_L1_UP by decide) s
    exact ⟨congrArg (· == 1) hup, hhif, hregs⟩

theorem State.hasLink_cases {s : State} {p l : Nat} (h : s.hasLink p l = true) : p < 2 ∧ (l = 0 ∨ l = 1) := by
  simp only [State.hasLink, Bool.and_eq_true, Bool.or_eq_true, decide_eq_true_eq, beq_iff_eq] at h
  obtain ⟨hp, h | ⟨h, -⟩⟩ := h
  · exact ⟨hp, .inl h⟩
  · exact ⟨hp, .inr h⟩

@[simp] theorem State.ctrl_setCtrl_same (s : State) (p l : Nat) (c : Ctrl) : (s.setCtrl p l c).ctrl p l = c := mget_mset_same ..

theorem State.ctrl_ctrlReset (s : State) (p l : Nat) : (s.ctrlReset p l).ctrl p l = {} := State.ctrl_setCtrl_same ..

/-- A link may train: PERST is high, the port is enabled, and the link is down. -/
def State.mayTrain (s : State) (p l : Nat) : Prop :=
  s.hasLink p l = true ∧ mget (fun _ => false) s.hif.perstHigh p = true ∧ Reg.HIF_PCFG_EN.get (s.pcfg p) = 1 ∧
  s.linkIsUp p l = false ∧ s.hif.heldDown = false ∧ s.mode ≠ modeSealed

section
variable {s : State} {p l gen : Nat} (hawake : s.glb.dormant = false)
include hawake

theorem exec_hostLinkUp_trains (hmay : s.mayTrain p l) (hgen : 1 ≤ gen) {width : Nat} {flit : Bool}
    (hmax : gen ≤ Reg.HIF_PCFG_MAXGEN.get (s.pcfg p)) (hwidth : (s.linkWidths p).contains width = true)
    (hflit : flit = true ∨ gen ≠ 6) :
    exec (.hostLinkUp p l gen width flit) s =
      .next (if (s.setLstat p l 1 gen width (bit01 flit)).flag Reg.GLB_MODE_WIPING 0
        then s.setLstat p l 1 gen width (bit01 flit) else (s.setLstat p l 1 gen width (bit01 flit)).fpendSend p l) := by
  obtain ⟨hlink, hperst, hen, hdown, hheld, hmode⟩ := hmay
  have hmode' : (flit || gen != 6) = true := by rcases hflit with h | h <;> simp [h]
  show execHostLinkUp p l gen width flit s = _
  rw [execHostLinkUp, State.powered_awake _ _ hawake]
  simp only [hlink, hperst, hen, hdown, hheld, bne_iff_ne.2 hmode, hawake, hgen, hmax, hwidth, hmode', decide_true, beq_self_eq_true,
    Bool.not_false, Bool.and_self, if_true]

theorem exec_hostLinkUp_fast (hfast : Reg.HIF_PCFG_MAXGEN.get (s.pcfg p) < gen) (width : Nat) (flit : Bool) :
    exec (.hostLinkUp p l gen width flit) s = .next s := by
  show execHostLinkUp p l gen width flit s = _
  rw [execHostLinkUp, State.powered_awake _ _ hawake]
  simp [Nat.not_le.2 hfast]

/-! ## Resets and shutdown (R360, R361, R362) -/

section
variable (hlink : s.hasLink p l = true)
include hlink

theorem exec_hotReset_up (hup : s.linkIsUp p l = true) : exec (.hotReset p l) s = .next ((s.ctrlReset p l).psApply) := by
  show execHotReset p l s = _
  rw [execHotReset, State.powered_awake _ _ hawake, if_pos (by rw [hlink, hup]; rfl)]

theorem exec_functionLevelReset_up (hup : s.linkIsUp p l = true) :
    exec (.functionLevelReset p l) s = .next ((s.ctrlReset p l).psApply) := by
  show execFunctionLevelReset p l s = _
  rw [execFunctionLevelReset, State.powered_awake _ _ hawake, if_pos (by rw [hlink, hup]; rfl)]

theorem exec_controllerReset_on (hon : s.ctrlOn p l = true) :
    exec (.controllerReset p l) s = .next ((s.ctrlReset p l).psApply) := by
  show execControllerReset p l s = _
  rw [execControllerReset, State.powered_awake _ _ hawake, if_pos (by rw [hlink, hon]; rfl)]

theorem exec_shutdown_begins {shn : Nat} (hon : s.ctrlOn p l = true) (hshn : shn = 1 ∨ shn = 2) (hst : (s.ctrl p l).shst = 0) :
    exec (.shutdown p l shn) s = .next (s.setCtrl p l { s.ctrl p l with shst := 1 }) := by
  show execShutdown p l shn s = _
  rw [execShutdown, State.powered_awake _ _ hawake, if_pos (by rcases hshn with rfl | rfl <;> simp [hlink, hon, hst])]

theorem exec_shutdownComplete_eq (hst : (s.ctrl p l).shst = 1) : exec (.shutdownComplete p l) s =
    .next (if s.ctrlWrites p l then s else s.setCtrl p l { s.ctrl p l with shst := 2 }) := by
  show execShutdownComplete p l s = _
  rw [execShutdownComplete, State.powered_awake _ _ hawake]
  cases s.ctrlWrites p l <;> simp [hlink, hst]

/-! ## Doorbells and fetches (R367 to R369) -/

theorem exec_doorbellWrite_known {qid tail : Nat} {q : SubQ} (hup : s.linkIsUp p l = true)
    (hfind : (s.ctrl p l).subs.find? (fun q => q.qid == qid) = some q) (htail : tail < q.size) :
    exec (.doorbellWrite p l qid tail) s = .next (s.setCtrl p l { s.ctrl p l with
      en := true, subs := (s.ctrl p l).subs.map fun x => if x.qid = qid then { x with tail := tail } else x }).psApply := by
  show execDoorbellWrite p l qid tail s = _
  rw [execDoorbellWrite, State.powered_awake _ _ hawake, if_pos (by rw [hlink, hup]; rfl)]
  dsimp only
  rw [hfind]
  exact congrArg Host.Outcome.next (if_pos htail)

end

end

/-- A change of the queue that keeps its number is a change of what the number finds. -/
theorem find?_map_subs {l : List SubQ} {qid : Nat} {q : SubQ} (hfind : l.find? (fun q => q.qid == qid) = some q) (f : SubQ → SubQ)
    (hf : ∀ x, (f x).qid = x.qid) :
    (l.map fun x => if x.qid = qid then f x else x).find? (fun q => q.qid == qid) = some (f q) := by
  have hqid : q.qid = qid := by simpa using List.find?_some hfind
  have hpred : ((fun q : SubQ => q.qid == qid) ∘ fun x : SubQ => if x.qid = qid then f x else x) = fun q => q.qid == qid := by
    funext x
    simp only [Function.comp_apply]
    split
    · rw [hf]
    · rfl
  rw [List.find?_map, hpred, hfind, Option.map_some, if_pos hqid]

/-- The command that a fetch puts into a slot. -/
def State.fetchedCmd (s : State) (p l qid : Nat) (sqe : List Word) (prps : List Nat) : Cmd :=
  { link := l, qid := qid, cid := bitsOf (sqe.getD 0 0).toNat 31 16, sqe := sqe, prps := prps, seqno := s.hif.seqno
    tick := s.tick, through := fuaOf { s.ctrl p l with
      subs := (s.ctrl p l).subs.map (fun x => if x.qid = qid then { x with head := (x.head + 1) % x.size } else x)
      ps := if (s.ctrl p l).ps = 3 then (s.ctrl p l).opPs else (s.ctrl p l).ps } (qid == 0) sqe }

/-- The state that a fetch into slot `k` leaves, before the power state is applied. -/
def State.fetched (s : State) (p l qid k : Nat) (sqe : List Word) (prps : List Nat) : State :=
  let c := s.ctrl p l
  let u := (s.setCtrl p l { c with
    subs := c.subs.map (fun x => if x.qid = qid then { x with head := (x.head + 1) % x.size } else x)
    ps := if c.ps = 3 then c.opPs else c.ps }).setCmd p k (some (s.fetchedCmd p l qid sqe prps))
  { u with hif := { u.hif with seqno := u.hif.seqno + 1 } }.bump Reg.HIF_CNT_FETCH p 1

theorem State.fetched_spec (s : State) (p l qid k : Nat) (sqe : List Word) (prps : List Nat) :
    (s.fetched p l qid k sqe prps).cmd p k = some (s.fetchedCmd p l qid sqe prps) ∧
    (s.fetched p l qid k sqe prps).hif.seqno = s.hif.seqno + 1 ∧
    (s.fetched p l qid k sqe prps).rd Reg.HIF_CNT_FETCH p 0 = word ((s.rd Reg.HIF_CNT_FETCH p 0).toNat + 1) ∧
    s.SameRegs (s.fetched p l qid k sqe prps) [Reg.HIF_CNT_FETCH.addr p 0] ∧ s.SameBytes (s.fetched p l qid k sqe prps) := by
  refine ⟨mget_mset_same .., rfl, State.rd_bump_same .., fun a ha => ?_, rfl, rfl, rfl, rfl, rfl⟩
  exact (State.rdA_wr _ _ _ _ a _).trans (if_neg (by simpa using ha))

section
variable {s : State} {p l qid : Nat} {q : SubQ} (hawake : s.glb.dormant = false) (hlink : s.hasLink p l = true)
  (hon : s.ctrlOn p l = true) (hfind : (s.ctrl p l).subs.find? (fun q => q.qid == qid) = some q) (sqe : List Word)
  (prps : List Nat)
include hawake hlink hon hfind

theorem exec_commandFetch_empty (hempty : q.head = q.tail) : exec (.commandFetch p l qid sqe prps) s = .next s := by
  show execCommandFetch p l qid sqe prps s = _
  rw [execCommandFetch, State.powered_awake _ _ hawake]
  dsimp only
  rw [if_pos (by rw [hlink, hon]; rfl), hfind]
  exact congrArg Host.Outcome.next (if_pos hempty)

section
variable (hmore : q.head ≠ q.tail)
include hmore

theorem exec_commandFetch_full (hfree : s.freeCmdSlot p = none) :
    exec (.commandFetch p l qid sqe prps) s = .next (s.bump Reg.HIF_CNT_SLOTW p 1) := by
  show execCommandFetch p l qid sqe prps s = _
  rw [execCommandFetch, State.powered_awake _ _ hawake]
  dsimp only
  rw [if_pos (by rw [hlink, hon]; rfl), hfind]
  dsimp only
  rw [if_neg hmore, hfree]

theorem exec_commandFetch_free {k : Nat} (hfree : s.freeCmdSlot p = some k) :
    exec (.commandFetch p l qid sqe prps) s = .next ((s.fetched p l qid k sqe prps).psApply) := by
  show execCommandFetch p l qid sqe prps s = _
  rw [execCommandFetch, State.powered_awake _ _ hawake]
  dsimp only
  rw [if_pos (by rw [hlink, hon]; rfl), hfind]
  dsimp only
  rw [if_neg hmore, hfree]
  exact congrArg (fun u => Host.Outcome.next (State.psApply u)) rfl

end

end

/-! ## Fault messages (R386) -/

theorem exec_faultMessage_high {s : State} {src : Nat} (hawake : s.glb.dormant = false) (hsrc : s.hasSrc src = true)
    (hhigh : s.fltHigh src = true) : exec (.faultMessage src) s = .next (if s.hif.intr.contains src then s
      else { s with hif := { s.hif with intr := s.hif.intr ++ [src] } }.faultMsg src) := by
  show execFaultMessage src s = _
  rw [execFaultMessage, State.powered_awake _ _ hawake]
  cases hintr : s.hif.intr.contains src
  · rw [if_pos (by rw [hsrc, hhigh]; rfl), if_neg Bool.false_ne_true]
  · rw [if_neg (by simp), if_pos rfl]

/-- Settles O31: one lemma for each command. -/
theorem hostLinks : Obligations.HostLinks := by
  refine ⟨fun s p hp => exec_perstAssert_eq hp, fun s p hp hlow => exec_perstDeassert_low hp hlow,
    fun s p l gen width flit hawake hlink hperst hen hdown hheld hmode hgen =>
      ⟨fun hmax hwidth hflit => ?_, fun hfast => exec_hostLinkUp_fast hawake hfast width flit⟩,
    fun s p l i hawake hlink hi => ⟨?_, s.ctrl_ctrlReset p l⟩,
    fun s p l shn hawake hlink hon hshn hst => exec_shutdown_begins hawake hlink hon hshn hst,
    fun s p l hawake hlink hst => ?_, fun s p l qid tail q hawake hlink hup hfind htail => ?_,
    fun s p l qid sqe prps q hawake hlink hon hfind => ?_, fun s src hawake hsrc hhigh => ?_⟩
  · have hexec := exec_hostLinkUp_trains hawake ⟨hlink, hperst, hen, hdown, hheld, hmode⟩ hgen hmax hwidth hflit
    obtain ⟨hup, hhif, hregs⟩ := s.setLstat_up (State.hasLink_cases hlink).2 gen width (bit01 flit) (p := p)
    have hwiping : (s.setLstat p l 1 gen width (bit01 flit)).flag Reg.GLB_MODE_WIPING 0 = s.flag Reg.GLB_MODE_WIPING 0 := by
      refine congrArg (fun w => Reg.GLB_MODE_WIPING.get w == 1) (hregs.rdA_eq ?_)
      simp only [Reg.addr, Reg.GLB_MODE_WIPING, Reg.GLB_MODE, Reg.HIF_LSTAT]
      omega
    rw [hwiping] at hexec
    refine ⟨s.setLstat p l 1 gen width (bit01 flit), fun h => ?_, fun h => ?_, hup, fun a ha => hregs.rdA_eq (by simpa using ha),
      hhif, hregs.sameBytes⟩
    · rw [hexec, h, if_neg Bool.false_ne_true]
    · rw [hexec, h, if_pos rfl]
  · rcases hi with ⟨hi, hup⟩ | ⟨rfl, hon⟩
    · rcases List.mem_pair.1 hi with rfl | rfl
      · exact exec_hotReset_up hawake hlink hup
      · exact exec_functionLevelReset_up hawake hlink hup
    · exact exec_controllerReset_on hawake hlink hon
  · rw [exec_shutdownComplete_eq hawake hlink hst]
    exact ⟨fun h => by rw [h, if_pos rfl], fun h => by rw [h, if_neg Bool.false_ne_true]⟩
  · refine ⟨_, exec_doorbellWrite_known hawake hlink hup hfind htail, congrArg Ctrl.en (State.ctrl_setCtrl_same ..), ?_, rfl⟩
    rw [State.ctrl_setCtrl_same]
    exact find?_map_subs hfind (fun x => { x with tail := tail }) fun _ => rfl
  · refine ⟨exec_commandFetch_empty hawake hlink hon hfind sqe prps, exec_commandFetch_full hawake hlink hon hfind sqe prps,
      fun k hmore hfree => ?_⟩
    obtain ⟨hcmd, hseqno, hcount, hregs, hbytes⟩ := s.fetched_spec p l qid k sqe prps
    exact ⟨s.fetched p l qid k sqe prps, s.fetchedCmd p l qid sqe prps, exec_commandFetch_free hawake hlink hon hfind sqe prps hmore
      hfree, hcmd, rfl, rfl, rfl, rfl, rfl, rfl, rfl, hseqno, hcount, hregs, hbytes⟩
  · rw [exec_faultMessage_high hawake hsrc hhigh]
    exact ⟨fun h => by rw [h, if_pos rfl], fun h => by rw [h, if_neg Bool.false_ne_true]⟩

end Sys2Proof.Machine
end

section
/-!
PROOFS. Admin commands that return data, the idle policy and firmware (R365, R366, R376, R378, R381 to R383, R440).
-/

namespace Sys2Proof.Machine

section
variable {s : State} {p slot : Nat} {c : Cmd} (hawake : s.glb.dormant = false)

/-! ## Identify (R365, R366) -/

section
variable (hnew : s.newCmd p slot true [0x06] = some c)
include hawake hnew

theorem exec_identifyController_eq : exec (.identifyController p slot) s =
    .next (if bitsOf (c.cdw 10) 7 0 = 0 then s
      else if bitsOf (c.cdw 10) 7 0 = 1 then s.completeData p slot (s.identifyData p c.link)
      else s.complete p slot scField 0) := by
  show execIdentifyController p slot s = _
  rw [execIdentifyController, State.powered_awake _ _ hawake, State.onCmd_of_new hnew]

theorem exec_identifyNamespace_cns0 (hcns : bitsOf (c.cdw 10) 7 0 = 0) : exec (.identifyNamespace p slot) s =
    .next (if c.nsidField = 0 ∨ 128 < c.nsidField then s.complete p slot scBadNs 0
      else s.completeData p slot (if (s.nsd c.nsidField).valid then s.identifyNsData c.nsidField else List.replicate 4096 0)) := by
  show execIdentifyNamespace p slot s = _
  rw [execIdentifyNamespace, State.powered_awake _ _ hawake, State.onCmd_of_new hnew]
  dsimp only
  rw [if_neg (not_not.2 hcns)]

end

/-! ## Get Log Page (R381 to R383) -/

/-- The bytes that Get Log Page asks for. -/
def logPart (c : Cmd) (bs : List Byte) : List Byte :=
  (bs.drop (c.cdw 12 + c.cdw 13 * 2 ^ 32)).take ((bitsOf (c.cdw 10) 31 16 + bitsOf (c.cdw 11) 15 0 * 2 ^ 16 + 1) * 4)

section
variable (hnew : s.newCmd p slot true [0x02] = some c)
include hawake hnew

theorem exec_getLogPage_page {u : State} {bs : List Byte} (hpage : s.logPage (bitsOf (c.cdw 10) 7 0) = some (u, bs)) :
    exec (.getLogPage p slot) s = .next (u.completeData p slot (logPart c bs)) := by
  show execGetLogPage p slot s = _
  rw [execGetLogPage, State.powered_awake _ _ hawake, State.onCmd_of_new hnew, hpage]
  rfl

theorem exec_getLogPage_none (hpage : s.logPage (bitsOf (c.cdw 10) 7 0) = none) :
    exec (.getLogPage p slot) s = .next (s.complete p slot 0x109 0) := by
  show execGetLogPage p slot s = _
  rw [execGetLogPage, State.powered_awake _ _ hawake, State.onCmd_of_new hnew, hpage]

end

theorem State.logPage_hda (s : State) : s.logPage 0xC0 = some (s, s.hdaLog) := rfl
theorem State.logPage_error (s : State) : s.logPage 0xC1 = some (s, s.errLog) := rfl
theorem State.logPage_smart (s : State) : s.logPage 0x02 = some (s.fresh.2, s.fresh.2.smartLog s.fresh.1) := rfl

theorem State.logPage_none (s : State) {lid : Nat} (h : lid ∉ [0x01, 0x02, 0x03, 0x04, 0x05, 0x0C, 0xC0, 0xC1]) :
    s.logPage lid = none := by
  simp only [List.mem_cons, List.not_mem_nil, or_false, not_or] at h
  obtain ⟨h1, h2, h3, h4, h5, hC, hC0, hC1⟩ := h
  rw [State.logPage]
  dsimp only
  rw [if_neg hC0, if_neg hC1, if_neg hC, if_neg h2, if_neg h1, if_neg h3, if_neg (not_or.2 ⟨h4, h5⟩)]

/-! ## The idle policy (R378) -/

section
variable (hfeature : bitsOf (c.cdw 10) 7 0 = 0xC0)
include hawake hfeature

theorem exec_getIdlePolicy_eq (hnew : s.newCmd p slot true [0x0A] = some c) : exec (.getIdlePolicy p slot) s =
    .next (if s.nHda ≤ bitsOf (c.cdw 11) 7 0 then s.complete p slot scField 0
      else s.complete p slot scOk (s.idleWord (bitsOf (c.cdw 11) 7 0))) := by
  show execGetIdlePolicy p slot s = _
  rw [execGetIdlePolicy, State.powered_awake _ _ hawake, State.onCmd_of_new hnew]
  dsimp only
  rw [if_neg (not_not.2 hfeature)]

section
variable (hnew : s.newCmd p slot true [0x09] = some c)
include hnew

theorem exec_setIdlePolicy_refused (hbad : bitsOf (c.cdw 11) 14 8 < 32 ∨ 64 < bitsOf (c.cdw 11) 14 8 ∨
      timersRise (bitsOf (c.cdw 11) 18 16) (bitsOf (c.cdw 12) 15 0) (bitsOf (c.cdw 12) 31 16) (bitsOf (c.cdw 13) 15 0) = false ∨
      (s.nHda ≤ bitsOf (c.cdw 11) 7 0 ∧ bitsOf (c.cdw 11) 7 0 ≠ 0xFF)) :
    exec (.setIdlePolicy p slot) s = .next (s.complete p slot scField 0) := by
  show execSetIdlePolicy p slot s = _
  rw [execSetIdlePolicy, State.powered_awake _ _ hawake, State.onCmd_of_new hnew]
  dsimp only
  rw [if_neg (not_not.2 hfeature), if_pos]
  rcases hbad with h | h | h | ⟨h, hall⟩
  · exact .inr (.inr (.inr (.inl h)))
  · exact .inr (.inr (.inr (.inr (.inl h))))
  · exact .inr (.inr (.inr (.inr (.inr (.inr (ne_true_of_eq_false h))))))
  · exact .inr (.inr (.inr (.inr (.inr (.inl (not_or.2 ⟨Nat.not_lt.2 h, hall⟩))))))

theorem exec_setIdlePolicy_set (hreserved : bitsOf (c.cdw 11) 31 19 = 0) (hbit : bitOf (c.cdw 11) 15 = false)
    (hhigh : bitsOf (c.cdw 13) 31 16 = 0) (hlow : 32 ≤ bitsOf (c.cdw 11) 14 8) (hup : bitsOf (c.cdw 11) 14 8 ≤ 64)
    (hn : bitsOf (c.cdw 11) 7 0 < s.nHda) (hone : bitsOf (c.cdw 11) 7 0 ≠ 0xFF)
    (hrise : timersRise (bitsOf (c.cdw 11) 18 16) (bitsOf (c.cdw 12) 15 0) (bitsOf (c.cdw 12) 31 16) (bitsOf (c.cdw 13) 15 0) =
      true) :
    exec (.setIdlePolicy p slot) s = .next ((s.setIdle (bitsOf (c.cdw 11) 7 0) { s.idle (bitsOf (c.cdw 11) 7 0) with
      en := bitsOf (c.cdw 11) 18 16, slowK := bitsOf (c.cdw 11) 14 8, unloadT := bitsOf (c.cdw 12) 15 0
      slowT := bitsOf (c.cdw 12) 31 16, stopT := bitsOf (c.cdw 13) 15 0 }).complete p slot scOk 0) := by
  have hgood : ¬ (bitsOf (c.cdw 11) 31 19 ≠ 0 ∨ bitOf (c.cdw 11) 15 = true ∨ bitsOf (c.cdw 13) 31 16 ≠ 0 ∨
      bitsOf (c.cdw 11) 14 8 < 32 ∨ 64 < bitsOf (c.cdw 11) 14 8 ∨
      ¬ (bitsOf (c.cdw 11) 7 0 < s.nHda ∨ bitsOf (c.cdw 11) 7 0 = 0xFF) ∨
      ¬ timersRise (bitsOf (c.cdw 11) 18 16) (bitsOf (c.cdw 12) 15 0) (bitsOf (c.cdw 12) 31 16) (bitsOf (c.cdw 13) 15 0) = true) := by
    rintro (h | h | h | h | h | h | h)
    · exact h hreserved
    · exact Bool.false_ne_true (hbit.symm.trans h)
    · exact h hhigh
    · exact absurd h (Nat.not_lt.2 hlow)
    · exact absurd h (Nat.not_lt.2 hup)
    · exact h (.inl hn)
    · exact h hrise
  show execSetIdlePolicy p slot s = _
  rw [execSetIdlePolicy, State.powered_awake _ _ hawake, State.onCmd_of_new hnew]
  dsimp only
  rw [if_neg (not_not.2 hfeature), if_neg hgood, if_neg hone, List.foldl_cons, List.foldl_nil]

end

end

/-! ## Firmware (R365, R376, R440) -/

/-- The staging area with a part of an image. -/
def State.staged (s : State) (o n : Nat) (data : List Byte) : State :=
  { s with hif := { s.hif with fw := (s.hif.fw.filter fun e => e.1 < o || o + n ≤ e.1) ++
      ((List.range (min n data.length)).zip data).map fun e => (o + e.1, e.2) } }

/-- A staged part holds its bytes, and what was staged elsewhere stays. -/
theorem State.staged_spec (s : State) (o n : Nat) {data : List Byte} (hlen : data.length = n) :
    (∀ k < n, (o + k, data.getD k 0) ∈ (s.staged o n data).hif.fw) ∧
    ∀ e ∈ (s.staged o n data).hif.fw, (o ≤ e.1 ∧ e.1 < o + n) ∨ e ∈ s.hif.fw := by
  subst hlen
  refine ⟨fun k hk => List.mem_append_right _ (List.mem_map.2 ⟨(k, data.getD k 0), ?_, rfl⟩), fun e he => ?_⟩
  · rw [Nat.min_self, List.mem_iff_getElem]
    refine ⟨k, by simpa using hk, ?_⟩
    simp [hk]
  · rcases List.mem_append.1 he with he | he
    · exact .inr (List.mem_filter.1 he).1
    · obtain ⟨x, hx, rfl⟩ := List.mem_map.1 he
      have hx' := List.mem_range.1 (List.of_mem_zip (a := x.1) (b := x.2) hx).1
      rw [Nat.min_self] at hx'
      exact .inl ⟨Nat.le_add_right _ _, Nat.add_lt_add_left hx' o⟩

section
variable (hnew : s.newCmd p slot true [0x11] = some c) (data : List Byte)
include hawake hnew

theorem exec_firmwareDownload_eq : exec (.firmwareDownload p slot data) s =
    .next (if 0x01000000 < c.cdw 11 * 4 + (c.cdw 10 + 1) * 4 then s.complete p slot scField 0
      else (s.staged (c.cdw 11 * 4) ((c.cdw 10 + 1) * 4) data).complete p slot scOk 0) := by
  show execFirmwareDownload p slot data s = _
  rw [execFirmwareDownload, State.powered_awake _ _ hawake, State.onCmd_of_new hnew]
  rfl

end

section
variable (hnew : s.newCmd p slot true [0x10] = some c)
include hawake hnew

theorem exec_firmwareCommit_noSlot (hfs : 2 < bitsOf (c.cdw 10) 2 0) :
    exec (.firmwareCommit p slot) s = .next (s.complete p slot 0x106 0) := by
  show execFirmwareCommit p slot s = _
  rw [execFirmwareCommit, State.powered_awake _ _ hawake, State.onCmd_of_new hnew]
  exact congrArg Host.Outcome.next (if_pos hfs)

variable (hfs : bitsOf (c.cdw 10) 2 0 ≤ 2) (hca : bitsOf (c.cdw 10) 5 3 ≤ 3) (hwrites : bitsOf (c.cdw 10) 5 3 ≠ 2)
include hfs hca hwrites

theorem exec_firmwareCommit_nothing (hfw : s.hif.fw = []) :
    exec (.firmwareCommit p slot) s = .next (s.complete p slot 0x107 0) := by
  show execFirmwareCommit p slot s = _
  rw [execFirmwareCommit, State.powered_awake _ _ hawake, State.onCmd_of_new hnew]
  dsimp only
  rw [if_neg (Nat.not_lt.2 hfs), if_neg (Nat.not_lt.2 hca), if_pos ⟨hwrites, hfw⟩]

theorem exec_firmwareCommit_written (hfw : s.hif.fw ≠ []) {k : Nat}
    (hk : (if bitsOf (c.cdw 10) 2 0 = 0 then 1 - s.fld Reg.GLB_BOOT_SLOT 0 else bitsOf (c.cdw 10) 2 0 - 1) = k) {u y : State}
    (hu : u = s.hif.fw.foldl (fun u e => u.putFlash (flashSlot k + e.1) [e.2]) s)
    (hy : y = u.putFlash (flashSlot k + 12) (leBytes 4 (u.slotCommit (1 - k) + 1))) :
    exec (.firmwareCommit p slot) s = .next ({ y with hif := { y.hif with fw := [] } }.complete p slot scOk 0) := by
  show execFirmwareCommit p slot s = _
  rw [execFirmwareCommit, State.powered_awake _ _ hawake, State.onCmd_of_new hnew]
  dsimp only
  rw [if_neg (Nat.not_lt.2 hfs), if_neg (Nat.not_lt.2 hca), if_neg (fun h => hfw h.2), if_neg hwrites, hk, ← hu, ← hy]

end

end

/-- Settles O33: one lemma for each command, by the fields of its dwords. -/
theorem adminData : Obligations.AdminData := by
  refine ⟨fun s p slot c hawake hnew => ?_, fun s p slot c hawake hnew => ?_, fun s p slot c hawake hnew hfeature => ?_,
    fun s p slot c hawake hnew hfeature => ?_, fun s p slot c data hawake hnew => ?_, fun s p slot c hawake hnew => ?_⟩
  · rw [exec_identifyController_eq hawake hnew]
    refine ⟨fun h => by rw [if_neg (by omega), if_pos h], fun h => by rw [if_neg (by omega), if_neg (by omega)],
      fun hcns hns => ?_, fun hcns hlow hup hvalid => ?_, fun hcns hlow hup hvalid => ?_⟩
    · rw [exec_identifyNamespace_cns0 hawake hnew hcns, if_pos hns]
    · rw [exec_identifyNamespace_cns0 hawake hnew hcns, if_neg (by omega), hvalid, if_neg Bool.false_ne_true]
    · rw [exec_identifyNamespace_cns0 hawake hnew hcns, if_neg (by omega), hvalid, if_pos rfl]
  · refine ⟨fun hlid => ?_, fun hlid => ?_, fun hlid => ?_, fun hlid => ?_⟩
    · exact exec_getLogPage_page hawake hnew (by rw [hlid, State.logPage_hda])
    · exact exec_getLogPage_page hawake hnew (by rw [hlid, State.logPage_error])
    · exact exec_getLogPage_page hawake hnew (by rw [hlid, State.logPage_smart])
    · exact exec_getLogPage_none hawake hnew (s.logPage_none hlid)
  · rw [exec_getIdlePolicy_eq hawake hfeature hnew]
    exact ⟨fun h => by rw [if_neg (Nat.not_le.2 h), State.idleWord], fun h => by rw [if_pos h]⟩
  · exact ⟨exec_setIdlePolicy_refused hawake hfeature hnew, exec_setIdlePolicy_set hawake hfeature hnew⟩
  · rw [exec_firmwareDownload_eq hawake hnew]
    refine ⟨fun h => by rw [if_pos h], fun h hlen => ?_⟩
    obtain ⟨hnewBytes, hothers⟩ := s.staged_spec (c.cdw 11 * 4) ((c.cdw 10 + 1) * 4) hlen
    exact ⟨s.staged (c.cdw 11 * 4) ((c.cdw 10 + 1) * 4) data, by rw [if_neg (Nat.not_lt.2 h)], hnewBytes, hothers, rfl, rfl, rfl,
      rfl, rfl, rfl⟩
  · exact ⟨exec_firmwareCommit_noSlot hawake hnew, exec_firmwareCommit_nothing hawake hnew,
      fun hfs hca hwrites hfw => ⟨_, _, rfl, rfl, exec_firmwareCommit_written hawake hnew hfs hca hwrites hfw rfl rfl rfl⟩⟩

end Sys2Proof.Machine
end

section
/-!
PROOFS. The reference, holdover, the PLLs and the housekeeping clock (R417 to R425, R448).
-/

namespace Sys2Proof.Machine

/-! ## One bit of a field -/

/-- A bit of a field after it is set, when the field is put back. -/
theorem State.bitOf_setFld_setBit (s : State) (f : Fld) (n i : Nat) (b : Bool) (hf : f.lo ≤ f.hi) (hf' : f.hi < 32)
    (hi : i < f.hi + 1 - f.lo) (w : Nat) : bitOf ((s.setFld f n (setBit w i b)).fld f n) i = b := by
  rw [State.fld_setFld_same s f n _ hf hf', bitOf, Nat.testBit_mod_two_pow, decide_eq_true hi, Bool.true_and, setBit,
    testBit_putBits _ _ _ _ _ (Nat.le_succ i), if_pos ⟨le_rfl, le_rfl⟩, Nat.sub_self]
  cases b <;> rfl

/-- A field is as wide as its place. -/
theorem State.fld_lt (s : State) (f : Fld) (i : Nat) : s.fld f i < 2 ^ (f.hi + 1 - f.lo) := Nat.mod_lt _ (Nat.two_pow_pos _)

/-- A field moved to another state keeps its value. -/
theorem State.fld_setFld_fld (s t : State) (f : Fld) (i : Nat) (hf : f.lo ≤ f.hi) (hf' : f.hi < 32) :
    (t.setFld f i (s.fld f i)).fld f i = s.fld f i :=
  (State.fld_setFld_same t f i _ hf hf').trans (Nat.mod_eq_of_lt (s.fld_lt f i))

/-- The bits of a field lie in it. -/
theorem State.lt_of_bitOf_fld {s : State} {f : Fld} {n i : Nat} (h : bitOf (s.fld f n) i = true) : i < f.hi + 1 - f.lo := by
  by_contra hi
  have hzero : bitOf (s.fld f n) i = false :=
    Nat.testBit_lt_two_pow (Nat.lt_of_lt_of_le (s.fld_lt f n) (Nat.pow_le_pow_right (by decide) (Nat.le_of_not_lt hi)))
  rw [hzero] at h
  cases h

theorem State.fld_setFld_one (s : State) (f : Fld) (i : Nat) (hf : f.lo ≤ f.hi) (hf' : f.hi < 32) : (s.setFld f i 1).fld f i = 1 :=
  (State.fld_setFld_same s f i 1 hf hf').trans (Nat.one_mod_two_pow (by omega))

/-- What a command writes in one register. -/
theorem State.setFld_sameRegs (s : State) (f : Fld) (i v : Nat) : s.SameRegs (s.setFld f i v) [f.reg.addr i 0] :=
  fun _ hb => (State.RecordsIn.setFld (P := (· = f.reg.addr i 0)) s v rfl).rdA_eq fun h => hb (List.mem_singleton.2 h)

/-! ## The choice of the source (R417) -/

theorem State.refGood_setFld_ne (s : State) (f : Fld) (v src : Nat) (h : Reg.CLK_REF_STAT.addr 0 0 ≠ f.reg.addr 0 0) :
    (s.setFld f 0 v).refGood src = s.refGood src := congrArg (bitOf · src) (State.fld_setFld_ne s f Reg.CLK_REF_STAT_GOOD 0 0 v h)

section
variable {s : State} {v : Word} (hawake : s.glb.dormant = false)
include hawake

theorem exec_refSelect_good (hsrc : Reg.CLK_REF_CTRL_SEL.get v < 3) (hgood : s.refGood (Reg.CLK_REF_CTRL_SEL.get v) = true) :
    ∃ t : State, exec (.refSelect v) s = .next t ∧ t.fld Reg.CLK_REF_CTRL_SEL 0 = Reg.CLK_REF_CTRL_SEL.get v ∧
      t.fld Reg.CLK_REF_STAT_ACTIVE 0 = Reg.CLK_REF_CTRL_SEL.get v ∧
      t.fld Reg.CLK_REF_CTRL_AUTOSW 0 = Reg.CLK_REF_CTRL_AUTOSW.get v ∧
      s.SameRegs t [Reg.CLK_REF_CTRL.addr 0 0, Reg.CLK_REF_STAT.addr 0 0] ∧ s.SameBytes t := by
  have hlt : Reg.CLK_REF_CTRL_SEL.get v < 2 ^ 2 := by omega
  obtain ⟨hauto, hsel, hwrites⟩ := s.setFld_setFld_spec (f := Reg.CLK_REF_CTRL_AUTOSW) (g := Reg.CLK_REF_CTRL_SEL) (by decide) 0
    (v := Reg.CLK_REF_CTRL_AUTOSW.get v) (w := Reg.CLK_REF_CTRL_SEL.get v) (Nat.mod_lt _ (by decide)) hlt
  have hall : State.WritesIn (fun b => b = Reg.CLK_REF_CTRL.addr 0 0 ∨ b = Reg.CLK_REF_STAT.addr 0 0) s
      (((s.setFld Reg.CLK_REF_CTRL_AUTOSW 0 (Reg.CLK_REF_CTRL_AUTOSW.get v)).setFld Reg.CLK_REF_CTRL_SEL 0
        (Reg.CLK_REF_CTRL_SEL.get v)).refTo (Reg.CLK_REF_CTRL_SEL.get v)) :=
    (hwrites.mono fun _ => .inl).trans (.of_records (.setFld _ _ (.inr rfl)))
  refine ⟨_, ?_, ?_, ?_, ?_, hall.sameRegs_pair fun _ => id, hall.sameBytes⟩
  · show execRefSelect v s = _
    rw [execRefSelect, hawake, if_neg Bool.false_ne_true, State.refCtrlWrite]
    exact congrArg Host.Outcome.next (if_pos ⟨hsrc, (State.refGood_setFld_ne s _ _ _ (by decide)).trans hgood⟩)
  · exact (State.fld_setFld_ne _ _ _ _ _ _ (by decide)).trans hsel
  · exact (State.fld_setFld_same _ _ _ _ (by decide) (by decide)).trans (Nat.mod_eq_of_lt hlt)
  · exact (State.fld_setFld_ne _ _ _ _ _ _ (by decide)).trans hauto

theorem exec_refSelect_refused (hbad : 3 ≤ Reg.CLK_REF_CTRL_SEL.get v ∨ s.refGood (Reg.CLK_REF_CTRL_SEL.get v) = false) :
    ∃ t : State, exec (.refSelect v) s = .next t ∧ t.fld Reg.CLK_REF_STAT_SEL_REFUSED 0 = 1 ∧
      t.fld Reg.CLK_REF_STAT_ACTIVE 0 = s.fld Reg.CLK_REF_STAT_ACTIVE 0 ∧
      t.fld Reg.CLK_REF_CTRL_SEL 0 = s.fld Reg.CLK_REF_CTRL_SEL 0 ∧ s.SameBytes t := by
  obtain ⟨u, hu⟩ : ∃ u, u = s.setFld Reg.CLK_REF_CTRL_AUTOSW 0 (Reg.CLK_REF_CTRL_AUTOSW.get v) := ⟨_, rfl⟩
  have hgood : u.refGood = s.refGood := by
    subst hu
    exact funext fun src => State.refGood_setFld_ne s _ _ src (by decide)
  have hactive : u.fld Reg.CLK_REF_STAT_ACTIVE 0 = s.fld Reg.CLK_REF_STAT_ACTIVE 0 := by
    subst hu
    exact State.fld_setFld_ne s Reg.CLK_REF_CTRL_AUTOSW Reg.CLK_REF_STAT_ACTIVE 0 0 _ (by decide)
  have hsel : u.fld Reg.CLK_REF_CTRL_SEL 0 = s.fld Reg.CLK_REF_CTRL_SEL 0 := by
    subst hu
    exact State.fld_setFld_beside s Reg.CLK_REF_CTRL_AUTOSW Reg.CLK_REF_CTRL_SEL 0 _ rfl (by decide) (by decide) (by decide)
  have hbytes : s.SameBytes u := by
    subst hu
    exact s.setFld_sameBytes _ _ _
  refine ⟨u.setFld Reg.CLK_REF_STAT_SEL_REFUSED 0 1, ?_, u.fld_setFld_one Reg.CLK_REF_STAT_SEL_REFUSED 0 (by decide) (by decide),
    (State.fld_setFld_beside u Reg.CLK_REF_STAT_SEL_REFUSED Reg.CLK_REF_STAT_ACTIVE 0 1 rfl (by decide) (by decide) (by decide)).trans hactive,
    (State.fld_setFld_ne u Reg.CLK_REF_STAT_SEL_REFUSED Reg.CLK_REF_CTRL_SEL 0 0 1 (by decide)).trans hsel, hbytes.trans (u.setFld_sameBytes _ _ _)⟩
  show execRefSelect v s = _
  rw [execRefSelect, hawake, if_neg Bool.false_ne_true, State.refCtrlWrite, ← hu]
  refine congrArg Host.Outcome.next (if_neg fun h => ?_)
  obtain ⟨hlt, hsrc⟩ := h
  rw [hgood] at hsrc
  rcases hbad with hbad | hbad
  · omega
  · rw [hbad] at hsrc
    cases hsrc

end

/-! ## Loss and return of a source (R419, R420, R422, R423) -/

/-- After a holdover has begun, or in one, HOLD shows it. -/
theorem State.holdover_hold (s : State) : s.holdover.flag Reg.CLK_REF_STAT_HOLD 0 = true := by
  by_cases hhold : s.flag Reg.CLK_REF_STAT_HOLD 0 = true
  · rw [State.holdover, if_pos hhold, hhold]
  · rw [State.holdover, if_neg hhold]
    dsimp only
    generalize s.atticEvent 6 _ = u
    generalize u.fld Reg.CLK_PLL_STAT_LOCKED 0 - _ = w
    have hset : ((u.setFld Reg.CLK_REF_STAT_HOLD 0 1).setFld Reg.CLK_PLL_STAT_LOCKED 0 w).fld Reg.CLK_REF_STAT_HOLD 0 = 1 :=
      (State.fld_setFld_ne _ _ _ _ _ _ (by decide)).trans (u.fld_setFld_one _ _ (by decide) (by decide))
    refine beq_iff_eq.2 (Eq.trans ?_ hset)
    exact congrArg Reg.CLK_REF_STAT_HOLD.get (State.rd_wr_ne _ _ _ _ _ _ _ _ (by decide))

theorem State.refGood_setBit (s : State) {src : Nat} (hsrc : src < 3) (b : Bool) (w : Nat) :
    (s.setFld Reg.CLK_REF_STAT_GOOD 0 (setBit w src b)).refGood src = b :=
  s.bitOf_setFld_setBit Reg.CLK_REF_STAT_GOOD 0 src b (by decide) (by decide) hsrc w

/-- GOOD moved to another state. -/
theorem State.refGood_setFld_fld (s t : State) (src : Nat) :
    (t.setFld Reg.CLK_REF_STAT_GOOD 0 (s.fld Reg.CLK_REF_STAT_GOOD 0)).refGood src = s.refGood src :=
  congrArg (bitOf · src) (State.fld_setFld_fld s t Reg.CLK_REF_STAT_GOOD 0 (by decide) (by decide))

theorem State.hold_setGood (s : State) (w : Nat) :
    (s.setFld Reg.CLK_REF_STAT_GOOD 0 w).flag Reg.CLK_REF_STAT_HOLD 0 = s.flag Reg.CLK_REF_STAT_HOLD 0 :=
  congrArg (· == 1) (State.fld_setFld_beside s Reg.CLK_REF_STAT_GOOD Reg.CLK_REF_STAT_HOLD 0 w rfl (by decide) (by decide) (by decide))

section
variable {s : State} {src : Nat} (hawake : s.glb.dormant = false)
include hawake

theorem exec_refSourceFail_other (hsrc : src < 3) (hgood : s.refGood src = true)
    (hother : s.fld Reg.CLK_REF_STAT_ACTIVE 0 ≠ src) :
    ∃ t : State, exec (.refSourceFail src) s = .next t ∧ t.refGood src = false ∧
      t.fld Reg.CLK_REF_STAT_ACTIVE 0 = s.fld Reg.CLK_REF_STAT_ACTIVE 0 ∧
      s.SameRegs t [Reg.CLK_REF_STAT.addr 0 0] ∧ s.SameBytes t := by
  refine ⟨s.setFld Reg.CLK_REF_STAT_GOOD 0 (setBit (s.fld Reg.CLK_REF_STAT_GOOD 0) src false), ?_, s.refGood_setBit hsrc false _,
    State.fld_setFld_beside s Reg.CLK_REF_STAT_GOOD Reg.CLK_REF_STAT_ACTIVE 0 _ rfl (by decide) (by decide) (by decide),
    s.setFld_sameRegs _ _ _, s.setFld_sameBytes _ _ _⟩
  show execRefSourceFail src s = _
  rw [execRefSourceFail, if_neg (by simp [hawake, hsrc, hgood])]
  exact congrArg Host.Outcome.next (if_pos hother)

theorem exec_refSourceFail_active (hsrc : src < 3) (hgood : s.refGood src = true)
    (hactive : s.fld Reg.CLK_REF_STAT_ACTIVE 0 = src) :
    ∃ y : State, y.refGood src = false ∧ y.flag Reg.CLK_REF_STAT_HOLD 0 = true ∧
      (∀ k, y.nextRef src = some k → y.flag Reg.CLK_REF_CTRL_AUTOSW 0 = true →
        exec (.refSourceFail src) s = .next (y.refTo k)) ∧
      (∀ k, y.nextRef src = some k → y.flag Reg.CLK_REF_CTRL_AUTOSW 0 = false →
        exec (.refSourceFail src) s = .next y) ∧
      (y.nextRef src = none → exec (.refSourceFail src) s = .next y.holdAct) := by
  obtain ⟨x, hx⟩ : ∃ x, x = s.setFld Reg.CLK_REF_STAT_GOOD 0 (setBit (s.fld Reg.CLK_REF_STAT_GOOD 0) src false) := ⟨_, rfl⟩
  obtain ⟨y, hy⟩ : ∃ y, y = s.holdover.setFld Reg.CLK_REF_STAT_GOOD 0 (x.fld Reg.CLK_REF_STAT_GOOD 0) := ⟨_, rfl⟩
  have hbad : y.refGood src = false := by
    rw [hy, State.refGood_setFld_fld, hx, s.refGood_setBit hsrc false _]
  have hhold : y.flag Reg.CLK_REF_STAT_HOLD 0 = true := by
    rw [hy, State.hold_setGood, s.holdover_hold]
  have hexec : exec (.refSourceFail src) s = .next (match y.nextRef src with
      | some k => if y.flag Reg.CLK_REF_CTRL_AUTOSW 0 then y.refTo k else y
      | none => y.holdAct) := by
    show execRefSourceFail src s = _
    rw [execRefSourceFail, if_neg (by simp [hawake, hsrc, hgood]), ← hx]
    dsimp only
    rw [← hy]
    exact congrArg Host.Outcome.next (if_neg (not_not_intro hactive))
  refine ⟨y, hbad, hhold, fun k hnext hauto => ?_, fun k hnext hauto => ?_, fun hnext => ?_⟩
  · rw [hexec, hnext]
    exact congrArg Host.Outcome.next (if_pos hauto)
  · rw [hexec, hnext]
    exact congrArg Host.Outcome.next (if_neg (ne_true_of_eq_false hauto))
  · rw [hexec, hnext]

theorem exec_refSourceGood_eq (hsrc : src < 1 + s.nPeerPort) (hbad : s.refGood src = false)
    (hhold : s.flag Reg.CLK_REF_STAT_HOLD 0 = false) :
    ∃ t : State, exec (.refSourceGood src) s = .next t ∧ t.refGood src = true ∧
      s.SameRegs t [Reg.CLK_REF_STAT.addr 0 0] ∧ s.SameBytes t := by
  have hports : s.nPeerPort ≤ 2 := by
    unfold State.nPeerPort
    split <;> decide
  refine ⟨s.setFld Reg.CLK_REF_STAT_GOOD 0 (setBit (s.fld Reg.CLK_REF_STAT_GOOD 0) src true), ?_,
    s.refGood_setBit (by omega) true _, s.setFld_sameRegs _ _ _, s.setFld_sameBytes _ _ _⟩
  show execRefSourceGood src s = _
  rw [execRefSourceGood, if_neg (by simp [hawake, hsrc, hbad])]
  exact congrArg Host.Outcome.next (if_neg (by simp [State.hold_setGood, hhold]))

theorem exec_holdoverTimeout_eq (hhold : s.flag Reg.CLK_REF_STAT_HOLD 0 = true) :
    (s.clk.acted = false → exec .holdoverTimeout s = .next ({ s with clk := { s.clk with acted := true } }.raise srcCLK 0 0 false)) ∧
    (s.clk.acted = true → exec .holdoverTimeout s = .next s) := by
  have hexec : exec .holdoverTimeout s = .next s.holdAct := by
    show execHoldoverTimeout s = _
    rw [execHoldoverTimeout, hawake, if_neg Bool.false_ne_true]
  exact ⟨fun hacted => by rw [hexec, State.holdAct, if_pos (by simp [hhold, hacted])],
    fun hacted => by rw [hexec, State.holdAct, if_neg (by simp [hacted])]⟩

end

/-! ## The PLLs (R418, R420, R424) -/

theorem setBit_lt {w n i : Nat} (b : Bool) (hw : w < 2 ^ n) (hi : i < n) : setBit w i b < 2 ^ n := by
  refine Nat.lt_pow_two_of_testBit _ fun k hk => ?_
  rw [setBit, testBit_putBits _ _ _ _ _ (Nat.le_succ i), if_neg (by omega)]
  exact Nat.testBit_lt_two_pow (Nat.lt_of_lt_of_le hw (Nat.pow_le_pow_right (by decide) hk))

theorem State.locked_setBit (s : State) {i : Nat} (hi : i < 7) (b : Bool) :
    (s.setFld Reg.CLK_PLL_STAT_LOCKED 0 (setBit (s.fld Reg.CLK_PLL_STAT_LOCKED 0) i b)).fld Reg.CLK_PLL_STAT_LOCKED 0 =
      setBit (s.fld Reg.CLK_PLL_STAT_LOCKED 0) i b :=
  (State.fld_setFld_same s Reg.CLK_PLL_STAT_LOCKED 0 _ (by decide) (by decide)).trans
    (Nat.mod_eq_of_lt (setBit_lt b (s.fld_lt Reg.CLK_PLL_STAT_LOCKED 0) hi))

theorem State.hold_setLocked (s : State) (w : Nat) :
    (s.setFld Reg.CLK_PLL_STAT_LOCKED 0 w).flag Reg.CLK_REF_STAT_HOLD 0 = s.flag Reg.CLK_REF_STAT_HOLD 0 :=
  congrArg (· == 1) (State.fld_setFld_ne s Reg.CLK_PLL_STAT_LOCKED Reg.CLK_REF_STAT_HOLD 0 0 w (by decide))

section
variable {s : State} {i : Nat} (hawake : s.glb.dormant = false)
include hawake

section
variable (hpll : s.hasPll i = true) (hready : i = 5 ∨ i = 6 ∨ s.refGood (s.fld Reg.CLK_REF_STAT_ACTIVE 0) = true)
  (hopen : bitOf (s.fld Reg.CLK_PLL_STAT_LOCKED 0) i = false)
include hpll hready hopen

theorem exec_pllLock_steady (hhold : s.flag Reg.CLK_REF_STAT_HOLD 0 = false) :
    ∃ t : State, exec (.pllLock i) s = .next t ∧ bitOf (t.fld Reg.CLK_PLL_STAT_LOCKED 0) i = true ∧
      s.SameRegs t [Reg.CLK_PLL_STAT.addr 0 0] ∧ s.SameBytes t := by
  have hi : i < 7 := by
    simp only [State.hasPll, Bool.and_eq_true, decide_eq_true_eq] at hpll
    exact hpll.1
  refine ⟨s.setFld Reg.CLK_PLL_STAT_LOCKED 0 (setBit (s.fld Reg.CLK_PLL_STAT_LOCKED 0) i true), ?_,
    s.bitOf_setFld_setBit Reg.CLK_PLL_STAT_LOCKED 0 i true (by decide) (by decide) hi _, s.setFld_sameRegs _ _ _,
    s.setFld_sameBytes _ _ _⟩
  show execPllLock i s = _
  rw [execPllLock]
  dsimp only
  rw [if_neg (by simp [hawake, hpll, hready, hopen]), if_neg]
  rw [State.hold_setLocked, hhold]
  exact fun h => Bool.false_ne_true h.1

theorem exec_pllLock_last (hhold : s.flag Reg.CLK_REF_STAT_HOLD 0 = true)
    (hall : setBit (s.fld Reg.CLK_PLL_STAT_LOCKED 0) i true &&& (if s.jd16 then 0x1F else 0x0F) = (if s.jd16 then 0x1F else 0x0F)) :
    ∃ y : State, exec (.pllLock i) s = .next ((List.range y.nHda).foldl (fun u n => u.safeSettle n) y) ∧
      y.flag Reg.CLK_REF_STAT_HOLD 0 = false ∧ y.hif.heldDown = false ∧ bitOf (y.fld Reg.CLK_PLL_STAT_LOCKED 0) i = true := by
  have hi : i < 7 := by
    simp only [State.hasPll, Bool.and_eq_true, decide_eq_true_eq] at hpll
    exact hpll.1
  obtain ⟨x, hx⟩ : ∃ x, x = s.setFld Reg.CLK_PLL_STAT_LOCKED 0 (setBit (s.fld Reg.CLK_PLL_STAT_LOCKED 0) i true) := ⟨_, rfl⟩
  have hlocked : x.fld Reg.CLK_PLL_STAT_LOCKED 0 = setBit (s.fld Reg.CLK_PLL_STAT_LOCKED 0) i true := by rw [hx, s.locked_setBit hi]
  have hbit : bitOf (x.fld Reg.CLK_PLL_STAT_LOCKED 0) i = true := by
    rw [hx]
    exact s.bitOf_setFld_setBit Reg.CLK_PLL_STAT_LOCKED 0 i true (by decide) (by decide) hi _
  have hxhold : x.flag Reg.CLK_REF_STAT_HOLD 0 = true := by rw [hx, State.hold_setLocked, hhold]
  have hjd : x.jd16 = s.jd16 := by rw [hx]; rfl
  have hmask : x.fld Reg.CLK_PLL_STAT_LOCKED 0 &&& (if x.jd16 then refPlls else 0x0F) = (if x.jd16 then refPlls else 0x0F) := by
    rw [hlocked, hjd]
    exact hall
  have hnone : (x.setFld Reg.CLK_REF_STAT_HOLD 0 0).flag Reg.CLK_REF_STAT_HOLD 0 = false :=
    congrArg (· == 1) (State.fld_setFld_same x Reg.CLK_REF_STAT_HOLD 0 0 (by decide) (by decide))
  have hkept : (x.setFld Reg.CLK_REF_STAT_HOLD 0 0).fld Reg.CLK_PLL_STAT_LOCKED 0 = x.fld Reg.CLK_PLL_STAT_LOCKED 0 :=
    State.fld_setFld_ne x Reg.CLK_REF_STAT_HOLD Reg.CLK_PLL_STAT_LOCKED 0 0 0 (by decide)
  have hexec : exec (.pllLock i) s = .next ((List.range s.nHda).foldl (fun u n => u.safeSettle n)
      { x.setFld Reg.CLK_REF_STAT_HOLD 0 0 with hif := { x.hif with heldDown := false } }) := by
    show execPllLock i s = _
    rw [execPllLock]
    dsimp only
    rw [if_neg (by simp [hawake, hpll, hready, hopen]), ← hx, if_pos ⟨hxhold, hmask⟩]
    rw [hx]
    rfl
  refine ⟨{ x.setFld Reg.CLK_REF_STAT_HOLD 0 0 with hif := { x.hif with heldDown := false } }, ?_, hnone, rfl, ?_⟩
  · rw [hexec, hx]
    rfl
  · exact (congrArg (bitOf · i) hkept).trans hbit

end

theorem exec_pllLockLost_eq (hlocked : bitOf (s.fld Reg.CLK_PLL_STAT_LOCKED 0) i = true)
    (hhold : s.flag Reg.CLK_REF_STAT_HOLD 0 = false) :
    ∃ y : State, exec (.pllLockLost i) s = .next (y.raise srcCLK 1 0 false) ∧
      bitOf (y.fld Reg.CLK_PLL_STAT_LOCKED 0) i = false ∧ s.SameRegs y [Reg.CLK_PLL_STAT.addr 0 0] ∧ s.SameBytes y := by
  refine ⟨s.setFld Reg.CLK_PLL_STAT_LOCKED 0 (setBit (s.fld Reg.CLK_PLL_STAT_LOCKED 0) i false), ?_,
    s.bitOf_setFld_setBit Reg.CLK_PLL_STAT_LOCKED 0 i false (by decide) (by decide) (State.lt_of_bitOf_fld hlocked) _,
    s.setFld_sameRegs _ _ _, s.setFld_sameBytes _ _ _⟩
  show execPllLockLost i s = _
  rw [execPllLockLost]
  exact congrArg Host.Outcome.next (if_neg (by simp [hawake, hlocked, hhold]))

end

/-! ## Forced switches and the housekeeping clock (R421, R425) -/

/-- The reset of the REF domain leaves the power as it is. -/
theorem State.refReset_dormant (s : State) : s.refReset.glb.dormant = s.glb.dormant := by
  unfold State.refReset
  dsimp only
  split
  · rfl
  · rw [(State.atticEvent_records _ _ _).dormant_eq]
    rfl

theorem exec_forcedSwitch_ref {s : State} (hawake : s.glb.dormant = false) (hhold : s.flag Reg.CLK_REF_STAT_HOLD 0 = true)
    (hgood : s.refGood (s.fld Reg.CLK_REF_STAT_ACTIVE 0) = true) :
    exec (.forcedSwitch 0) s = .next (((s.setFld Reg.CLK_REF_STAT_FORCED 0 1).refReset).corrected srcCLK 2) := by
  show execForcedSwitch 0 s = _
  rw [execForcedSwitch, if_pos rfl, if_pos (by simp [hawake, hhold, hgood]), State.clkCorrected, State.refReset_dormant]
  exact congrArg Host.Outcome.next (if_neg (show ¬ s.glb.dormant = true from ne_true_of_eq_false hawake))

theorem exec_chainClockReturn_eq {s : State} (hinternal : s.flag Reg.CLK_HK_STAT_SRC 0 = false) :
    ∃ t : State, exec .chainClockReturn s = .next t ∧ t.fld Reg.CLK_HK_STAT_SRC 0 = 1 ∧ t.fld Reg.PRC_STAT_HK_SRC 0 = 1 ∧
      s.SameRegs t [Reg.CLK_HK_STAT.addr 0 0, Reg.PRC_STAT.addr 0 0] ∧ s.SameBytes t := by
  have hwrites : State.WritesIn (fun b => b = Reg.CLK_HK_STAT.addr 0 0 ∨ b = Reg.PRC_STAT.addr 0 0) s (s.hkTo 1) :=
    .of_records (.trans (.setFld s 1 (.inl rfl)) (.setFld _ 1 (.inr rfl)))
  refine ⟨s.hkTo 1, ?_, ?_, (s.setFld Reg.CLK_HK_STAT_SRC 0 1).fld_setFld_one Reg.PRC_STAT_HK_SRC 0 (by decide) (by decide),
    hwrites.sameRegs_pair fun _ => id, hwrites.sameBytes⟩
  · show execChainClockReturn s = _
    rw [execChainClockReturn, hinternal, if_neg Bool.false_ne_true]
  · exact (State.fld_setFld_ne _ Reg.PRC_STAT_HK_SRC Reg.CLK_HK_STAT_SRC 0 0 1 (by decide)).trans
      (s.fld_setFld_one Reg.CLK_HK_STAT_SRC 0 (by decide) (by decide))

/-- Settles O34: GOOD and LOCKED are read bit by bit after one bit is set, and HOLD beside them. -/
theorem referenceClocks : Obligations.ReferenceClocks := by
  unfold Obligations.ReferenceClocks
  refine ⟨fun s v hawake => ⟨exec_refSelect_good hawake, exec_refSelect_refused hawake⟩,
    fun s src hawake hsrc hgood => ⟨exec_refSourceFail_other hawake hsrc hgood, exec_refSourceFail_active hawake hsrc hgood⟩,
    fun s src hawake => exec_refSourceGood_eq hawake, fun s hawake => exec_holdoverTimeout_eq hawake,
    fun s i hawake hpll hready hopen => ⟨exec_pllLock_steady hawake hpll hready hopen, exec_pllLock_last hawake hpll hready hopen⟩,
    fun s i hawake => exec_pllLockLost_eq hawake, fun s hawake => exec_forcedSwitch_ref hawake, fun s i hi hchain => ?_,
    fun s => exec_chainClockReturn_eq⟩
  rcases List.mem_pair.1 hi with rfl | rfl
  · exact congrArg Host.Outcome.next ((if_neg (by decide)).trans (if_pos hchain))
  · exact congrArg Host.Outcome.next (if_pos hchain)

end Sys2Proof.Machine
end

section
/-!
PROOFS. Clock gating: refused, waiting, done and undone (R428 to R430, R448).
-/

namespace Sys2Proof.Machine

/-! ## What a gate looks at, beside CLK_GATE -/

theorem faultBase_page (src : Nat) : faultBase src % 0x1000 = 0 := by
  by_cases hsrc : src < 129
  · exact faultBase_mod_page src hsrc
  · rw [faultBase, if_neg (by omega), if_neg (by omega), if_neg (by omega), if_neg (by omega), if_neg (by omega), if_neg (by omega)]

section
variable {s t : State} (h : State.RecordsIn (· = Reg.CLK_GATE.addr 0 0) s t)
include h

theorem State.fenced_gate (src : Nat) : t.fenced src = s.fenced src := by
  refine congrArg (fun w => Reg.FLT_FENCE_FENCE.get w == 1) (h.rdA_eq fun ha => ?_)
  have hpage := faultBase_page src
  simp only [Fld.flt, Reg.flt, Reg.addr, Reg.FLT_FENCE_FENCE, Reg.FLT_FENCE, Reg.CLK_GATE] at ha
  omega

theorem State.decFenced_gate (d : Nat) : t.decFenced d = s.decFenced d := by
  refine congrArg (fun w : Word => bitOf w.toNat (d % 32)) (h.rdA_eq fun ha => ?_)
  simp only [Reg.addr, Reg.DEC_DFENCE, Reg.CLK_GATE] at ha
  omega

theorem State.engFenced_gate (e : Nat) : t.engFenced e = s.engFenced e := by
  refine congrArg (fun w : Word => bitOf w.toNat (e % 32)) (h.rdA_eq fun ha => ?_)
  simp only [Reg.addr, Reg.CPH_EFENCE, Reg.CLK_GATE] at ha
  omega

theorem State.seqState_gate (q : Nat) : t.seqState q = s.seqState q := by
  refine congrArg Reg.SEQ_STAT_STATE.get (h.rdA_eq fun ha => ?_)
  simp only [Reg.addr, Reg.SEQ_STAT_STATE, Reg.SEQ_STAT, Reg.CLK_GATE] at ha
  omega

theorem State.gateUnit_gate (ty i : Nat) : t.gateUnit ty i = s.gateUnit ty i := by
  obtain ⟨⟨q, x, r, rfl⟩, -⟩ := h
  rfl

theorem State.gateMay_gate (ty i : Nat) : t.gateMay ty i = s.gateMay ty i := by
  simp only [State.gateMay, State.fenced_gate h, State.decFenced_gate h, State.engFenced_gate h, State.seqState_gate h]

theorem State.gateBusy_gate (ty i : Nat) : t.gateBusy ty i = s.gateBusy ty i := by
  obtain ⟨⟨q, x, r, rfl⟩, -⟩ := h
  rfl

theorem State.clk_gate : t.clk = s.clk := by
  obtain ⟨⟨q, x, r, rfl⟩, -⟩ := h
  rfl

end

/-! ## The end of a gate operation -/

@[simp] theorem State.fld_withClk (s : State) (c : ClkS) (f : Fld) (i : Nat) : ({ s with clk := c } : State).fld f i = s.fld f i := rfl

theorem State.withClk_writes (P : Nat → Prop) (s : State) (c : ClkS) : State.WritesIn P s { s with clk := c } :=
  ⟨⟨rfl, rfl, rfl, rfl, rfl⟩, fun _ _ => rfl⟩

/-- An operation that has ended shows its result, and GO clear; nothing waits any more. -/
theorem State.gateEnd_spec (s : State) {r : Nat} (hr : r < 8) :
    (s.gateEnd r).fld Reg.CLK_GATE_RESULT 0 = r ∧ (s.gateEnd r).fld Reg.CLK_GATE_GO 0 = 0 ∧
    (s.gateEnd r).clk = { s.clk with gateWait := none } ∧ State.WritesIn (· = Reg.CLK_GATE.addr 0 0) s (s.gateEnd r) := by
  obtain ⟨hresult, hgo, hwrites⟩ := s.setFld_setFld_spec (f := Reg.CLK_GATE_RESULT) (g := Reg.CLK_GATE_GO) (by decide) 0
    (v := r) (w := 0) hr (by decide)
  exact ⟨(State.fld_withClk _ _ _ _).trans hresult, (State.fld_withClk _ _ _ _).trans hgo, rfl,
    hwrites.trans (State.withClk_writes _ _ _)⟩

theorem State.gateEnd_clk_of_none_waiting {s : State} (r : Nat) (h : s.clk.gateWait = none) : (s.gateEnd r).clk = s.clk := by
  show { s.clk with gateWait := none } = s.clk
  rw [← h]

/-- A clock that stops with no request held: the operation ends GATED. -/
theorem State.gateOn_spec {s : State} (hheld : s.clk.held = []) (u : Nat × Nat) :
    (s.gateOn u).fld Reg.CLK_GATE_RESULT 0 = 1 ∧ (s.gateOn u).fld Reg.CLK_GATE_GO 0 = 0 ∧
    (s.gateOn u).clk.gateWait = none ∧ (s.gateOn u).clk.held = [] ∧ (s.gateOn u).clk.gated.contains u = true ∧
    State.WritesIn (· = Reg.CLK_GATE.addr 0 0) s (s.gateOn u) := by
  obtain ⟨x, hx⟩ : ∃ x : State, x = { s with clk := { s.clk with gated := s.clk.gated.filter (· != u) ++ [u], held := [] } } :=
    ⟨_, rfl⟩
  have hon : s.gateOn u = x.gateEnd 1 := by
    rw [State.gateOn, hheld, hx]
    rfl
  have hsame : State.WritesIn (· = Reg.CLK_GATE.addr 0 0) s x := by
    rw [hx]
    exact State.withClk_writes _ s _
  obtain ⟨hresult, hgo, hclk, hwrites⟩ := x.gateEnd_spec (r := 1) (by decide)
  rw [hon, hclk, hx]
  rw [hx] at hresult hgo
  refine ⟨hresult, hgo, rfl, rfl, by simp, ?_⟩
  rw [hx] at hwrites hsame
  exact hsame.trans hwrites

/-! ## The write of CLK_GATE -/

theorem exec_clockGate_write {s : State} {v : Word} (hawake : s.glb.dormant = false) (hgo : Reg.CLK_GATE_GO.get v = 1)
    (hop : Reg.CLK_GATE_OP.get v = 0) : exec (.clockGate v) s = .next (s.gateWrite v).heldGo := by
  show execClockGate v s = _
  rw [execClockGate, if_pos ⟨ne_true_of_eq_false hawake, hgo, hop⟩]

theorem exec_clockUngate_write {s : State} {v : Word} (hawake : s.glb.dormant = false) (hgo : Reg.CLK_GATE_GO.get v = 1)
    (hop : Reg.CLK_GATE_OP.get v = 1) : exec (.clockUngate v) s = .next (s.gateWrite v) := by
  show execClockUngate v s = _
  rw [execClockUngate, if_pos ⟨ne_true_of_eq_false hawake, hgo, hop⟩]

section
variable {s : State} {v : Word} (hwait : s.clk.gateWait = none) (hgo : Reg.CLK_GATE_GO.get v = 1)
include hwait hgo

/-- The checks of a request, in the state that its word has been stored in. -/
theorem State.gateWrite_eq : s.gateWrite v =
    (let u := s.store Reg.CLK_GATE 0 0 v
     let ty := Reg.CLK_GATE_TYPE.get v
     let i := Reg.CLK_GATE_INDEX.get v
     if s.gateUnit ty i = false then u.gateEnd 5
     else if Reg.CLK_GATE_OP.get v = 1 then
       { u with clk := { u.clk with gated := u.clk.gated.filter (· != (ty, i)) } }.gateEnd 2
     else if s.clk.gated.contains (ty, i) then u.gateEnd 1
     else if s.gateMay ty i = false then u.gateEnd 4
     else
       let y := (u.setFld Reg.CLK_GATE_GO 0 1).setFld Reg.CLK_GATE_RESULT 0 0
       { y with clk := { y.clk with gateWait := some (ty, i) } }.gateSettle) := by
  have hstored := s.store_records Reg.CLK_GATE 0 0 v
  rw [State.gateWrite, if_neg (by simp [hwait])]
  dsimp only
  rw [if_neg (by omega), State.gateUnit_gate hstored, State.gateMay_gate hstored, State.clk_gate hstored]
  simp only [Bool.not_eq_true]

section
variable (hawake : s.glb.dormant = false) (hheld : s.clk.held = [])
include hawake hheld

/-- A request that is refused at once. -/
theorem exec_clockGate_ended {r : Nat} (hr : r < 8) (hop : Reg.CLK_GATE_OP.get v = 0)
    (hend : s.gateWrite v = (s.store Reg.CLK_GATE 0 0 v).gateEnd r) :
    ∃ t : State, exec (.clockGate v) s = .next t ∧ t.fld Reg.CLK_GATE_RESULT 0 = r ∧ t.fld Reg.CLK_GATE_GO 0 = 0 ∧
      t.clk = s.clk ∧ s.SameRegs t [Reg.CLK_GATE.addr 0 0] ∧ s.SameBytes t := by
  have hstored := s.store_records Reg.CLK_GATE 0 0 v
  have hclk := State.clk_gate hstored
  obtain ⟨hresult, hgo', -, hwrites⟩ := (s.store Reg.CLK_GATE 0 0 v).gateEnd_spec hr
  have hsame : ((s.store Reg.CLK_GATE 0 0 v).gateEnd r).clk = s.clk :=
    (State.gateEnd_clk_of_none_waiting r (by rw [hclk, hwait])).trans hclk
  have hall := (State.WritesIn.of_records hstored).trans hwrites
  refine ⟨(s.store Reg.CLK_GATE 0 0 v).gateEnd r, ?_, hresult, hgo', hsame, hall.sameRegs, hall.sameBytes⟩
  rw [exec_clockGate_write hawake hgo hop, hend, State.heldGo_of_none_held (by rw [hsame, hwait]) (by rw [hsame, hheld])]

theorem exec_clockGate_missing (hop : Reg.CLK_GATE_OP.get v = 0)
    (hunit : s.gateUnit (Reg.CLK_GATE_TYPE.get v) (Reg.CLK_GATE_INDEX.get v) = false) :
    ∃ t : State, exec (.clockGate v) s = .next t ∧ t.fld Reg.CLK_GATE_RESULT 0 = 5 ∧ t.fld Reg.CLK_GATE_GO 0 = 0 ∧
      t.clk = s.clk ∧ s.SameRegs t [Reg.CLK_GATE.addr 0 0] ∧ s.SameBytes t := by
  refine exec_clockGate_ended hwait hgo hawake hheld (by decide) hop ?_
  rw [State.gateWrite_eq hwait hgo]
  exact if_pos hunit

section
variable (hop : Reg.CLK_GATE_OP.get v = 0)
  (hunit : s.gateUnit (Reg.CLK_GATE_TYPE.get v) (Reg.CLK_GATE_INDEX.get v) = true)
  (hnew : s.clk.gated.contains (Reg.CLK_GATE_TYPE.get v, Reg.CLK_GATE_INDEX.get v) = false)
include hop hunit hnew

theorem exec_clockGate_unfenced (hmay : s.gateMay (Reg.CLK_GATE_TYPE.get v) (Reg.CLK_GATE_INDEX.get v) = false) :
    ∃ t : State, exec (.clockGate v) s = .next t ∧ t.fld Reg.CLK_GATE_RESULT 0 = 4 ∧ t.fld Reg.CLK_GATE_GO 0 = 0 ∧
      t.clk = s.clk ∧ s.SameRegs t [Reg.CLK_GATE.addr 0 0] ∧ s.SameBytes t := by
  refine exec_clockGate_ended hwait hgo hawake hheld (by decide) hop ?_
  rw [State.gateWrite_eq hwait hgo]
  dsimp only
  rw [if_neg (by simp [hunit]), if_neg (by omega), if_neg (by rw [hnew]; decide), if_pos hmay]

omit hawake hheld in
/-- A request that passes its checks waits, for the unit to be idle. -/
theorem State.gateWrite_waits (hmay : s.gateMay (Reg.CLK_GATE_TYPE.get v) (Reg.CLK_GATE_INDEX.get v) = true) :
    ∃ y : State, s.gateWrite v = y.gateSettle ∧ y.fld Reg.CLK_GATE_RESULT 0 = 0 ∧ y.fld Reg.CLK_GATE_GO 0 = 1 ∧
      y.clk = { s.clk with gateWait := some (Reg.CLK_GATE_TYPE.get v, Reg.CLK_GATE_INDEX.get v) } ∧
      (∀ ty i, y.gateMay ty i = s.gateMay ty i) ∧ (∀ ty i, y.gateBusy ty i = s.gateBusy ty i) ∧
      State.WritesIn (· = Reg.CLK_GATE.addr 0 0) s y := by
  have hstored := s.store_records Reg.CLK_GATE 0 0 v
  obtain ⟨y, hy⟩ : ∃ y, y = ((s.store Reg.CLK_GATE 0 0 v).setFld Reg.CLK_GATE_GO 0 1).setFld Reg.CLK_GATE_RESULT 0 0 := ⟨_, rfl⟩
  have hrec : State.RecordsIn (· = Reg.CLK_GATE.addr 0 0) s y := by
    rw [hy]
    exact hstored.trans ((State.RecordsIn.setFld (P := (· = Reg.CLK_GATE.addr 0 0)) _ 1 rfl).trans
      (State.RecordsIn.setFld (P := (· = Reg.CLK_GATE.addr 0 0)) _ 0 rfl))
  obtain ⟨hgo', hresult, -⟩ := (s.store Reg.CLK_GATE 0 0 v).setFld_setFld_spec (f := Reg.CLK_GATE_GO) (g := Reg.CLK_GATE_RESULT)
    (by decide) 0 (v := 1) (w := 0) (by decide) (by decide)
  rw [← hy] at hgo' hresult
  refine ⟨{ y with clk := { y.clk with gateWait := some (Reg.CLK_GATE_TYPE.get v, Reg.CLK_GATE_INDEX.get v) } }, ?_, hresult, hgo', ?_,
    fun ty i => State.gateMay_gate hrec ty i, fun ty i => State.gateBusy_gate hrec ty i, (State.WritesIn.of_records hrec).trans (State.withClk_writes _ y _)⟩
  · rw [State.gateWrite_eq hwait hgo]
    dsimp only
    rw [if_neg (by simp [hunit]), if_neg (by omega), if_neg (by rw [hnew]; decide), if_neg (by simp [hmay]), ← hy]
  · rw [← State.clk_gate hrec]

section
variable (hmay : s.gateMay (Reg.CLK_GATE_TYPE.get v) (Reg.CLK_GATE_INDEX.get v) = true)
include hmay

theorem exec_clockGate_idle (hidle : s.gateBusy (Reg.CLK_GATE_TYPE.get v) (Reg.CLK_GATE_INDEX.get v) = false) :
    ∃ t : State, exec (.clockGate v) s = .next t ∧ t.fld Reg.CLK_GATE_RESULT 0 = 1 ∧ t.fld Reg.CLK_GATE_GO 0 = 0 ∧
      t.clk.gated.contains (Reg.CLK_GATE_TYPE.get v, Reg.CLK_GATE_INDEX.get v) = true ∧
      s.SameRegs t [Reg.CLK_GATE.addr 0 0] ∧ s.SameBytes t := by
  obtain ⟨y, hwrite, -, -, hclk, hmay', hbusy', hy⟩ := State.gateWrite_waits hwait hgo hop hunit hnew hmay
  obtain ⟨hresult, hgo', hnone, hnil, hgated, hon⟩ := State.gateOn_spec (s := y) (by rw [hclk]; exact hheld)
    (Reg.CLK_GATE_TYPE.get v, Reg.CLK_GATE_INDEX.get v)
  have hall := hy.trans hon
  refine ⟨_, ?_, hresult, hgo', hgated, hall.sameRegs, hall.sameBytes⟩
  rw [exec_clockGate_write hawake hgo hop, hwrite, State.gateSettle, hclk]
  dsimp only
  rw [hmay', hmay, hbusy', hidle, if_neg (by decide), if_neg (by decide), State.heldGo_of_none_held hnone hnil]

omit hheld in
theorem exec_clockGate_busy (hbusy : s.gateBusy (Reg.CLK_GATE_TYPE.get v) (Reg.CLK_GATE_INDEX.get v) = true) :
    ∃ t : State, exec (.clockGate v) s = .next t ∧ t.fld Reg.CLK_GATE_RESULT 0 = 0 ∧ t.fld Reg.CLK_GATE_GO 0 = 1 ∧
      t.clk.gateWait = some (Reg.CLK_GATE_TYPE.get v, Reg.CLK_GATE_INDEX.get v) ∧ t.clk.gated = s.clk.gated ∧
      s.SameRegs t [Reg.CLK_GATE.addr 0 0] ∧ s.SameBytes t := by
  obtain ⟨y, hwrite, hresult, hgo', hclk, hmay', hbusy', hy⟩ := State.gateWrite_waits hwait hgo hop hunit hnew hmay
  refine ⟨y, ?_, hresult, hgo', by rw [hclk], by rw [hclk], hy.sameRegs, hy.sameBytes⟩
  rw [exec_clockGate_write hawake hgo hop, hwrite, State.gateSettle, hclk]
  dsimp only
  rw [hmay', hmay, hbusy', hbusy, if_neg (by decide), if_pos rfl, State.heldGo, hclk]
  exact congrArg Host.Outcome.next (if_pos rfl)

end
end
end

theorem exec_clockUngate_eq (hawake : s.glb.dormant = false) (hop : Reg.CLK_GATE_OP.get v = 1)
    (hunit : s.gateUnit (Reg.CLK_GATE_TYPE.get v) (Reg.CLK_GATE_INDEX.get v) = true) :
    ∃ t : State, exec (.clockUngate v) s = .next t ∧ t.fld Reg.CLK_GATE_RESULT 0 = 2 ∧ t.fld Reg.CLK_GATE_GO 0 = 0 ∧
      t.clk.gated.contains (Reg.CLK_GATE_TYPE.get v, Reg.CLK_GATE_INDEX.get v) = false ∧
      (∀ u, u ≠ (Reg.CLK_GATE_TYPE.get v, Reg.CLK_GATE_INDEX.get v) → t.clk.gated.contains u = s.clk.gated.contains u) ∧
      s.SameRegs t [Reg.CLK_GATE.addr 0 0] ∧ s.SameBytes t := by
  have hstored := s.store_records Reg.CLK_GATE 0 0 v
  obtain ⟨x, hx⟩ : ∃ x : State, x = { s.store Reg.CLK_GATE 0 0 v with clk := { (s.store Reg.CLK_GATE 0 0 v).clk with
      gated := (s.store Reg.CLK_GATE 0 0 v).clk.gated.filter (· != (Reg.CLK_GATE_TYPE.get v, Reg.CLK_GATE_INDEX.get v)) } } :=
    ⟨_, rfl⟩
  have hgated : x.clk.gated = s.clk.gated.filter (· != (Reg.CLK_GATE_TYPE.get v, Reg.CLK_GATE_INDEX.get v)) := by
    rw [hx, ← State.clk_gate hstored]
  have hxs : State.WritesIn (· = Reg.CLK_GATE.addr 0 0) s x := by
    rw [hx]
    exact (State.WritesIn.of_records hstored).trans (State.withClk_writes _ _ _)
  obtain ⟨hresult, hgo', hclk, hwrites⟩ := x.gateEnd_spec (r := 2) (by decide)
  have hend : (x.gateEnd 2).clk.gated = s.clk.gated.filter (· != (Reg.CLK_GATE_TYPE.get v, Reg.CLK_GATE_INDEX.get v)) := by
    rw [hclk]
    exact hgated
  have hall := hxs.trans hwrites
  refine ⟨x.gateEnd 2, ?_, hresult, hgo', ?_, fun u hu => ?_, hall.sameRegs, hall.sameBytes⟩
  · rw [exec_clockUngate_write hawake hgo hop, State.gateWrite_eq hwait hgo]
    dsimp only
    rw [if_neg (by simp [hunit]), if_pos hop, hx]
  · rw [hend]
    simp
  · rw [hend, List.contains_eq_mem, List.contains_eq_mem]
    simp [hu]

end

/-! ## The time-out (R13, R429) -/

section
variable {s : State} {u : Nat × Nat} (hwait : s.clk.gateWait = some u) (hheld : s.clk.held = [])
  (hmay : s.gateMay u.1 u.2 = true)
include hwait hheld hmay

theorem exec_gateIdleTimeout_busy (hbusy : s.gateBusy u.1 u.2 = true) :
    ∃ t : State, exec .gateIdleTimeout s = .next t ∧ t.fld Reg.CLK_GATE_RESULT 0 = 3 ∧ t.fld Reg.CLK_GATE_GO 0 = 0 ∧
      t.clk.gateWait = none ∧ t.clk.gated = s.clk.gated ∧ s.SameRegs t [Reg.CLK_GATE.addr 0 0] ∧ s.SameBytes t := by
  obtain ⟨hresult, hgo, hclk, hwrites⟩ := s.gateEnd_spec (r := 3) (by decide)
  refine ⟨s.gateEnd 3, ?_, hresult, hgo, by rw [hclk], by rw [hclk], hwrites.sameRegs, hwrites.sameBytes⟩
  show execGateIdleTimeout s = _
  rw [execGateIdleTimeout, hwait]
  dsimp only
  rw [if_pos ⟨hmay, hbusy⟩, State.heldGo_of_none_held (by rw [hclk]) (by rw [hclk]; exact hheld)]

theorem exec_gateIdleTimeout_idle (hidle : s.gateBusy u.1 u.2 = false) :
    ∃ t : State, exec .gateIdleTimeout s = .next t ∧ t.fld Reg.CLK_GATE_RESULT 0 = 1 ∧ t.clk.gateWait = none ∧
      t.clk.gated.contains u = true ∧ s.SameRegs t [Reg.CLK_GATE.addr 0 0] ∧ s.SameBytes t := by
  obtain ⟨hresult, -, hnone, hnil, hgated, hwrites⟩ := State.gateOn_spec hheld u
  refine ⟨s.gateOn u, ?_, hresult, hnone, hgated, hwrites.sameRegs, hwrites.sameBytes⟩
  show execGateIdleTimeout s = _
  rw [execGateIdleTimeout, hwait]
  dsimp only
  rw [if_neg (by simp [hidle]), State.gateSettle, hwait]
  dsimp only
  rw [hmay, hidle, if_neg (by decide), if_neg (by decide), State.heldGo_of_none_held hnone hnil]

end

/-- Settles O35: the store of CLK_GATE changes nothing that a gate looks at, and with nothing held the clock stops at once. -/
theorem clockGating : Obligations.ClockGating := by
  unfold Obligations.ClockGating
  refine ⟨fun s v hawake hwait hheld hgo => ⟨fun hop => ⟨exec_clockGate_missing hwait hgo hawake hheld hop,
      exec_clockGate_unfenced hwait hgo hawake hheld hop, exec_clockGate_idle hwait hgo hawake hheld hop,
      exec_clockGate_busy hwait hgo hawake hop⟩, exec_clockUngate_eq hwait hgo hawake⟩,
    fun s u hwait hheld hmay => ⟨exec_gateIdleTimeout_busy hwait hheld hmay, exec_gateIdleTimeout_idle hwait hheld hmay⟩⟩

end Sys2Proof.Machine
end

section
/-!
PROOFS. The service chain (R431, R450 to R455, R473, R533).
-/

namespace Sys2Proof.Machine

/-! ## What the chain's own state leaves alone -/

theorem State.withChain_writes (P : Nat → Prop) (s : State) (c : ChainS) : State.WritesIn P s { s with chain := c } :=
  ⟨⟨rfl, rfl, rfl, rfl, rfl⟩, fun _ _ => rfl⟩

theorem State.chainOut_writes (P : Nat → Prop) (s : State) (f : ChainFrame) : State.WritesIn P s (s.chainOut f) :=
  s.withChain_writes P _

@[simp] theorem State.fld_chainOut (s : State) (f : ChainFrame) (g : Fld) (i : Nat) : (s.chainOut f).fld g i = s.fld g i := rfl

@[simp] theorem State.chainMine_chainOut (s : State) (f g : ChainFrame) : (s.chainOut f).chainMine g = s.chainMine g := rfl

theorem State.bump_writes (s : State) (r : Reg) (i n : Nat) : State.WritesIn (· = r.addr i 0) s (s.bump r i n) :=
  .of_records (State.RecordsIn.wr (P := (· = r.addr i 0)) s _ rfl)

/-! ## Frames that are not acted on (R452, R473) -/

section
variable {s : State} {f : ChainFrame} {ty : Nat} (act : State → State) (hty : f.type = ty)
include hty

theorem State.onChain_crc (hcrc : f.crcOk = false) : s.onChain ty f act = (s.chainOut f).bump Reg.PRC_CNT_CRC 0 1 := by
  rw [State.onChain, if_neg (not_not_intro hty)]
  exact if_pos (ne_true_of_eq_false hcrc)

variable (hcrc : f.crcOk = true)
include hcrc

theorem State.onChain_response (hresponse : bitOf f.flags 6 = true) : s.onChain ty f act = s.chainOut f := by
  rw [State.onChain, if_neg (not_not_intro hty)]
  dsimp only
  rw [if_neg (not_not_intro hcrc), if_pos hresponse]

variable (hrequest : bitOf f.flags 6 = false)
include hrequest

theorem State.onChain_elsewhere (hbroadcast : bitOf f.flags 7 = false) (hmine : s.chainMine f = false) :
    s.onChain ty f act = s.chainOut f := by
  rw [State.onChain, if_neg (not_not_intro hty)]
  dsimp only
  rw [if_neg (not_not_intro hcrc), if_neg (ne_true_of_eq_false hrequest),
    State.chainMine_chainOut, if_neg (ne_true_of_eq_false hmine), if_neg (ne_true_of_eq_false hbroadcast)]

/-- A request to the unit is repeated and counted, and acted on. -/
theorem State.onChain_mine (hmine : s.chainMine f = true) :
    s.onChain ty f act = act ((s.chainOut f).bump Reg.PRC_CNT_RX 0 1) := by
  rw [State.onChain, if_neg (not_not_intro hty)]
  dsimp only
  rw [if_neg (not_not_intro hcrc), if_neg (ne_true_of_eq_false hrequest),
    State.chainMine_chainOut, if_pos hmine]

end

/-- The four types whose frames come through `onChain`. -/
theorem exec_chain_eq_onChain (s : State) (f : ChainFrame) (ty : Nat) (i : Instr)
    (hi : (i, ty) ∈ [(Instr.chainStatus f, 2), (.chainRead f, 3), (.chainWrite f, 4), (.chainReset f, 5)]) :
    ∃ act, exec i s = .next (s.onChain ty f act) := by
  simp only [List.mem_cons, Prod.mk.injEq, List.not_mem_nil, or_false] at hi
  rcases hi with ⟨rfl, rfl⟩ | ⟨rfl, rfl⟩ | ⟨rfl, rfl⟩ | ⟨rfl, rfl⟩
  all_goals exact ⟨_, rfl⟩

/-! ## Enumeration (R454) -/

section
variable {s : State} {f : ChainFrame} {seg pos o : Byte} (hty : f.type = 1) (hpayload : f.payload = [seg, pos, o])
include hty

theorem exec_chainEnum_crc (hcrc : f.crcOk = false) : exec (.chainEnum f) s = .next ((s.chainOut f).bump Reg.PRC_CNT_CRC 0 1) := by
  show execChainEnum f s = _
  rw [execChainEnum, if_neg (not_not_intro hty), if_pos (ne_true_of_eq_false hcrc)]

include hpayload
variable (hcrc : f.crcOk = true)
include hcrc

theorem exec_chainEnum_overflow (ho : o.toNat.testBit 0 = true) :
    ∃ t : State, exec (.chainEnum f) s = .next t ∧ t.fld Reg.PRC_STAT_ADDR_VALID 0 = 0 ∧ t.chain.out = f :: s.chain.out ∧
      s.SameRegs t [Reg.PRC_STAT.addr 0 0] ∧ s.SameBytes t := by
  have hwrites : State.WritesIn (· = Reg.PRC_STAT.addr 0 0) s (s.setFld Reg.PRC_STAT_ADDR_VALID 0 0) :=
    .of_records (State.RecordsIn.setFld (P := (· = Reg.PRC_STAT.addr 0 0)) s 0 rfl)
  have hall := hwrites.trans (State.chainOut_writes _ _ f)
  refine ⟨(s.setFld Reg.PRC_STAT_ADDR_VALID 0 0).chainOut f, ?_, (State.fld_chainOut _ f _ _).trans
    (State.fld_setFld_same s Reg.PRC_STAT_ADDR_VALID 0 0 (by decide) (by decide)), rfl, hall.sameRegs, hall.sameBytes⟩
  show execChainEnum f s = _
  rw [execChainEnum, if_neg (not_not_intro hty), if_neg (not_not_intro hcrc), hpayload]
  dsimp only
  rw [if_pos ho]

theorem exec_chainEnum_address (ho : o.toNat.testBit 0 = false) :
    ∃ t : State, exec (.chainEnum f) s = .next t ∧ t.fld Reg.PRC_STAT_ADDR_VALID 0 = 1 ∧
      t.fld Reg.PRC_STAT_ADDR 0 = seg.toNat * 256 + pos.toNat ∧
      t.chain.out = { f with payload := [seg, pos + 1, if pos = 255 then o ||| 1 else o] } :: s.chain.out ∧
      s.SameRegs t [Reg.PRC_STAT.addr 0 0] ∧ s.SameBytes t := by
  have hlt : seg.toNat * 256 + pos.toNat < 2 ^ 16 := by
    have hseg := seg.isLt
    have hpos := pos.isLt
    omega
  obtain ⟨haddr, hvalid, hwrites⟩ := s.setFld_setFld_spec (f := Reg.PRC_STAT_ADDR) (g := Reg.PRC_STAT_ADDR_VALID) (by decide) 0
    (v := seg.toNat * 256 + pos.toNat) (w := 1) hlt (by decide)
  have hall := hwrites.trans (State.chainOut_writes _ _ { f with payload := [seg, pos + 1, if pos = 255 then o ||| 1 else o] })
  refine ⟨((s.setFld Reg.PRC_STAT_ADDR 0 (seg.toNat * 256 + pos.toNat)).setFld Reg.PRC_STAT_ADDR_VALID 0 1).chainOut
    { f with payload := [seg, pos + 1, if pos = 255 then o ||| 1 else o] }, ?_, (State.fld_chainOut _ _ _ _).trans hvalid,
    (State.fld_chainOut _ _ _ _).trans haddr, rfl, hall.sameRegs, hall.sameBytes⟩
  show execChainEnum f s = _
  rw [execChainEnum, if_neg (not_not_intro hty), if_neg (not_not_intro hcrc), hpayload]
  dsimp only
  rw [if_neg (ne_true_of_eq_false ho)]

end

/-! ## Requests to the unit (R431, R453, R455) -/

/-- The words that a read answers with, in ascending order (R455). -/
def chainWords (s : State) (a n : Nat) : State × List Byte :=
  (List.range n).foldl (fun sb k =>
    let (s, v) := sb.1.busRead (a + 4 * k)
    (s, sb.2 ++ beBytes 4 v.toNat)) (s, [])

theorem chainWords_one (s : State) (a : Nat) : chainWords s a 1 = ((s.busRead a).1, beBytes 4 (s.busRead a).2.toNat) := rfl

section
variable {s : State} {f : ChainFrame} (hcrc : f.crcOk = true) (hmine : s.chainMine f = true)

/-- The unit's address and state after a request has been counted. -/
theorem State.rd_prcStat_counted (s : State) (f : ChainFrame) :
    ((s.chainOut f).bump Reg.PRC_CNT_RX 0 1).rd Reg.PRC_STAT 0 0 = s.rd Reg.PRC_STAT 0 0 :=
  State.rd_wr_ne (s.chainOut f) Reg.PRC_CNT_RX Reg.PRC_STAT 0 0 0 0 _ (by decide)

theorem State.chainAnswer_mine {u : State} {f : ChainFrame} (hmine : u.chainMine f = true) (payload : List Byte) :
    u.chainAnswer f payload = u.chainOut
      { dst := f.src, src := u.unitAddr, type := f.type, flags := 0x40, tag := f.tag, payload := payload, crcOk := true } :=
  if_pos hmine

include hcrc hmine
variable (hrequest : bitOf f.flags 6 = false)
include hrequest

theorem exec_chainStatus_mine (hty : f.type = 2) :
    ∃ t : State, exec (.chainStatus f) s = .next t ∧
      t.chain.out = { dst := f.src, src := s.unitAddr, type := 2, flags := 0x40, tag := f.tag,
                      payload := [0] ++ beBytes 4 (s.rd Reg.PRC_STAT 0 0).toNat ++ (s.fus.serial ++ List.replicate 20 0).take 20,
                      crcOk := true } :: f :: s.chain.out ∧ s.SameRegs t [Reg.PRC_CNT_RX.addr 0 0] ∧ s.SameBytes t := by
  obtain ⟨u, hu⟩ : ∃ u, u = (s.chainOut f).bump Reg.PRC_CNT_RX 0 1 := ⟨_, rfl⟩
  have hstat : u.rd Reg.PRC_STAT 0 0 = s.rd Reg.PRC_STAT 0 0 := by rw [hu, State.rd_prcStat_counted]
  have haddr : u.unitAddr = s.unitAddr := congrArg Reg.PRC_STAT_ADDR.get hstat
  have hmine' : u.chainMine f = true := by
    rw [State.chainMine, State.flag, show u.fld Reg.PRC_STAT_ADDR_VALID 0 = s.fld Reg.PRC_STAT_ADDR_VALID 0 from
      congrArg Reg.PRC_STAT_ADDR_VALID.get hstat, haddr]
    exact hmine
  have hserial : u.fus = s.fus := by rw [hu]; rfl
  have hout : u.chain.out = f :: s.chain.out := by rw [hu]; rfl
  have hwrites : State.WritesIn (· = Reg.PRC_CNT_RX.addr 0 0) s u := by
    rw [hu]
    exact (s.chainOut_writes _ f).trans ((s.chainOut f).bump_writes Reg.PRC_CNT_RX 0 1)
  refine ⟨_, congrArg Host.Outcome.next (State.onChain_mine _ hty hcrc hrequest hmine), ?_⟩
  rw [← hu, State.chainAnswer_mine hmine', hstat, haddr, hserial, hty]
  exact ⟨congrArg (_ :: ·) hout, hwrites.sameRegs, hwrites.sameBytes⟩

theorem exec_chainRead_mine (hty : f.type = 3) :
    exec (.chainRead f) s = .next (((s.chainOut f).bump Reg.PRC_CNT_RX 0 1).chainAccess f false chainWords) :=
  congrArg Host.Outcome.next (State.onChain_mine _ hty hcrc hrequest hmine)

theorem exec_chainWrite_mine (hty : f.type = 4) :
    exec (.chainWrite f) s = .next (((s.chainOut f).bump Reg.PRC_CNT_RX 0 1).chainAccess f true fun s a n =>
      ((List.range n).foldl (fun s k => s.busWrite .chain (a + 4 * k) (word (beNat ((f.payload.drop (5 + 4 * k)).take 4)))) s,
        [BitVec.ofNat 8 n])) :=
  congrArg Host.Outcome.next (State.onChain_mine _ hty hcrc hrequest hmine)

theorem exec_chainReset_mine (hty : f.type = 5) :
    exec (.chainReset f) s = .next
      (if f.payload ≠ [0xC1, 0xEA] then ((s.chainOut f).bump Reg.PRC_CNT_RX 0 1).chainAnswer f [stBadFrame]
      else if s.glb.dormant then ((s.chainOut f).bump Reg.PRC_CNT_RX 0 1).chainAnswer f [stNoPower]
      else (((s.chainOut f).bump Reg.PRC_CNT_RX 0 1).chainAnswer f [stOk]).resetAsk 2) :=
  congrArg Host.Outcome.next (State.onChain_mine _ hty hcrc hrequest hmine)

end

/-! ## Accesses (R455) -/

section
variable (u : State) (f : ChainFrame) (write : Bool) (act : State → Nat → Nat → State × List Byte)

theorem State.chainAccess_malformed (hspan : chainSpan f write = none) : u.chainAccess f write act = u.chainAnswer f [5] := by
  rw [State.chainAccess, hspan]
  rfl

variable {a n : Nat} (hspan : chainSpan f write = some (a, n))
include hspan

theorem State.chainAccess_refused (hcheck : u.chainCheck a n write ≠ 0) : u.chainAccess f write act =
    (u.bump Reg.PRC_CNT_REF 0 1).chainAnswer f ([BitVec.ofNat 8 (u.chainCheck a n write)] ++ if write then [0] else []) := by
  rw [State.chainAccess, hspan]
  exact if_pos hcheck

theorem State.chainAccess_done (hcheck : u.chainCheck a n write = 0) :
    u.chainAccess f write act = (act u a n).1.chainAnswer f ([0] ++ (act u a n).2) := by
  rw [State.chainAccess, hspan]
  exact if_neg (not_not_intro hcheck)

end

/-! ## The pass-through (R533) -/

theorem exec_chainTrip_again {s : State} (htripped : s.chain.tripped = true) : exec .chainTrip s = .next s := by
  show execChainTrip s = _
  rw [execChainTrip, if_pos htripped]

theorem exec_chainTrip_first {s : State} (htripped : s.chain.tripped = false) :
    ∃ t : State, exec .chainTrip s = .next t ∧ t.chain.tripped = true ∧
      t.rd Reg.PRC_CNT_TRIP 0 0 = word ((s.rd Reg.PRC_CNT_TRIP 0 0).toNat + 1) ∧
      s.SameRegs t [Reg.PRC_CNT_TRIP.addr 0 0] ∧ s.SameBytes t := by
  have hwrites : State.WritesIn (· = Reg.PRC_CNT_TRIP.addr 0 0) s
      ({ s with chain := { s.chain with tripped := true } }.bump Reg.PRC_CNT_TRIP 0 1) :=
    (s.withChain_writes _ _).trans (State.bump_writes _ Reg.PRC_CNT_TRIP 0 1)
  refine ⟨{ s with chain := { s.chain with tripped := true } }.bump Reg.PRC_CNT_TRIP 0 1, ?_, rfl,
    State.rd_bump_same _ _ _ _, hwrites.sameRegs, hwrites.sameBytes⟩
  show execChainTrip s = _
  rw [execChainTrip, if_neg (ne_true_of_eq_false htripped)]

/-- Settles O52: a frame addressed to the unit is counted and acted on once, and every act ends in one answer. -/
theorem serviceChain : Obligations.ServiceChain := by
  unfold Obligations.ServiceChain
  refine ⟨fun s f ty i hi hty => ?_, fun s f seg pos o hty hpayload => ⟨exec_chainEnum_crc hty,
      exec_chainEnum_overflow hty hpayload, exec_chainEnum_address hty hpayload⟩, fun s f hcrc hmine hrequest => ?_,
    fun s => ⟨exec_chainTrip_again, exec_chainTrip_first, rfl⟩⟩
  · obtain ⟨act, hexec⟩ := exec_chain_eq_onChain s f ty i hi
    rw [hexec]
    exact ⟨fun hcrc => congrArg _ (State.onChain_crc act hty hcrc),
      fun hcrc hresponse => congrArg _ (State.onChain_response act hty hcrc hresponse),
      fun hcrc hrequest hbroadcast hmine => congrArg _ (State.onChain_elsewhere act hty hcrc hrequest hbroadcast hmine)⟩
  · refine ⟨exec_chainStatus_mine hcrc hmine hrequest, fun hty hspan => ?_, fun a n hty hspan hcheck => ?_, fun a hty hspan hcheck => ?_,
      fun a n hty hspan hcheck => ?_, fun a n hty hspan hcheck => ?_, fun hty hbad => ?_, fun hty hkey hdormant => ?_,
      fun hty hkey hawake => ?_⟩
    · exact (exec_chainRead_mine hcrc hmine hrequest hty).trans (congrArg _ (State.chainAccess_malformed _ f false _ hspan))
    · exact (exec_chainRead_mine hcrc hmine hrequest hty).trans (congrArg _ (State.chainAccess_refused _ f false _ hspan hcheck))
    · rw [exec_chainRead_mine hcrc hmine hrequest hty, State.chainAccess_done _ f false _ hspan hcheck, chainWords_one]
    · exact (exec_chainWrite_mine hcrc hmine hrequest hty).trans (congrArg _ (State.chainAccess_refused _ f true _ hspan hcheck))
    · exact (exec_chainWrite_mine hcrc hmine hrequest hty).trans (congrArg _ (State.chainAccess_done _ f true _ hspan hcheck))
    · rw [exec_chainReset_mine hcrc hmine hrequest hty, if_pos hbad, stBadFrame]
    · rw [exec_chainReset_mine hcrc hmine hrequest hty, if_neg (not_not_intro hkey), if_pos hdormant, stNoPower]
    · rw [exec_chainReset_mine hcrc hmine hrequest hty, if_neg (not_not_intro hkey), if_neg (ne_true_of_eq_false hawake), stOk]

end Sys2Proof.Machine
end

section
/-!
PROOFS. Peer frames received (R456 to R463, R467).
-/

namespace Sys2Proof.Machine

/-! ## Peer entries and the registers below theirs -/

theorem State.RecordsIn.pfb_eq {P : Nat → Prop} {s t : State} (h : State.RecordsIn P s t) : t.pfb = s.pfb := by
  obtain ⟨⟨q, x, r, rfl⟩, -⟩ := h
  rfl

@[simp] theorem State.pe_setPe_same (s : State) (i : Nat) (x : PeerS) : (s.setPe i x).pe i = x := mget_mset_same ..

@[simp] theorem State.peerState_setPe (s : State) (i j : Nat) (x : PeerS) : (s.setPe i x).peerState j = s.peerState j := rfl

theorem State.setPe_writes (P : Nat → Prop) (s : State) (i : Nat) (x : PeerS) : State.WritesIn P s (s.setPe i x) :=
  ⟨⟨rfl, rfl, rfl, rfl, rfl⟩, fun _ _ => rfl⟩

section
variable {s t : State} (h : State.RecordsIn (· < 0x00D04000) s t)
include h

theorem State.RecordsIn.rd_peer_eq (r : Reg) (i : Nat) (hr : r.base = 0x00D04000) : t.rd r i 0 = s.rd r i 0 := by
  refine h.rdA_eq fun ha => ?_
  simp only [Reg.addr, hr] at ha
  omega

theorem State.RecordsIn.peerState_eq (i : Nat) : t.peerState i = s.peerState i :=
  congrArg Reg.PEER_CTL_STATE.get (h.rd_peer_eq Reg.PEER_CTL i rfl)

theorem State.RecordsIn.peerOfUnit_eq (u : Nat) : t.peerOfUnit u = s.peerOfUnit u := by
  have hentry (i : Nat) : (t.fld Reg.PEER_CTL_UNIT i == u && t.pair Reg.PEER_MAC_LO Reg.PEER_MAC_HI i 0 != 0) =
      (s.fld Reg.PEER_CTL_UNIT i == u && s.pair Reg.PEER_MAC_LO Reg.PEER_MAC_HI i 0 != 0) := by
    rw [State.pair, State.pair, h.rd_peer_eq Reg.PEER_MAC_LO i rfl, h.rd_peer_eq Reg.PEER_MAC_HI i rfl,
      show t.fld Reg.PEER_CTL_UNIT i = s.fld Reg.PEER_CTL_UNIT i from
        congrArg Reg.PEER_CTL_UNIT.get (h.rd_peer_eq Reg.PEER_CTL i rfl)]
  rw [State.peerOfUnit, State.peerOfUnit, funext hentry]

end

/-- An entry taken to another state shows it; nothing but its row and the Attic's registers changes. -/
theorem State.peerTo_spec {s : State} {i st : Nat} (hst : st < 8) :
    (s.peerTo i st).peerState i = st ∧ (s.peerTo i st).pfb = s.pfb ∧ s.SameBytes (s.peerTo i st) := by
  by_cases hold : s.peerState i = st
  · rw [State.peerTo, if_pos hold]
    exact ⟨hold, rfl, rfl, rfl, rfl, rfl, rfl⟩
  · rw [State.peerTo, if_neg hold]
    dsimp only
    generalize [word i, _, _, _] = snaps
    have hrec := State.atticEvent_records_below (s.setFld Reg.PEER_CTL_STATE i st) 8 snaps
    refine ⟨?_, hrec.pfb_eq, (s.setFld_sameBytes Reg.PEER_CTL_STATE i st).trans hrec.sameBytes⟩
    rw [(hrec.mono fun a ha => Nat.lt_trans ha (by decide)).peerState_eq i]
    exact (State.fld_setFld_same s Reg.PEER_CTL_STATE i st (by decide) (by decide)).trans (Nat.mod_eq_of_lt hst)

/-! ## Ports and HELLO (R456, R458, R464) -/

theorem exec_peerPortUp_eq {s : State} {p : Nat} (hawake : s.glb.dormant = false) (hp : p < s.nPeerPort)
    (hen : s.flag (if p = 0 then Reg.PFB_CFG_P0_EN else Reg.PFB_CFG_P1_EN) 0 = true) (hdown : s.flag Reg.PFBP_PSTAT_UP p = false)
    (hlock : bitOf (s.fld Reg.CLK_PLL_STAT_LOCKED 0) (3 + p) = true) :
    ∃ t : State, exec (.peerPortUp p) s = .next t ∧ t.fld Reg.PFBP_PSTAT_UP p = 1 ∧ t.fld Reg.PFBP_PSTAT_FEC p = 1 ∧
      t.fld Reg.PFBP_PSTAT_PTP p = 4 ∧ s.SameRegs t [Reg.PFBP_PSTAT.addr p 0] ∧ s.SameBytes t := by
  obtain ⟨hup, -, hrec⟩ := State.setFld_then_beside Reg.PFBP_PSTAT_UP p 1 (by decide) (by decide)
    [(Reg.PFBP_PSTAT_FEC, 1), (Reg.PFBP_PSTAT_PTP, 4)]
    (show ∀ g ∈ [Reg.PFBP_PSTAT_FEC, Reg.PFBP_PSTAT_PTP], g.Beside Reg.PFBP_PSTAT_UP by decide) s
  obtain ⟨hfec, hptp, -⟩ := (s.setFld Reg.PFBP_PSTAT_UP p 1).setFld_setFld_spec (f := Reg.PFBP_PSTAT_FEC)
    (g := Reg.PFBP_PSTAT_PTP) (by decide) p (v := 1) (w := 4) (by decide) (by decide)
  have hwrites := State.WritesIn.of_records hrec
  refine ⟨((s.setFld Reg.PFBP_PSTAT_UP p 1).setFld Reg.PFBP_PSTAT_FEC p 1).setFld Reg.PFBP_PSTAT_PTP p 4, ?_, hup, hfec, hptp,
    hwrites.sameRegs, hwrites.sameBytes⟩
  show execPeerPortUp p s = _
  rw [execPeerPortUp, State.powered_awake _ _ hawake]
  exact congrArg Host.Outcome.next (if_neg (by simp [hawake, hp, hen, hdown, hlock]))

theorem exec_helloInterval_eq {s : State} {p : Nat} (hawake : s.glb.dormant = false) (hp : p < s.nPeerPort) :
    exec (.helloInterval p) s = .next ((s.peersOf p).foldl (fun u i =>
      let n := (u.pe i).quiet + 1
      let v := (u.setPe i { u.pe i with quiet := min 3 n }).peerOut p (u.helloFrame i)
      if v.peerState i = peerSeen ∧ 3 ≤ n then v.peerTo i peerDown else v) s) := by
  show execHelloInterval p s = _
  rw [execHelloInterval, State.powered_awake _ _ hawake]
  exact congrArg Host.Outcome.next (if_neg (by simp [hawake, hp]))

/-- A frame counted by its port changes a register below the entries'. -/
theorem State.countRx_records {s : State} {p : Nat} (hon : s.peerPortOn p = true) :
    State.RecordsIn (· < 0x00D04000) s (s.bump Reg.PFBP_CNT_RX p 1) := by
  have hports : s.nPeerPort ≤ 2 := by
    unfold State.nPeerPort
    split <;> decide
  simp only [State.peerPortOn, Bool.and_eq_true, decide_eq_true_eq] at hon
  obtain ⟨⟨hp, -⟩, -⟩ := hon
  exact State.RecordsIn.wr (P := (· < 0x00D04000)) s _ (by simp only [Reg.addr, Reg.PFBP_CNT_RX]; omega)

section
variable {s : State} {p : Nat} {f : PeerFrame} (hawake : s.glb.dormant = false) (hon : s.peerPortOn p = true)
  (hetype : f.etype = s.fld Reg.PFB_CFG_ETYPE 0) (htype : hdrNat f 1 1 = 0x01)
include hawake hon hetype htype

/-- A HELLO that its port takes is counted, and heard by the entry that it names. -/
theorem exec_hello_heard : exec (.hello p f) s = .next
    (let u := s.bump Reg.PFBP_CNT_RX p 1
     (s.peerOfUnit (hdrNat f 4 2)).elim (u.peerDrop p) fun i =>
       let v := u.setPe i { s.pe i with quiet := 0, rxWin := min 1024 (beNat ((f.payload.drop 22).take 2)) }
       let y := if s.peerState i = peerDown then v.peerTo i peerSeen else v
       y.peerPump i ((y.pe i).held.length + 1)) := by
  have hrec := State.countRx_records hon
  have hunit := hrec.peerOfUnit_eq (hdrNat f 4 2)
  have hstate := hrec.peerState_eq
  have hpe (i : Nat) : (s.bump Reg.PFBP_CNT_RX p 1).pe i = s.pe i := rfl
  show execHello p f s = _
  rw [execHello, State.powered_awake _ _ hawake, if_neg (by simp [hon, hetype, htype])]
  dsimp only
  generalize s.bump Reg.PFBP_CNT_RX p 1 = u at hunit hstate hpe ⊢
  rw [hunit]
  cases s.peerOfUnit (hdrNat f 4 2) with
  | none => rfl
  | some i =>
    dsimp only [Option.elim]
    rw [State.peerState_setPe, hstate, hpe]

theorem exec_hello_unknown (hunit : s.peerOfUnit (hdrNat f 4 2) = none) :
    exec (.hello p f) s = .next ((s.bump Reg.PFBP_CNT_RX p 1).peerDrop p) := by
  rw [exec_hello_heard hawake hon hetype htype, hunit]
  rfl

theorem exec_hello_known {i : Nat} (hunit : s.peerOfUnit (hdrNat f 4 2) = some i) :
    ∃ y : State, exec (.hello p f) s = .next (y.peerPump i ((s.pe i).held.length + 1)) ∧ (y.pe i).quiet = 0 ∧
      (y.pe i).rxWin = min 1024 (beNat ((f.payload.drop 22).take 2)) ∧
      (s.peerState i = peerDown → y.peerState i = peerSeen) ∧
      (s.peerState i ≠ peerDown → y.peerState i = s.peerState i) := by
  obtain ⟨x, hx⟩ : ∃ x : PeerS, x = { s.pe i with quiet := 0, rxWin := min 1024 (beNat ((f.payload.drop 22).take 2)) } := ⟨_, rfl⟩
  have hexec := exec_hello_heard hawake hon hetype htype
  have hstate : (s.bump Reg.PFBP_CNT_RX p 1).peerState i = s.peerState i :=
    (State.countRx_records hon).peerState_eq i
  rw [hunit] at hexec
  dsimp only [Option.elim] at hexec
  rw [← hx] at hexec
  have hheld : x.held = (s.pe i).held := by rw [hx]
  have hquiet : x.quiet = 0 := by rw [hx]
  have hwin : x.rxWin = min 1024 (beNat ((f.payload.drop 22).take 2)) := by rw [hx]
  clear hx
  generalize s.bump Reg.PFBP_CNT_RX p 1 = u at hexec hstate
  by_cases hdown : s.peerState i = peerDown
  · obtain ⟨hseen, hpfb, -⟩ := State.peerTo_spec (s := u.setPe i x) (i := i) (st := peerSeen) (by decide)
    have hpe : ((u.setPe i x).peerTo i peerSeen).pe i = x :=
      (congrArg (fun q : PfbS => mget (fun _ => ({} : PeerS)) q.peers i) hpfb).trans (State.pe_setPe_same u i x)
    rw [if_pos hdown, hpe, hheld] at hexec
    exact ⟨_, hexec, by rw [hpe, hquiet], by rw [hpe, hwin], fun _ => hseen, fun h => absurd hdown h⟩
  · rw [if_neg hdown, State.pe_setPe_same, hheld] at hexec
    exact ⟨_, hexec, by rw [State.pe_setPe_same, hquiet], by rw [State.pe_setPe_same, hwin], fun h => absurd h hdown,
      fun _ => (State.peerState_setPe ..).trans hstate⟩

end

/-! ## Sealed frames (R457, R459) -/

section
variable {s u : State} {p ty : Nat} {f : PeerFrame} {c : Instr} (hawake : s.glb.dormant = false)
include hawake

/-- A frame that does not open is over. -/
theorem exec_peer_unopened
    (hc : (c, ty) ∈ [(Instr.mwrite p f, 0x10), (.mwack p f, 0x11), (.mwquery p f, 0x12), (.pread p f, 0x20), (.prdata p f, 0x21),
      (.rbreq p f, 0x30), (.rbend p f, 0x31)]) (hopen : s.peerOpen p ty f = (u, none)) : exec c s = .next u := by
  simp only [List.mem_cons, Prod.mk.injEq, List.not_mem_nil, or_false] at hc
  rcases hc with ⟨rfl, rfl⟩ | ⟨rfl, rfl⟩ | ⟨rfl, rfl⟩ | ⟨rfl, rfl⟩ | ⟨rfl, rfl⟩ | ⟨rfl, rfl⟩ | ⟨rfl, rfl⟩
  · show execMwrite p f s = _
    rw [execMwrite, State.powered_awake _ _ hawake, hopen]
  · show execMwack p f s = _
    rw [execMwack, State.powered_awake _ _ hawake, hopen]
  · show execMwquery p f s = _
    rw [execMwquery, State.powered_awake _ _ hawake, hopen]
  · show execPread p f s = _
    rw [execPread, State.powered_awake _ _ hawake, hopen]
  · show execPrdata p f s = _
    rw [execPrdata, State.powered_awake _ _ hawake, hopen]
  · show execRbreq p f s = _
    rw [execRbreq, State.powered_awake _ _ hawake, hopen]
  · show execRbend p f s = _
    rw [execRbend, State.powered_awake _ _ hawake, hopen]

/-- A request is answered again as a duplicate, or lies outside the window. -/
theorem exec_peer_stale {v : State} {i k : Nat} {t : List Byte}
    (hc : (c, ty) ∈ [(Instr.mwrite p f, 0x10), (.mwquery p f, 0x12), (.pread p f, 0x20), (.rbreq p f, 0x30)])
    (hopen : s.peerOpen p ty f = (u, some (i, t))) (hfresh : u.peerFresh i (hdrNat f 8 4) = (v, k)) (hk : k ≠ 0) :
    exec c s = .next (if k = 1 then v else v.peerDrop p) := by
  obtain rfl | ⟨n, rfl⟩ : k = 1 ∨ ∃ n, k = n + 2 := by
    rcases k with _ | _ | n
    · exact absurd rfl hk
    · exact .inl rfl
    · exact .inr ⟨n, rfl⟩
  all_goals
    simp only [List.mem_cons, Prod.mk.injEq, List.not_mem_nil, or_false] at hc
    rcases hc with ⟨rfl, rfl⟩ | ⟨rfl, rfl⟩ | ⟨rfl, rfl⟩ | ⟨rfl, rfl⟩
    · show execMwrite p f s = _
      rw [execMwrite, State.powered_awake _ _ hawake, hopen]
      dsimp only
      rw [hfresh]
      rfl
    · show execMwquery p f s = _
      rw [execMwquery, State.powered_awake _ _ hawake, hopen]
      dsimp only
      rw [hfresh]
      rfl
    · show execPread p f s = _
      rw [execPread, State.powered_awake _ _ hawake, hopen]
      dsimp only
      rw [hfresh]
      rfl
    · show execRbreq p f s = _
      rw [execRbreq, State.powered_awake _ _ hawake, hopen]
      dsimp only
      rw [hfresh]
      rfl

end

section
variable {s u v : State} {p i : Nat} {t : List Byte} {f : PeerFrame} (hawake : s.glb.dormant = false)
include hawake

/-! ## New requests of a peer (R460, R461, R467) -/

/-- A request that finds its slot and queue room is taken, and its frame discarded otherwise. -/
def State.takenOrDropped (s : State) (p : Nat) : Option State → State
  | some t => t
  | none => s.peerDrop p

section
variable (hfresh : u.peerFresh i (hdrNat f 8 4) = (v, 0))
include hfresh

section
variable (hopen : s.peerOpen p 0x10 f = (u, some (i, t)))
include hopen

theorem exec_mwrite_fresh : exec (.mwrite p f) s = .next (u.takenOrDropped p (v.mwriteNew i (hdrNat f 8 4) (hdrNat f 2 1) (hdrNat f 4 2) t)) := by
  show execMwrite p f s = _
  rw [execMwrite, State.powered_awake _ _ hawake, hopen]
  dsimp only
  rw [hfresh]
  rfl

theorem exec_mwrite_taken {y : State} (hnew : v.mwriteNew i (hdrNat f 8 4) (hdrNat f 2 1) (hdrNat f 4 2) t = some y) :
    exec (.mwrite p f) s = .next y := by
  rw [exec_mwrite_fresh hawake hfresh hopen, hnew]
  rfl

theorem exec_mwrite_dropped (hnew : v.mwriteNew i (hdrNat f 8 4) (hdrNat f 2 1) (hdrNat f 4 2) t = none) :
    exec (.mwrite p f) s = .next (u.peerDrop p) := by
  rw [exec_mwrite_fresh hawake hfresh hopen, hnew]
  rfl

theorem exec_mwrite_refused (hr : v.peerRefusal (beNat (t.take 1)) (beNat ((t.drop 2).take 8)) true ≠ 0) :
    exec (.mwrite p f) s = .next (v.mwack i (hdrNat f 8 4) 2
      (v.peerRefusal (beNat (t.take 1)) (beNat ((t.drop 2).take 8)) true)) := by
  refine exec_mwrite_taken hawake hfresh hopen ?_
  rw [State.mwriteNew]
  exact if_pos hr

end

section
variable (hopen : s.peerOpen p 0x20 f = (u, some (i, t)))
include hopen

theorem exec_pread_fresh : exec (.pread p f) s = .next (u.takenOrDropped p (v.preadNew i (hdrNat f 8 4) t)) := by
  show execPread p f s = _
  rw [execPread, State.powered_awake _ _ hawake, hopen]
  dsimp only
  rw [hfresh]
  rfl

theorem exec_pread_taken {y : State} (hnew : v.preadNew i (hdrNat f 8 4) t = some y) : exec (.pread p f) s = .next y := by
  rw [exec_pread_fresh hawake hfresh hopen, hnew]
  rfl

theorem exec_pread_dropped (hnew : v.preadNew i (hdrNat f 8 4) t = none) : exec (.pread p f) s = .next (u.peerDrop p) := by
  rw [exec_pread_fresh hawake hfresh hopen, hnew]
  rfl

theorem exec_pread_refused (hr : v.peerRefusal (beNat (t.take 1)) (beNat ((t.drop 1).take 8)) false ≠ 0) :
    exec (.pread p f) s = .next (v.peerAnswer i 0x21 (hdrNat f 8 4)
      [BitVec.ofNat 8 (v.peerRefusal (beNat (t.take 1)) (beNat ((t.drop 1).take 8)) false)]) := by
  refine exec_pread_taken hawake hfresh hopen ?_
  rw [State.preadNew]
  exact if_pos hr

end

/-- What a query is answered with: the MWACK that is held, or FAILED (R460). -/
def State.mwqueryAnswer (s : State) (i q : Nat) : Option (Nat × List Byte) → State
  | some (0x11, pl) => s.peerAnswer i 0x11 q pl
  | _ => s.mwack i q 2 4

section
variable (hopen : s.peerOpen p 0x12 f = (u, some (i, t)))
include hopen

theorem exec_mwquery_fresh : exec (.mwquery p f) s = .next (v.mwqueryAnswer i (hdrNat f 8 4)
    (((v.pe i).seen.find? fun e => e.pseq == hdrNat f 12 4).bind PeerSeen.answer)) := by
  show execMwquery p f s = _
  rw [execMwquery, State.powered_awake _ _ hawake, hopen]
  dsimp only
  rw [hfresh]
  rfl

theorem exec_mwquery_held {pl : List Byte}
    (hheld : ((v.pe i).seen.find? fun e => e.pseq == hdrNat f 12 4).bind PeerSeen.answer = some (0x11, pl)) :
    exec (.mwquery p f) s = .next (v.peerAnswer i 0x11 (hdrNat f 8 4) pl) := by
  rw [exec_mwquery_fresh hawake hfresh hopen, hheld]
  rfl

theorem exec_mwquery_unheld (hheld : ((v.pe i).seen.find? fun e => e.pseq == hdrNat f 12 4).bind PeerSeen.answer = none) :
    exec (.mwquery p f) s = .next (v.mwack i (hdrNat f 8 4) 2 4) := by
  rw [exec_mwquery_fresh hawake hfresh hopen, hheld]
  rfl

end

/-- The rebuild that a request asks for (R467). -/
def rbJobOf (f : PeerFrame) (t : List Byte) : RbJob :=
  { pseq := hdrNat f 8 4, nsid := beNat (t.take 1), lba := beNat ((t.drop 1).take 8), left := beNat ((t.drop 9).take 4) }

theorem exec_rbreq_eq (hopen : s.peerOpen p 0x30 f = (u, some (i, t))) :
    exec (.rbreq p f) s = .next
      (let w := v.setPe i { v.pe i with rebuild := (v.pe i).rebuild ++ [rbJobOf f t] }
       let r := if !w.serving then 1 else if !(w.nsd (beNat (t.take 1))).valid then 2 else 0
       if r ≠ 0 then w.rebuildEnd i (hdrNat f 8 4) r else w.rebuildNext i (hdrNat f 8 4)) := by
  show execRbreq p f s = _
  rw [execRbreq, State.powered_awake _ _ hawake, hopen]
  dsimp only
  rw [hfresh]
  rfl

end

/-! ## Answers (R459 to R461) -/

theorem exec_rbend_open (hopen : s.peerOpen p 0x31 f = (u, some (i, t))) : exec (.rbend p f) s = .next
    (if (u.pe i).reqs.any (fun r => r.pseq == hdrNat f 12 4 && r.type == 0x30) then u.peerDoneReq i (hdrNat f 12 4) else u) := by
  show execRbend p f s = _
  rw [execRbend, State.powered_awake _ _ hawake, hopen]

theorem exec_mwack_open {r : PeerReq} (hopen : s.peerOpen p 0x11 f = (u, some (i, t)))
    (hfor : (u.pe i).mwriteOf (hdrNat f 12 4) = some r) (hpseq : r.pseq = hdrNat f 12 4) : exec (.mwack p f) s = .next
    (if beNat (t.take 1) = 1 ∧ beNat ((t.drop 1).take 1) = 0 then u.mwStage1 i r
     else if beNat (t.take 1) = 1 ∨ beNat (t.take 1) = 2 then u.mwStage2 i r (beNat ((t.drop 1).take 1))
     else u) := by
  show execMwack p f s = _
  rw [execMwack, State.powered_awake _ _ hawake, hopen]
  dsimp only
  rw [hfor]
  dsimp only
  rw [if_pos hpseq]

section
variable {r : PeerReq} {x : Sector} (hopen : s.peerOpen p 0x21 f = (u, some (i, t)))
  (hfor : (u.pe i).reqs.find? (fun r => r.pseq == hdrNat f 12 4 && r.type == 0x20) = some r)
  (hsector : (u.peerDoneReq i r.pseq).sector r.tag = some x) (hremote : x.remote = true) (hread : x.op ≠ 1)
  (hkept : x.dropped = false)
include hopen hfor hsector hremote hread hkept

theorem exec_prdata_block {w : State} (hok : beNat (t.take 1) = 0)
    (hwrite : (u.peerDoneReq i r.pseq).bufWrite ((u.peerDoneReq i r.pseq).slotAddr x.cls x.slot) ((t.drop 16).take 4096) =
      (w, true)) : exec (.prdata p f) s = .next (w.readServed x) := by
  show execPrdata p f s = _
  rw [execPrdata, State.powered_awake _ _ hawake, hopen]
  dsimp only
  rw [hfor]
  dsimp only
  rw [hsector]
  dsimp only
  rw [if_neg (by simp [hremote, hread]), if_neg (by simp [hkept]), if_pos hok, hwrite]

theorem exec_prdata_status (hbad : beNat (t.take 1) ≠ 0) : exec (.prdata p f) s = .next
    (if beNat (t.take 1) = 4 ∨ x.given then (u.peerDoneReq i r.pseq).unrecovered x else (u.peerDoneReq i r.pseq).moveCopy x) := by
  show execPrdata p f s = _
  rw [execPrdata, State.powered_awake _ _ hawake, hopen]
  dsimp only
  rw [hfor]
  dsimp only
  rw [hsector]
  dsimp only
  rw [if_neg (by simp [hremote, hread]), if_neg (by simp [hkept]), if_neg hbad]

end

end

/-- Settles O49: each command takes the frame apart in `peerOpen` and `peerFresh` and acts on what they give. -/
theorem peerFrames : Obligations.PeerFrames := by
  unfold Obligations.PeerFrames
  refine ⟨fun s p => exec_peerPortUp_eq, fun s p => exec_helloInterval_eq,
    fun s p f hawake hon hetype htype => ⟨exec_hello_unknown hawake hon hetype htype, fun i => exec_hello_known hawake hon hetype htype⟩,
    fun s u p ty f i hawake => exec_peer_unopened hawake,
    fun s u v p ty i k t f c hawake hc hopen hfresh => ⟨fun hk => ?_, fun hk => ?_⟩,
    fun s u v p i t f hawake hopen hfresh => ⟨exec_mwrite_refused hawake hfresh hopen, fun y => exec_mwrite_taken hawake hfresh hopen,
      exec_mwrite_dropped hawake hfresh hopen⟩,
    fun s u v p i t f hawake hopen hfresh => ⟨exec_pread_refused hawake hfresh hopen, fun y => exec_pread_taken hawake hfresh hopen,
      exec_pread_dropped hawake hfresh hopen⟩,
    fun s u v p i t f hawake hopen hfresh => ⟨fun pl => exec_mwquery_held hawake hfresh hopen, exec_mwquery_unheld hawake hfresh hopen⟩,
    fun s u v p i t f hawake hopen hfresh => ⟨fun hserving => ?_, fun hserving hvalid => ?_, fun hserving hvalid => ?_⟩,
    fun s u p i t f hawake hopen => ⟨fun hfor => ?_, fun hfor => ?_⟩,
    fun s u p i t f r hawake hopen hfor hpseq => ⟨fun hstage hok => ?_, fun hstage => ?_⟩,
    fun s u p i t f r x hawake hopen hfor hsector hremote hread hkept =>
      ⟨fun w => exec_prdata_block hawake hopen hfor hsector hremote hread hkept, fun hstatus => ?_, fun hbad hlost hgiven => ?_⟩⟩
  · rw [exec_peer_stale hawake hc hopen hfresh (by omega), if_pos hk]
  · rw [exec_peer_stale hawake hc hopen hfresh (by omega), if_neg (by omega)]
  · rw [exec_rbreq_eq hawake hfresh hopen]
    simp only [rbJobOf] at hserving ⊢
    simp only [hserving]
    rfl
  · rw [exec_rbreq_eq hawake hfresh hopen]
    simp only [rbJobOf] at hserving hvalid ⊢
    simp only [hserving, hvalid]
    rfl
  · rw [exec_rbreq_eq hawake hfresh hopen]
    simp only [rbJobOf] at hserving hvalid ⊢
    simp only [hserving, hvalid]
    rfl
  · rw [exec_rbend_open hawake hopen, if_pos hfor]
  · rw [exec_rbend_open hawake hopen, if_neg (ne_true_of_eq_false hfor)]
  · rw [exec_mwack_open hawake hopen hfor hpseq, if_pos ⟨hstage, hok⟩]
  · rw [exec_mwack_open hawake hopen hfor hpseq, if_neg (by omega), if_pos (.inr hstage)]
  · rw [exec_prdata_status hawake hopen hfor hsector hremote hread hkept (by omega), if_pos (.inl hstatus)]
  · rw [exec_prdata_status hawake hopen hfor hsector hremote hread hkept hbad, if_neg (by simp [hlost, hgiven])]

end Sys2Proof.Machine
end

section
/-!
PROOFS. Peer entries: retries, loss, joining and leaving (R459, R460, R464 to R466).
-/

namespace Sys2Proof.Machine

section
variable {s : State} {i : Nat} (hawake : s.glb.dormant = false) (hi : i < 64)
include hawake hi

/-! ## Retries and losses (R459, R460, R466) -/

section
variable {q : Nat} {r : PeerReq}

theorem exec_peerRetransmitTimeout_live (hlive : s.peerLive i = true)
    (hfor : (s.pe i).reqs.find? (fun r => r.pseq == q && !r.stage1) = some r) : exec (.peerRetransmitTimeout i q) s = .next
    (if 8 ≤ r.sends then s.raise (srcPFB (s.fld Reg.PEER_CTL_PORT i)) 1 i false
     else (s.setPe i { s.pe i with
       reqs := (s.pe i).reqs.map fun k => if k.pseq = q then { k with sends := k.sends + 1 } else k }).peerSeal i r.type r.flags
         r.pseq r.ref r.payload) := by
  show execPeerRetransmitTimeout i q s = _
  rw [execPeerRetransmitTimeout, State.powered_awake _ _ hawake, hfor]
  exact congrArg Host.Outcome.next (if_neg (not_not_intro ⟨hi, hlive⟩))

theorem exec_durabilityTimeout_active (hactive : s.peerState i = peerActive)
    (hfor : (s.pe i).reqs.find? (fun r => r.pseq == q && r.type == 0x10 && r.stage1) = some r) :
    exec (.durabilityTimeout i q) s = .next
      (if ((s.pe i).reqs ++ (s.pe i).held).any (fun r => r.type == 0x12 && r.ref == q) then s
       else s.peerRequest i 0x12 0 q r.tag []) := by
  show execDurabilityTimeout i q s = _
  rw [execDurabilityTimeout, State.powered_awake _ _ hawake]
  dsimp only
  rw [hfor]
  simp only [hi, hactive, and_self, not_true_eq_false, false_or]

end

theorem exec_peerLost_live (hlive : s.peerLive i = true) : exec (.peerLost i) s = .next
    (if 3 ≤ (s.pe i).quiet then s.raise (srcPFB (s.fld Reg.PEER_CTL_PORT i)) 1 i false else s) := by
  show execPeerLost i s = _
  rw [execPeerLost, State.powered_awake _ _ hawake]
  simp only [hi, hlive, true_and, State.peerGone]

/-! ## Joining and leaving (R465) -/

section
variable {v : Word}

/-- A write that asks to join alone stores its word and waits for the boundary. -/
theorem exec_peerJoin_eq (hjoin : Reg.PEER_CTL_JOIN.get v = 1) (hleave : Reg.PEER_CTL_LEAVE.get v = 0) :
    ∃ t : State, exec (.peerJoin i v) s = .next t ∧ (t.pe i).joining = true ∧ t.fld Reg.PEER_CTL_JOIN i = 1 ∧
      t.fld Reg.PEER_CTL_RESULT i = 0 ∧ s.SameRegs t [Reg.PEER_CTL.addr i 0] ∧ s.SameBytes t := by
  obtain ⟨hset, hresult, hwrites⟩ := (s.store Reg.PEER_CTL i 0 v).setFld_setFld_spec (f := Reg.PEER_CTL_JOIN)
    (g := Reg.PEER_CTL_RESULT) (by decide) i (v := 1) (w := 0) (by decide) (by decide)
  have hstored := s.store_writes Reg.PEER_CTL i 0 v
  obtain ⟨y, hy⟩ : ∃ y, y = ((s.store Reg.PEER_CTL i 0 v).setFld Reg.PEER_CTL_JOIN i 1).setFld Reg.PEER_CTL_RESULT i 0 := ⟨_, rfl⟩
  have hexec : exec (.peerJoin i v) s = .next (y.setPe i { y.pe i with joining := true }) := by
    show execPeerJoin i v s = _
    rw [execPeerJoin, State.powered_awake _ _ hawake, if_pos ⟨hi, hjoin⟩, State.peerCtlWrite]
    dsimp only
    rw [if_pos hjoin, if_neg (by omega), if_neg (by omega), ← hy]
  have hall : State.WritesIn (· = Reg.PEER_CTL.addr i 0) s y := by
    rw [hy]
    exact hstored.trans hwrites
  rw [← hy] at hset hresult
  clear hy hwrites
  have hdone := hall.trans (y.setPe_writes _ i { y.pe i with joining := true })
  exact ⟨_, hexec, congrArg PeerS.joining (State.pe_setPe_same ..), hset, hresult, hdone.sameRegs, hdone.sameBytes⟩

/-- The entry after LEAVE, as long as its requests are open. -/
def State.leaveAsked (s : State) (i : Nat) (v : Word) : State :=
  (((s.store Reg.PEER_CTL i 0 v).setFld Reg.PEER_CTL_LEAVE i 1).setFld Reg.PEER_CTL_RESULT i 0).peerTo i peerLeaving

theorem exec_peerLeave_active (hleave : Reg.PEER_CTL_LEAVE.get v = 1) (hjoin : Reg.PEER_CTL_JOIN.get v = 0)
    (hactive : (s.store Reg.PEER_CTL i 0 v).peerState i = peerActive) : exec (.peerLeave i v) s = .next
    (if ((s.leaveAsked i v).pe i).reqs = [] ∧ ((s.leaveAsked i v).pe i).held = [] then (s.leaveAsked i v).leaveDone i
     else s.leaveAsked i v) := by
  show execPeerLeave i v s = _
  rw [execPeerLeave, State.powered_awake _ _ hawake, if_pos ⟨hi, hleave⟩, State.peerCtlWrite]
  dsimp only
  rw [if_neg (by omega), if_pos ⟨hleave, hactive⟩]
  rfl

theorem exec_leaveEnd_eq (hleaving : s.peerState i = peerLeaving) : exec (.leaveEnd i) s = .next (s.leaveDone i) := by
  show execLeaveEnd i s = _
  rw [execLeaveEnd, State.powered_awake _ _ hawake, if_pos ⟨hi, hleaving⟩]

end

end

/-- Settles O50: an entry that PEER_CTL takes to LEAVING shows it, and every other clause is one branch of its command. -/
theorem peerEntries : Obligations.PeerEntries := by
  unfold Obligations.PeerEntries
  refine ⟨fun s i q r hawake hi hlive hfor => ⟨fun hsends => ?_, fun hsends => ?_⟩,
    fun s i q r hawake hi hactive hfor => ⟨fun hasked => ?_, fun hasked => ?_⟩,
    fun s i hawake hi hlive => ⟨fun hquiet => ?_, fun hquiet => ?_⟩, fun s i v hawake hi => exec_peerJoin_eq hawake hi,
    fun s i v hawake hi hleave hjoin hactive => ⟨fun hreqs hheld => ?_, fun hopen => ⟨?_, ?_⟩⟩, fun s i => exec_leaveEnd_eq⟩
  · rw [exec_peerRetransmitTimeout_live hawake hi hlive hfor, if_pos hsends]
  · rw [exec_peerRetransmitTimeout_live hawake hi hlive hfor, if_neg (by omega)]
  · rw [exec_durabilityTimeout_active hawake hi hactive hfor, if_neg (ne_true_of_eq_false hasked)]
  · rw [exec_durabilityTimeout_active hawake hi hactive hfor, if_pos hasked]
  · rw [exec_peerLost_live hawake hi hlive, if_pos hquiet]
  · rw [exec_peerLost_live hawake hi hlive, if_neg (by omega)]
  · rw [exec_peerLeave_active hawake hi hleave hjoin hactive]
    exact congrArg Host.Outcome.next (if_pos ⟨hreqs, hheld⟩)
  · rw [exec_peerLeave_active hawake hi hleave hjoin hactive]
    exact congrArg Host.Outcome.next (if_neg fun h => hopen.elim (absurd h.1) (absurd h.2))
  · exact (State.peerTo_spec (by decide)).1

end Sys2Proof.Machine
end

section
/-!
PROOFS. The boundary clock and the time-base servo (R468 to R471, R475).
-/

namespace Sys2Proof.Machine

/-! ## A port's own state -/

@[simp] theorem State.ptp_setPtp_same (s : State) (p : Nat) (x : PtpPort) : (s.setPtp p x).ptp p = x := mget_mset_same ..

theorem State.setPtp_writes (P : Nat → Prop) (s : State) (p : Nat) (x : PtpPort) : State.WritesIn P s (s.setPtp p x) :=
  ⟨⟨rfl, rfl, rfl, rfl, rfl⟩, fun _ _ => rfl⟩

theorem State.fresh_writes (P : Nat → Prop) (s : State) : State.WritesIn P s s.fresh.2 :=
  ⟨⟨rfl, rfl, rfl, rfl, rfl⟩, fun _ _ => rfl⟩

@[simp] theorem State.ptp_wr (s : State) (r : Reg) (i j : Nat) (w : Word) (p : Nat) : (s.wr r i j w).ptp p = s.ptp p := rfl

section
variable {s : State} {p : Nat} {m : PtpMsg}

/-! ## Announce and Sync (R469) -/

theorem exec_ptpAnnounce_on (hon : s.ptpOn p m 0xB = true) :
    exec (.ptpAnnounce p m) s = .next ((s.setPtp p { s.ptp p with heard := some m.gm }).elect) := by
  show execPtpAnnounce p m s = _
  rw [execPtpAnnounce, if_pos hon]

theorem exec_ptpSync_slave (hon : s.ptpOn p m 0 = true) (hslave : s.isSlave p = true) :
    ∃ t : State, exec (.ptpSync p m) s = .next t ∧ (t.ptp p).seqId = m.seqId ∧ (t.ptp p).t2 = some m.taken ∧
      (t.ptp p).delay = (s.ptp p).delay ∧ t.regs = s.regs ∧ s.SameBytes t := by
  refine ⟨s.setPtp p { s.ptp p with seqId := m.seqId, t1 := none, t2 := some m.taken, t3 := none }, ?_, ?_, ?_, ?_, rfl,
    (State.setPtp_writes (fun _ => False) s p _).sameBytes⟩
  · show execPtpSync p m s = _
    rw [execPtpSync, if_pos (by rw [hon, hslave]; rfl)]
  all_goals rw [State.ptp_setPtp_same]

/-! ## The offset (R469 to R471) -/

/-- The request for its delay that a slave port sends after a Follow_Up (R469). -/
def delayAsked (m : PtpMsg) (s : State) : PtpMsg :=
  { type := 1, domain := m.domain, seqId := m.seqId, sender := Config.clockIdentity s.fus.serial, stamp := 0, taken := 0, gm := [] }

/-- The offset noted: the Sync's departure, the request's departure, and TB_OFS. -/
def State.offsetNoted (s : State) (p : Nat) (m : PtpMsg) (o : Int) : State :=
  (s.fresh.2.setPtp p { s.ptp p with t1 := some m.stamp, t3 := some (s.fresh.1 : Int) }).wr Reg.TB_OFS 0 0 (word (unsigned 32 o))

theorem State.offsetNoted_spec (s : State) (p : Nat) (m : PtpMsg) (o : Int) :
    ((s.offsetNoted p m o).ptp p).t1 = some m.stamp ∧ (s.offsetNoted p m o).rd Reg.TB_OFS 0 0 = word (unsigned 32 o) ∧
    State.WritesIn (· = Reg.TB_OFS.addr 0 0) s (s.offsetNoted p m o) := by
  refine ⟨?_, State.rd_wr_same .., ((s.fresh_writes _).trans (State.setPtp_writes _ _ p _)).trans
    (.of_records (State.RecordsIn.wr (P := (· = Reg.TB_OFS.addr 0 0)) _ _ rfl))⟩
  rw [State.offsetNoted, State.ptp_wr, State.ptp_setPtp_same]

/-- The clock is free, or every step is allowed, and the offset is over the limit of a step. -/
def State.stepDue (s : State) (o : Int) : Prop :=
  (s.fld Reg.TB_STAT_STATE 0 = tbFree ∨ s.flag Reg.TB_SERVO_STEP_ANY 0 = true) ∧ s.fld Reg.TB_SERVO_STEP_TH 0 < o.natAbs

theorem State.stepDue_offsetNoted (s : State) (p : Nat) (m : PtpMsg) (o o' : Int) :
    (s.offsetNoted p m o).stepDue o' ↔ s.stepDue o' := by
  obtain ⟨-, -, hwrites⟩ := s.offsetNoted_spec p m o
  rw [State.stepDue, State.stepDue, State.flag, State.flag, hwrites.fld_eq (by decide), hwrites.fld_eq (by decide),
    hwrites.fld_eq (by decide)]

section
variable {t2 : Int} (hon : s.ptpOn p m 8 = true) (hslave : s.isSlave p = true) (hseq : m.seqId = (s.ptp p).seqId)
  (ht2 : (s.ptp p).t2 = some t2)
include hon hslave hseq ht2

theorem exec_ptpFollowUp_steps {o : Int} (ho : o = t2 - m.stamp - (s.ptp p).delay) (hstep : s.stepDue o) :
    exec (.ptpFollowUp p m) s = .next (((((s.offsetNoted p m o).tbJudge o).timeStep (-o))).ptpSend p
      (delayAsked m (((s.offsetNoted p m o).tbJudge o).timeStep (-o)))) := by
  show execPtpFollowUp p m s = _
  rw [execPtpFollowUp, State.offsetNoted]
  dsimp only
  rw [if_pos (by rw [hon, hslave, hseq]; simp), ht2]
  dsimp only
  have hdue : (s.offsetNoted p m o).stepDue o := (s.stepDue_offsetNoted p m o o).2 hstep
  rw [State.stepDue, State.offsetNoted] at hdue
  dsimp only at hdue
  rw [ht2] at hdue
  rw [← ho, if_pos hdue, delayAsked]

theorem exec_ptpFollowUp_turns {o : Int} (ho : o = t2 - m.stamp - (s.ptp p).delay) (hstep : ¬ s.stepDue o) :
    exec (.ptpFollowUp p m) s = .next (((((s.offsetNoted p m o).tbJudge o).servoAct o)).ptpSend p
      (delayAsked m (((s.offsetNoted p m o).tbJudge o).servoAct o))) := by
  show execPtpFollowUp p m s = _
  rw [execPtpFollowUp, State.offsetNoted]
  dsimp only
  rw [if_pos (by rw [hon, hslave, hseq]; simp), ht2]
  dsimp only
  have hdue : ¬ (s.offsetNoted p m o).stepDue o := hstep ∘ (s.stepDue_offsetNoted p m o o).1
  rw [State.stepDue, State.offsetNoted] at hdue
  dsimp only at hdue
  rw [ht2] at hdue
  rw [← ho, if_neg hdue, delayAsked]

end

/-! ## The delay (R469) -/

theorem exec_ptpDelayReq_master (hon : s.ptpOn p m 1 = true) (hmaster : s.fld Reg.PFBP_PSTAT_PTP p = 6) :
    ∃ r : PtpMsg, exec (.ptpDelayReq p m) s = .next (s.ptpSend p r) ∧ r.type = 9 ∧ r.seqId = m.seqId ∧ r.stamp = m.taken := by
  refine ⟨{ type := 9, domain := m.domain, seqId := m.seqId, sender := Config.clockIdentity s.fus.serial, stamp := m.taken,
            taken := 0, gm := [] }, ?_, rfl, rfl, rfl⟩
  show execPtpDelayReq p m s = _
  rw [execPtpDelayReq, if_pos (by rw [hon, hmaster]; rfl)]

theorem exec_ptpDelayResp_ours {t1 t2 t3 : Int} (hon : s.ptpOn p m 9 = true) (hslave : s.isSlave p = true)
    (hseq : m.seqId = (s.ptp p).seqId) (ht1 : (s.ptp p).t1 = some t1) (ht2 : (s.ptp p).t2 = some t2)
    (ht3 : (s.ptp p).t3 = some t3) :
    ∃ t : State, exec (.ptpDelayResp p m) s = .next t ∧
      (t.ptp p).delay = qz 62 ((((t2 - t1) + (m.stamp - t3) : Int) : Rat) / 2) ∧ (t.ptp p).t3 = none ∧ t.regs = s.regs ∧
      s.SameBytes t := by
  refine ⟨s.setPtp p { s.ptp p with delay := qz 62 ((((t2 - t1) + (m.stamp - t3) : Int) : Rat) / 2), t3 := none }, ?_, ?_, ?_, rfl,
    (State.setPtp_writes (fun _ => False) s p _).sameBytes⟩
  · show execPtpDelayResp p m s = _
    rw [execPtpDelayResp]
    dsimp only
    rw [if_pos (by rw [hon, hslave, hseq]; simp), ht1, ht2, ht3]
  all_goals rw [State.ptp_setPtp_same]

end

/-! ## Intervals (R469, R470) -/

section
variable {s : State} {p : Nat} (hawake : s.glb.dormant = false)
include hawake

theorem exec_syncTimeout_slave (hslave : s.isSlave p = true) : exec (.syncTimeout p) s = .next
    (if s.pfb.wasValid then { s with pfb := { s.pfb with okRun := 0 } }.tbState tbInvalid else s) := by
  show execSyncTimeout p s = _
  rw [execSyncTimeout]
  by_cases hvalid : s.pfb.wasValid = true
  · rw [if_pos hvalid, if_neg (by simp [hawake, hslave, hvalid])]
  · rw [if_neg hvalid, if_pos (.inr (.inr hvalid))]

theorem exec_syncInterval_master (hon : s.peerPortOn p = true) (hslave : s.fld Reg.PFBP_PSTAT_PTP p ≠ 9)
    (hpassive : s.fld Reg.PFBP_PSTAT_PTP p ≠ 7) :
    ∃ (t : State) (a b c : PtpMsg), exec (.syncInterval p) s = .next t ∧
      t.pfb.ptpOut = (p, a) :: (p, b) :: (p, c) :: s.pfb.ptpOut ∧ a.type = 0xB ∧ b.type = 8 ∧ c.type = 0 ∧
      a.seqId = ((s.ptp p).seqId + 1) % 65536 ∧ b.seqId = a.seqId ∧ c.seqId = a.seqId ∧
      (s.fld Reg.TB_STAT_SLAVE 0 = 0 → a.gm = s.ownSet) ∧ t.regs = s.regs ∧ s.SameBytes t := by
  have hexec : exec (.syncInterval p) s = execSyncInterval p s := rfl
  rw [hexec, execSyncInterval]
  dsimp only
  rw [if_neg (by simp [hawake, hon, hslave, hpassive])]
  refine ⟨_, _, _, _, rfl, rfl, rfl, rfl, rfl, rfl, rfl, rfl, fun hslave => ?_, rfl, rfl, rfl, rfl, rfl, rfl⟩
  dsimp only
  have hgm : (if s.fresh.2.fld Reg.TB_STAT_SLAVE 0 = 0 then none else (s.fresh.2.ptp (s.fresh.2.fld Reg.TB_STAT_SLAVE 0 - 1)).heard) =
      none := if_pos hslave
  rw [hgm]
  rfl

end

/-- Settles O51: the offset that a Follow_Up gives is noted before it is judged, and the two ways that the clock follows it
exclude each other. -/
theorem timeBase : Obligations.TimeBase := by
  unfold Obligations.TimeBase
  refine ⟨fun s p m => exec_ptpAnnounce_on, fun s p m => exec_ptpSync_slave, fun s p m t2 hon hslave hseq ht2 => ?_,
    fun s p m => exec_ptpDelayReq_master, fun s p m t1 t2 t3 => exec_ptpDelayResp_ours,
    fun s p hawake hslave => ⟨fun hvalid => ?_, fun hvalid => ?_⟩, fun s p => exec_syncInterval_master⟩
  · obtain ⟨o, ho⟩ : ∃ o, o = t2 - m.stamp - (s.ptp p).delay := ⟨_, rfl⟩
    obtain ⟨ht1, hofs, hwrites⟩ := s.offsetNoted_spec p m o
    show ∃ y : State, _
    rw [← ho]
    refine ⟨s.offsetNoted p m o, ht1, hofs, hwrites.sameRegs, hwrites.sameBytes, ?_⟩
    by_cases hstep : s.stepDue o
    · exact ⟨delayAsked m (((s.offsetNoted p m o).tbJudge o).timeStep (-o)), rfl, rfl,
        fun _ => exec_ptpFollowUp_steps hon hslave hseq ht2 ho hstep, fun hsmall => absurd hstep.2 (by omega)⟩
    · exact ⟨delayAsked m (((s.offsetNoted p m o).tbJudge o).servoAct o), rfl, rfl, fun hdue => absurd hdue hstep,
        fun _ => exec_ptpFollowUp_turns hon hslave hseq ht2 ho hstep⟩
  · rw [exec_syncTimeout_slave hawake hslave, if_pos hvalid]
  · rw [exec_syncTimeout_slave hawake hslave, if_neg (ne_true_of_eq_false hvalid)]

end Sys2Proof.Machine
end

section
/-!
PROOFS. Fault groups: clears, fences and injection (R477 to R486).
-/

namespace Sys2Proof.Machine

/-! ## Cause bits (R476, R481) -/

theorem hasSrc_lt {s : State} {src : Nat} (h : s.hasSrc src = true) : src < 129 := by
  by_contra hle
  rw [State.hasSrc, if_neg (by omega), if_neg (by omega), if_neg (by omega), if_neg (by omega), if_neg (by omega),
    if_neg (by omega), if_neg (by omega), if_neg (by omega)] at h
  simp at h
  omega

/-- A register of a fault group lies above the summary of the groups. -/
theorem flt_addr_ne_fsum {src : Nat} (hsrc : src < 129) {r : Reg} (hr : 0xF00 ≤ r.off) :
    (r.flt src).addr 0 0 ≠ Reg.GLB_FSUM.addr 0 (src / 32) := by
  simp only [Reg.addr, Reg.flt, Reg.GLB_FSUM]
  omega

theorem State.causes_lt (s : State) (src : Nat) : s.causes src < 2 ^ 24 := s.fld_lt (Reg.FLT_STAT_CAUSE.flt src) 0

/-- The cause bits of a group after they are set. -/
theorem State.causes_setCauses (s : State) {src mask : Nat} (hsrc : src < 129) (hmask : mask < 2 ^ 24) :
    (s.setCauses src mask).causes src = mask := by
  have hfld (u : State) (w w' : Word) : ((u.wr (Reg.FLT_STAT.flt src) 0 0 w).wr Reg.GLB_FSUM 0 (src / 32) w').causes src =
      w.toNat % 2 ^ 24 := by
    refine (congrArg Reg.FLT_STAT_CAUSE.get ((State.rd_wr_ne _ Reg.GLB_FSUM (Reg.FLT_STAT.flt src) _ _ _ _ _
      (flt_addr_ne_fsum hsrc (by decide))).trans (State.rd_wr_same ..))).trans ?_
    exact congrArg (· % 2 ^ 24) (Nat.div_one w.toNat)
  have htop (c : Nat) := bit01_le (mask &&& classMask src c != 0)
  rw [State.setCauses]
  dsimp only
  rw [hfld, word, BitVec.toNat_ofNat]
  have h3 := htop 3
  have h2 := htop 2
  have h1 := htop 1
  omega

theorem State.fltSettle_eq (s : State) (src : Nat) : ∃ h : HifS, s.fltSettle src = { s with hif := h } := by
  unfold State.fltSettle
  split
  · exact ⟨_, rfl⟩
  · exact ⟨_, rfl⟩

theorem State.withHif_sameBytes (s : State) (h : HifS) : s.SameBytes { s with hif := h } := ⟨rfl, rfl, rfl, rfl, rfl⟩

theorem State.fld_withHif (s : State) (h : HifS) (f : Fld) (i : Nat) : ({ s with hif := h } : State).fld f i = s.fld f i := rfl

theorem State.RecordsIn.seq_eq {P : Nat → Prop} {s t : State} (h : State.RecordsIn P s t) : t.seq = s.seq := by
  obtain ⟨⟨q, x, r, rfl⟩, -⟩ := h
  rfl

theorem exec_faultClear_eq {s : State} {src : Nat} (v : Word) (hsrc : s.hasSrc src = true) :
    ∃ t : State, exec (.faultClear src v) s = .next t ∧
      t.causes src = s.causes src - (s.causes src &&& (v.toNat &&& (classMask src 1 ||| classMask src 2))) ∧ s.SameBytes t ∧
      t.stm = s.stm ∧ t.seq = s.seq := by
  obtain ⟨mask, hmask⟩ : ∃ mask, mask = s.causes src - (s.causes src &&& (v.toNat &&& (classMask src 1 ||| classMask src 2))) :=
    ⟨_, rfl⟩
  have hlt : mask < 2 ^ 24 := by
    rw [hmask]
    exact Nat.lt_of_le_of_lt (Nat.sub_le _ _) (s.causes_lt src)
  obtain ⟨q, hq⟩ : ∃ q, s.fltClear src v = (({ s with glb := { s.glb with quiet := q } } : State).setCauses src mask).fltSettle src :=
    ⟨_, by rw [State.fltClear, hmask]⟩
  obtain ⟨x, hx⟩ : ∃ x : State, x = { s with glb := { s.glb with quiet := q } } := ⟨_, rfl⟩
  have hxs : s.SameBytes x ∧ x.stm = s.stm ∧ x.seq = s.seq := by
    rw [hx]
    exact ⟨⟨rfl, rfl, rfl, rfl, rfl⟩, rfl, rfl⟩
  obtain ⟨hbytes, hstm, hseq⟩ := hxs
  obtain ⟨h, hsettle⟩ := State.fltSettle_eq (x.setCauses src mask) src
  rw [← hx, hsettle] at hq
  clear hsettle
  have hcauses := x.causes_setCauses (hasSrc_lt hsrc) hlt
  have hset : State.RecordsIn anyReg x (x.setCauses src mask) := .setCauses x mask trivial trivial
  generalize x.setCauses src mask = u at hq hcauses hset
  refine ⟨{ u with hif := h }, ?_, Eq.trans ?_ (hcauses.trans hmask), hbytes.trans (hset.sameBytes.trans (u.withHif_sameBytes h)),
    hset.stm_eq.trans hstm, hset.seq_eq.trans hseq⟩
  · show execFaultClear src v s = _
    rw [execFaultClear, if_pos hsrc, hq]
  · rw [State.causes, State.causes, State.fld_withHif]

theorem exec_faultClear_absent {s : State} {src : Nat} (v : Word) (hsrc : s.hasSrc src = false) :
    exec (.faultClear src v) s = .next s := by
  show execFaultClear src v s = _
  rw [execFaultClear, if_neg (ne_true_of_eq_false hsrc)]

/-! ## Fences (R485) -/

theorem Fld.Beside.flt {f g : Fld} (h : f.Beside g) (src : Nat) : (f.flt src).Beside (g.flt src) :=
  ⟨congrArg (Reg.flt · src) h.1, h.2⟩

section
variable {s : State} {src : Nat} {v : Word} (hawake : s.glb.dormant = false)
include hawake

theorem exec_fenceWrite_eq : exec (.fenceWrite src v) s = .next (s.fenceWrite src v).heldGo := by
  show execFenceWrite src v s = _
  rw [execFenceWrite, if_neg (ne_true_of_eq_false hawake)]

theorem exec_fenceWrite_unfenceable (hsrc : fenceable src = false) : exec (.fenceWrite src v) s = .next s.heldGo := by
  rw [exec_fenceWrite_eq hawake, State.fenceWrite, if_pos (by simp [hsrc])]

variable (hsrc : s.hasSrc src = true) (hfenceable : fenceable src = true)
include hsrc hfenceable

theorem exec_fenceWrite_set (hset : Reg.FLT_FENCE_FENCE.get v = 1) :
    exec (.fenceWrite src v) s = .next ((s.hostFence src).heldGo) := by
  rw [exec_fenceWrite_eq hawake, State.fenceWrite, if_neg (by simp [hsrc, hfenceable]), if_pos hset]

section
variable (hclear : Reg.FLT_FENCE_FENCE.get v = 0)
include hclear

theorem exec_fenceWrite_held (hheld : s.fenceHeld src = true) : exec (.fenceWrite src v) s = .next s.heldGo := by
  rw [exec_fenceWrite_eq hawake, State.fenceWrite, if_neg (by simp [hsrc, hfenceable]), if_neg (by omega), if_pos (.inr hheld)]

/-- A fence that host software clears: the unit waits for the boundary. -/
theorem exec_fenceWrite_cleared (hfenced : s.fenced src = true) (hleave : s.fenceHeld src = false) :
    ∃ y : State, exec (.fenceWrite src v) s = .next (((y.fenceLeft src).gateSettle).heldGo) ∧ y.fenced src = false ∧
      y.flag (Reg.FLT_FENCE_BYFAULT.flt src) 0 = false ∧ y.glb.rejoin.contains src = true ∧ s.SameBytes y := by
  obtain ⟨hfence, hfault, hwrites⟩ := s.setFld_setFld_spec (f := Reg.FLT_FENCE_FENCE.flt src) (g := Reg.FLT_FENCE_BYFAULT.flt src)
    (Fld.Beside.flt (f := Reg.FLT_FENCE_FENCE) (g := Reg.FLT_FENCE_BYFAULT) (by decide) src) 0 (v := 0) (w := 0) (Nat.two_pow_pos _) (Nat.two_pow_pos _)
  obtain ⟨u, hu⟩ : ∃ u, u = (s.setFld (Reg.FLT_FENCE_FENCE.flt src) 0 0).setFld (Reg.FLT_FENCE_BYFAULT.flt src) 0 0 := ⟨_, rfl⟩
  have hexec : exec (.fenceWrite src v) s = .next
      (((({ u with glb := { u.glb with rejoin := u.glb.rejoin.filter (· != src) ++ [src] } } : State).fenceLeft src).gateSettle).heldGo) := by
    rw [exec_fenceWrite_eq hawake, State.fenceWrite, if_neg (by simp [hsrc, hfenceable]), if_neg (by omega),
      if_neg (by simp [hfenced, hleave])]
    dsimp only
    rw [← hu]
  rw [← hu] at hfence hfault hwrites
  clear hu
  exact ⟨_, hexec, congrArg (· == 1) hfence, congrArg (· == 1) hfault, by simp, hwrites.sameBytes.trans ⟨rfl, rfl, rfl, rfl, rfl⟩⟩

end

end

/-! ## Injection (R482, R483) -/

/-- The word of FLT_INJ noted, with its result. -/
def State.injectNoted (s : State) (src mode bit result : Nat) : State :=
  ((s.setFld (Reg.FLT_INJ_MODE.flt src) 0 mode).setFld (Reg.FLT_INJ_CAUSE.flt src) 0 bit).setFld (Reg.FLT_INJ_RESULT.flt src) 0 result

/-- A field of a group's FLT_INJ set: nothing but that register changes. -/
theorem State.RecordsIn.setInj (s : State) (src : Nat) {f : Fld} (hf : f.reg = Reg.FLT_INJ) (x : Nat) :
    State.RecordsIn (· = (Reg.FLT_INJ.flt src).addr 0 0) s (s.setFld (f.flt src) 0 x) :=
  State.RecordsIn.setFld (P := (· = (Reg.FLT_INJ.flt src).addr 0 0)) s x (by rw [Fld.flt, hf])

theorem State.RecordsIn.causes_inj {s t : State} {src : Nat}
    (h : State.RecordsIn (· = (Reg.FLT_INJ.flt src).addr 0 0) s t) : t.causes src = s.causes src := by
  refine congrArg Reg.FLT_STAT_CAUSE.get (h.rdA_eq fun ha => ?_)
  simp only [Reg.addr, Reg.flt, Reg.FLT_STAT, Reg.FLT_INJ, Reg.FLT_STAT_CAUSE, Fld.flt] at ha
  omega

/-- The life cycle decides, with the word itself, whether an injection is refused. -/
theorem State.RecordsIn.injectRefused_inj {s t : State} {src : Nat}
    (h : State.RecordsIn (· = (Reg.FLT_INJ.flt src).addr 0 0) s t) (ag : Agent) (mode bit : Nat) :
    t.injectRefused ag src mode bit = s.injectRefused ag src mode bit := by
  have hstate : t.fld Reg.FUS_LC_STATE 0 = s.fld Reg.FUS_LC_STATE 0 := by
    refine congrArg Reg.FUS_LC_STATE.get (h.rdA_eq fun ha => ?_)
    have hpage := faultBase_page src
    simp only [Reg.addr, Reg.flt, Reg.FLT_INJ, Reg.FUS_LC, Reg.FUS_LC_STATE] at ha
    omega
  unfold State.injectRefused
  rw [hstate]

section
variable {s : State} {ag : Agent} {src : Nat} {v : Word} (hgo : Reg.FLT_INJ_GO.get v = 1) (hsrc : s.hasSrc src = true)
include hgo hsrc

/-- A refused word is noted, or, from a sequencer, not even noted. -/
theorem State.injectWrite_refused (href : s.injectRefused ag src (Reg.FLT_INJ_MODE.get v) (Reg.FLT_INJ_CAUSE.get v) = true) :
    ∃ u : State, State.RecordsIn (· = (Reg.FLT_INJ.flt src).addr 0 0) s u ∧ u.glb = s.glb ∧
      s.injectWrite ag src v = u.setFld (Reg.FLT_INJ_RESULT.flt src) 0 2 := by
  have hnoted := (State.RecordsIn.setInj s src (f := Reg.FLT_INJ_MODE) rfl (Reg.FLT_INJ_MODE.get v)).trans
    (State.RecordsIn.setInj _ src (f := Reg.FLT_INJ_CAUSE) rfl (Reg.FLT_INJ_CAUSE.get v))
  have hkept := (hnoted.injectRefused_inj ag (Reg.FLT_INJ_MODE.get v) (Reg.FLT_INJ_CAUSE.get v)).trans href
  unfold State.injectWrite
  dsimp only
  rw [if_neg (not_not_intro hsrc)]
  cases ag with
  | seq q => exact ⟨s, .refl _ s, rfl, if_pos ⟨rfl, href⟩⟩
  | _ =>
    refine ⟨_, hnoted, rfl, ?_⟩
    rw [if_neg fun h => Bool.false_ne_true h.1, if_neg (by omega), if_pos hkept]

theorem State.injectWrite_taken (hok : s.injectRefused ag src (Reg.FLT_INJ_MODE.get v) (Reg.FLT_INJ_CAUSE.get v) = false) :
    s.injectWrite ag src v =
      (let u := s.injectNoted src (Reg.FLT_INJ_MODE.get v) (Reg.FLT_INJ_CAUSE.get v) 1
       if Reg.FLT_INJ_MODE.get v = 0 then u.cause src (Reg.FLT_INJ_CAUSE.get v) true true
       else if Reg.FLT_INJ_MODE.get v = 2 then u.corrected src (Reg.FLT_INJ_CAUSE.get v)
       else
         let y := (u.injectUnit src).1.raise src (Reg.FLT_INJ_CAUSE.get v) (u.injectUnit src).2 true
         if src = srcCLK ∧ Reg.FLT_INJ_CAUSE.get v = 2 then y.refReset else y) := by
  have hnoted := (State.RecordsIn.setInj s src (f := Reg.FLT_INJ_MODE) rfl (Reg.FLT_INJ_MODE.get v)).trans
    (State.RecordsIn.setInj _ src (f := Reg.FLT_INJ_CAUSE) rfl (Reg.FLT_INJ_CAUSE.get v))
  have hkept := (hnoted.injectRefused_inj ag (Reg.FLT_INJ_MODE.get v) (Reg.FLT_INJ_CAUSE.get v)).trans hok
  unfold State.injectWrite
  dsimp only
  rw [if_neg (not_not_intro hsrc), if_neg (fun h => ne_true_of_eq_false hok h.2), if_neg (by omega),
    if_neg (ne_true_of_eq_false hkept)]
  rfl

end

section
variable {s : State} {ag : Agent} {src mode : Nat} {v : Word} {i : Instr} (hgo : Reg.FLT_INJ_GO.get v = 1)
  (hi : (i, mode) ∈ [(Instr.injectRecord ag src v, 0), (.injectReact ag src v, 1), (.injectRaise ag src v, 2)])
  (hmode : Reg.FLT_INJ_MODE.get v = mode)
include hgo hi hmode

/-- Each of the three commands is the write of FLT_INJ in its mode. -/
theorem exec_inject_eq : exec i s = .next (s.injectWrite ag src v) := by
  simp only [List.mem_cons, Prod.mk.injEq, List.not_mem_nil, or_false] at hi
  rcases hi with ⟨rfl, rfl⟩ | ⟨rfl, rfl⟩ | ⟨rfl, rfl⟩
  all_goals exact congrArg Host.Outcome.next (if_pos ⟨hgo, hmode⟩)

variable (hsrc : s.hasSrc src = true)
include hsrc

theorem exec_inject_refused (href : s.injectRefused ag src mode (Reg.FLT_INJ_CAUSE.get v) = true) :
    ∃ t : State, exec i s = .next t ∧ t.fld (Reg.FLT_INJ_RESULT.flt src) 0 = 2 ∧ t.causes src = s.causes src ∧ s.SameBytes t ∧
      t.stm = s.stm ∧ t.glb = s.glb := by
  have hresult (u : State) : (u.setFld (Reg.FLT_INJ_RESULT.flt src) 0 2).fld (Reg.FLT_INJ_RESULT.flt src) 0 = 2 :=
    State.fld_setFld_same u (Reg.FLT_INJ_RESULT.flt src) 0 2 (show Reg.FLT_INJ_RESULT.lo ≤ Reg.FLT_INJ_RESULT.hi by decide)
      (show Reg.FLT_INJ_RESULT.hi < 32 by decide)
  obtain ⟨u, hu, hglb, hwrite⟩ := State.injectWrite_refused hgo hsrc (by rw [hmode]; exact href)
  have hall := hu.trans (State.RecordsIn.setInj u src (f := Reg.FLT_INJ_RESULT) rfl 2)
  refine ⟨u.setFld (Reg.FLT_INJ_RESULT.flt src) 0 2, ?_, hresult u, hall.causes_inj, hall.sameBytes, hall.stm_eq,
    (State.setFld_glb u _ 0 2).trans hglb⟩
  rw [exec_inject_eq hgo hi hmode, hwrite]

theorem exec_inject_taken (hok : s.injectRefused ag src mode (Reg.FLT_INJ_CAUSE.get v) = false) : exec i s = .next
    (let u := s.injectNoted src mode (Reg.FLT_INJ_CAUSE.get v) 1
     if mode = 0 then u.cause src (Reg.FLT_INJ_CAUSE.get v) true true
     else if mode = 2 then u.corrected src (Reg.FLT_INJ_CAUSE.get v)
     else
       let y := (u.injectUnit src).1.raise src (Reg.FLT_INJ_CAUSE.get v) (u.injectUnit src).2 true
       if src = srcCLK ∧ Reg.FLT_INJ_CAUSE.get v = 2 then y.refReset else y) := by
  rw [exec_inject_eq hgo hi hmode, State.injectWrite_taken hgo hsrc (by rw [hmode]; exact hok), hmode]

end

/-- Settles O38: a clear leaves the bits of the other classes, a cleared fence waits for the boundary, and an injection is
refused or taken by its word and the life cycle. -/
theorem faultGroups : Obligations.FaultGroups := by
  unfold Obligations.FaultGroups
  refine ⟨fun s src v => exec_faultClear_eq v, fun s src v => exec_faultClear_absent v,
    fun s src v hawake hsrc hfenceable => ⟨exec_fenceWrite_set hawake hsrc hfenceable,
      fun hclear _ hcause => exec_fenceWrite_held hawake hsrc hfenceable hclear ?_,
      fun hclear _ hq hstate => exec_fenceWrite_held hawake hsrc hfenceable hclear ?_,
      fun hclear hfenced hcause hstate => exec_fenceWrite_cleared hawake hsrc hfenceable hclear hfenced ?_⟩,
    fun s src v hawake => exec_fenceWrite_unfenceable hawake,
    fun s ag src mode v i hgo hi hmode hsrc => ⟨exec_inject_refused hgo hi hmode hsrc, fun hok hrecord => ?_, fun hok hraise => ?_,
      fun hok hreact hother => ?_⟩⟩
  · simp [State.fenceHeld, hcause]
  · simp [State.fenceHeld, hq, hstate]
  · simp only [State.fenceHeld, hcause, bne_self_eq_false, Bool.false_or, Bool.and_eq_false_iff, decide_eq_false_iff_not,
      beq_eq_false_iff_ne]
    exact hstate.imp (by omega) id
  · rw [exec_inject_taken hgo hi hmode hsrc hok]
    exact congrArg Host.Outcome.next (if_pos hrecord)
  · rw [exec_inject_taken hgo hi hmode hsrc hok]
    exact congrArg Host.Outcome.next ((if_neg (by omega)).trans (if_pos hraise))
  · rw [exec_inject_taken hgo hi hmode hsrc hok]
    exact congrArg Host.Outcome.next ((if_neg (by omega)).trans ((if_neg (by omega)).trans (if_neg (by tauto))))

end Sys2Proof.Machine
end

section
/-!
PROOFS. States that meet the hypotheses of the statements about clocks, sequencers, the service chain, peers, the time base and
fault groups,
at the values where their clauses part.
-/

namespace Sys2Proof.Machine

/-! ## Clocks (R417, R429) -/

/-- The selection of a source that is not good is refused, and the crystal stays active. -/
theorem refSelect_peerPort : ∃ t : State, exec (.refSelect 0x00000010) Tests.w0 = .next t ∧
    t.fld Reg.CLK_REF_STAT_SEL_REFUSED 0 = 1 ∧ t.fld Reg.CLK_REF_STAT_ACTIVE 0 = 0 := by
  obtain ⟨-, hrefused⟩ := referenceClocks.1 Tests.w0 0x00000010 (by decide)
  obtain ⟨t, hexec, hflag, hactive, -⟩ := hrefused (.inr (by decide))
  exact ⟨t, hexec, hflag, hactive.trans (by decide)⟩

/-- An Empty sequencer's clock stops at once. -/
theorem clockGate_emptySequencer : ∃ t : State, exec (.clockGate 0x80060003) Tests.w0 = .next t ∧
    t.fld Reg.CLK_GATE_RESULT 0 = 1 ∧ t.clk.gated.contains (6, 3) = true := by
  obtain ⟨hgate, -⟩ := clockGating.1 Tests.w0 0x80060003 (by decide) (by decide) (by decide) (by decide)
  obtain ⟨-, -, hidle, -⟩ := hgate (by decide)
  obtain ⟨t, hexec, hresult, -, hgated, -⟩ := hidle (by decide) (by decide) (by decide) (by decide)
  exact ⟨t, hexec, hresult, hgated⟩

/-- An actuator's, which is not fenced, does not. -/
theorem clockGate_unfencedActuator : ∃ t : State, exec (.clockGate 0x80010003) Tests.w0 = .next t ∧
    t.fld Reg.CLK_GATE_RESULT 0 = 4 ∧ t.clk = Tests.w0.clk := by
  obtain ⟨hgate, -⟩ := clockGating.1 Tests.w0 0x80010003 (by decide) (by decide) (by decide) (by decide)
  obtain ⟨-, hunfenced, -⟩ := hgate (by decide)
  obtain ⟨t, hexec, hresult, -, hclk, -⟩ := hunfenced (by decide) (by decide) (by decide)
  exact ⟨t, hexec, hresult, hclk⟩

/-! ## The service chain (R452, R454) -/

/-- A unit at segment 1, position 2. -/
def onTheChain : State := (Tests.w0.setFld Reg.PRC_STAT_ADDR 0 0x0102).setFld Reg.PRC_STAT_ADDR_VALID 0 1

/-- A request for its status. -/
def statusFrame (dst : Nat) : ChainFrame :=
  { dst := dst, src := 0, type := 2, flags := 0, tag := 7, payload := [], crcOk := true }

/-- The unit answers a frame of its own, and repeats its neighbour's. -/
theorem chainStatus_addresses :
    (∃ t : State, exec (.chainStatus (statusFrame 0x0102)) onTheChain = .next t ∧ t.chain.out.length = 2) ∧
    exec (.chainStatus (statusFrame 0x0103)) onTheChain = .next (onTheChain.chainOut (statusFrame 0x0103)) := by
  obtain ⟨hother, -, hmine, -⟩ := serviceChain
  obtain ⟨hstatus, -⟩ := hmine onTheChain (statusFrame 0x0102) (by decide) (by decide) (by decide)
  obtain ⟨t, hexec, hout, -⟩ := hstatus (by decide)
  obtain ⟨-, -, helsewhere⟩ := hother onTheChain (statusFrame 0x0103) 2 _ List.mem_cons_self (by decide)
  exact ⟨⟨t, hexec, congrArg List.length hout⟩, helsewhere (by decide) (by decide) (by decide) (by decide)⟩

/-- The last position of a segment: the next unit is told of the overflow. -/
theorem chainEnum_lastPosition : ∃ t : State,
    exec (.chainEnum { statusFrame 0 with type := 1, payload := [1, 255, 0] }) Tests.w0 = .next t ∧
      t.fld Reg.PRC_STAT_ADDR 0 = 0x01FF ∧ (t.chain.out.head?.map (·.payload)) = some [1, 0, 1] := by
  obtain ⟨-, henum, -⟩ := serviceChain
  obtain ⟨-, -, haddress⟩ := henum Tests.w0 { statusFrame 0 with type := 1, payload := [1, 255, 0] } 1 255 0 rfl rfl
  obtain ⟨t, hexec, -, haddr, hout, -⟩ := haddress rfl (by decide)
  exact ⟨t, hexec, haddr, by rw [hout]; rfl⟩

/-! ## Peers (R459, R466) -/

/-- An ACTIVE entry whose peer read of PSEQ 9 has gone out some times. -/
def readSent (sends : Nat) : State :=
  (Tests.w0.setFld Reg.PEER_CTL_STATE 5 peerActive).setPe 5
    { reqs := [{ pseq := 9, type := 0x20, flags := 0, payload := [], tag := 1, sends := sends }] }

/-- After the eighth time the peer is lost, and after the seventh the request goes out once more. -/
theorem peerRetransmitTimeout_sends :
    exec (.peerRetransmitTimeout 5 9) (readSent 8) = .next ((readSent 8).raise (srcPFB 0) 1 5 false) ∧
    exec (.peerRetransmitTimeout 5 9) (readSent 7) = .next ((((readSent 7).setPe 5 { (readSent 7).pe 5 with
      reqs := [{ pseq := 9, type := 0x20, flags := 0, payload := [], tag := 1, sends := 8 }] })).peerSeal 5 0x20 0 9 0 []) := by
  obtain ⟨hretry, -⟩ := peerEntries
  obtain ⟨hlost, -⟩ := hretry (readSent 8) 5 9 { pseq := 9, type := 0x20, flags := 0, payload := [], tag := 1, sends := 8 }
    (by decide) (by decide) (by decide) rfl
  obtain ⟨-, hagain⟩ := hretry (readSent 7) 5 9 { pseq := 9, type := 0x20, flags := 0, payload := [], tag := 1, sends := 7 }
    (by decide) (by decide) (by decide) rfl
  exact ⟨hlost (by decide), hagain (by decide)⟩

/-- A port that is enabled, with its PLL locked. -/
theorem peerPortUp_locked : ∃ t : State,
    exec (.peerPortUp 0) ((Tests.w0.setFld Reg.PFB_CFG_P0_EN 0 1).setFld Reg.CLK_PLL_STAT_LOCKED 0 8) = .next t ∧
      t.fld Reg.PFBP_PSTAT_UP 0 = 1 := by
  obtain ⟨t, hexec, hup, -⟩ := peerFrames.1 ((Tests.w0.setFld Reg.PFB_CFG_P0_EN 0 1).setFld Reg.CLK_PLL_STAT_LOCKED 0 8) 0 (by decide)
    (by decide) (by decide) (by decide) (by decide)
  exact ⟨t, hexec, hup⟩

/-! ## Fault groups (R481) -/

/-- FLT_CLR leaves a fatal cause of the clocks, and clears the contained one beside it. -/
theorem faultClear_fatal : ∃ t : State, exec (.faultClear srcCLK 3) (Tests.w0.setCauses srcCLK 3) = .next t ∧
    t.causes srcCLK = 2 := by
  obtain ⟨t, hexec, hcauses, -⟩ := faultGroups.1 (Tests.w0.setCauses srcCLK 3) srcCLK 3 (by decide)
  exact ⟨t, hexec, hcauses.trans (by decide)⟩

/-- A decoder has no fence of its own. -/
theorem fenceWrite_decoder : exec (.fenceWrite srcDEC 1) Tests.w0 = .next Tests.w0.heldGo := by
  obtain ⟨-, -, -, hunfenceable, -⟩ := faultGroups
  exact hunfenceable Tests.w0 srcDEC 1 (by decide) (by decide)

/-! ## The time base (R471) -/

/-- Port 0 is the slave port, with a Sync that arrived at 100 ns and a limit of 10 ns for a step. -/
def syncHeard : State :=
  ((((Tests.w0.setFld Reg.PFB_CFG_P0_EN 0 1).setFld Reg.PFBP_PSTAT_UP 0 1).setFld Reg.TB_STAT_SLAVE 0 1).setFld
    Reg.TB_SERVO_STEP_TH 0 10).setPtp 0 { seqId := 4, t2 := some 100 }

/-- The Follow_Up of that Sync, which departed at a time. -/
def followUpAt (stamp : Int) : PtpMsg := { type := 8, domain := 0, seqId := 4, sender := 0, stamp := stamp, taken := 0, gm := [] }

/-- An offset of 10 ns turns the servo, and one of 11 ns steps a clock that is free. -/
theorem ptpFollowUp_limit :
    (∃ (y : State) (r : PtpMsg), exec (.ptpFollowUp 0 (followUpAt 90)) syncHeard = .next (((y.tbJudge 10).servoAct 10).ptpSend 0 r)) ∧
    ∃ (y : State) (r : PtpMsg), exec (.ptpFollowUp 0 (followUpAt 89)) syncHeard =
      .next (((y.tbJudge 11).timeStep (-11)).ptpSend 0 r) := by
  obtain ⟨-, -, hfollow, -⟩ := timeBase
  obtain ⟨y, -, -, -, -, r, -, -, -, hturn⟩ := hfollow syncHeard 0 (followUpAt 90) 100 (by decide) (by decide) (by decide) rfl
  obtain ⟨y', -, -, -, -, r', -, -, hstep, -⟩ := hfollow syncHeard 0 (followUpAt 89) 100 (by decide) (by decide) (by decide) rfl
  exact ⟨⟨y, r, hturn (by decide)⟩, y', r', hstep (by decide)⟩

/-! ## The call stack (R392) -/

/-- Sequencer 3 about to call, with some addresses on its stack. -/
def callReady (depth : Nat) : State :=
  let s := Tests.runs Tests.w0 3 (Tests.mwd [(127, 120, 0x02)])
  s.setSq 3 { s.sq 3 with stack := List.replicate depth 0 }

/-- The eighth call finds room, and the ninth is a fault. -/
theorem call_depth : (∃ t : State, exec (.call 3) (callReady 7) = .next t ∧ (t.sq 3).stack.length = 8) ∧
    exec (.call 3) (callReady 8) = .next (((callReady 8).issue 3).seqFault 3 2) := by
  obtain ⟨-, hroom, -⟩ := flowWords (callReady 7) 3 (by decide)
  obtain ⟨-, -, hfull, -⟩ := flowWords (callReady 8) 3 (by decide)
  obtain ⟨t, hexec, -, -, hstack, -⟩ := hroom (by decide) (by decide)
  exact ⟨⟨t, hexec, congrArg List.length hstack⟩, hfull (by decide) (by decide)⟩

end Sys2Proof.Machine
end
